-- ==== Sys2Proof/Word.lean ====
section
/-! DEFINITION. The plain types every other file builds on: bytes, register words, and the sparse
table, a list of (key, value) pairs with strictly rising keys. -/

namespace Sys2Proof

/-- A byte (R9). -/
abbrev Byte := BitVec 8

/-- A 4 B register word (R286). -/
abbrev Word := BitVec 32

/-- A sparse table: (key, value) pairs, keys strictly rising, no entry equal to what an unlisted key
reads as. A memory is such a table of bytes, which is the host's list of cells. -/
abbrev Tab (α : Type) := List (Nat × α)

end Sys2Proof
end

