-- ==== Sys2Proof/Syntax.lean ====
section
/-! DEFINITION. The commands of the block: one constructor per row of the operation table, with what
the outside world brings with it (an address, a value, a measured quantity, a received frame). -/

namespace Sys2Proof

/-- An access that may be a silent violation (R75): one of the host, at an offset of a BAR, or one of
a powered block into an unpowered one (R16), at a fabric address. -/
inductive Access where
  | host (func bar : Fin 2) (offset : Word) (write : Bool)
  | internal (addr : Word) (write : Bool)
  deriving DecidableEq, Repr

/-- A request the host interface answers with Unsupported Request (R286): an access of a size and
alignment to BAR0 of a function, or a configuration request to a function. -/
inductive BadRequest where
  | access (func : Fin 2) (offset : Word) (size : Nat)
  | config (func : Nat)
  deriving DecidableEq, Repr

/-- What a boot finds outside the device's digital state: whether PD_PROT failed its test (R43), the
other PROOF_FAIL bits 13 to 19, per pair whether the flash could not be read (R45) and whether the
watchdog expired while it was checked (R49), the fitted DRAM (channels trained, channels with two ranks), and
per recorded repair candidate whether a spare row was found (R349). -/
structure BootFindings where
  protFault : Bool
  proofFail : BitVec 7
  readErrA : Bool
  readErrB : Bool
  dogA : Bool
  dogB : Bool
  trained : BitVec 2
  ranks : BitVec 2
  spare : List Bool
  deriving DecidableEq, Repr

/-- What a receiver has measured of a frame by its last sample (R133, R142, R145): the mean payload SNR in
0.5 dB; per stream the SNR of each profile carrier in 0.25 dB, offset by -10 dB; the delay spread in samples;
and for a grouped link the precoding matrices of its channel, quantised as in Table 05-7. -/
structure RxMeas where
  psnr : BitVec 8
  snr : List (List Byte)
  spread : Nat
  precode : List Byte
  deriving DecidableEq, Repr

/-- An allocation entry (R207, Table 09-1). -/
structure Alloc where
  owner : Nat
  slots : Nat
  start : Nat
  stop : Nat
  classes : Nat
  ports : Nat
  deriving DecidableEq, Repr

/-- The content of a beacon (Table 09-1). `sref` is a 128-bit timestamp, `period` in 1/16 ns. -/
structure Beacon where
  domain : Nat
  island : Bool
  joinOpen : Bool
  hold : Bool
  rejoin : Nat
  sender : Nat
  hop : Nat
  sfn : Nat
  bp : Nat
  bidx : Nat
  tgen : Nat
  cdown : Nat
  sref : Nat
  period : Nat
  timeq : Nat
  table : List Alloc
  deriving DecidableEq, Repr

/-- The samples of a port that clip in some ticks: of its ADC (R79) and of its DAC adder (R81). -/
structure Clip where
  port : Fin 16
  adc : Nat
  dac : Nat
  deriving DecidableEq, Repr

/-- The STANDBY-only registers of the MAC (chapter 09). -/
inductive MacReg where
  | sfcfg | bcncfg | bcncfg2 | domain | csma | join | presence
  deriving DecidableEq, Repr

/-- A frame received under the G.9903 MAC (R240): its kind (0 data, 1 command, 2 acknowledgement, 3 tone map
request), source and destination addresses and modes (2 short, 3 extended), PAN, sequence number, whether it
asks for an acknowledgement, its security level, key index and frame counter, whether its MIC holds, and
the reassembled MSDU. -/
structure G3Frame where
  kind : Nat
  src : Nat
  dst : Nat
  dmode : Nat
  pan : Nat
  seq : Nat
  ackreq : Bool
  seclvl : Nat
  keyidx : Nat
  fcnt : Nat
  mic : Bool
  msdu : List Byte
  deriving DecidableEq, Repr

/-- Where a poisoned completion reaches the Boulevard (Table 11-9). -/
inductive PoisonAt where
  | queue (q : BitVec 20)
  | session (s : BitVec 18)
  | page (p : BitVec 19)
  /-- Data of the frame that port `n` reads for an attempt. -/
  | txData (n : Fin 16)
  /-- Data of the dispatched or waiting receive frame of this number. -/
  | rxData (id : Nat)
  /-- A record on a queue's chain. -/
  | record (q : BitVec 20)
  /-- A record on the walk of the oldest return: how many of its cells cannot be reached. -/
  | walk (lost : Nat)
  deriving DecidableEq, Repr

/-- A frame body whose host read ended in error (R292, R293): that of a descriptor being taken, or the rest
of the head of a queue that was linked with CUT_THROUGH. -/
inductive BodyError where
  | taken (ring : BitVec 12) (d : BitVec 256)
  | linked (q : BitVec 20)
  deriving DecidableEq, Repr

/-- What the SRAM word that decodes as uncorrectable holds (Table 15-5): nothing that a frame or an object
waits for, a cached object, part of an Arcade bank, an LDPC block of a port, a DSP buffer of a port, cells of
the cell state map, or 64 bits of the written-page map. -/
inductive SramHolds where
  | nothing
  | object (p : PoisonAt)
  | arcade (i : Fin 40)
  | block (n : Fin 16)
  | buffer (n : Fin 16)
  | cells
  | pages (k : BitVec 13)
  deriving DecidableEq, Repr

/-- A configuration register of Burin (Tables 08-9, 08-10, 08-12 to 08-15). -/
inductive BurReg where
  | timing
  | detcfg
  | trip (i : Fin 8)
  | cmd (c : Fin 16)
  | portCfg (n : Fin 16)
  | portLvl (n : Fin 16)
  deriving DecidableEq, Repr

/-- What one transform of a Burin detector reports (R182): its peak bin in 1/8 bin, the ratio q in 2^-8 dB, and
the peak power. -/
structure Dechirp where
  bin : Nat
  q : Nat
  power : Nat
  deriving DecidableEq, Repr

/-- A character as a UART receiver samples it (R374): its data bits in the order of reception, the first in
bit 0, the parity bit, the stop bit, and whether three samples of a bit disagreed. -/
structure UartBits where
  data : Byte
  parity : Bool
  stop : Bool
  noise : Bool
  deriving DecidableEq, Repr

/-- The commands, in the order of the operation table. -/
inductive Instr where
  -- Chapters 00, 02, 03, 13: accesses, modes, boot, the Square
  /-- A 4 B host write of a register without a row of its own (R11). -/
  | registerWrite (func : Fin 2) (offset data : Word)
  /-- A 4 B host write of a counter register that clears what it holds (R11). -/
  | counterClearWrite (func : Fin 2) (offset data : Word)
  | silentViolation (a : Access)
  | violationClear
  | unsupportedRequest (r : BadRequest)
  | poisonedTlp (func bar : Fin 2) (offset : Word)
  | sysLockWrite
  | modeRequest (code : Fin 16)
  | modeEntryComplete
  | standbyTransitionComplete
  | profileWrite (n : Fin 16) (data : Word)
  | profileChangeApply (n : Fin 16)
  | coldBoot (f : BootFindings)
  | warmNAssert
  | warmBoot (f : BootFindings)
  | flrFunction0
  | flrFunction1
  /-- Supervisor watchdog expiry of a core; the findings serve a pair retry (R49). -/
  | watchdogExpiry (core : Fin 2) (f : BootFindings)
  | recordDrain
  | tickReadLatch
  | softwareEvent (num : Fin 8) (data : BitVec 29)
  -- Chapter 04: front end and mains sensing
  | calibrationPassStart (n : Fin 16)
  | calibrationPassEnd (n : Fin 16) (limit : Bool)
  /-- `e`: how many SCLK edges after the start of the present tick the reset edge E lies (R91). -/
  | syncInEdge (e : Fin 8)
  | decsyncCmd
  | decimatorReset
  /-- The magnitudes of the window's counted outputs, in order (R95). -/
  | detectorWindowEnd (n : Fin 16) (mags : List (BitVec 16))
  /-- The crossing of input `i` at tick `t`, fraction `frac`; the RMS and peak over the cycle it closes
  and the RMS over the full cycle that ends at it (R99, R100). -/
  | zeroCrossing (i : Fin 4) (positive : Bool) (t : Nat) (frac : BitVec 16) (rms peak env : BitVec 24)
  | mainsCrossingTimeout (i : Fin 4)
  | modulatorOverload (i : Fin 4)
  /-- The averaged magnitude and phase of harmonics 1, 2, ... (R102). -/
  | harmonicAverageEnd (i : Fin 4) (h : List (BitVec 16 × BitVec 16))
  -- Chapter 05
  | groupCfgWrite (g : Fin 4) (data : Word)
  /-- A write of MAC_TMSBASE (`cfg` false) or MAC_TMSCFG (`cfg` true). -/
  | toneMapStoreCfgWrite (cfg : Bool) (data : Word)
  | snrStoreBaseWrite (data : Word)
  /-- The former receive record of a link (grouped or not) and slot reaches its age limit (R121). -/
  | receiveRecordRetire (grouped : Bool) (link : Nat) (slot : Fin 6)
  -- Chapter 06: the receiver
  /-- The RMS of the window and the noise floor after it, in -0.5 dB of full scale (R127, R128). -/
  | agcWindow (n : Fin 16) (level floor : BitVec 8)
  /-- Estimated SNR in 0.5 dB; the sweep mode k, 0 for none (R128, R129). -/
  | preambleDetected (n : Fin 16) (snr : BitVec 8) (sweepK : Nat) (at_ : BitVec 19)
  /-- Whether the common phase error is large; the error as a frequency in 2^-8 Hz and the slope as a
  sampling offset in 2^-32 (R133). -/
  | symbolTrackingUpdate (n : Fin 16) (large : Bool) (phase slope : BitVec 32)
  | receiveSamplesEnd (n : Fin 16) (m : RxMeas)
  | headerDecodeComplete (d : Fin 8) (bits : BitVec 256)
  | blockEnqueue (n : Fin 16)
  | decoderTakeBlock (d : Fin 8)
  | blockDecodeComplete (d : Fin 8) (ok : Bool) (data : List Byte)
  | blankEnd (n : Fin 16)
  /-- One byte list of powers per slot, empty where no transform was accepted (R143). -/
  | noiseTelemetry (n : Fin 16) (spectra : List (List Byte))
  -- Chapter 07: the transmitter
  | frameLaunch (n : Fin 16)
  | dwellDeferralExpiry (n : Fin 16)
  | transmitEnd (n : Fin 16)
  /-- Register `k` of band `b`: 0 LO, 1 HI, 2 TIME, 3 DUTY. -/
  | dwellWrite (b : Fin 8) (k : Fin 4) (data : Word)
  | maskWrite (n : Fin 16) (k : Fin 32) (data : Word)
  | lineDriverFault (n : Fin 16)
  | lineDriverFaultRelease (n : Fin 16)
  | faultHoldEnd (n : Fin 16)
  | ldenTailExpiry (n : Fin 16)
  -- Chapter 08: Burin
  /-- The synchronised level of a trip input changes. -/
  | tripInputEdge (i : Fin 8) (high : Bool)
  | burinBurstStart (n : Fin 16)
  | burinBurstEnd (n : Fin 16)
  | tripStuck (i : Fin 8)
  | tripRearm (i : Fin 8)
  /-- The up-dechirp and the down-dechirp of the window that ends at this hop. -/
  | detectorHop (n : Fin 16) (up down : Dechirp)
  | burinDecision (n : Fin 16)
  | tripOutHoldExpiry (j : Fin 8)
  | burinConfigWrite (r : BurReg) (data : Word)
  /-- A write of BUR_CTL with LOCK 0. -/
  | burinEnWrite (en : Bool)
  /-- A write of BUR_CTL with LOCK 1, and this EN. -/
  | burinLock (en : Bool)
  | safeProfileSuccessorLoad
  -- Chapter 09: the mains-locked frame
  | superframeStart
  | slotBoundary
  | beaconLaunch (n : Fin 16)
  | beaconWindowOpen
  | beaconWindowClose
  /-- The frames below are the next packet that port `n`'s receive instance holds. -/
  | beaconReceived (n : Fin 16)
  | allocCommit
  | macConfigWrite (r : MacReg) (data : Word)
  /-- A priority slot of port `n`; whether a priority symbol was detected in it. -/
  | prioritySlot (n : Fin 16) (heard : Bool)
  /-- A backoff slot of port `n`, and whether it stayed idle. -/
  | backoffSlot (n : Fin 16) (idle : Bool)
  | knockTimeout
  | knockReceived (n : Fin 16)
  | knockfwdReceived (n : Fin 16)
  | admitReceived (n : Fin 16)
  | pendingReceived (n : Fin 16)
  | rejectReceived (n : Fin 16)
  | authFrameReceived (n : Fin 16)
  | keepaliveDue
  | partnerAbsent (addr : BitVec 25)
  -- Chapter 10: the link layer
  | dataFrameReceived (n : Fin 16)
  | ackLaunch (n : Fin 16)
  | ackReceived (n : Fin 16)
  | ackWindowClose (n : Fin 16)
  /-- The stream of engine `e` ends with its tag verified. -/
  | tagVerified (e : Fin 12)
  | authFail (e : Fin 12)
  | ctrlFrameReceived (n : Fin 16)
  | tmfbReceived (n : Fin 16)
  | pollReceived (n : Fin 16)
  | servicePeriodEnd (addr : BitVec 25)
  | holdExpiry (q : BitVec 20)
  | cutThroughRelayStart (n out : Fin 16)
  | soundingFrameReceived (n : Fin 16)
  | rangingDue
  | rangeReqReceived (n : Fin 16)
  | rangeRspReceived (n : Fin 16)
  | g9903FrameReceived (n : Fin 16) (f : G3Frame)
  -- Chapter 11: the Boulevard
  | schedulerDecision (n : Fin 16)
  | candidateFetch (n : Fin 16)
  | exhTimeout (session : BitVec 18)
  /-- A visit to a queue, or to a session. -/
  | shaperRefillVisit (session : Bool) (index : BitVec 20)
  | cellReturnComplete
  | queueRead (index : BitVec 25)
  | queueWrite (index : BitVec 25)
  | queueFlush (index : BitVec 25)
  | flushComplete
  | queueRelease (index : BitVec 25)
  | sessionRead (index : BitVec 25)
  | sessionWrite (index : BitVec 25)
  | sessionRelease (index : BitVec 25)
  | directoryEntryRead (index : BitVec 25)
  | directoryEntryWrite (index : BitVec 25)
  | directoryPageRelease (index : BitVec 25)
  /-- A command word whose OP is not listed for its TYPE. -/
  | objectCommandBadOp (cmd : Word)
  | poisonedCompletion (p : PoisonAt)
  | quarantineSweepComplete (q : BitVec 20)
  /-- Register `k`: the five bases, then BLV_POOLCFG. -/
  | poolConfigWrite (k : Fin 6) (data : Word)
  | rebuild
  | rebuildComplete
  | ledgerReadLatch
  -- Chapter 12: Arcade
  | arcadeHandover (i : Fin 40)
  | arcadeRelease (i : Fin 40)
  | arcadeFlush (i : Fin 40) (data : Word)
  | arcadeFlushComplete (i : Fin 40)
  | arcadePointerMismatch (i : Fin 40)
  -- Chapter 13: the host interface
  | linkTrained (rate : Fin 4) (x8 : Bool)
  | linkDown
  /-- Ring `r` of a function: register 0 BASELO, 1 BASEHI, 2 CFG. -/
  | ringConfigWrite (func : Fin 2) (r : BitVec 12) (k : Fin 3) (data : Word)
  | ringEnable (func : Fin 2) (r : BitVec 12) (data : Word)
  | ringDisable (func : Fin 2) (r : BitVec 12) (data : Word)
  | doorbellWrite (func : Fin 2) (r : BitVec 12) (v : Word)
  | txSubmitDescriptor (r : BitVec 12) (d : BitVec 256) (body : List Byte)
  | rxPostDescriptor (r : BitVec 12) (d : BitVec 128)
  | descriptorReadError (r : BitVec 12)
  | hostBodyReadError (e : BodyError)
  | rxDelivery (c : Fin 8)
  | rxBufferWaitExpiry (c : Fin 8)
  | vectorHoldoffExpiry (func : Fin 2) (v : Fin 256)
  | vectorUnmask (func : Fin 2) (v : Fin 256)
  | admitCommand
  | rejectCommand
  /-- The mailbox commands carry SEQ. -/
  | status (seq : BitVec 8)
  | confirm (seq : BitVec 8)
  | commit (seq : BitVec 8)
  | restart (seq : BitVec 8)
  | flashWrite (seq : BitVec 8)
  | flashRead (seq : BitVec 8)
  | setBoot (seq : BitVec 8)
  | safeprof (seq : BitVec 8)
  | history (seq : BitVec 8)
  | lifecycle (seq : BitVec 8)
  | mailboxBadOp (op seq : BitVec 8)
  | mailboxCommandEnd
  -- Chapter 14: keys and cipher engines
  /-- The word written to KEY_CMD. -/
  | load (cmd : Word)
  | erase (cmd : Word)
  | eraseComplete
  | wrap (cmd : Word)
  | otpProg (cmd : Word)
  /-- `unwraps`: the context record of a stream that is resumed passes its check (R329, R330). -/
  | engineTakeRequest (e : Fin 12) (unwraps : Bool)
  | preemption (e : Fin 12) (unwraps : Bool)
  | rngReseed
  | rngHealthFail
  | jtagDebugAccess (addr : Word) (write : Bool)
  -- Chapter 15: memory
  /-- Bucket of a DRAM rank, or of an SRAM macro group. -/
  | bucketLeak (sram : Bool) (i : Fin 92)
  | sweeperLineRead
  | sramSweepWord
  | sramUncorrectable (g : Fin 92) (w : BitVec 20) (h : SramHolds)
  | debugWindowRead (offset : BitVec 12) (wide : Bool)
  | debugWindowWrite (offset : BitVec 12) (wide : Bool) (data : BitVec 64)
  | readRaw (sram : Bool)
  | writeRaw (sram : Bool)
  | encode (sram : Bool)
  -- Chapter 16: time
  | tb0Set
  | tb0Adj (ofs freq : Bool)
  | tb0HoldoverTimeout
  | rebase (b : Fin 2)
  | tb1Discipline
  | tb3CycleBoundary
  | pllTrimStep
  | ppsOutEdge
  | ppsOutFall
  /-- A rising edge on PPS_IN, so many nanoseconds after the start of the tick. -/
  | ppsInEdge (ns : Fin 8)
  | ppsInReadLatch
  -- Chapter 17: UARTs, flash store, pins
  | uartCharacterReceived (u : Fin 4) (c : UartBits)
  | uartLineStuck (u : Fin 4)
  | uartLineClear (u : Fin 4)
  | uartReceiveTimeout (u : Fin 4)
  | uartDataRead (u : Fin 4)
  | uartDataWrite (u : Fin 4) (data : Byte)
  /-- The character on the line ends; whether it met a collision or, in the 7816 mode, an error signal. -/
  | uartCharacterSent (u : Fin 4) (clash : Bool)
  /-- A write of UAR[u]_QCFG with RXFLUSH 1. -/
  | rxflush (u : Fin 4) (data : Word)
  /-- A write of UAR[u]_QCFG with TXFLUSH 1. -/
  | txflush (u : Fin 4) (data : Word)
  | uartCtsChange (u : Fin 4) (high : Bool)
  /-- A write of FSP_LOGCMD with UNIT. -/
  | logRead (unit : BitVec 12)
  | logUnitWrite
  | repairRecordCopy
  /-- The flash operation in progress ends; whether the flash failed. -/
  | flashOperationComplete (failed : Bool)
  | gpioEdge (i : Fin 16) (high : Bool)
  -- Chapter 18
  | domainPowerOff (d : Fin 20)
  | domainPowerUp (d : Fin 20)
  | domainPowerUpComplete (d : Fin 20)
  | domainReset (d : Fin 20)
  | domainResetComplete (d : Fin 20)
  | supplyLow (i : Fin 5)
  | supplyRestored (i : Fin 5)
  | referenceLoss
  | pllLockLoss
  | pllRelock
  /-- A reading in 0.0625 degrees C, two's complement (Table 18-8). -/
  | temperatureSample (sensor : Fin 8) (reading : BitVec 12)
  | thermalConfigWrite (data : Word)
  | porstNAssert
  | startUpComplete
  /-- `n` ticks pass (R57, R356), in which samples of the ports clip (R79, R81). -/
  | timeBaseAdvance (n : Nat) (clips : List Clip)
  deriving DecidableEq, Repr

end Sys2Proof
end

