-- ==== Sys2Proof/Decode.lean ====
section
/-! DEFINITION. The operation table gives no row any bits: commands are not words, so no word spells one. -/

namespace Sys2Proof

/-- The command that `nbits` table bits spell: none, for every row of the table has an empty list of fields. -/
def decodeTableWord (_nbits _w : Nat) : Option Instr := none

end Sys2Proof
end

