-- ==== Sys2Proof/Config.lean ====
section
/-! DEFINITION. What the spec leaves open: free values (functions of the free-value counter, with no
body, so that nothing can be proved of the value) and the named cryptographic functions whose
computation the spec takes from other standards. -/

namespace Sys2Proof.Config

/-- Free values by number: a value the spec leaves open (log entry 1). -/
opaque freeNat : Nat → Nat

/-- A free object of 4,096 bits: what a read of a poisoned object returns (R259). -/
opaque freeObject : Nat → Nat

/-- The check of an image's P-384 signature over the SHA-384 digest of the image (R46): the signed bytes
and the 512 B signature block. -/
opaque p384Verify : List Byte → List Byte → Bool

/-- A field of an image header by the region's first bytes (Table 02-8, whose byte layout the spec does not give): 0
STEP_MIN, 1 STEP_MAX, 2 IF_MAJOR, 3 IF_MINOR, 4 REQ_MC_MINOR, 5 SEC_VER, 6 LENGTH. -/
opaque headerField : Nat → List Byte → Nat

/-- SHA-384 (R46). -/
opaque sha384 : List Byte → Nat

/-- AES key unwrap (RFC 3394, R318): key-encryption key and wrapped blob to the clear key, or none where
the integrity check fails. -/
opaque kwUnwrap : Nat → List Byte → Option Nat

/-- AES key wrap (RFC 3394, R318): key-encryption key, clear key, its length in bits. -/
opaque kwWrap : Nat → Nat → Nat → List Byte

/-- AES-GCM encryption (R319): key, nonce, additional data, plaintext to ciphertext and tag. -/
opaque gcmEncrypt : Nat → Nat → List Byte → List Byte → List Byte

/-- AES-GCM decryption (R319): key, nonce, additional data, ciphertext and tag to the plaintext. -/
opaque gcmDecrypt : Nat → Nat → List Byte → List Byte → List Byte

/-- AES-XTS (R324, R385): key, tweak, plaintext. -/
opaque xtsEncrypt : Nat → Nat → List Byte → List Byte

/-- AES-XTS decryption: key, tweak, ciphertext. -/
opaque xtsDecrypt : Nat → Nat → List Byte → List Byte

/-- The on-time of a G.9903 frame of a length in bytes, in ticks (ITU-T G.9903, R125). -/
opaque g9903Dur : Nat → Nat

/-- How long a sender waits for the acknowledgement of a G.9903 frame, in ticks (ITU-T G.9903). -/
opaque g9903AckWait : Nat

/-- The eight check bits of an SRAM word under the (72,64) code of R339, whose matrix the spec does not
give. -/
opaque secded : Nat → Nat

end Sys2Proof.Config
end

