-- ==== Sys2Proof/Machine/Table.lean ====
section
/-! DEFINITION. The operations on sparse tables and on bit fields. Every store of the machine (registers,
memories, DRAM objects, per-port records) is a sparse table, so these are the only ways to read and
write one. -/

namespace Sys2Proof.Machine

/-- The listed value of key `k`, if one is listed. -/
def find {α : Type} (t : Tab α) (k : Nat) : Option α :=
  match t with
  | [] => none
  | (i, v) :: r => if i = k then some v else find r k

/-- The value of key `k`: the listed one, else `d`. -/
def look {α : Type} (d : α) (t : Tab α) (k : Nat) : α := (find t k).getD d

/-- Lists `v` under `k`, in its place. -/
def put {α : Type} (k : Nat) (v : α) (t : Tab α) : Tab α :=
  match t with
  | [] => [(k, v)]
  | (i, w) :: r =>
    if k < i then (k, v) :: (i, w) :: r
    else if i = k then (k, v) :: r
    else (i, w) :: put k v r

/-- Unlists key `k`. -/
def del {α : Type} (k : Nat) (t : Tab α) : Tab α :=
  match t with
  | [] => []
  | (i, w) :: r => if i = k then del k r else (i, w) :: del k r

/-- Gives key `k` the value `v`, where an unlisted key reads as `d`. -/
def store {α : Type} [DecidableEq α] (d : α) (k : Nat) (v : α) (t : Tab α) : Tab α :=
  if v = d then del k t else put k v t

/-- The keys rise strictly and all lie above `lo`, and no entry is the default `d k` of its key. -/
def tabWfFrom {α : Type} [DecidableEq α] (d : Nat → α) (lo : Nat) (t : Tab α) : Bool :=
  match t with
  | [] => true
  | (k, v) :: r => decide (lo ≤ k) && decide (v ≠ d k) && tabWfFrom d (k + 1) r

/-- The canonical form of a table whose unlisted key `k` reads as `d k`. -/
def tabWf {α : Type} [DecidableEq α] (d : Nat → α) (t : Tab α) : Bool := tabWfFrom d 0 t

/-- The field of `w` bits at bit `lo`, as a number. -/
def bits {n : Nat} (v : BitVec n) (lo w : Nat) : Nat := v.toNat / 2 ^ lo % 2 ^ w

/-- `v` with the field of `w` bits at bit `lo` replaced by `x` modulo `2 ^ w`. -/
def withBits {n : Nat} (v : BitVec n) (lo w x : Nat) : BitVec n :=
  let mask := BitVec.ofNat n ((2 ^ w - 1) * 2 ^ lo)
  (v &&& ~~~mask) ||| BitVec.ofNat n (x % 2 ^ w * 2 ^ lo)

/-- Bit `i` of a number. -/
def bitN (v i : Nat) : Bool := v / 2 ^ i % 2 == 1

/-- The number of a truth value. -/
def b2n (b : Bool) : Nat := if b then 1 else 0

/-- A number of `w` bits read as two's complement (R8). -/
def signed (w x : Nat) : Int :=
  if x % 2 ^ w < 2 ^ (w - 1) then (x % 2 ^ w : Nat) else (x % 2 ^ w : Nat) - (2 : Int) ^ w

/-- The `w`-bit two's complement code of an integer (R8). -/
def unsigned (w : Nat) (x : Int) : Nat := (x % (2 : Int) ^ w).toNat

/-- `a` limited to the range `lo` to `hi`. -/
def clampI (lo hi a : Int) : Int := max lo (min hi a)

/-- Addition that saturates at `2 ^ w - 1`. -/
def satAdd (w a b : Nat) : Nat := min (a + b) (2 ^ w - 1)

/-- The values `0` to `n - 1` folded over a state. -/
def forN {σ : Type} (n : Nat) (f : Nat → σ → σ) (s : σ) : σ :=
  match n with
  | 0 => s
  | k + 1 => f k (forN k f s)

/-- The elements of a list folded over a state. -/
def forEach {α σ : Type} (l : List α) (f : α → σ → σ) (s : σ) : σ :=
  match l with
  | [] => s
  | a :: r => forEach r f (f a s)

/-- The least element of a list by a key, the earlier of two equal ones. -/
def leastBy {α : Type} (key : α → Nat) (l : List α) : Option α :=
  match l with
  | [] => none
  | a :: r =>
    match leastBy key r with
    | none => some a
    | some b => if key a ≤ key b then some a else some b

/-- The list without its first element that meets `p`. -/
def dropFirst {α : Type} (p : α → Bool) (l : List α) : List α :=
  match l with
  | [] => []
  | a :: r => if p a then r else a :: dropFirst p r

/-- The sum of a function over a list. -/
def sumBy {α : Type} (f : α → Nat) (l : List α) : Nat :=
  match l with
  | [] => 0
  | a :: r => f a + sumBy f r

/-- The little-endian number of a list of bytes (R8). -/
def leNat (l : List Byte) : Nat :=
  match l with
  | [] => 0
  | b :: r => b.toNat + 256 * leNat r

/-- The `n` bytes of a number, least significant first (R8). -/
def leBytes (n x : Nat) : List Byte :=
  match n with
  | 0 => []
  | k + 1 => BitVec.ofNat 8 x :: leBytes k (x / 256)

/-- The `n` bytes that a cipher yields: its output, whose length the standard fixes. -/
def fitTo (n : Nat) (l : List Byte) : List Byte := (l ++ List.replicate n 0).take n

/-- Integer square root, rounded down. -/
def isqrt (n : Nat) : Nat := Nat.sqrt n

end Sys2Proof.Machine
end

