-- ==== Sys2Proof/Machine/Regs.lean ====
section
/-! DEFINITION. The register map: the name of every register field of the spec (its register, its lowest
bit and its width) and the table of all registers with their access masks, reset values, power
domains and reset classes (R11, R407, Tables 19-2 to 19-5 and the register table of each chapter).
A register of function 0 is keyed by its BAR0 offset, one of function 1 by its offset plus 2^32. -/

namespace Sys2Proof.Machine

/-- The key of offset `o` of function 1's BAR0. -/
def f1 (o : Nat) : Nat := 4294967296 + o

/-- A register field: the key of its register, its lowest bit, its width. -/
structure Field where
  addr : Nat
  lo : Nat
  w : Nat
  deriving DecidableEq, Repr

/-- A row of the register map. It stands for `n1 * n2` registers at `base + s1 * i + s2 * j`.
`dom`: the power domain of Table 18-1; 100: the pair domain of port `i`; 101: the domain of Arcade
instance `i` (R17, R281). `reach`: 0 fuses, kept by every reset; 1 reset by PORST_N alone; 2 also by
WARM_N and the mailbox restart; 3 also by the function-level reset of its function (Table 02-12). -/
structure Row where
  name : String
  base : Nat
  n1 : Nat
  s1 : Nat
  n2 : Nat
  s2 : Nat
  rw : Nat
  rwl : Nat
  w1c : Nat
  w1s : Nat
  wo : Nat
  ro : Nat
  reset : Nat
  dom : Nat
  reach : Nat
  deriving DecidableEq, Repr

/-- Table 00-3: the key of register SYS_ID. -/
def a_SYS_ID : Nat := 0x0
/-- Table 00-3: SYS_ID.PART. -/
def SYS_ID_PART : Field := ⟨a_SYS_ID, 16, 16⟩
/-- Table 00-3: SYS_ID.SUFFIX. -/
def SYS_ID_SUFFIX : Field := ⟨a_SYS_ID, 12, 4⟩
/-- Table 00-3: SYS_ID.STEPPING. -/
def SYS_ID_STEPPING : Field := ⟨a_SYS_ID, 4, 8⟩
/-- Table 00-4: the key of register SYS_CAP. -/
def a_SYS_CAP : Nat := 0x4
/-- Table 00-4: SYS_CAP.PORTS. -/
def SYS_CAP_PORTS : Field := ⟨a_SYS_CAP, 0, 5⟩
/-- Table 00-4: SYS_CAP.GROUPS. -/
def SYS_CAP_GROUPS : Field := ⟨a_SYS_CAP, 5, 3⟩
/-- Table 00-4: SYS_CAP.AES. -/
def SYS_CAP_AES : Field := ⟨a_SYS_CAP, 8, 4⟩
/-- Table 00-4: SYS_CAP.DRAM_CH. -/
def SYS_CAP_DRAM_CH : Field := ⟨a_SYS_CAP, 12, 2⟩
/-- Table 00-4: SYS_CAP.DRAM_OPT. -/
def SYS_CAP_DRAM_OPT : Field := ⟨a_SYS_CAP, 14, 1⟩
/-- Table 00-4: SYS_CAP.STOR_XTS. -/
def SYS_CAP_STOR_XTS : Field := ⟨a_SYS_CAP, 15, 1⟩
/-- Table 02-4: the key of register SYS_MODE. -/
def a_SYS_MODE : Nat := 0x20
/-- Table 02-4: SYS_MODE.REQ. -/
def SYS_MODE_REQ : Field := ⟨a_SYS_MODE, 0, 4⟩
/-- Table 02-5: the key of register SYS_MODESTAT. -/
def a_SYS_MODESTAT : Nat := 0x24
/-- Table 02-5: SYS_MODESTAT.MODE. -/
def SYS_MODESTAT_MODE : Field := ⟨a_SYS_MODESTAT, 0, 4⟩
/-- Table 02-5: SYS_MODESTAT.TARGET. -/
def SYS_MODESTAT_TARGET : Field := ⟨a_SYS_MODESTAT, 4, 4⟩
/-- Table 02-5: SYS_MODESTAT.BUSY. -/
def SYS_MODESTAT_BUSY : Field := ⟨a_SYS_MODESTAT, 8, 1⟩
/-- Table 02-5: SYS_MODESTAT.READY. -/
def SYS_MODESTAT_READY : Field := ⟨a_SYS_MODESTAT, 9, 1⟩
/-- Table 02-5: SYS_MODESTAT.REFUSED. -/
def SYS_MODESTAT_REFUSED : Field := ⟨a_SYS_MODESTAT, 10, 1⟩
/-- Table 02-5: SYS_MODESTAT.REASON. -/
def SYS_MODESTAT_REASON : Field := ⟨a_SYS_MODESTAT, 11, 4⟩
/-- Table 02-9: the key of register SYS_BOOTSTAT. -/
def a_SYS_BOOTSTAT : Nat := 0x28
/-- Table 02-9: SYS_BOOTSTAT.PAIR. -/
def SYS_BOOTSTAT_PAIR : Field := ⟨a_SYS_BOOTSTAT, 0, 2⟩
/-- Table 02-9: SYS_BOOTSTAT.TRIAL. -/
def SYS_BOOTSTAT_TRIAL : Field := ⟨a_SYS_BOOTSTAT, 2, 1⟩
/-- Table 02-9: SYS_BOOTSTAT.A_RESULT. -/
def SYS_BOOTSTAT_A_RESULT : Field := ⟨a_SYS_BOOTSTAT, 3, 3⟩
/-- Table 02-9: SYS_BOOTSTAT.B_RESULT. -/
def SYS_BOOTSTAT_B_RESULT : Field := ⟨a_SYS_BOOTSTAT, 6, 3⟩
/-- Table 02-9: SYS_BOOTSTAT.SAFE_REASON. -/
def SYS_BOOTSTAT_SAFE_REASON : Field := ⟨a_SYS_BOOTSTAT, 9, 4⟩
/-- Table 02-9: SYS_BOOTSTAT.PROOF_FAIL. -/
def SYS_BOOTSTAT_PROOF_FAIL : Field := ⟨a_SYS_BOOTSTAT, 13, 8⟩
/-- Table 02-9: SYS_BOOTSTAT.CAUSE. -/
def SYS_BOOTSTAT_CAUSE : Field := ⟨a_SYS_BOOTSTAT, 21, 3⟩
/-- Table 02-9: SYS_BOOTSTAT.OTP_CTR. -/
def SYS_BOOTSTAT_OTP_CTR : Field := ⟨a_SYS_BOOTSTAT, 24, 8⟩
/-- Table 02-13: the key of register SYS_LOCK. -/
def a_SYS_LOCK : Nat := 0x30
/-- Table 02-13: SYS_LOCK.LOCK. -/
def SYS_LOCK_LOCK : Field := ⟨a_SYS_LOCK, 0, 1⟩
/-- Table 03-11: the key of register SYS_VIOLCNT. -/
def a_SYS_VIOLCNT : Nat := 0x40
/-- Table 03-11: SYS_VIOLCNT.COUNT. -/
def SYS_VIOLCNT_COUNT : Field := ⟨a_SYS_VIOLCNT, 0, 16⟩
/-- Table 03-11: SYS_VIOLCNT.CLR. -/
def SYS_VIOLCNT_CLR : Field := ⟨a_SYS_VIOLCNT, 16, 1⟩
/-- Table 03-12: the key of register SYS_VIOLADDR. -/
def a_SYS_VIOLADDR : Nat := 0x44
/-- Table 03-12: SYS_VIOLADDR.ADDR. -/
def SYS_VIOLADDR_ADDR : Field := ⟨a_SYS_VIOLADDR, 0, 32⟩
/-- Table 03-13: the key of register SYS_VIOLINFO. -/
def a_SYS_VIOLINFO : Nat := 0x48
/-- Table 03-13: SYS_VIOLINFO.VALID. -/
def SYS_VIOLINFO_VALID : Field := ⟨a_SYS_VIOLINFO, 0, 1⟩
/-- Table 03-13: SYS_VIOLINFO.WRITE. -/
def SYS_VIOLINFO_WRITE : Field := ⟨a_SYS_VIOLINFO, 1, 1⟩
/-- Table 03-13: SYS_VIOLINFO.FUNC. -/
def SYS_VIOLINFO_FUNC : Field := ⟨a_SYS_VIOLINFO, 2, 1⟩
/-- Table 03-13: SYS_VIOLINFO.BAR. -/
def SYS_VIOLINFO_BAR : Field := ⟨a_SYS_VIOLINFO, 3, 1⟩
/-- Table 03-13: SYS_VIOLINFO.KIND. -/
def SYS_VIOLINFO_KIND : Field := ⟨a_SYS_VIOLINFO, 4, 3⟩
/-- Table 04-9: the key of register SYS_DECSYNC. -/
def a_SYS_DECSYNC : Nat := 0x50
/-- Table 04-9: SYS_DECSYNC.PIN_EN. -/
def SYS_DECSYNC_PIN_EN : Field := ⟨a_SYS_DECSYNC, 0, 1⟩
/-- Table 04-9: SYS_DECSYNC.CMD. -/
def SYS_DECSYNC_CMD : Field := ⟨a_SYS_DECSYNC, 1, 1⟩
/-- Table 04-9: SYS_DECSYNC.COUNT. -/
def SYS_DECSYNC_COUNT : Field := ⟨a_SYS_DECSYNC, 8, 8⟩
/-- Table 04-10: the key of register SYS_DECSYNCT. -/
def a_SYS_DECSYNCT : Nat := 0x54
/-- Table 04-10: SYS_DECSYNCT.TICK. -/
def SYS_DECSYNCT_TICK : Field := ⟨a_SYS_DECSYNCT, 0, 32⟩
/-- Table 03-1: the key of register SQR_TICK_LO. -/
def a_SQR_TICK_LO : Nat := 0x10000
/-- Table 03-1: SQR_TICK_LO.TICK_LO. -/
def SQR_TICK_LO_TICK_LO : Field := ⟨a_SQR_TICK_LO, 0, 32⟩
/-- Table 03-1: the key of register SQR_TICK_HI. -/
def a_SQR_TICK_HI : Nat := 0x10004
/-- Table 03-1: SQR_TICK_HI.TICK_HI. -/
def SQR_TICK_HI_TICK_HI : Field := ⟨a_SQR_TICK_HI, 0, 32⟩
/-- Table 03-9: the key of register SQR_SWEVT. -/
def a_SQR_SWEVT : Nat := 0x10010
/-- Table 03-9: SQR_SWEVT.NUM. -/
def SQR_SWEVT_NUM : Field := ⟨a_SQR_SWEVT, 0, 3⟩
/-- Table 03-9: SQR_SWEVT.DATA. -/
def SQR_SWEVT_DATA : Field := ⟨a_SQR_SWEVT, 3, 29⟩
/-- Table 03-10: the key of register SQR_DROPCNT. -/
def a_SQR_DROPCNT : Nat := 0x10014
/-- Table 03-10: SQR_DROPCNT.COUNT. -/
def SQR_DROPCNT_COUNT : Field := ⟨a_SQR_DROPCNT, 0, 32⟩
/-- Table 03-8: the key of register SQR_PEND. -/
def a_SQR_PEND (i : Nat) : Nat := 0x10100 + 0x4 * i
/-- Table 03-8: SQR_PEND.PEND. -/
def SQR_PEND_PEND (i : Nat) : Field := ⟨a_SQR_PEND i, 0, 32⟩
/-- Table 03-6: the key of register SQR_ROUTE. -/
def a_SQR_ROUTE (i : Nat) : Nat := 0x11000 + 0x4 * i
/-- Table 03-6: SQR_ROUTE.REC. -/
def SQR_ROUTE_REC (i : Nat) : Field := ⟨a_SQR_ROUTE i, 0, 1⟩
/-- Table 03-6: SQR_ROUTE.IRQ. -/
def SQR_ROUTE_IRQ (i : Nat) : Field := ⟨a_SQR_ROUTE i, 1, 1⟩
/-- Table 03-6: SQR_ROUTE.FUNC. -/
def SQR_ROUTE_FUNC (i : Nat) : Field := ⟨a_SQR_ROUTE i, 2, 1⟩
/-- Table 03-6: SQR_ROUTE.RING. -/
def SQR_ROUTE_RING (i : Nat) : Field := ⟨a_SQR_ROUTE i, 3, 12⟩
/-- Table 03-6: SQR_ROUTE.VECTOR. -/
def SQR_ROUTE_VECTOR (i : Nat) : Field := ⟨a_SQR_ROUTE i, 15, 8⟩
/-- Table 18-6: the key of register CLK_STAT. -/
def a_CLK_STAT : Nat := 0x20000
/-- Table 18-6: CLK_STAT.LOCK. -/
def CLK_STAT_LOCK : Field := ⟨a_CLK_STAT, 0, 1⟩
/-- Table 18-6: CLK_STAT.REF. -/
def CLK_STAT_REF : Field := ⟨a_CLK_STAT, 1, 1⟩
/-- Table 18-6: CLK_STAT.LOCKLOSS. -/
def CLK_STAT_LOCKLOSS : Field := ⟨a_CLK_STAT, 8, 8⟩
/-- Table 18-6: CLK_STAT.REFLOSS. -/
def CLK_STAT_REFLOSS : Field := ⟨a_CLK_STAT, 16, 8⟩
/-- Table 18-7: the key of register PWR_REQ. -/
def a_PWR_REQ : Nat := 0x21000
/-- Table 18-7: PWR_REQ.ON. -/
def PWR_REQ_ON : Field := ⟨a_PWR_REQ, 0, 20⟩
/-- Table 18-7: the key of register PWR_STAT. -/
def a_PWR_STAT : Nat := 0x21004
/-- Table 18-7: PWR_STAT.ON. -/
def PWR_STAT_ON : Field := ⟨a_PWR_STAT, 0, 20⟩
/-- Table 18-7: PWR_STAT.REFUSED. -/
def PWR_STAT_REFUSED : Field := ⟨a_PWR_STAT, 20, 1⟩
/-- Table 18-7: PWR_STAT.BUSY. -/
def PWR_STAT_BUSY : Field := ⟨a_PWR_STAT, 21, 1⟩
/-- Table 18-7: the key of register PWR_RST. -/
def a_PWR_RST : Nat := 0x21008
/-- Table 18-7: PWR_RST.RST. -/
def PWR_RST_RST : Field := ⟨a_PWR_RST, 0, 20⟩
/-- Table 18-8: the key of register PWR_THCFG. -/
def a_PWR_THCFG : Nat := 0x21040
/-- Table 18-8: PWR_THCFG.WARN. -/
def PWR_THCFG_WARN : Field := ⟨a_PWR_THCFG, 0, 8⟩
/-- Table 18-8: PWR_THCFG.THROT. -/
def PWR_THCFG_THROT : Field := ⟨a_PWR_THCFG, 8, 8⟩
/-- Table 18-8: PWR_THCFG.CRIT. -/
def PWR_THCFG_CRIT : Field := ⟨a_PWR_THCFG, 16, 8⟩
/-- Table 18-8: PWR_THCFG.HYST. -/
def PWR_THCFG_HYST : Field := ⟨a_PWR_THCFG, 24, 4⟩
/-- Table 18-8: PWR_THCFG.DUTY. -/
def PWR_THCFG_DUTY : Field := ⟨a_PWR_THCFG, 28, 3⟩
/-- Table 18-8: the key of register PWR_TSENS. -/
def a_PWR_TSENS (i : Nat) : Nat := 0x21100 + 0x4 * i
/-- Table 18-8: PWR_TSENS.TEMP. -/
def PWR_TSENS_TEMP (i : Nat) : Field := ⟨a_PWR_TSENS i, 0, 12⟩
/-- Table 18-8: PWR_TSENS.LEVEL. -/
def PWR_TSENS_LEVEL (i : Nat) : Field := ⟨a_PWR_TSENS i, 12, 2⟩
/-- Table 13-13: the key of register HIF_RBASELO. -/
def a_HIF_RBASELO (i : Nat) : Nat := 0x40000 + 0x20 * i
/-- Table 13-13: HIF_RBASELO.BASE. -/
def HIF_RBASELO_BASE (i : Nat) : Field := ⟨a_HIF_RBASELO i, 12, 20⟩
/-- Table 13-13: the key of register HIF_RBASEHI. -/
def a_HIF_RBASEHI (i : Nat) : Nat := 0x40004 + 0x20 * i
/-- Table 13-13: HIF_RBASEHI.BASE. -/
def HIF_RBASEHI_BASE (i : Nat) : Field := ⟨a_HIF_RBASEHI i, 0, 32⟩
/-- Table 13-13: the key of register HIF_RCFG. -/
def a_HIF_RCFG (i : Nat) : Nat := 0x40008 + 0x20 * i
/-- Table 13-13: HIF_RCFG.TYPE. -/
def HIF_RCFG_TYPE (i : Nat) : Field := ⟨a_HIF_RCFG i, 0, 3⟩
/-- Table 13-13: HIF_RCFG.LOGSZ. -/
def HIF_RCFG_LOGSZ (i : Nat) : Field := ⟨a_HIF_RCFG i, 3, 5⟩
/-- Table 13-13: HIF_RCFG.PEER. -/
def HIF_RCFG_PEER (i : Nat) : Field := ⟨a_HIF_RCFG i, 8, 12⟩
/-- Table 13-13: HIF_RCFG.VECTOR. -/
def HIF_RCFG_VECTOR (i : Nat) : Field := ⟨a_HIF_RCFG i, 20, 8⟩
/-- Table 13-13: HIF_RCFG.IEN. -/
def HIF_RCFG_IEN (i : Nat) : Field := ⟨a_HIF_RCFG i, 28, 1⟩
/-- Table 13-13: HIF_RCFG.EN. -/
def HIF_RCFG_EN (i : Nat) : Field := ⟨a_HIF_RCFG i, 29, 1⟩
/-- Table 13-13: HIF_RCFG.REFUSED. -/
def HIF_RCFG_REFUSED (i : Nat) : Field := ⟨a_HIF_RCFG i, 30, 1⟩
/-- Table 13-13: the key of register HIF_RPROD. -/
def a_HIF_RPROD (i : Nat) : Nat := 0x4000C + 0x20 * i
/-- Table 13-13: HIF_RPROD.P. -/
def HIF_RPROD_P (i : Nat) : Field := ⟨a_HIF_RPROD i, 0, 32⟩
/-- Table 13-13: the key of register HIF_RCONS. -/
def a_HIF_RCONS (i : Nat) : Nat := 0x40010 + 0x20 * i
/-- Table 13-13: HIF_RCONS.C. -/
def HIF_RCONS_C (i : Nat) : Field := ⟨a_HIF_RCONS i, 0, 32⟩
/-- Table 13-13: the key of register HIF_RSTAT. -/
def a_HIF_RSTAT (i : Nat) : Nat := 0x40014 + 0x20 * i
/-- Table 13-13: HIF_RSTAT.IDLE. -/
def HIF_RSTAT_IDLE (i : Nat) : Field := ⟨a_HIF_RSTAT i, 0, 1⟩
/-- Table 13-13: HIF_RSTAT.ERR. -/
def HIF_RSTAT_ERR (i : Nat) : Field := ⟨a_HIF_RSTAT i, 1, 3⟩
/-- Table 13-13: HIF_RSTAT.STOPPED. -/
def HIF_RSTAT_STOPPED (i : Nat) : Field := ⟨a_HIF_RSTAT i, 4, 1⟩
/-- Table 13-13: HIF_RSTAT.RESV. -/
def HIF_RSTAT_RESV (i : Nat) : Field := ⟨a_HIF_RSTAT i, 5, 17⟩
/-- Table 13-13: the key of register HIF_RRSVD. -/
def a_HIF_RRSVD (i : Nat) (j : Nat) : Nat := 0x40018 + 0x20 * i + 0x4 * j
/-- Table 11-2: the key of register BLV_QBASE. -/
def a_BLV_QBASE : Nat := 0x60000
/-- Table 11-2: BLV_QBASE.BASE. -/
def BLV_QBASE_BASE : Field := ⟨a_BLV_QBASE, 0, 19⟩
/-- Table 11-2: the key of register BLV_SBASE. -/
def a_BLV_SBASE : Nat := 0x60004
/-- Table 11-2: BLV_SBASE.BASE. -/
def BLV_SBASE_BASE : Field := ⟨a_BLV_SBASE, 0, 19⟩
/-- Table 11-2: the key of register BLV_DBASE. -/
def a_BLV_DBASE : Nat := 0x60008
/-- Table 11-2: BLV_DBASE.BASE. -/
def BLV_DBASE_BASE : Field := ⟨a_BLV_DBASE, 0, 19⟩
/-- Table 11-2: the key of register BLV_CBASE. -/
def a_BLV_CBASE : Nat := 0x6000C
/-- Table 11-2: BLV_CBASE.BASE. -/
def BLV_CBASE_BASE : Field := ⟨a_BLV_CBASE, 0, 19⟩
/-- Table 11-2: the key of register BLV_RBASE. -/
def a_BLV_RBASE : Nat := 0x60010
/-- Table 11-2: BLV_RBASE.BASE. -/
def BLV_RBASE_BASE : Field := ⟨a_BLV_RBASE, 0, 19⟩
/-- Table 11-2: the key of register BLV_POOLCFG. -/
def a_BLV_POOLCFG : Nat := 0x60014
/-- Table 11-2: BLV_POOLCFG.CELLS. -/
def BLV_POOLCFG_CELLS : Field := ⟨a_BLV_POOLCFG, 0, 25⟩
/-- Table 11-2: BLV_POOLCFG.REBUILD. -/
def BLV_POOLCFG_REBUILD : Field := ⟨a_BLV_POOLCFG, 25, 1⟩
/-- Table 11-2: BLV_POOLCFG.ACT. -/
def BLV_POOLCFG_ACT : Field := ⟨a_BLV_POOLCFG, 26, 1⟩
/-- Table 11-2: BLV_POOLCFG.REFUSED. -/
def BLV_POOLCFG_REFUSED : Field := ⟨a_BLV_POOLCFG, 27, 1⟩
/-- Table 11-11: the key of register BLV_LFREE. -/
def a_BLV_LFREE : Nat := 0x60020
/-- Table 11-11: BLV_LFREE.FREE. -/
def BLV_LFREE_FREE : Field := ⟨a_BLV_LFREE, 0, 25⟩
/-- Table 11-11: the key of register BLV_LQUEUED. -/
def a_BLV_LQUEUED : Nat := 0x60024
/-- Table 11-11: BLV_LQUEUED.QUEUED. -/
def BLV_LQUEUED_QUEUED : Field := ⟨a_BLV_LQUEUED, 0, 25⟩
/-- Table 11-11: the key of register BLV_LRX. -/
def a_BLV_LRX : Nat := 0x60028
/-- Table 11-11: BLV_LRX.RX. -/
def BLV_LRX_RX : Field := ⟨a_BLV_LRX, 0, 25⟩
/-- Table 11-11: the key of register BLV_LRET. -/
def a_BLV_LRET : Nat := 0x6002C
/-- Table 11-11: BLV_LRET.RETAINED. -/
def BLV_LRET_RETAINED : Field := ⟨a_BLV_LRET, 0, 25⟩
/-- Table 11-11: the key of register BLV_LQUAR. -/
def a_BLV_LQUAR : Nat := 0x60030
/-- Table 11-11: BLV_LQUAR.QUAR. -/
def BLV_LQUAR_QUAR : Field := ⟨a_BLV_LQUAR, 0, 25⟩
/-- Table 11-11: the key of register BLV_LSTAT. -/
def a_BLV_LSTAT : Nat := 0x60034
/-- Table 11-11: BLV_LSTAT.RETURN. -/
def BLV_LSTAT_RETURN : Field := ⟨a_BLV_LSTAT, 0, 1⟩
/-- Table 11-11: BLV_LSTAT.FLUSH. -/
def BLV_LSTAT_FLUSH : Field := ⟨a_BLV_LSTAT, 1, 1⟩
/-- Table 11-11: BLV_LSTAT.REBUILD. -/
def BLV_LSTAT_REBUILD : Field := ⟨a_BLV_LSTAT, 2, 1⟩
/-- Table 11-11: BLV_LSTAT.SWEEP. -/
def BLV_LSTAT_SWEEP : Field := ⟨a_BLV_LSTAT, 3, 1⟩
/-- Table 11-11: BLV_LSTAT.LOST. -/
def BLV_LSTAT_LOST : Field := ⟨a_BLV_LSTAT, 4, 1⟩
/-- Table 11-12: the key of register BLV_FLOOR. -/
def a_BLV_FLOOR (i : Nat) : Nat := 0x60040 + 0x4 * i
/-- Table 11-12: BLV_FLOOR.FLOOR. -/
def BLV_FLOOR_FLOOR (i : Nat) : Field := ⟨a_BLV_FLOOR i, 0, 25⟩
/-- Table 11-13: the key of register BLV_DRR0. -/
def a_BLV_DRR0 : Nat := 0x60060
/-- Table 11-13: BLV_DRR0.QUANTUM3. -/
def BLV_DRR0_QUANTUM3 : Field := ⟨a_BLV_DRR0, 0, 8⟩
/-- Table 11-13: BLV_DRR0.QUANTUM4. -/
def BLV_DRR0_QUANTUM4 : Field := ⟨a_BLV_DRR0, 8, 8⟩
/-- Table 11-13: BLV_DRR0.QUANTUM5. -/
def BLV_DRR0_QUANTUM5 : Field := ⟨a_BLV_DRR0, 16, 8⟩
/-- Table 11-13: BLV_DRR0.QUANTUM6. -/
def BLV_DRR0_QUANTUM6 : Field := ⟨a_BLV_DRR0, 24, 8⟩
/-- Table 11-13: the key of register BLV_DRR1. -/
def a_BLV_DRR1 : Nat := 0x60064
/-- Table 11-13: BLV_DRR1.QUANTUM7. -/
def BLV_DRR1_QUANTUM7 : Field := ⟨a_BLV_DRR1, 0, 8⟩
/-- Table 11-14: the key of register BLV_NOCELL. -/
def a_BLV_NOCELL : Nat := 0x60070
/-- Table 11-14: BLV_NOCELL.TX. -/
def BLV_NOCELL_TX : Field := ⟨a_BLV_NOCELL, 0, 16⟩
/-- Table 11-14: BLV_NOCELL.RX. -/
def BLV_NOCELL_RX : Field := ⟨a_BLV_NOCELL, 16, 16⟩
/-- Table 11-14: the key of register BLV_QUARCNT. -/
def a_BLV_QUARCNT : Nat := 0x60074
/-- Table 11-14: BLV_QUARCNT.QUEUES. -/
def BLV_QUARCNT_QUEUES : Field := ⟨a_BLV_QUARCNT, 0, 12⟩
/-- Table 11-14: BLV_QUARCNT.SESSIONS. -/
def BLV_QUARCNT_SESSIONS : Field := ⟨a_BLV_QUARCNT, 12, 12⟩
/-- Table 11-14: BLV_QUARCNT.PAGES. -/
def BLV_QUARCNT_PAGES : Field := ⟨a_BLV_QUARCNT, 24, 8⟩
/-- Table 11-14: the key of register BLV_DROP. -/
def a_BLV_DROP : Nat := 0x60078
/-- Table 11-14: BLV_DROP.QUARDROP. -/
def BLV_DROP_QUARDROP : Field := ⟨a_BLV_DROP, 0, 16⟩
/-- Table 11-14: BLV_DROP.DIRMISS. -/
def BLV_DROP_DIRMISS : Field := ⟨a_BLV_DROP, 16, 16⟩
/-- Table 11-15: the key of register BLV_BCQ. -/
def a_BLV_BCQ (i : Nat) : Nat := 0x60080 + 0x4 * i
/-- Table 11-15: BLV_BCQ.QUEUE. -/
def BLV_BCQ_QUEUE (i : Nat) : Field := ⟨a_BLV_BCQ i, 0, 20⟩
/-- Table 11-15: BLV_BCQ.EN. -/
def BLV_BCQ_EN (i : Nat) : Field := ⟨a_BLV_BCQ i, 20, 1⟩
/-- Table 11-16: the key of register BLV_OBJCMD. -/
def a_BLV_OBJCMD : Nat := 0x60100
/-- Table 11-16: BLV_OBJCMD.OP. -/
def BLV_OBJCMD_OP : Field := ⟨a_BLV_OBJCMD, 0, 3⟩
/-- Table 11-16: BLV_OBJCMD.TYPE. -/
def BLV_OBJCMD_TYPE : Field := ⟨a_BLV_OBJCMD, 3, 2⟩
/-- Table 11-16: BLV_OBJCMD.INDEX. -/
def BLV_OBJCMD_INDEX : Field := ⟨a_BLV_OBJCMD, 5, 25⟩
/-- Table 11-16: the key of register BLV_OBJSTAT. -/
def a_BLV_OBJSTAT : Nat := 0x60104
/-- Table 11-16: BLV_OBJSTAT.BUSY. -/
def BLV_OBJSTAT_BUSY : Field := ⟨a_BLV_OBJSTAT, 0, 1⟩
/-- Table 11-16: BLV_OBJSTAT.RESULT. -/
def BLV_OBJSTAT_RESULT : Field := ⟨a_BLV_OBJSTAT, 1, 3⟩
/-- Table 11-16: BLV_OBJSTAT.QUAR. -/
def BLV_OBJSTAT_QUAR : Field := ⟨a_BLV_OBJSTAT, 4, 1⟩
/-- Table 11-16: the key of register BLV_OBJDATA. -/
def a_BLV_OBJDATA (i : Nat) : Nat := 0x60140 + 0x4 * i
/-- Table 11-16: BLV_OBJDATA.DATA. -/
def BLV_OBJDATA_DATA (i : Nat) : Field := ⟨a_BLV_OBJDATA i, 0, 32⟩
/-- Table 11-4: the key of register BLV_SHAPE0. -/
def a_BLV_SHAPE0 (i : Nat) : Nat := 0x60408 + 0x8 * i
/-- Table 11-4: BLV_SHAPE0.RATE. -/
def BLV_SHAPE0_RATE (i : Nat) : Field := ⟨a_BLV_SHAPE0 i, 0, 24⟩
/-- Table 11-4: the key of register BLV_SHAPE1. -/
def a_BLV_SHAPE1 (i : Nat) : Nat := 0x6040C + 0x8 * i
/-- Table 11-4: BLV_SHAPE1.BURST. -/
def BLV_SHAPE1_BURST (i : Nat) : Field := ⟨a_BLV_SHAPE1 i, 0, 24⟩
/-- Table 12-4: the key of register ARC_CFG. -/
def a_ARC_CFG (i : Nat) : Nat := 0x70000 + 0x10 * i
/-- Table 12-4: ARC_CFG.MAXPKT. -/
def ARC_CFG_MAXPKT (i : Nat) : Field := ⟨a_ARC_CFG i, 0, 10⟩
/-- Table 12-4: ARC_CFG.LEVEL. -/
def ARC_CFG_LEVEL (i : Nat) : Field := ⟨a_ARC_CFG i, 16, 11⟩
/-- Table 12-4: ARC_CFG.FLUSH. -/
def ARC_CFG_FLUSH (i : Nat) : Field := ⟨a_ARC_CFG i, 31, 1⟩
/-- Table 12-5: the key of register ARC_STAT. -/
def a_ARC_STAT (i : Nat) : Nat := 0x70004 + 0x10 * i
/-- Table 12-5: ARC_STAT.FILL. -/
def ARC_STAT_FILL (i : Nat) : Field := ⟨a_ARC_STAT i, 0, 11⟩
/-- Table 12-5: ARC_STAT.WHOLD. -/
def ARC_STAT_WHOLD (i : Nat) : Field := ⟨a_ARC_STAT i, 11, 1⟩
/-- Table 12-5: ARC_STAT.WOPEN. -/
def ARC_STAT_WOPEN (i : Nat) : Field := ⟨a_ARC_STAT i, 12, 1⟩
/-- Table 12-5: ARC_STAT.WBANK. -/
def ARC_STAT_WBANK (i : Nat) : Field := ⟨a_ARC_STAT i, 13, 1⟩
/-- Table 12-5: ARC_STAT.WIDX. -/
def ARC_STAT_WIDX (i : Nat) : Field := ⟨a_ARC_STAT i, 16, 9⟩
/-- Table 12-6: the key of register ARC_CNT. -/
def a_ARC_CNT (i : Nat) : Nat := 0x70008 + 0x10 * i
/-- Table 12-6: ARC_CNT.COMMIT. -/
def ARC_CNT_COMMIT (i : Nat) : Field := ⟨a_ARC_CNT i, 0, 16⟩
/-- Table 12-6: ARC_CNT.REWIND. -/
def ARC_CNT_REWIND (i : Nat) : Field := ⟨a_ARC_CNT i, 16, 16⟩
/-- Table 12-6: the key of register ARC_ERR. -/
def a_ARC_ERR (i : Nat) : Nat := 0x7000C + 0x10 * i
/-- Table 12-6: ARC_ERR.OVERSIZE. -/
def ARC_ERR_OVERSIZE (i : Nat) : Field := ⟨a_ARC_ERR i, 0, 8⟩
/-- Table 12-6: ARC_ERR.MISMATCH. -/
def ARC_ERR_MISMATCH (i : Nat) : Field := ⟨a_ARC_ERR i, 8, 8⟩
/-- Table 12-6: ARC_ERR.LOST. -/
def ARC_ERR_LOST (i : Nat) : Field := ⟨a_ARC_ERR i, 16, 16⟩
/-- Table 15-8: the key of register MEM_CFG. -/
def a_MEM_CFG : Nat := 0x80000
/-- Table 15-8: MEM_CFG.CH. -/
def MEM_CFG_CH : Field := ⟨a_MEM_CFG, 0, 2⟩
/-- Table 15-8: MEM_CFG.RANKS. -/
def MEM_CFG_RANKS : Field := ⟨a_MEM_CFG, 2, 2⟩
/-- Table 15-8: MEM_CFG.CAP. -/
def MEM_CFG_CAP : Field := ⟨a_MEM_CFG, 4, 6⟩
/-- Table 15-8: the key of register MEM_SWPCFG. -/
def a_MEM_SWPCFG : Nat := 0x80010
/-- Table 15-8: MEM_SWPCFG.PERIOD. -/
def MEM_SWPCFG_PERIOD : Field := ⟨a_MEM_SWPCFG, 0, 16⟩
/-- Table 15-8: MEM_SWPCFG.DRAM_EN. -/
def MEM_SWPCFG_DRAM_EN : Field := ⟨a_MEM_SWPCFG, 16, 1⟩
/-- Table 15-8: MEM_SWPCFG.SRAM_EN. -/
def MEM_SWPCFG_SRAM_EN : Field := ⟨a_MEM_SWPCFG, 17, 1⟩
/-- Table 15-8: the key of register MEM_SWPSTAT. -/
def a_MEM_SWPSTAT : Nat := 0x80014
/-- Table 15-8: MEM_SWPSTAT.DPASS. -/
def MEM_SWPSTAT_DPASS : Field := ⟨a_MEM_SWPSTAT, 0, 16⟩
/-- Table 15-8: MEM_SWPSTAT.SPASS. -/
def MEM_SWPSTAT_SPASS : Field := ⟨a_MEM_SWPSTAT, 16, 8⟩
/-- Table 15-8: MEM_SWPSTAT.LATE. -/
def MEM_SWPSTAT_LATE : Field := ⟨a_MEM_SWPSTAT, 24, 1⟩
/-- Table 15-9: the key of register MEM_BKTCFG. -/
def a_MEM_BKTCFG : Nat := 0x80020
/-- Table 15-9: MEM_BKTCFG.TH. -/
def MEM_BKTCFG_TH : Field := ⟨a_MEM_BKTCFG, 0, 16⟩
/-- Table 15-9: MEM_BKTCFG.LEAK. -/
def MEM_BKTCFG_LEAK : Field := ⟨a_MEM_BKTCFG, 16, 16⟩
/-- Table 15-9: the key of register MEM_BKTCFG2. -/
def a_MEM_BKTCFG2 : Nat := 0x80024
/-- Table 15-9: MEM_BKTCFG2.TH. -/
def MEM_BKTCFG2_TH : Field := ⟨a_MEM_BKTCFG2, 0, 16⟩
/-- Table 15-9: MEM_BKTCFG2.LEAK. -/
def MEM_BKTCFG2_LEAK : Field := ⟨a_MEM_BKTCFG2, 16, 16⟩
/-- Table 15-9: the key of register MEM_MARKCFG. -/
def a_MEM_MARKCFG : Nat := 0x80028
/-- Table 15-9: MEM_MARKCFG.MARK_TH. -/
def MEM_MARKCFG_MARK_TH : Field := ⟨a_MEM_MARKCFG, 0, 16⟩
/-- Table 15-9: the key of register MEM_DBKT. -/
def a_MEM_DBKT (i : Nat) : Nat := 0x80030 + 0x4 * i
/-- Table 15-9: MEM_DBKT.COUNT. -/
def MEM_DBKT_COUNT (i : Nat) : Field := ⟨a_MEM_DBKT i, 0, 16⟩
/-- Table 15-9: MEM_DBKT.TOTAL. -/
def MEM_DBKT_TOTAL (i : Nat) : Field := ⟨a_MEM_DBKT i, 16, 16⟩
/-- Table 15-9: the key of register MEM_MARK. -/
def a_MEM_MARK (i : Nat) : Nat := 0x80040 + 0x4 * i
/-- Table 15-9: MEM_MARK.CHIP0. -/
def MEM_MARK_CHIP0 (i : Nat) : Field := ⟨a_MEM_MARK i, 0, 4⟩
/-- Table 15-9: MEM_MARK.MV0. -/
def MEM_MARK_MV0 (i : Nat) : Field := ⟨a_MEM_MARK i, 4, 1⟩
/-- Table 15-9: MEM_MARK.CHIP1. -/
def MEM_MARK_CHIP1 (i : Nat) : Field := ⟨a_MEM_MARK i, 8, 4⟩
/-- Table 15-9: MEM_MARK.MV1. -/
def MEM_MARK_MV1 (i : Nat) : Field := ⟨a_MEM_MARK i, 12, 1⟩
/-- Table 15-9: MEM_MARK.MARKHITS. -/
def MEM_MARK_MARKHITS (i : Nat) : Field := ⟨a_MEM_MARK i, 16, 16⟩
/-- Table 15-10: the key of register MEM_UELOG0. -/
def a_MEM_UELOG0 (i : Nat) : Nat := 0x80100 + 0x8 * i
/-- Table 15-10: MEM_UELOG0.WHERE. -/
def MEM_UELOG0_WHERE (i : Nat) : Field := ⟨a_MEM_UELOG0 i, 0, 29⟩
/-- Table 15-10: the key of register MEM_UELOG1. -/
def a_MEM_UELOG1 (i : Nat) : Nat := 0x80104 + 0x8 * i
/-- Table 15-10: MEM_UELOG1.REQ. -/
def MEM_UELOG1_REQ (i : Nat) : Field := ⟨a_MEM_UELOG1 i, 0, 4⟩
/-- Table 15-10: MEM_UELOG1.KIND. -/
def MEM_UELOG1_KIND (i : Nat) : Field := ⟨a_MEM_UELOG1 i, 4, 2⟩
/-- Table 15-10: MEM_UELOG1.VALID. -/
def MEM_UELOG1_VALID (i : Nat) : Field := ⟨a_MEM_UELOG1 i, 6, 1⟩
/-- Table 15-10: the key of register MEM_UESTAT. -/
def a_MEM_UESTAT : Nat := 0x80180
/-- Table 15-10: MEM_UESTAT.NEXT. -/
def MEM_UESTAT_NEXT : Field := ⟨a_MEM_UESTAT, 0, 4⟩
/-- Table 15-10: MEM_UESTAT.COUNT. -/
def MEM_UESTAT_COUNT : Field := ⟨a_MEM_UESTAT, 8, 8⟩
/-- Table 15-10: the key of register MEM_REPLOG0. -/
def a_MEM_REPLOG0 (i : Nat) : Nat := 0x80200 + 0x8 * i
/-- Table 15-10: MEM_REPLOG0.RANK. -/
def MEM_REPLOG0_RANK (i : Nat) : Field := ⟨a_MEM_REPLOG0 i, 0, 2⟩
/-- Table 15-10: MEM_REPLOG0.SUBCH. -/
def MEM_REPLOG0_SUBCH (i : Nat) : Field := ⟨a_MEM_REPLOG0 i, 2, 1⟩
/-- Table 15-10: MEM_REPLOG0.DEV. -/
def MEM_REPLOG0_DEV (i : Nat) : Field := ⟨a_MEM_REPLOG0 i, 3, 4⟩
/-- Table 15-10: MEM_REPLOG0.BG. -/
def MEM_REPLOG0_BG (i : Nat) : Field := ⟨a_MEM_REPLOG0 i, 7, 3⟩
/-- Table 15-10: MEM_REPLOG0.BANK. -/
def MEM_REPLOG0_BANK (i : Nat) : Field := ⟨a_MEM_REPLOG0 i, 10, 2⟩
/-- Table 15-10: MEM_REPLOG0.ROW. -/
def MEM_REPLOG0_ROW (i : Nat) : Field := ⟨a_MEM_REPLOG0 i, 12, 14⟩
/-- Table 15-10: the key of register MEM_REPLOG1. -/
def a_MEM_REPLOG1 (i : Nat) : Nat := 0x80204 + 0x8 * i
/-- Table 15-10: MEM_REPLOG1.VALID. -/
def MEM_REPLOG1_VALID (i : Nat) : Field := ⟨a_MEM_REPLOG1 i, 0, 1⟩
/-- Table 15-10: MEM_REPLOG1.DONE. -/
def MEM_REPLOG1_DONE (i : Nat) : Field := ⟨a_MEM_REPLOG1 i, 1, 1⟩
/-- Table 15-10: MEM_REPLOG1.FAILED. -/
def MEM_REPLOG1_FAILED (i : Nat) : Field := ⟨a_MEM_REPLOG1 i, 2, 1⟩
/-- Table 15-11: the key of register MEM_DBGCTL. -/
def a_MEM_DBGCTL : Nat := 0x80280
/-- Table 15-11: MEM_DBGCTL.PAGE. -/
def MEM_DBGCTL_PAGE : Field := ⟨a_MEM_DBGCTL, 0, 23⟩
/-- Table 15-11: MEM_DBGCTL.EN. -/
def MEM_DBGCTL_EN : Field := ⟨a_MEM_DBGCTL, 23, 1⟩
/-- Table 15-11: the key of register MEM_DBGSTAT. -/
def a_MEM_DBGSTAT : Nat := 0x80284
/-- Table 15-11: MEM_DBGSTAT.WERR. -/
def MEM_DBGSTAT_WERR : Field := ⟨a_MEM_DBGSTAT, 0, 1⟩
/-- Table 15-11: the key of register MEM_DIAGCMD. -/
def a_MEM_DIAGCMD : Nat := 0x80300
/-- Table 15-11: MEM_DIAGCMD.OP. -/
def MEM_DIAGCMD_OP : Field := ⟨a_MEM_DIAGCMD, 0, 2⟩
/-- Table 15-11: MEM_DIAGCMD.TARGET. -/
def MEM_DIAGCMD_TARGET : Field := ⟨a_MEM_DIAGCMD, 2, 1⟩
/-- Table 15-11: the key of register MEM_DIAGADDR. -/
def a_MEM_DIAGADDR : Nat := 0x80304
/-- Table 15-11: MEM_DIAGADDR.WHERE. -/
def MEM_DIAGADDR_WHERE : Field := ⟨a_MEM_DIAGADDR, 0, 29⟩
/-- Table 15-11: the key of register MEM_DIAGSTAT. -/
def a_MEM_DIAGSTAT : Nat := 0x80308
/-- Table 15-11: MEM_DIAGSTAT.BUSY. -/
def MEM_DIAGSTAT_BUSY : Field := ⟨a_MEM_DIAGSTAT, 0, 1⟩
/-- Table 15-11: MEM_DIAGSTAT.RESULT. -/
def MEM_DIAGSTAT_RESULT : Field := ⟨a_MEM_DIAGSTAT, 1, 2⟩
/-- Table 15-11: the key of register MEM_DIAGDATA. -/
def a_MEM_DIAGDATA (i : Nat) : Nat := 0x80340 + 0x4 * i
/-- Table 15-11: MEM_DIAGDATA.DATA. -/
def MEM_DIAGDATA_DATA (i : Nat) : Field := ⟨a_MEM_DIAGDATA i, 0, 32⟩
/-- Table 15-11: the key of register MEM_DIAGCHK. -/
def a_MEM_DIAGCHK (i : Nat) : Nat := 0x80380 + 0x4 * i
/-- Table 15-11: MEM_DIAGCHK.CHK. -/
def MEM_DIAGCHK_CHK (i : Nat) : Field := ⟨a_MEM_DIAGCHK i, 0, 32⟩
/-- Table 15-9: the key of register MEM_SBKT. -/
def a_MEM_SBKT (i : Nat) : Nat := 0x80400 + 0x4 * i
/-- Table 15-9: MEM_SBKT.COUNT. -/
def MEM_SBKT_COUNT (i : Nat) : Field := ⟨a_MEM_SBKT i, 0, 16⟩
/-- Table 15-9: MEM_SBKT.TOTAL. -/
def MEM_SBKT_TOTAL (i : Nat) : Field := ⟨a_MEM_SBKT i, 16, 16⟩
/-- Table 14-8: the key of register CPH_CFG. -/
def a_CPH_CFG : Nat := 0x90000
/-- Table 14-8: CPH_CFG.HEADROOM. -/
def CPH_CFG_HEADROOM : Field := ⟨a_CPH_CFG, 0, 5⟩
/-- Table 14-8: CPH_CFG.EXH_TO. -/
def CPH_CFG_EXH_TO : Field := ⟨a_CPH_CFG, 8, 8⟩
/-- Table 14-8: CPH_CFG.PRE_WAIT. -/
def CPH_CFG_PRE_WAIT : Field := ⟨a_CPH_CFG, 16, 8⟩
/-- Table 14-9: the key of register CPH_STAT. -/
def a_CPH_STAT : Nat := 0x90004
/-- Table 14-9: CPH_STAT.BUSY. -/
def CPH_STAT_BUSY : Field := ⟨a_CPH_STAT, 0, 4⟩
/-- Table 14-9: CPH_STAT.CTX. -/
def CPH_STAT_CTX : Field := ⟨a_CPH_STAT, 4, 6⟩
/-- Table 14-9: CPH_STAT.WAIT. -/
def CPH_STAT_WAIT : Field := ⟨a_CPH_STAT, 10, 7⟩
/-- Table 14-9: CPH_STAT.RNG_FAIL. -/
def CPH_STAT_RNG_FAIL : Field := ⟨a_CPH_STAT, 17, 1⟩
/-- Table 14-9: the key of register CPH_CNT0. -/
def a_CPH_CNT0 : Nat := 0x90008
/-- Table 14-9: CPH_CNT0.AUTHFAIL. -/
def CPH_CNT0_AUTHFAIL : Field := ⟨a_CPH_CNT0, 0, 16⟩
/-- Table 14-9: CPH_CNT0.UNWRAP. -/
def CPH_CNT0_UNWRAP : Field := ⟨a_CPH_CNT0, 16, 16⟩
/-- Table 14-9: the key of register CPH_CNT1. -/
def a_CPH_CNT1 : Nat := 0x9000C
/-- Table 14-9: CPH_CNT1.PREEMPT. -/
def CPH_CNT1_PREEMPT : Field := ⟨a_CPH_CNT1, 0, 16⟩
/-- Table 14-9: CPH_CNT1.CTXFAIL. -/
def CPH_CNT1_CTXFAIL : Field := ⟨a_CPH_CNT1, 16, 16⟩
/-- Table 14-10: the key of register KEY_VCNT0. -/
def a_KEY_VCNT0 : Nat := 0x90100
/-- Table 14-10: KEY_VCNT0.EMPTY. -/
def KEY_VCNT0_EMPTY : Field := ⟨a_KEY_VCNT0, 0, 9⟩
/-- Table 14-10: KEY_VCNT0.OTP. -/
def KEY_VCNT0_OTP : Field := ⟨a_KEY_VCNT0, 16, 9⟩
/-- Table 14-10: the key of register KEY_VCNT1. -/
def a_KEY_VCNT1 : Nat := 0x90104
/-- Table 14-10: KEY_VCNT1.PROV. -/
def KEY_VCNT1_PROV : Field := ⟨a_KEY_VCNT1, 0, 9⟩
/-- Table 14-10: KEY_VCNT1.EPH. -/
def KEY_VCNT1_EPH : Field := ⟨a_KEY_VCNT1, 16, 9⟩
/-- Table 14-10: the key of register KEY_KCCNT. -/
def a_KEY_KCCNT : Nat := 0x90108
/-- Table 14-10: KEY_KCCNT.VALID. -/
def KEY_KCCNT_VALID : Field := ⟨a_KEY_KCCNT, 0, 9⟩
/-- Table 14-11: the key of register KEY_CMD. -/
def a_KEY_CMD : Nat := 0x90200
/-- Table 14-11: KEY_CMD.OP. -/
def KEY_CMD_OP : Field := ⟨a_KEY_CMD, 0, 3⟩
/-- Table 14-11: KEY_CMD.SLOT. -/
def KEY_CMD_SLOT : Field := ⟨a_KEY_CMD, 4, 8⟩
/-- Table 14-11: KEY_CMD.KEK. -/
def KEY_CMD_KEK : Field := ⟨a_KEY_CMD, 12, 8⟩
/-- Table 14-11: KEY_CMD.USAGE. -/
def KEY_CMD_USAGE : Field := ⟨a_KEY_CMD, 20, 4⟩
/-- Table 14-11: KEY_CMD.SIZE. -/
def KEY_CMD_SIZE : Field := ⟨a_KEY_CMD, 24, 2⟩
/-- Table 14-11: the key of register KEY_CMDSTAT. -/
def a_KEY_CMDSTAT : Nat := 0x90204
/-- Table 14-11: KEY_CMDSTAT.BUSY. -/
def KEY_CMDSTAT_BUSY : Field := ⟨a_KEY_CMDSTAT, 0, 1⟩
/-- Table 14-11: KEY_CMDSTAT.RESULT. -/
def KEY_CMDSTAT_RESULT : Field := ⟨a_KEY_CMDSTAT, 1, 3⟩
/-- Table 14-11: the key of register KEY_DIN. -/
def a_KEY_DIN (i : Nat) : Nat := 0x90240 + 0x4 * i
/-- Table 14-11: KEY_DIN.DATA. -/
def KEY_DIN_DATA (i : Nat) : Field := ⟨a_KEY_DIN i, 0, 32⟩
/-- Table 14-11: the key of register KEY_DOUT. -/
def a_KEY_DOUT (i : Nat) : Nat := 0x90290 + 0x4 * i
/-- Table 14-11: KEY_DOUT.DATA. -/
def KEY_DOUT_DATA (i : Nat) : Field := ⟨a_KEY_DOUT i, 0, 32⟩
/-- Table 14-10: the key of register KEY_SLOT. -/
def a_KEY_SLOT (i : Nat) : Nat := 0x91000 + 0x4 * i
/-- Table 14-10: KEY_SLOT.STATE. -/
def KEY_SLOT_STATE (i : Nat) : Field := ⟨a_KEY_SLOT i, 0, 2⟩
/-- Table 14-10: KEY_SLOT.USAGE. -/
def KEY_SLOT_USAGE (i : Nat) : Field := ⟨a_KEY_SLOT i, 2, 4⟩
/-- Table 14-10: KEY_SLOT.SIZE. -/
def KEY_SLOT_SIZE (i : Nat) : Field := ⟨a_KEY_SLOT i, 6, 2⟩
/-- Table 14-10: KEY_SLOT.REFCNT. -/
def KEY_SLOT_REFCNT (i : Nat) : Field := ⟨a_KEY_SLOT i, 8, 10⟩
/-- Table 16-6: the key of register TIM_TB_LOW. -/
def a_TIM_TB_LOW (i : Nat) : Nat := 0xA0000 + 0x10 * i
/-- Table 16-6: TIM_TB_LOW.LOW. -/
def TIM_TB_LOW_LOW (i : Nat) : Field := ⟨a_TIM_TB_LOW i, 0, 32⟩
/-- Table 16-6: the key of register TIM_TB_NS. -/
def a_TIM_TB_NS (i : Nat) : Nat := 0xA0004 + 0x10 * i
/-- Table 16-6: TIM_TB_NS.NS. -/
def TIM_TB_NS_NS (i : Nat) : Field := ⟨a_TIM_TB_NS i, 0, 32⟩
/-- Table 16-6: the key of register TIM_TB_SLO. -/
def a_TIM_TB_SLO (i : Nat) : Nat := 0xA0008 + 0x10 * i
/-- Table 16-6: TIM_TB_SLO.S_LO. -/
def TIM_TB_SLO_S_LO (i : Nat) : Field := ⟨a_TIM_TB_SLO i, 0, 32⟩
/-- Table 16-6: the key of register TIM_TB_SHI. -/
def a_TIM_TB_SHI (i : Nat) : Nat := 0xA000C + 0x10 * i
/-- Table 16-6: TIM_TB_SHI.S_HI. -/
def TIM_TB_SHI_S_HI (i : Nat) : Field := ⟨a_TIM_TB_SHI i, 0, 32⟩
/-- Table 16-7: the key of register TIM_TBSTAT. -/
def a_TIM_TBSTAT (i : Nat) : Nat := 0xA0040 + 0x4 * i
/-- Table 16-7: TIM_TBSTAT.VALID. -/
def TIM_TBSTAT_VALID (i : Nat) : Field := ⟨a_TIM_TBSTAT i, 0, 1⟩
/-- Table 16-7: TIM_TBSTAT.HOLD. -/
def TIM_TBSTAT_HOLD (i : Nat) : Field := ⟨a_TIM_TBSTAT i, 1, 1⟩
/-- Table 16-7: TIM_TBSTAT.SLEWING. -/
def TIM_TBSTAT_SLEWING (i : Nat) : Field := ⟨a_TIM_TBSTAT i, 2, 1⟩
/-- Table 16-7: TIM_TBSTAT.EPOCH. -/
def TIM_TBSTAT_EPOCH (i : Nat) : Field := ⟨a_TIM_TBSTAT i, 4, 4⟩
/-- Table 16-7: TIM_TBSTAT.JUMPCNT. -/
def TIM_TBSTAT_JUMPCNT (i : Nat) : Field := ⟨a_TIM_TBSTAT i, 8, 8⟩
/-- Table 16-7: TIM_TBSTAT.REBASE. -/
def TIM_TBSTAT_REBASE (i : Nat) : Field := ⟨a_TIM_TBSTAT i, 16, 1⟩
/-- Table 16-7: the key of register TIM_TBFREQ. -/
def a_TIM_TBFREQ (i : Nat) : Nat := 0xA0048 + 0x4 * i
/-- Table 16-7: TIM_TBFREQ.FREQ. -/
def TIM_TBFREQ_FREQ (i : Nat) : Field := ⟨a_TIM_TBFREQ i, 0, 32⟩
/-- Table 16-7: the key of register TIM_TBPEND. -/
def a_TIM_TBPEND (i : Nat) : Nat := 0xA0050 + 0x4 * i
/-- Table 16-7: TIM_TBPEND.PEND. -/
def TIM_TBPEND_PEND (i : Nat) : Field := ⟨a_TIM_TBPEND i, 0, 32⟩
/-- Table 16-7: the key of register TIM_PTOFS. -/
def a_TIM_PTOFS : Nat := 0xA0058
/-- Table 16-7: TIM_PTOFS.PTOFS. -/
def TIM_PTOFS_PTOFS : Field := ⟨a_TIM_PTOFS, 0, 32⟩
/-- Table 16-8: the key of register TIM_CFG. -/
def a_TIM_CFG : Nat := 0xA0060
/-- Table 16-8: TIM_CFG.JUMP_TH. -/
def TIM_CFG_JUMP_TH : Field := ⟨a_TIM_CFG, 0, 16⟩
/-- Table 16-8: TIM_CFG.SLEWMAX. -/
def TIM_CFG_SLEWMAX : Field := ⟨a_TIM_CFG, 16, 7⟩
/-- Table 16-8: TIM_CFG.TB0_TO. -/
def TIM_CFG_TB0_TO : Field := ⟨a_TIM_CFG, 24, 8⟩
/-- Table 16-8: the key of register TIM_TB1CFG. -/
def a_TIM_TB1CFG : Nat := 0xA0064
/-- Table 16-8: TIM_TB1CFG.SRC. -/
def TIM_TB1CFG_SRC : Field := ⟨a_TIM_TB1CFG, 0, 1⟩
/-- Table 16-8: TIM_TB1CFG.FGAIN. -/
def TIM_TB1CFG_FGAIN : Field := ⟨a_TIM_TB1CFG, 1, 3⟩
/-- Table 16-8: TIM_TB1CFG.RNG_INT. -/
def TIM_TB1CFG_RNG_INT : Field := ⟨a_TIM_TB1CFG, 4, 8⟩
/-- Table 16-8: TIM_TB1CFG.RNG_AVG. -/
def TIM_TB1CFG_RNG_AVG : Field := ⟨a_TIM_TB1CFG, 12, 3⟩
/-- Table 16-8: TIM_TB1CFG.GCLASS. -/
def TIM_TB1CFG_GCLASS : Field := ⟨a_TIM_TB1CFG, 16, 8⟩
/-- Table 16-8: the key of register TIM_HOP. -/
def a_TIM_HOP : Nat := 0xA0068
/-- Table 16-8: TIM_HOP.HOPDLY. -/
def TIM_HOP_HOPDLY : Field := ⟨a_TIM_HOP, 0, 31⟩
/-- Table 16-8: TIM_HOP.VALID. -/
def TIM_HOP_VALID : Field := ⟨a_TIM_HOP, 31, 1⟩
/-- Table 16-8: the key of register TIM_TIMEQ. -/
def a_TIM_TIMEQ : Nat := 0xA006C
/-- Table 16-8: TIM_TIMEQ.TIMEQ. -/
def TIM_TIMEQ_TIMEQ : Field := ⟨a_TIM_TIMEQ, 0, 32⟩
/-- Table 16-9: the key of register TIM_TB0CMD. -/
def a_TIM_TB0CMD : Nat := 0xA0070
/-- Table 16-9: TIM_TB0CMD.OP. -/
def TIM_TB0CMD_OP : Field := ⟨a_TIM_TB0CMD, 0, 2⟩
/-- Table 16-9: TIM_TB0CMD.OFS_EN. -/
def TIM_TB0CMD_OFS_EN : Field := ⟨a_TIM_TB0CMD, 2, 1⟩
/-- Table 16-9: TIM_TB0CMD.FREQ_EN. -/
def TIM_TB0CMD_FREQ_EN : Field := ⟨a_TIM_TB0CMD, 3, 1⟩
/-- Table 16-9: TIM_TB0CMD.RESULT. -/
def TIM_TB0CMD_RESULT : Field := ⟨a_TIM_TB0CMD, 4, 2⟩
/-- Table 16-9: the key of register TIM_TB0ARG. -/
def a_TIM_TB0ARG (i : Nat) : Nat := 0xA0080 + 0x4 * i
/-- Table 16-9: TIM_TB0ARG.ARG. -/
def TIM_TB0ARG_ARG (i : Nat) : Field := ⟨a_TIM_TB0ARG i, 0, 32⟩
/-- Table 16-9: the key of register TIM_TB0REF. -/
def a_TIM_TB0REF (i : Nat) : Nat := 0xA0090 + 0x4 * i
/-- Table 16-9: TIM_TB0REF.TICK. -/
def TIM_TB0REF_TICK (i : Nat) : Field := ⟨a_TIM_TB0REF i, 0, 32⟩
/-- Table 16-10: the key of register TIM_TB3PH. -/
def a_TIM_TB3PH : Nat := 0xA00A0
/-- Table 16-10: TIM_TB3PH.PHASE. -/
def TIM_TB3PH_PHASE : Field := ⟨a_TIM_TB3PH, 0, 32⟩
/-- Table 16-10: the key of register TIM_TB3CYC. -/
def a_TIM_TB3CYC (i : Nat) : Nat := 0xA00A4 + 0x4 * i
/-- Table 16-10: TIM_TB3CYC.CYC. -/
def TIM_TB3CYC_CYC (i : Nat) : Field := ⟨a_TIM_TB3CYC i, 0, 32⟩
/-- Table 16-10: the key of register TIM_TB3STAT. -/
def a_TIM_TB3STAT : Nat := 0xA00AC
/-- Table 16-10: TIM_TB3STAT.VALID. -/
def TIM_TB3STAT_VALID : Field := ⟨a_TIM_TB3STAT, 0, 1⟩
/-- Table 16-10: TIM_TB3STAT.HOLD. -/
def TIM_TB3STAT_HOLD : Field := ⟨a_TIM_TB3STAT, 1, 1⟩
/-- Table 16-10: the key of register TIM_PLL. -/
def a_TIM_PLL : Nat := 0xA00B0
/-- Table 16-10: TIM_PLL.SRC. -/
def TIM_PLL_SRC : Field := ⟨a_TIM_PLL, 0, 2⟩
/-- Table 16-10: TIM_PLL.TRIM. -/
def TIM_PLL_TRIM : Field := ⟨a_TIM_PLL, 8, 24⟩
/-- Table 16-10: the key of register TIM_PPSCFG. -/
def a_TIM_PPSCFG : Nat := 0xA00C0
/-- Table 16-10: TIM_PPSCFG.EN. -/
def TIM_PPSCFG_EN : Field := ⟨a_TIM_PPSCFG, 0, 1⟩
/-- Table 16-10: TIM_PPSCFG.BASE. -/
def TIM_PPSCFG_BASE : Field := ⟨a_TIM_PPSCFG, 1, 2⟩
/-- Table 16-10: TIM_PPSCFG.WIDTH. -/
def TIM_PPSCFG_WIDTH : Field := ⟨a_TIM_PPSCFG, 3, 8⟩
/-- Table 16-10: TIM_PPSCFG.DLY. -/
def TIM_PPSCFG_DLY : Field := ⟨a_TIM_PPSCFG, 16, 16⟩
/-- Table 16-10: the key of register TIM_PPSIN0. -/
def a_TIM_PPSIN0 (i : Nat) : Nat := 0xA00D0 + 0x4 * i
/-- Table 16-10: TIM_PPSIN0.TS. -/
def TIM_PPSIN0_TS (i : Nat) : Field := ⟨a_TIM_PPSIN0 i, 0, 32⟩
/-- Table 16-10: the key of register TIM_PPSIN2. -/
def a_TIM_PPSIN2 (i : Nat) : Nat := 0xA00E0 + 0x4 * i
/-- Table 16-10: TIM_PPSIN2.TS. -/
def TIM_PPSIN2_TS (i : Nat) : Field := ⟨a_TIM_PPSIN2 i, 0, 32⟩
/-- Table 16-10: the key of register TIM_SYNCCFG. -/
def a_TIM_SYNCCFG : Nat := 0xA00F0
/-- Table 16-10: TIM_SYNCCFG.SRC. -/
def TIM_SYNCCFG_SRC : Field := ⟨a_TIM_SYNCCFG, 0, 2⟩
/-- Table 04-14: the key of register TIM_MSCTL. -/
def a_TIM_MSCTL : Nat := 0xA0800
/-- Table 04-14: TIM_MSCTL.REF. -/
def TIM_MSCTL_REF : Field := ⟨a_TIM_MSCTL, 0, 2⟩
/-- Table 04-14: TIM_MSCTL.NOM. -/
def TIM_MSCTL_NOM : Field := ⟨a_TIM_MSCTL, 2, 1⟩
/-- Table 04-14: TIM_MSCTL.EN. -/
def TIM_MSCTL_EN : Field := ⟨a_TIM_MSCTL, 4, 4⟩
/-- Table 04-14: TIM_MSCTL.HMAX. -/
def TIM_MSCTL_HMAX : Field := ⟨a_TIM_MSCTL, 8, 6⟩
/-- Table 04-14: TIM_MSCTL.HAVG. -/
def TIM_MSCTL_HAVG : Field := ⟨a_TIM_MSCTL, 14, 6⟩
/-- Table 04-15: the key of register TIM_MSCFG. -/
def a_TIM_MSCFG (i : Nat) : Nat := 0xA0810 + 0x4 * i
/-- Table 04-15: TIM_MSCFG.K. -/
def TIM_MSCFG_K (i : Nat) : Field := ⟨a_TIM_MSCFG i, 0, 4⟩
/-- Table 04-15: TIM_MSCFG.HYST. -/
def TIM_MSCFG_HYST (i : Nat) : Field := ⟨a_TIM_MSCFG i, 4, 12⟩
/-- Table 04-15: TIM_MSCFG.DELAY. -/
def TIM_MSCFG_DELAY (i : Nat) : Field := ⟨a_TIM_MSCFG i, 16, 16⟩
/-- Table 04-16: the key of register TIM_MSFREQ. -/
def a_TIM_MSFREQ (i : Nat) : Nat := 0xA0820 + 0x4 * i
/-- Table 04-16: TIM_MSFREQ.FREQ. -/
def TIM_MSFREQ_FREQ (i : Nat) : Field := ⟨a_TIM_MSFREQ i, 0, 32⟩
/-- Table 04-16: the key of register TIM_MSRMS. -/
def a_TIM_MSRMS (i : Nat) : Nat := 0xA0830 + 0x4 * i
/-- Table 04-16: TIM_MSRMS.RMS. -/
def TIM_MSRMS_RMS (i : Nat) : Field := ⟨a_TIM_MSRMS i, 0, 24⟩
/-- Table 04-16: the key of register TIM_MSENV. -/
def a_TIM_MSENV (i : Nat) : Nat := 0xA0840 + 0x4 * i
/-- Table 04-16: TIM_MSENV.ENV. -/
def TIM_MSENV_ENV (i : Nat) : Field := ⟨a_TIM_MSENV i, 0, 24⟩
/-- Table 04-16: the key of register TIM_MSPEAK. -/
def a_TIM_MSPEAK (i : Nat) : Nat := 0xA0850 + 0x4 * i
/-- Table 04-16: TIM_MSPEAK.PEAK. -/
def TIM_MSPEAK_PEAK (i : Nat) : Field := ⟨a_TIM_MSPEAK i, 0, 24⟩
/-- Table 04-16: the key of register TIM_MSZCT. -/
def a_TIM_MSZCT (i : Nat) : Nat := 0xA0860 + 0x4 * i
/-- Table 04-16: TIM_MSZCT.TICK. -/
def TIM_MSZCT_TICK (i : Nat) : Field := ⟨a_TIM_MSZCT i, 0, 32⟩
/-- Table 04-16: the key of register TIM_MSZCF. -/
def a_TIM_MSZCF (i : Nat) : Nat := 0xA0870 + 0x4 * i
/-- Table 04-16: TIM_MSZCF.FRAC. -/
def TIM_MSZCF_FRAC (i : Nat) : Field := ⟨a_TIM_MSZCF i, 0, 16⟩
/-- Table 04-16: the key of register TIM_MSSTAT. -/
def a_TIM_MSSTAT (i : Nat) : Nat := 0xA0880 + 0x4 * i
/-- Table 04-16: TIM_MSSTAT.HCOUNT. -/
def TIM_MSSTAT_HCOUNT (i : Nat) : Field := ⟨a_TIM_MSSTAT i, 0, 6⟩
/-- Table 04-16: TIM_MSSTAT.VALID. -/
def TIM_MSSTAT_VALID (i : Nat) : Field := ⟨a_TIM_MSSTAT i, 8, 1⟩
/-- Table 04-16: TIM_MSSTAT.OVERLOAD. -/
def TIM_MSSTAT_OVERLOAD (i : Nat) : Field := ⟨a_TIM_MSSTAT i, 9, 1⟩
/-- Table 04-16: TIM_MSSTAT.FREQ_OOR. -/
def TIM_MSSTAT_FREQ_OOR (i : Nat) : Field := ⟨a_TIM_MSSTAT i, 10, 1⟩
/-- Table 04-16: TIM_MSSTAT.SETTLING. -/
def TIM_MSSTAT_SETTLING (i : Nat) : Field := ⟨a_TIM_MSSTAT i, 11, 1⟩
/-- Table 04-17: the key of register TIM_MSHARM. -/
def a_TIM_MSHARM (i : Nat) (j : Nat) : Nat := 0xA0900 + 0x100 * i + 0x4 * j
/-- Table 04-17: TIM_MSHARM.MAG. -/
def TIM_MSHARM_MAG (i : Nat) (j : Nat) : Field := ⟨a_TIM_MSHARM i j, 0, 16⟩
/-- Table 04-17: TIM_MSHARM.PHASE. -/
def TIM_MSHARM_PHASE (i : Nat) (j : Nat) : Field := ⟨a_TIM_MSHARM i j, 16, 16⟩
/-- Table 09-4: the key of register MAC_SFCFG. -/
def a_MAC_SFCFG : Nat := 0xB0000
/-- Table 09-4: MAC_SFCFG.FOLLOW. -/
def MAC_SFCFG_FOLLOW : Field := ⟨a_MAC_SFCFG, 0, 1⟩
/-- Table 09-4: MAC_SFCFG.BP. -/
def MAC_SFCFG_BP : Field := ⟨a_MAC_SFCFG, 1, 4⟩
/-- Table 09-4: MAC_SFCFG.BOFS. -/
def MAC_SFCFG_BOFS : Field := ⟨a_MAC_SFCFG, 5, 10⟩
/-- Table 09-4: MAC_SFCFG.MAXSTEP. -/
def MAC_SFCFG_MAXSTEP : Field := ⟨a_MAC_SFCFG, 15, 10⟩
/-- Table 09-4: MAC_SFCFG.ISLAND_EN. -/
def MAC_SFCFG_ISLAND_EN : Field := ⟨a_MAC_SFCFG, 25, 1⟩
/-- Table 09-5: the key of register MAC_BCNCFG. -/
def a_MAC_BCNCFG : Nat := 0xB0004
/-- Table 09-5: MAC_BCNCFG.PORTS. -/
def MAC_BCNCFG_PORTS : Field := ⟨a_MAC_BCNCFG, 0, 16⟩
/-- Table 09-5: MAC_BCNCFG.BMODE. -/
def MAC_BCNCFG_BMODE : Field := ⟨a_MAC_BCNCFG, 16, 4⟩
/-- Table 09-5: MAC_BCNCFG.BWIN. -/
def MAC_BCNCFG_BWIN : Field := ⟨a_MAC_BCNCFG, 20, 8⟩
/-- Table 09-5: the key of register MAC_BCNCFG2. -/
def a_MAC_BCNCFG2 : Nat := 0xB0008
/-- Table 09-5: MAC_BCNCFG2.BSPACE. -/
def MAC_BCNCFG2_BSPACE : Field := ⟨a_MAC_BCNCFG2, 0, 12⟩
/-- Table 09-5: MAC_BCNCFG2.BREG. -/
def MAC_BCNCFG2_BREG : Field := ⟨a_MAC_BCNCFG2, 12, 9⟩
/-- Table 09-6: the key of register MAC_DOMAIN. -/
def a_MAC_DOMAIN : Nat := 0xB000C
/-- Table 09-6: MAC_DOMAIN.DOMAIN. -/
def MAC_DOMAIN_DOMAIN : Field := ⟨a_MAC_DOMAIN, 0, 24⟩
/-- Table 09-6: MAC_DOMAIN.JOIN_OPEN. -/
def MAC_DOMAIN_JOIN_OPEN : Field := ⟨a_MAC_DOMAIN, 24, 1⟩
/-- Table 09-7: the key of register MAC_SFSTAT. -/
def a_MAC_SFSTAT : Nat := 0xB0010
/-- Table 09-7: MAC_SFSTAT.SLOT. -/
def MAC_SFSTAT_SLOT : Field := ⟨a_MAC_SFSTAT, 0, 3⟩
/-- Table 09-7: MAC_SFSTAT.STATE. -/
def MAC_SFSTAT_STATE : Field := ⟨a_MAC_SFSTAT, 3, 3⟩
/-- Table 09-7: MAC_SFSTAT.LOCK. -/
def MAC_SFSTAT_LOCK : Field := ⟨a_MAC_SFSTAT, 6, 1⟩
/-- Table 09-7: MAC_SFSTAT.FLY. -/
def MAC_SFSTAT_FLY : Field := ⟨a_MAC_SFSTAT, 7, 1⟩
/-- Table 09-7: MAC_SFSTAT.MISS. -/
def MAC_SFSTAT_MISS : Field := ⟨a_MAC_SFSTAT, 8, 4⟩
/-- Table 09-7: MAC_SFSTAT.PPORT. -/
def MAC_SFSTAT_PPORT : Field := ⟨a_MAC_SFSTAT, 12, 4⟩
/-- Table 09-7: MAC_SFSTAT.BIDX. -/
def MAC_SFSTAT_BIDX : Field := ⟨a_MAC_SFSTAT, 16, 4⟩
/-- Table 09-7: MAC_SFSTAT.REFUSED. -/
def MAC_SFSTAT_REFUSED : Field := ⟨a_MAC_SFSTAT, 20, 1⟩
/-- Table 09-8: the key of register MAC_SFN. -/
def a_MAC_SFN : Nat := 0xB0014
/-- Table 09-8: MAC_SFN.SFN. -/
def MAC_SFN_SFN : Field := ⟨a_MAC_SFN, 0, 32⟩
/-- Table 09-8: the key of register MAC_PARENT. -/
def a_MAC_PARENT : Nat := 0xB0018
/-- Table 09-8: MAC_PARENT.ADDR. -/
def MAC_PARENT_ADDR : Field := ⟨a_MAC_PARENT, 0, 25⟩
/-- Table 09-8: MAC_PARENT.HOP. -/
def MAC_PARENT_HOP : Field := ⟨a_MAC_PARENT, 25, 4⟩
/-- Table 09-8: the key of register MAC_BCNCNT. -/
def a_MAC_BCNCNT : Nat := 0xB001C
/-- Table 09-8: MAC_BCNCNT.SENT. -/
def MAC_BCNCNT_SENT : Field := ⟨a_MAC_BCNCNT, 0, 16⟩
/-- Table 09-8: MAC_BCNCNT.SKIP. -/
def MAC_BCNCNT_SKIP : Field := ⟨a_MAC_BCNCNT, 16, 16⟩
/-- Table 09-9: the key of register MAC_CSMA. -/
def a_MAC_CSMA : Nat := 0xB0020
/-- Table 09-9: MAC_CSMA.CWMIN0. -/
def MAC_CSMA_CWMIN0 : Field := ⟨a_MAC_CSMA, 0, 4⟩
/-- Table 09-9: MAC_CSMA.CWMAX0. -/
def MAC_CSMA_CWMAX0 : Field := ⟨a_MAC_CSMA, 4, 4⟩
/-- Table 09-9: MAC_CSMA.CWMIN1. -/
def MAC_CSMA_CWMIN1 : Field := ⟨a_MAC_CSMA, 8, 4⟩
/-- Table 09-9: MAC_CSMA.CWMAX1. -/
def MAC_CSMA_CWMAX1 : Field := ⟨a_MAC_CSMA, 12, 4⟩
/-- Table 09-9: MAC_CSMA.CWMIN2. -/
def MAC_CSMA_CWMIN2 : Field := ⟨a_MAC_CSMA, 16, 4⟩
/-- Table 09-9: MAC_CSMA.CWMAX2. -/
def MAC_CSMA_CWMAX2 : Field := ⟨a_MAC_CSMA, 20, 4⟩
/-- Table 09-9: MAC_CSMA.CWMIN3. -/
def MAC_CSMA_CWMIN3 : Field := ⟨a_MAC_CSMA, 24, 4⟩
/-- Table 09-9: MAC_CSMA.CWMAX3. -/
def MAC_CSMA_CWMAX3 : Field := ⟨a_MAC_CSMA, 28, 4⟩
/-- Table 09-10: the key of register MAC_JOIN. -/
def a_MAC_JOIN : Nat := 0xB0024
/-- Table 09-10: MAC_JOIN.KMODE. -/
def MAC_JOIN_KMODE : Field := ⟨a_MAC_JOIN, 0, 3⟩
/-- Table 09-10: MAC_JOIN.KRETRY. -/
def MAC_JOIN_KRETRY : Field := ⟨a_MAC_JOIN, 4, 4⟩
/-- Table 09-10: MAC_JOIN.KTO. -/
def MAC_JOIN_KTO : Field := ⟨a_MAC_JOIN, 8, 4⟩
/-- Table 09-10: MAC_JOIN.JOINMAX. -/
def MAC_JOIN_JOINMAX : Field := ⟨a_MAC_JOIN, 12, 8⟩
/-- Table 09-10: the key of register MAC_PRESENCE. -/
def a_MAC_PRESENCE : Nat := 0xB0028
/-- Table 09-10: MAC_PRESENCE.KA_INT. -/
def MAC_PRESENCE_KA_INT : Field := ⟨a_MAC_PRESENCE, 0, 8⟩
/-- Table 09-10: MAC_PRESENCE.KA_MISS. -/
def MAC_PRESENCE_KA_MISS : Field := ⟨a_MAC_PRESENCE, 8, 4⟩
/-- Table 09-11: the key of register MAC_ALLOCCTL. -/
def a_MAC_ALLOCCTL : Nat := 0xB002C
/-- Table 09-11: MAC_ALLOCCTL.COMMIT. -/
def MAC_ALLOCCTL_COMMIT : Field := ⟨a_MAC_ALLOCCTL, 0, 1⟩
/-- Table 09-11: MAC_ALLOCCTL.TGEN. -/
def MAC_ALLOCCTL_TGEN : Field := ⟨a_MAC_ALLOCCTL, 8, 8⟩
/-- Table 09-11: MAC_ALLOCCTL.CDOWN. -/
def MAC_ALLOCCTL_CDOWN : Field := ⟨a_MAC_ALLOCCTL, 16, 2⟩
/-- Table 09-11: MAC_ALLOCCTL.REFUSED. -/
def MAC_ALLOCCTL_REFUSED : Field := ⟨a_MAC_ALLOCCTL, 18, 1⟩
/-- Table 09-11: MAC_ALLOCCTL.BADENTRY. -/
def MAC_ALLOCCTL_BADENTRY : Field := ⟨a_MAC_ALLOCCTL, 20, 6⟩
/-- Table 09-8: the key of register MAC_BCNRX. -/
def a_MAC_BCNRX : Nat := 0xB0030
/-- Table 09-8: MAC_BCNRX.RX. -/
def MAC_BCNRX_RX : Field := ⟨a_MAC_BCNRX, 0, 16⟩
/-- Table 09-8: MAC_BCNRX.MISSED. -/
def MAC_BCNRX_MISSED : Field := ⟨a_MAC_BCNRX, 16, 16⟩
/-- Table 10-7: the key of register MAC_ACKCFG. -/
def a_MAC_ACKCFG : Nat := 0xB0040
/-- Table 10-7: MAC_ACKCFG.RETRY_HI. -/
def MAC_ACKCFG_RETRY_HI : Field := ⟨a_MAC_ACKCFG, 0, 4⟩
/-- Table 10-7: MAC_ACKCFG.RETRY_LO. -/
def MAC_ACKCFG_RETRY_LO : Field := ⟨a_MAC_ACKCFG, 4, 4⟩
/-- Table 10-7: MAC_ACKCFG.ACK_SLACK. -/
def MAC_ACKCFG_ACK_SLACK : Field := ⟨a_MAC_ACKCFG, 8, 8⟩
/-- Table 10-8: the key of register MAC_RELAY. -/
def a_MAC_RELAY : Nat := 0xB0044
/-- Table 10-8: MAC_RELAY.SF_EN. -/
def MAC_RELAY_SF_EN : Field := ⟨a_MAC_RELAY, 0, 1⟩
/-- Table 10-8: MAC_RELAY.CT_EN. -/
def MAC_RELAY_CT_EN : Field := ⟨a_MAC_RELAY, 1, 1⟩
/-- Table 10-8: MAC_RELAY.HOPLIM. -/
def MAC_RELAY_HOPLIM : Field := ⟨a_MAC_RELAY, 2, 4⟩
/-- Table 10-8: MAC_RELAY.CT_MARGIN. -/
def MAC_RELAY_CT_MARGIN : Field := ⟨a_MAC_RELAY, 8, 8⟩
/-- Table 10-9: the key of register MAC_SLEEPY. -/
def a_MAC_SLEEPY : Nat := 0xB0048
/-- Table 10-9: MAC_SLEEPY.HOLD. -/
def MAC_SLEEPY_HOLD : Field := ⟨a_MAC_SLEEPY, 0, 12⟩
/-- Table 10-9: MAC_SLEEPY.SP. -/
def MAC_SLEEPY_SP : Field := ⟨a_MAC_SLEEPY, 12, 8⟩
/-- Table 10-9: MAC_SLEEPY.SLP_ABS. -/
def MAC_SLEEPY_SLP_ABS : Field := ⟨a_MAC_SLEEPY, 20, 8⟩
/-- Table 10-10: the key of register MAC_DUPCNT. -/
def a_MAC_DUPCNT : Nat := 0xB0050
/-- Table 10-10: MAC_DUPCNT.COUNT. -/
def MAC_DUPCNT_COUNT : Field := ⟨a_MAC_DUPCNT, 0, 32⟩
/-- Table 10-10: the key of register MAC_OLDCNT. -/
def a_MAC_OLDCNT : Nat := 0xB0054
/-- Table 10-10: MAC_OLDCNT.COUNT. -/
def MAC_OLDCNT_COUNT : Field := ⟨a_MAC_OLDCNT, 0, 32⟩
/-- Table 10-10: the key of register MAC_PENDFULL. -/
def a_MAC_PENDFULL : Nat := 0xB0058
/-- Table 10-10: MAC_PENDFULL.COUNT. -/
def MAC_PENDFULL_COUNT : Field := ⟨a_MAC_PENDFULL, 0, 32⟩
/-- Table 10-10: the key of register MAC_NOACKCNT. -/
def a_MAC_NOACKCNT : Nat := 0xB005C
/-- Table 10-10: MAC_NOACKCNT.COUNT. -/
def MAC_NOACKCNT_COUNT : Field := ⟨a_MAC_NOACKCNT, 0, 32⟩
/-- Table 10-10: the key of register MAC_LATEACK. -/
def a_MAC_LATEACK : Nat := 0xB0060
/-- Table 10-10: MAC_LATEACK.COUNT. -/
def MAC_LATEACK_COUNT : Field := ⟨a_MAC_LATEACK, 0, 32⟩
/-- Table 10-10: the key of register MAC_CTCNT. -/
def a_MAC_CTCNT : Nat := 0xB0064
/-- Table 10-10: MAC_CTCNT.RELAYED. -/
def MAC_CTCNT_RELAYED : Field := ⟨a_MAC_CTCNT, 0, 16⟩
/-- Table 10-10: MAC_CTCNT.POISONED. -/
def MAC_CTCNT_POISONED : Field := ⟨a_MAC_CTCNT, 16, 16⟩
/-- Table 10-10: the key of register MAC_HOLDEXP. -/
def a_MAC_HOLDEXP : Nat := 0xB0068
/-- Table 10-10: MAC_HOLDEXP.EXPIRED. -/
def MAC_HOLDEXP_EXPIRED : Field := ⟨a_MAC_HOLDEXP, 0, 16⟩
/-- Table 10-10: MAC_HOLDEXP.HOPDROP. -/
def MAC_HOLDEXP_HOPDROP : Field := ⟨a_MAC_HOLDEXP, 16, 16⟩
/-- Table 05-8: the key of register MAC_TMSBASE. -/
def a_MAC_TMSBASE : Nat := 0xB0100
/-- Table 05-8: MAC_TMSBASE.BASE. -/
def MAC_TMSBASE_BASE : Field := ⟨a_MAC_TMSBASE, 0, 19⟩
/-- Table 05-9: the key of register MAC_TMSCFG. -/
def a_MAC_TMSCFG : Nat := 0xB0104
/-- Table 05-9: MAC_TMSCFG.LINKS. -/
def MAC_TMSCFG_LINKS : Field := ⟨a_MAC_TMSCFG, 0, 17⟩
/-- Table 05-9: MAC_TMSCFG.GLINKS. -/
def MAC_TMSCFG_GLINKS : Field := ⟨a_MAC_TMSCFG, 17, 11⟩
/-- Table 05-9: MAC_TMSCFG.ACT. -/
def MAC_TMSCFG_ACT : Field := ⟨a_MAC_TMSCFG, 28, 1⟩
/-- Table 05-9: MAC_TMSCFG.REFUSED. -/
def MAC_TMSCFG_REFUSED : Field := ⟨a_MAC_TMSCFG, 29, 1⟩
/-- Table 06-16: the key of register MAC_SNRBASE. -/
def a_MAC_SNRBASE : Nat := 0xB0108
/-- Table 06-16: MAC_SNRBASE.BASE. -/
def MAC_SNRBASE_BASE : Field := ⟨a_MAC_SNRBASE, 0, 19⟩
/-- Table 07-11: the key of register MAC_DWLO. -/
def a_MAC_DWLO (i : Nat) : Nat := 0xB0200 + 0x10 * i
/-- Table 07-11: MAC_DWLO.LO. -/
def MAC_DWLO_LO (i : Nat) : Field := ⟨a_MAC_DWLO i, 0, 18⟩
/-- Table 07-11: the key of register MAC_DWHI. -/
def a_MAC_DWHI (i : Nat) : Nat := 0xB0204 + 0x10 * i
/-- Table 07-11: MAC_DWHI.HI. -/
def MAC_DWHI_HI (i : Nat) : Field := ⟨a_MAC_DWHI i, 0, 18⟩
/-- Table 07-11: the key of register MAC_DWTIME. -/
def a_MAC_DWTIME (i : Nat) : Nat := 0xB0208 + 0x10 * i
/-- Table 07-11: MAC_DWTIME.MAX_ON. -/
def MAC_DWTIME_MAX_ON (i : Nat) : Field := ⟨a_MAC_DWTIME i, 0, 12⟩
/-- Table 07-11: MAC_DWTIME.MIN_OFF. -/
def MAC_DWTIME_MIN_OFF (i : Nat) : Field := ⟨a_MAC_DWTIME i, 12, 16⟩
/-- Table 07-11: MAC_DWTIME.EN. -/
def MAC_DWTIME_EN (i : Nat) : Field := ⟨a_MAC_DWTIME i, 28, 1⟩
/-- Table 07-11: the key of register MAC_DWDUTY. -/
def a_MAC_DWDUTY (i : Nat) : Nat := 0xB020C + 0x10 * i
/-- Table 07-11: MAC_DWDUTY.WIN. -/
def MAC_DWDUTY_WIN (i : Nat) : Field := ⟨a_MAC_DWDUTY i, 0, 12⟩
/-- Table 07-11: MAC_DWDUTY.DMAX. -/
def MAC_DWDUTY_DMAX (i : Nat) : Field := ⟨a_MAC_DWDUTY i, 12, 10⟩
/-- Table 09-12: the key of register MAC_ALLOC0. -/
def a_MAC_ALLOC0 (i : Nat) : Nat := 0xB0400 + 0x10 * i
/-- Table 09-12: MAC_ALLOC0.OWNER. -/
def MAC_ALLOC0_OWNER (i : Nat) : Field := ⟨a_MAC_ALLOC0 i, 0, 25⟩
/-- Table 09-12: MAC_ALLOC0.SLOTS. -/
def MAC_ALLOC0_SLOTS (i : Nat) : Field := ⟨a_MAC_ALLOC0 i, 25, 6⟩
/-- Table 09-12: MAC_ALLOC0.EN. -/
def MAC_ALLOC0_EN (i : Nat) : Field := ⟨a_MAC_ALLOC0 i, 31, 1⟩
/-- Table 09-12: the key of register MAC_ALLOC1. -/
def a_MAC_ALLOC1 (i : Nat) : Nat := 0xB0404 + 0x10 * i
/-- Table 09-12: MAC_ALLOC1.START. -/
def MAC_ALLOC1_START (i : Nat) : Field := ⟨a_MAC_ALLOC1 i, 0, 10⟩
/-- Table 09-12: MAC_ALLOC1.END. -/
def MAC_ALLOC1_END (i : Nat) : Field := ⟨a_MAC_ALLOC1 i, 10, 10⟩
/-- Table 09-12: MAC_ALLOC1.CLASSES. -/
def MAC_ALLOC1_CLASSES (i : Nat) : Field := ⟨a_MAC_ALLOC1 i, 20, 8⟩
/-- Table 09-12: the key of register MAC_ALLOC2. -/
def a_MAC_ALLOC2 (i : Nat) : Nat := 0xB0408 + 0x10 * i
/-- Table 09-12: MAC_ALLOC2.PORTS. -/
def MAC_ALLOC2_PORTS (i : Nat) : Field := ⟨a_MAC_ALLOC2 i, 0, 16⟩
/-- Table 17-4: the key of register UAR_CFG. -/
def a_UAR_CFG (i : Nat) : Nat := 0xC0000 + 0x100 * i
/-- Table 17-4: UAR_CFG.EN. -/
def UAR_CFG_EN (i : Nat) : Field := ⟨a_UAR_CFG i, 0, 1⟩
/-- Table 17-4: UAR_CFG.DBITS. -/
def UAR_CFG_DBITS (i : Nat) : Field := ⟨a_UAR_CFG i, 1, 2⟩
/-- Table 17-4: UAR_CFG.PAR. -/
def UAR_CFG_PAR (i : Nat) : Field := ⟨a_UAR_CFG i, 3, 2⟩
/-- Table 17-4: UAR_CFG.STOP2. -/
def UAR_CFG_STOP2 (i : Nat) : Field := ⟨a_UAR_CFG i, 5, 1⟩
/-- Table 17-4: UAR_CFG.RTSEN. -/
def UAR_CFG_RTSEN (i : Nat) : Field := ⟨a_UAR_CFG i, 6, 1⟩
/-- Table 17-4: UAR_CFG.CTSEN. -/
def UAR_CFG_CTSEN (i : Nat) : Field := ⟨a_UAR_CFG i, 7, 1⟩
/-- Table 17-4: UAR_CFG.HDX. -/
def UAR_CFG_HDX (i : Nat) : Field := ⟨a_UAR_CFG i, 8, 1⟩
/-- Table 17-4: UAR_CFG.TXHALT. -/
def UAR_CFG_TXHALT (i : Nat) : Field := ⟨a_UAR_CFG i, 9, 1⟩
/-- Table 17-4: UAR_CFG.STUCK_TO. -/
def UAR_CFG_STUCK_TO (i : Nat) : Field := ⟨a_UAR_CFG i, 16, 8⟩
/-- Table 17-4: the key of register UAR_DIV. -/
def a_UAR_DIV (i : Nat) : Nat := 0xC0004 + 0x100 * i
/-- Table 17-4: UAR_DIV.F. -/
def UAR_DIV_F (i : Nat) : Field := ⟨a_UAR_DIV i, 0, 8⟩
/-- Table 17-4: UAR_DIV.I. -/
def UAR_DIV_I (i : Nat) : Field := ⟨a_UAR_DIV i, 8, 16⟩
/-- Table 17-5: the key of register UAR_QCFG. -/
def a_UAR_QCFG (i : Nat) : Nat := 0xC0008 + 0x100 * i
/-- Table 17-5: UAR_QCFG.RXTRIG. -/
def UAR_QCFG_RXTRIG (i : Nat) : Field := ⟨a_UAR_QCFG i, 0, 3⟩
/-- Table 17-5: UAR_QCFG.TXTRIG. -/
def UAR_QCFG_TXTRIG (i : Nat) : Field := ⟨a_UAR_QCFG i, 3, 3⟩
/-- Table 17-5: UAR_QCFG.FLOW. -/
def UAR_QCFG_FLOW (i : Nat) : Field := ⟨a_UAR_QCFG i, 6, 8⟩
/-- Table 17-5: UAR_QCFG.RXFLUSH. -/
def UAR_QCFG_RXFLUSH (i : Nat) : Field := ⟨a_UAR_QCFG i, 14, 1⟩
/-- Table 17-5: UAR_QCFG.TXFLUSH. -/
def UAR_QCFG_TXFLUSH (i : Nat) : Field := ⟨a_UAR_QCFG i, 15, 1⟩
/-- Table 17-5: the key of register UAR_DATA. -/
def a_UAR_DATA (i : Nat) : Nat := 0xC000C + 0x100 * i
/-- Table 17-5: UAR_DATA.CHAR. -/
def UAR_DATA_CHAR (i : Nat) : Field := ⟨a_UAR_DATA i, 0, 8⟩
/-- Table 17-5: UAR_DATA.FE. -/
def UAR_DATA_FE (i : Nat) : Field := ⟨a_UAR_DATA i, 8, 1⟩
/-- Table 17-5: UAR_DATA.PE. -/
def UAR_DATA_PE (i : Nat) : Field := ⟨a_UAR_DATA i, 9, 1⟩
/-- Table 17-5: UAR_DATA.NOISE. -/
def UAR_DATA_NOISE (i : Nat) : Field := ⟨a_UAR_DATA i, 10, 1⟩
/-- Table 17-5: UAR_DATA.BREAK. -/
def UAR_DATA_BREAK (i : Nat) : Field := ⟨a_UAR_DATA i, 11, 1⟩
/-- Table 17-5: UAR_DATA.EMPTY. -/
def UAR_DATA_EMPTY (i : Nat) : Field := ⟨a_UAR_DATA i, 12, 1⟩
/-- Table 17-5: the key of register UAR_STAT. -/
def a_UAR_STAT (i : Nat) : Nat := 0xC0010 + 0x100 * i
/-- Table 17-5: UAR_STAT.RXFILL. -/
def UAR_STAT_RXFILL (i : Nat) : Field := ⟨a_UAR_STAT i, 0, 8⟩
/-- Table 17-5: UAR_STAT.TXFILL. -/
def UAR_STAT_TXFILL (i : Nat) : Field := ⟨a_UAR_STAT i, 8, 8⟩
/-- Table 17-5: UAR_STAT.LINE. -/
def UAR_STAT_LINE (i : Nat) : Field := ⟨a_UAR_STAT i, 16, 1⟩
/-- Table 17-5: UAR_STAT.STUCK. -/
def UAR_STAT_STUCK (i : Nat) : Field := ⟨a_UAR_STAT i, 17, 1⟩
/-- Table 17-6: the key of register UAR_ISR. -/
def a_UAR_ISR (i : Nat) : Nat := 0xC0014 + 0x100 * i
/-- Table 17-6: UAR_ISR.RXT. -/
def UAR_ISR_RXT (i : Nat) : Field := ⟨a_UAR_ISR i, 0, 1⟩
/-- Table 17-6: UAR_ISR.TXT. -/
def UAR_ISR_TXT (i : Nat) : Field := ⟨a_UAR_ISR i, 1, 1⟩
/-- Table 17-6: UAR_ISR.RXTO. -/
def UAR_ISR_RXTO (i : Nat) : Field := ⟨a_UAR_ISR i, 2, 1⟩
/-- Table 17-6: UAR_ISR.ERR. -/
def UAR_ISR_ERR (i : Nat) : Field := ⟨a_UAR_ISR i, 3, 1⟩
/-- Table 17-6: UAR_ISR.BRK. -/
def UAR_ISR_BRK (i : Nat) : Field := ⟨a_UAR_ISR i, 4, 1⟩
/-- Table 17-6: UAR_ISR.LSTUCK. -/
def UAR_ISR_LSTUCK (i : Nat) : Field := ⟨a_UAR_ISR i, 5, 1⟩
/-- Table 17-6: UAR_ISR.LCLEAR. -/
def UAR_ISR_LCLEAR (i : Nat) : Field := ⟨a_UAR_ISR i, 6, 1⟩
/-- Table 17-6: UAR_ISR.OVR. -/
def UAR_ISR_OVR (i : Nat) : Field := ⟨a_UAR_ISR i, 7, 1⟩
/-- Table 17-6: UAR_ISR.TXOVR. -/
def UAR_ISR_TXOVR (i : Nat) : Field := ⟨a_UAR_ISR i, 8, 1⟩
/-- Table 17-6: UAR_ISR.COLL. -/
def UAR_ISR_COLL (i : Nat) : Field := ⟨a_UAR_ISR i, 9, 1⟩
/-- Table 17-6: UAR_ISR.SCERR. -/
def UAR_ISR_SCERR (i : Nat) : Field := ⟨a_UAR_ISR i, 10, 1⟩
/-- Table 17-6: UAR_ISR.CTSCHG. -/
def UAR_ISR_CTSCHG (i : Nat) : Field := ⟨a_UAR_ISR i, 11, 1⟩
/-- Table 17-6: the key of register UAR_IEN. -/
def a_UAR_IEN (i : Nat) : Nat := 0xC0018 + 0x100 * i
/-- Table 17-6: UAR_IEN.RXT. -/
def UAR_IEN_RXT (i : Nat) : Field := ⟨a_UAR_IEN i, 0, 1⟩
/-- Table 17-6: UAR_IEN.TXT. -/
def UAR_IEN_TXT (i : Nat) : Field := ⟨a_UAR_IEN i, 1, 1⟩
/-- Table 17-6: UAR_IEN.RXTO. -/
def UAR_IEN_RXTO (i : Nat) : Field := ⟨a_UAR_IEN i, 2, 1⟩
/-- Table 17-6: UAR_IEN.ERR. -/
def UAR_IEN_ERR (i : Nat) : Field := ⟨a_UAR_IEN i, 3, 1⟩
/-- Table 17-6: UAR_IEN.BRK. -/
def UAR_IEN_BRK (i : Nat) : Field := ⟨a_UAR_IEN i, 4, 1⟩
/-- Table 17-6: UAR_IEN.LSTUCK. -/
def UAR_IEN_LSTUCK (i : Nat) : Field := ⟨a_UAR_IEN i, 5, 1⟩
/-- Table 17-6: UAR_IEN.LCLEAR. -/
def UAR_IEN_LCLEAR (i : Nat) : Field := ⟨a_UAR_IEN i, 6, 1⟩
/-- Table 17-6: UAR_IEN.OVR. -/
def UAR_IEN_OVR (i : Nat) : Field := ⟨a_UAR_IEN i, 7, 1⟩
/-- Table 17-6: UAR_IEN.TXOVR. -/
def UAR_IEN_TXOVR (i : Nat) : Field := ⟨a_UAR_IEN i, 8, 1⟩
/-- Table 17-6: UAR_IEN.COLL. -/
def UAR_IEN_COLL (i : Nat) : Field := ⟨a_UAR_IEN i, 9, 1⟩
/-- Table 17-6: UAR_IEN.SCERR. -/
def UAR_IEN_SCERR (i : Nat) : Field := ⟨a_UAR_IEN i, 10, 1⟩
/-- Table 17-6: UAR_IEN.CTSCHG. -/
def UAR_IEN_CTSCHG (i : Nat) : Field := ⟨a_UAR_IEN i, 11, 1⟩
/-- Table 17-7: the key of register UAR_SC. -/
def a_UAR_SC (i : Nat) : Nat := 0xC001C + 0x100 * i
/-- Table 17-7: UAR_SC.SC. -/
def UAR_SC_SC (i : Nat) : Field := ⟨a_UAR_SC i, 0, 1⟩
/-- Table 17-7: UAR_SC.INV. -/
def UAR_SC_INV (i : Nat) : Field := ⟨a_UAR_SC i, 1, 1⟩
/-- Table 17-7: UAR_SC.EGT. -/
def UAR_SC_EGT (i : Nat) : Field := ⟨a_UAR_SC i, 2, 8⟩
/-- Table 17-7: UAR_SC.RETRY. -/
def UAR_SC_RETRY (i : Nat) : Field := ⟨a_UAR_SC i, 10, 3⟩
/-- Table 17-7: UAR_SC.CLKEN. -/
def UAR_SC_CLKEN (i : Nat) : Field := ⟨a_UAR_SC i, 13, 1⟩
/-- Table 17-7: UAR_SC.CLKDIV. -/
def UAR_SC_CLKDIV (i : Nat) : Field := ⟨a_UAR_SC i, 14, 10⟩
/-- Table 17-8: the key of register FSP_CFG. -/
def a_FSP_CFG : Nat := 0xC1000
/-- Table 17-8: FSP_CFG.DIV. -/
def FSP_CFG_DIV : Field := ⟨a_FSP_CFG, 0, 2⟩
/-- Table 17-8: the key of register FSP_STAT. -/
def a_FSP_STAT : Nat := 0xC1004
/-- Table 17-8: FSP_STAT.SFDP. -/
def FSP_STAT_SFDP : Field := ⟨a_FSP_STAT, 0, 1⟩
/-- Table 17-8: FSP_STAT.BUSY. -/
def FSP_STAT_BUSY : Field := ⟨a_FSP_STAT, 1, 1⟩
/-- Table 17-8: FSP_STAT.SIZE. -/
def FSP_STAT_SIZE : Field := ⟨a_FSP_STAT, 8, 8⟩
/-- Table 17-8: the key of register FSP_WEAR. -/
def a_FSP_WEAR : Nat := 0xC1008
/-- Table 17-8: FSP_WEAR.TH. -/
def FSP_WEAR_TH : Field := ⟨a_FSP_WEAR, 0, 17⟩
/-- Table 17-8: the key of register FSP_WEAR2. -/
def a_FSP_WEAR2 : Nat := 0xC100C
/-- Table 17-8: FSP_WEAR2.MAX. -/
def FSP_WEAR2_MAX : Field := ⟨a_FSP_WEAR2, 0, 17⟩
/-- Table 17-8: the key of register FSP_LOGCMD. -/
def a_FSP_LOGCMD : Nat := 0xC1010
/-- Table 17-8: FSP_LOGCMD.UNIT. -/
def FSP_LOGCMD_UNIT : Field := ⟨a_FSP_LOGCMD, 0, 12⟩
/-- Table 17-8: FSP_LOGCMD.RESULT. -/
def FSP_LOGCMD_RESULT : Field := ⟨a_FSP_LOGCMD, 12, 2⟩
/-- Table 17-8: the key of register FSP_BUF. -/
def a_FSP_BUF (i : Nat) : Nat := 0xC2000 + 0x4 * i
/-- Table 17-8: FSP_BUF.DATA. -/
def FSP_BUF_DATA (i : Nat) : Field := ⟨a_FSP_BUF i, 0, 32⟩
/-- Table 17-9: the key of register GPI_DIR. -/
def a_GPI_DIR : Nat := 0xC3000
/-- Table 17-9: GPI_DIR.DIR. -/
def GPI_DIR_DIR : Field := ⟨a_GPI_DIR, 0, 16⟩
/-- Table 17-9: the key of register GPI_OUT. -/
def a_GPI_OUT : Nat := 0xC3004
/-- Table 17-9: GPI_OUT.OUT. -/
def GPI_OUT_OUT : Field := ⟨a_GPI_OUT, 0, 16⟩
/-- Table 17-9: the key of register GPI_OD. -/
def a_GPI_OD : Nat := 0xC3008
/-- Table 17-9: GPI_OD.OD. -/
def GPI_OD_OD : Field := ⟨a_GPI_OD, 0, 16⟩
/-- Table 17-9: the key of register GPI_IN. -/
def a_GPI_IN : Nat := 0xC300C
/-- Table 17-9: GPI_IN.IN. -/
def GPI_IN_IN : Field := ⟨a_GPI_IN, 0, 16⟩
/-- Table 17-9: the key of register GPI_EDGE. -/
def a_GPI_EDGE : Nat := 0xC3010
/-- Table 17-9: GPI_EDGE.EDGE. -/
def GPI_EDGE_EDGE : Field := ⟨a_GPI_EDGE, 0, 32⟩
/-- Table 02-3: the key of register PRT_PROFILE. -/
def a_PRT_PROFILE (i : Nat) : Nat := 0x100000 + 0x8000 * i
/-- Table 02-3: PRT_PROFILE.REQ. -/
def PRT_PROFILE_REQ (i : Nat) : Field := ⟨a_PRT_PROFILE i, 0, 3⟩
/-- Table 02-3: PRT_PROFILE.ACT. -/
def PRT_PROFILE_ACT (i : Nat) : Field := ⟨a_PRT_PROFILE i, 3, 3⟩
/-- Table 02-3: PRT_PROFILE.PENDING. -/
def PRT_PROFILE_PENDING (i : Nat) : Field := ⟨a_PRT_PROFILE i, 6, 1⟩
/-- Table 02-3: PRT_PROFILE.REFUSED. -/
def PRT_PROFILE_REFUSED (i : Nat) : Field := ⟨a_PRT_PROFILE i, 7, 1⟩
/-- Table 04-2: the key of register PRT_AFE. -/
def a_PRT_AFE (i : Nat) : Nat := 0x100100 + 0x8000 * i
/-- Table 04-2: PRT_AFE.GAIN. -/
def PRT_AFE_GAIN (i : Nat) : Field := ⟨a_PRT_AFE i, 0, 7⟩
/-- Table 04-2: PRT_AFE.GMODE. -/
def PRT_AFE_GMODE (i : Nat) : Field := ⟨a_PRT_AFE i, 7, 1⟩
/-- Table 04-2: PRT_AFE.ACT_GAIN. -/
def PRT_AFE_ACT_GAIN (i : Nat) : Field := ⟨a_PRT_AFE i, 8, 7⟩
/-- Table 04-2: PRT_AFE.CAL_INT. -/
def PRT_AFE_CAL_INT (i : Nat) : Field := ⟨a_PRT_AFE i, 16, 8⟩
/-- Table 04-2: PRT_AFE.CAL_LIMIT. -/
def PRT_AFE_CAL_LIMIT (i : Nat) : Field := ⟨a_PRT_AFE i, 24, 1⟩
/-- Table 04-3: the key of register PRT_CLIP. -/
def a_PRT_CLIP (i : Nat) : Nat := 0x100104 + 0x8000 * i
/-- Table 04-3: PRT_CLIP.ADC. -/
def PRT_CLIP_ADC (i : Nat) : Field := ⟨a_PRT_CLIP i, 0, 16⟩
/-- Table 04-3: PRT_CLIP.DAC. -/
def PRT_CLIP_DAC (i : Nat) : Field := ⟨a_PRT_CLIP i, 16, 16⟩
/-- Table 04-7: the key of register PRT_DEC. -/
def a_PRT_DEC (i : Nat) : Nat := 0x100200 + 0x8000 * i
/-- Table 04-7: PRT_DEC.K. -/
def PRT_DEC_K (i : Nat) : Field := ⟨a_PRT_DEC i, 0, 4⟩
/-- Table 04-7: PRT_DEC.ACT_K. -/
def PRT_DEC_ACT_K (i : Nat) : Field := ⟨a_PRT_DEC i, 4, 4⟩
/-- Table 04-7: PRT_DEC.SETTLE. -/
def PRT_DEC_SETTLE (i : Nat) : Field := ⟨a_PRT_DEC i, 8, 5⟩
/-- Table 04-11: the key of register PRT_DETCFG. -/
def a_PRT_DETCFG (i : Nat) : Nat := 0x100210 + 0x8000 * i
/-- Table 04-11: PRT_DETCFG.WIN. -/
def PRT_DETCFG_WIN (i : Nat) : Field := ⟨a_PRT_DETCFG i, 0, 5⟩
/-- Table 04-11: PRT_DETCFG.SLOT. -/
def PRT_DETCFG_SLOT (i : Nat) : Field := ⟨a_PRT_DETCFG i, 5, 1⟩
/-- Table 04-11: PRT_DETCFG.ATTACK. -/
def PRT_DETCFG_ATTACK (i : Nat) : Field := ⟨a_PRT_DETCFG i, 6, 4⟩
/-- Table 04-11: PRT_DETCFG.DECAY. -/
def PRT_DETCFG_DECAY (i : Nat) : Field := ⟨a_PRT_DETCFG i, 10, 4⟩
/-- Table 04-12: the key of register PRT_DETPK. -/
def a_PRT_DETPK (i : Nat) : Nat := 0x100214 + 0x8000 * i
/-- Table 04-12: PRT_DETPK.PEAK. -/
def PRT_DETPK_PEAK (i : Nat) : Field := ⟨a_PRT_DETPK i, 0, 16⟩
/-- Table 04-12: the key of register PRT_DETRMS. -/
def a_PRT_DETRMS (i : Nat) : Nat := 0x100218 + 0x8000 * i
/-- Table 04-12: PRT_DETRMS.RMS. -/
def PRT_DETRMS_RMS (i : Nat) : Field := ⟨a_PRT_DETRMS i, 0, 16⟩
/-- Table 04-12: the key of register PRT_DETENV. -/
def a_PRT_DETENV (i : Nat) : Nat := 0x10021C + 0x8000 * i
/-- Table 04-12: PRT_DETENV.ENV. -/
def PRT_DETENV_ENV (i : Nat) : Field := ⟨a_PRT_DETENV i, 0, 16⟩
/-- Table 04-12: the key of register PRT_DETSTAT. -/
def a_PRT_DETSTAT (i : Nat) : Nat := 0x100220 + 0x8000 * i
/-- Table 04-12: PRT_DETSTAT.COUNT. -/
def PRT_DETSTAT_COUNT (i : Nat) : Field := ⟨a_PRT_DETSTAT i, 0, 21⟩
/-- Table 04-12: PRT_DETSTAT.INVALID. -/
def PRT_DETSTAT_INVALID (i : Nat) : Field := ⟨a_PRT_DETSTAT i, 21, 1⟩
/-- Table 04-12: PRT_DETSTAT.SEQ. -/
def PRT_DETSTAT_SEQ (i : Nat) : Field := ⟨a_PRT_DETSTAT i, 24, 8⟩
/-- Table 05-10: the key of register PRT_WAVE. -/
def a_PRT_WAVE (i : Nat) : Nat := 0x100300 + 0x8000 * i
/-- Table 05-10: PRT_WAVE.DEFMODE. -/
def PRT_WAVE_DEFMODE (i : Nat) : Field := ⟨a_PRT_WAVE i, 0, 2⟩
/-- Table 05-10: PRT_WAVE.GUARD. -/
def PRT_WAVE_GUARD (i : Nat) : Field := ⟨a_PRT_WAVE i, 2, 6⟩
/-- Table 05-10: PRT_WAVE.DEFSW. -/
def PRT_WAVE_DEFSW (i : Nat) : Field := ⟨a_PRT_WAVE i, 8, 4⟩
/-- Table 05-10: PRT_WAVE.SW_BASE. -/
def PRT_WAVE_SW_BASE (i : Nat) : Field := ⟨a_PRT_WAVE i, 16, 11⟩
/-- Table 06-10: the key of register PRT_RXCFG. -/
def a_PRT_RXCFG (i : Nat) : Nat := 0x100400 + 0x8000 * i
/-- Table 06-10: PRT_RXCFG.DET_TH. -/
def PRT_RXCFG_DET_TH (i : Nat) : Field := ⟨a_PRT_RXCFG i, 0, 6⟩
/-- Table 06-10: PRT_RXCFG.CAPT. -/
def PRT_RXCFG_CAPT (i : Nat) : Field := ⟨a_PRT_RXCFG i, 6, 6⟩
/-- Table 06-10: PRT_RXCFG.TSB. -/
def PRT_RXCFG_TSB (i : Nat) : Field := ⟨a_PRT_RXCFG i, 12, 2⟩
/-- Table 06-10: PRT_RXCFG.SWMIN. -/
def PRT_RXCFG_SWMIN (i : Nat) : Field := ⟨a_PRT_RXCFG i, 14, 3⟩
/-- Table 06-10: PRT_RXCFG.SWMAX. -/
def PRT_RXCFG_SWMAX (i : Nat) : Field := ⟨a_PRT_RXCFG i, 17, 3⟩
/-- Table 06-10: PRT_RXCFG.AGC_T. -/
def PRT_RXCFG_AGC_T (i : Nat) : Field := ⟨a_PRT_RXCFG i, 20, 6⟩
/-- Table 06-10: PRT_RXCFG.BLANK. -/
def PRT_RXCFG_BLANK (i : Nat) : Field := ⟨a_PRT_RXCFG i, 26, 6⟩
/-- Table 06-11: the key of register PRT_RXSTAT. -/
def a_PRT_RXSTAT (i : Nat) : Nat := 0x100404 + 0x8000 * i
/-- Table 06-11: PRT_RXSTAT.STATE. -/
def PRT_RXSTAT_STATE (i : Nat) : Field := ⟨a_PRT_RXSTAT i, 0, 3⟩
/-- Table 06-11: PRT_RXSTAT.JOINT. -/
def PRT_RXSTAT_JOINT (i : Nat) : Field := ⟨a_PRT_RXSTAT i, 3, 1⟩
/-- Table 06-11: PRT_RXSTAT.SNR. -/
def PRT_RXSTAT_SNR (i : Nat) : Field := ⟨a_PRT_RXSTAT i, 8, 8⟩
/-- Table 06-11: PRT_RXSTAT.NOISE. -/
def PRT_RXSTAT_NOISE (i : Nat) : Field := ⟨a_PRT_RXSTAT i, 16, 8⟩
/-- Table 06-12: the key of register PRT_RXOFS. -/
def a_PRT_RXOFS (i : Nat) : Nat := 0x100408 + 0x8000 * i
/-- Table 06-12: PRT_RXOFS.FOFS. -/
def PRT_RXOFS_FOFS (i : Nat) : Field := ⟨a_PRT_RXOFS i, 0, 32⟩
/-- Table 06-12: the key of register PRT_RXSOFS. -/
def a_PRT_RXSOFS (i : Nat) : Nat := 0x10040C + 0x8000 * i
/-- Table 06-12: PRT_RXSOFS.SOFS. -/
def PRT_RXSOFS_SOFS (i : Nat) : Field := ⟨a_PRT_RXSOFS i, 0, 32⟩
/-- Table 06-13: the key of register PRT_RXDET. -/
def a_PRT_RXDET (i : Nat) : Nat := 0x100420 + 0x8000 * i
/-- Table 06-13: PRT_RXDET.COUNT. -/
def PRT_RXDET_COUNT (i : Nat) : Field := ⟨a_PRT_RXDET i, 0, 32⟩
/-- Table 06-13: the key of register PRT_RXGOOD. -/
def a_PRT_RXGOOD (i : Nat) : Nat := 0x100424 + 0x8000 * i
/-- Table 06-13: PRT_RXGOOD.COUNT. -/
def PRT_RXGOOD_COUNT (i : Nat) : Field := ⟨a_PRT_RXGOOD i, 0, 32⟩
/-- Table 06-13: the key of register PRT_RXIGN. -/
def a_PRT_RXIGN (i : Nat) : Nat := 0x100428 + 0x8000 * i
/-- Table 06-13: PRT_RXIGN.COUNT. -/
def PRT_RXIGN_COUNT (i : Nat) : Field := ⟨a_PRT_RXIGN i, 0, 32⟩
/-- Table 06-13: the key of register PRT_RXFAIL. -/
def a_PRT_RXFAIL (i : Nat) (j : Nat) : Nat := 0x100440 + 0x8000 * i + 0x4 * j
/-- Table 06-13: PRT_RXFAIL.COUNT. -/
def PRT_RXFAIL_COUNT (i : Nat) (j : Nat) : Field := ⟨a_PRT_RXFAIL i j, 0, 32⟩
/-- Table 06-14: the key of register PRT_TMGEN. -/
def a_PRT_TMGEN (i : Nat) : Nat := 0x100480 + 0x8000 * i
/-- Table 06-14: PRT_TMGEN.MARGIN. -/
def PRT_TMGEN_MARGIN (i : Nat) : Field := ⟨a_PRT_TMGEN i, 0, 6⟩
/-- Table 06-14: PRT_TMGEN.UPD. -/
def PRT_TMGEN_UPD (i : Nat) : Field := ⟨a_PRT_TMGEN i, 6, 6⟩
/-- Table 06-14: PRT_TMGEN.REFRESH. -/
def PRT_TMGEN_REFRESH (i : Nat) : Field := ⟨a_PRT_TMGEN i, 12, 8⟩
/-- Table 06-14: PRT_TMGEN.MINFR. -/
def PRT_TMGEN_MINFR (i : Nat) : Field := ⟨a_PRT_TMGEN i, 20, 4⟩
/-- Table 06-14: PRT_TMGEN.AVG. -/
def PRT_TMGEN_AVG (i : Nat) : Field := ⟨a_PRT_TMGEN i, 24, 4⟩
/-- Table 06-14: PRT_TMGEN.EN. -/
def PRT_TMGEN_EN (i : Nat) : Field := ⟨a_PRT_TMGEN i, 28, 1⟩
/-- Table 06-15: the key of register PRT_NOISECFG. -/
def a_PRT_NOISECFG (i : Nat) : Nat := 0x1004A0 + 0x8000 * i
/-- Table 06-15: PRT_NOISECFG.NOISE_AVG. -/
def PRT_NOISECFG_NOISE_AVG (i : Nat) : Field := ⟨a_PRT_NOISECFG i, 0, 8⟩
/-- Table 07-5: the key of register PRT_TXCFG. -/
def a_PRT_TXCFG (i : Nat) : Nat := 0x100500 + 0x8000 * i
/-- Table 07-5: PRT_TXCFG.LEVEL. -/
def PRT_TXCFG_LEVEL (i : Nat) : Field := ⟨a_PRT_TXCFG i, 0, 8⟩
/-- Table 07-5: PRT_TXCFG.LTB. -/
def PRT_TXCFG_LTB (i : Nat) : Field := ⟨a_PRT_TXCFG i, 8, 2⟩
/-- Table 07-5: PRT_TXCFG.LATE_MAX. -/
def PRT_TXCFG_LATE_MAX (i : Nat) : Field := ⟨a_PRT_TXCFG i, 10, 10⟩
/-- Table 07-6: the key of register PRT_MASK. -/
def a_PRT_MASK (i : Nat) (j : Nat) : Nat := 0x100540 + 0x8000 * i + 0x4 * j
/-- Table 07-6: PRT_MASK.LO. -/
def PRT_MASK_LO (i : Nat) (j : Nat) : Field := ⟨a_PRT_MASK i j, 0, 11⟩
/-- Table 07-6: PRT_MASK.HI. -/
def PRT_MASK_HI (i : Nat) (j : Nat) : Field := ⟨a_PRT_MASK i j, 11, 11⟩
/-- Table 07-6: PRT_MASK.EN. -/
def PRT_MASK_EN (i : Nat) (j : Nat) : Field := ⟨a_PRT_MASK i j, 22, 1⟩
/-- Table 07-6: PRT_MASK.FILT. -/
def PRT_MASK_FILT (i : Nat) (j : Nat) : Field := ⟨a_PRT_MASK i j, 23, 1⟩
/-- Table 07-7: the key of register PRT_MASKSTAT. -/
def a_PRT_MASKSTAT (i : Nat) : Nat := 0x1005C0 + 0x8000 * i
/-- Table 07-7: PRT_MASKSTAT.COUNT. -/
def PRT_MASKSTAT_COUNT (i : Nat) : Field := ⟨a_PRT_MASKSTAT i, 0, 11⟩
/-- Table 07-7: PRT_MASKSTAT.FILTN. -/
def PRT_MASKSTAT_FILTN (i : Nat) : Field := ⟨a_PRT_MASKSTAT i, 11, 5⟩
/-- Table 07-7: PRT_MASKSTAT.REFUSED. -/
def PRT_MASKSTAT_REFUSED (i : Nat) : Field := ⟨a_PRT_MASKSTAT i, 16, 1⟩
/-- Table 07-8: the key of register PRT_TXPSD. -/
def a_PRT_TXPSD (i : Nat) (j : Nat) : Nat := 0x100600 + 0x8000 * i + 0x4 * j
/-- Table 07-8: PRT_TXPSD.G0. -/
def PRT_TXPSD_G0 (i : Nat) (j : Nat) : Field := ⟨a_PRT_TXPSD i j, 0, 6⟩
/-- Table 07-8: PRT_TXPSD.G1. -/
def PRT_TXPSD_G1 (i : Nat) (j : Nat) : Field := ⟨a_PRT_TXPSD i j, 8, 6⟩
/-- Table 07-8: PRT_TXPSD.G2. -/
def PRT_TXPSD_G2 (i : Nat) (j : Nat) : Field := ⟨a_PRT_TXPSD i j, 16, 6⟩
/-- Table 07-8: PRT_TXPSD.G3. -/
def PRT_TXPSD_G3 (i : Nat) (j : Nat) : Field := ⟨a_PRT_TXPSD i j, 24, 6⟩
/-- Table 07-9: the key of register PRT_LDCTL. -/
def a_PRT_LDCTL (i : Nat) : Nat := 0x100700 + 0x8000 * i
/-- Table 07-9: PRT_LDCTL.LDMODE. -/
def PRT_LDCTL_LDMODE (i : Nat) : Field := ⟨a_PRT_LDCTL i, 0, 2⟩
/-- Table 07-9: PRT_LDCTL.LEAD. -/
def PRT_LDCTL_LEAD (i : Nat) : Field := ⟨a_PRT_LDCTL i, 2, 6⟩
/-- Table 07-9: PRT_LDCTL.TAIL. -/
def PRT_LDCTL_TAIL (i : Nat) : Field := ⟨a_PRT_LDCTL i, 8, 6⟩
/-- Table 07-9: PRT_LDCTL.FLT_OFF. -/
def PRT_LDCTL_FLT_OFF (i : Nat) : Field := ⟨a_PRT_LDCTL i, 14, 1⟩
/-- Table 07-9: PRT_LDCTL.FLT_HOLD. -/
def PRT_LDCTL_FLT_HOLD (i : Nat) : Field := ⟨a_PRT_LDCTL i, 15, 8⟩
/-- Table 07-9: PRT_LDCTL.LDEN. -/
def PRT_LDCTL_LDEN (i : Nat) : Field := ⟨a_PRT_LDCTL i, 23, 1⟩
/-- Table 07-9: PRT_LDCTL.FAULT. -/
def PRT_LDCTL_FAULT (i : Nat) : Field := ⟨a_PRT_LDCTL i, 24, 1⟩
/-- Table 07-9: PRT_LDCTL.BURHOLD. -/
def PRT_LDCTL_BURHOLD (i : Nat) : Field := ⟨a_PRT_LDCTL i, 25, 1⟩
/-- Table 07-10: the key of register PRT_TXCNT. -/
def a_PRT_TXCNT (i : Nat) : Nat := 0x100720 + 0x8000 * i
/-- Table 07-10: PRT_TXCNT.COUNT. -/
def PRT_TXCNT_COUNT (i : Nat) : Field := ⟨a_PRT_TXCNT i, 0, 32⟩
/-- Table 07-10: the key of register PRT_DWDEF. -/
def a_PRT_DWDEF (i : Nat) : Nat := 0x100724 + 0x8000 * i
/-- Table 07-10: PRT_DWDEF.COUNT. -/
def PRT_DWDEF_COUNT (i : Nat) : Field := ⟨a_PRT_DWDEF i, 0, 32⟩
/-- Table 07-10: the key of register PRT_DWTRUNC. -/
def a_PRT_DWTRUNC (i : Nat) : Nat := 0x100728 + 0x8000 * i
/-- Table 07-10: PRT_DWTRUNC.COUNT. -/
def PRT_DWTRUNC_COUNT (i : Nat) : Field := ⟨a_PRT_DWTRUNC i, 0, 32⟩
/-- Table 07-10: the key of register PRT_TXLATE. -/
def a_PRT_TXLATE (i : Nat) : Nat := 0x10072C + 0x8000 * i
/-- Table 07-10: PRT_TXLATE.COUNT. -/
def PRT_TXLATE_COUNT (i : Nat) : Field := ⟨a_PRT_TXLATE i, 0, 32⟩
/-- Table 07-10: the key of register PRT_LDFLTCNT. -/
def a_PRT_LDFLTCNT (i : Nat) : Nat := 0x100730 + 0x8000 * i
/-- Table 07-10: PRT_LDFLTCNT.COUNT. -/
def PRT_LDFLTCNT_COUNT (i : Nat) : Field := ⟨a_PRT_LDFLTCNT i, 0, 32⟩
/-- Table 10-11: the key of register PRT_G3CFG. -/
def a_PRT_G3CFG (i : Nat) : Nat := 0x100800 + 0x8000 * i
/-- Table 10-11: PRT_G3CFG.PANID. -/
def PRT_G3CFG_PANID (i : Nat) : Field := ⟨a_PRT_G3CFG i, 0, 16⟩
/-- Table 10-11: PRT_G3CFG.SADDR. -/
def PRT_G3CFG_SADDR (i : Nat) : Field := ⟨a_PRT_G3CFG i, 16, 16⟩
/-- Table 10-11: the key of register PRT_G3CFG2. -/
def a_PRT_G3CFG2 (i : Nat) : Nat := 0x100804 + 0x8000 * i
/-- Table 10-11: PRT_G3CFG2.MAXRETRY. -/
def PRT_G3CFG2_MAXRETRY (i : Nat) : Field := ⟨a_PRT_G3CFG2 i, 0, 3⟩
/-- Table 14-12: the key of register PRT_G3KEY. -/
def a_PRT_G3KEY (i : Nat) (j : Nat) : Nat := 0x100810 + 0x8000 * i + 0x4 * j
/-- Table 14-12: PRT_G3KEY.SLOT. -/
def PRT_G3KEY_SLOT (i : Nat) (j : Nat) : Field := ⟨a_PRT_G3KEY i j, 0, 8⟩
/-- Table 14-12: PRT_G3KEY.EN. -/
def PRT_G3KEY_EN (i : Nat) (j : Nat) : Field := ⟨a_PRT_G3KEY i j, 8, 1⟩
/-- Table 14-12: the key of register PRT_G3FC. -/
def a_PRT_G3FC (i : Nat) : Nat := 0x100820 + 0x8000 * i
/-- Table 14-12: PRT_G3FC.FC. -/
def PRT_G3FC_FC (i : Nat) : Field := ⟨a_PRT_G3FC i, 0, 32⟩
/-- Table 05-6: the key of register GRP_CFG. -/
def a_GRP_CFG (i : Nat) : Nat := 0x180000 + 0x100 * i
/-- Table 05-6: GRP_CFG.EN. -/
def GRP_CFG_EN (i : Nat) : Field := ⟨a_GRP_CFG i, 0, 1⟩
/-- Table 05-6: GRP_CFG.PRECG. -/
def GRP_CFG_PRECG (i : Nat) : Field := ⟨a_GRP_CFG i, 1, 2⟩
/-- Table 05-6: GRP_CFG.NSS_MAX. -/
def GRP_CFG_NSS_MAX (i : Nat) : Field := ⟨a_GRP_CFG i, 3, 2⟩
/-- Table 05-6: GRP_CFG.ACT. -/
def GRP_CFG_ACT (i : Nat) : Field := ⟨a_GRP_CFG i, 5, 1⟩
/-- Table 05-6: GRP_CFG.REFUSED. -/
def GRP_CFG_REFUSED (i : Nat) : Field := ⟨a_GRP_CFG i, 6, 1⟩
/-- Table 06-4: the key of register GRP_DECCFG. -/
def a_GRP_DECCFG : Nat := 0x180400
/-- Table 06-4: GRP_DECCFG.MAXIT. -/
def GRP_DECCFG_MAXIT : Field := ⟨a_GRP_DECCFG, 0, 6⟩
/-- Table 06-4: GRP_DECCFG.CAPIT. -/
def GRP_DECCFG_CAPIT : Field := ⟨a_GRP_DECCFG, 6, 6⟩
/-- Table 06-4: GRP_DECCFG.CAPQ. -/
def GRP_DECCFG_CAPQ : Field := ⟨a_GRP_DECCFG, 12, 6⟩
/-- Table 06-5: the key of register GRP_DECSTAT. -/
def a_GRP_DECSTAT : Nat := 0x180404
/-- Table 06-5: GRP_DECSTAT.WAIT. -/
def GRP_DECSTAT_WAIT : Field := ⟨a_GRP_DECSTAT, 0, 7⟩
/-- Table 06-5: GRP_DECSTAT.PEAK. -/
def GRP_DECSTAT_PEAK : Field := ⟨a_GRP_DECSTAT, 8, 7⟩
/-- Table 06-5: GRP_DECSTAT.OVERRUN. -/
def GRP_DECSTAT_OVERRUN : Field := ⟨a_GRP_DECSTAT, 16, 16⟩
/-- Table 13-2: the key of register MSIX_ADDRLO. -/
def a_MSIX_ADDRLO (i : Nat) : Nat := 0x1C0000 + 0x10 * i
/-- Table 13-2: MSIX_ADDRLO.ADDR. -/
def MSIX_ADDRLO_ADDR (i : Nat) : Field := ⟨a_MSIX_ADDRLO i, 0, 32⟩
/-- Table 13-2: the key of register MSIX_ADDRHI. -/
def a_MSIX_ADDRHI (i : Nat) : Nat := 0x1C0004 + 0x10 * i
/-- Table 13-2: MSIX_ADDRHI.ADDR. -/
def MSIX_ADDRHI_ADDR (i : Nat) : Field := ⟨a_MSIX_ADDRHI i, 0, 32⟩
/-- Table 13-2: the key of register MSIX_DATA. -/
def a_MSIX_DATA (i : Nat) : Nat := 0x1C0008 + 0x10 * i
/-- Table 13-2: MSIX_DATA.DATA. -/
def MSIX_DATA_DATA (i : Nat) : Field := ⟨a_MSIX_DATA i, 0, 32⟩
/-- Table 13-2: the key of register MSIX_CTRL. -/
def a_MSIX_CTRL (i : Nat) : Nat := 0x1C000C + 0x10 * i
/-- Table 13-2: MSIX_CTRL.MASK. -/
def MSIX_CTRL_MASK (i : Nat) : Field := ⟨a_MSIX_CTRL i, 0, 1⟩
/-- Table 13-2: the key of register MSIX_PBA. -/
def a_MSIX_PBA (i : Nat) : Nat := 0x1C1000 + 0x4 * i
/-- Table 13-2: MSIX_PBA.PENDING. -/
def MSIX_PBA_PENDING (i : Nat) : Field := ⟨a_MSIX_PBA i, 0, 32⟩
/-- Table 13-14: the key of register HIF_LINKCTL. -/
def a_HIF_LINKCTL : Nat := 0x1C2000
/-- Table 13-14: HIF_LINKCTL.MAXRATE. -/
def HIF_LINKCTL_MAXRATE : Field := ⟨a_HIF_LINKCTL, 0, 2⟩
/-- Table 13-14: the key of register HIF_LINKSTAT. -/
def a_HIF_LINKSTAT : Nat := 0x1C2004
/-- Table 13-14: HIF_LINKSTAT.RATE. -/
def HIF_LINKSTAT_RATE : Field := ⟨a_HIF_LINKSTAT, 0, 2⟩
/-- Table 13-14: HIF_LINKSTAT.X8. -/
def HIF_LINKSTAT_X8 : Field := ⟨a_HIF_LINKSTAT, 2, 1⟩
/-- Table 13-14: HIF_LINKSTAT.RETRY. -/
def HIF_LINKSTAT_RETRY : Field := ⟨a_HIF_LINKSTAT, 16, 16⟩
/-- Table 13-14: the key of register HIF_RXMAP. -/
def a_HIF_RXMAP (i : Nat) : Nat := 0x1C2020 + 0x4 * i
/-- Table 13-14: HIF_RXMAP.RING. -/
def HIF_RXMAP_RING (i : Nat) : Field := ⟨a_HIF_RXMAP i, 0, 12⟩
/-- Table 13-14: HIF_RXMAP.EN. -/
def HIF_RXMAP_EN (i : Nat) : Field := ⟨a_HIF_RXMAP i, 12, 1⟩
/-- Table 13-14: HIF_RXMAP.CT. -/
def HIF_RXMAP_CT (i : Nat) : Field := ⟨a_HIF_RXMAP i, 13, 1⟩
/-- Table 13-14: HIF_RXMAP.WAIT. -/
def HIF_RXMAP_WAIT (i : Nat) : Field := ⟨a_HIF_RXMAP i, 14, 10⟩
/-- Table 13-14: the key of register HIF_NOTCFG. -/
def a_HIF_NOTCFG : Nat := 0x1C2040
/-- Table 13-14: HIF_NOTCFG.RING. -/
def HIF_NOTCFG_RING : Field := ⟨a_HIF_NOTCFG, 0, 12⟩
/-- Table 13-14: HIF_NOTCFG.EN. -/
def HIF_NOTCFG_EN : Field := ⟨a_HIF_NOTCFG, 12, 1⟩
/-- Table 13-14: the key of register HIF_TELCFG. -/
def a_HIF_TELCFG : Nat := 0x1C2044
/-- Table 13-14: HIF_TELCFG.RING. -/
def HIF_TELCFG_RING : Field := ⟨a_HIF_TELCFG, 0, 12⟩
/-- Table 13-14: HIF_TELCFG.EN. -/
def HIF_TELCFG_EN : Field := ⟨a_HIF_TELCFG, 12, 1⟩
/-- Table 13-14: the key of register HIF_RXDROP. -/
def a_HIF_RXDROP : Nat := 0x1C2050
/-- Table 13-14: HIF_RXDROP.NOBUF. -/
def HIF_RXDROP_NOBUF : Field := ⟨a_HIF_RXDROP, 0, 16⟩
/-- Table 13-14: HIF_RXDROP.NOMAP. -/
def HIF_RXDROP_NOMAP : Field := ⟨a_HIF_RXDROP, 16, 16⟩
/-- Table 13-14: the key of register HIF_EVDROP. -/
def a_HIF_EVDROP : Nat := 0x1C2054
/-- Table 13-14: HIF_EVDROP.COUNT. -/
def HIF_EVDROP_COUNT : Field := ⟨a_HIF_EVDROP, 0, 32⟩
/-- Table 13-14: the key of register HIF_MACCMD. -/
def a_HIF_MACCMD : Nat := 0x1C2080
/-- Table 13-14: HIF_MACCMD.OP. -/
def HIF_MACCMD_OP : Field := ⟨a_HIF_MACCMD, 0, 2⟩
/-- Table 13-14: the key of register HIF_MACARG01. -/
def a_HIF_MACARG01 (i : Nat) : Nat := 0x1C2084 + 0x4 * i
/-- Table 13-14: HIF_MACARG01.EUI. -/
def HIF_MACARG01_EUI (i : Nat) : Field := ⟨a_HIF_MACARG01 i, 0, 32⟩
/-- Table 13-14: the key of register HIF_MACARG2. -/
def a_HIF_MACARG2 : Nat := 0x1C208C
/-- Table 13-14: HIF_MACARG2.ADDR. -/
def HIF_MACARG2_ADDR : Field := ⟨a_HIF_MACARG2, 0, 25⟩
/-- Table 13-14: the key of register HIF_MACARG3. -/
def a_HIF_MACARG3 : Nat := 0x1C2090
/-- Table 13-14: HIF_MACARG3.SESSION. -/
def HIF_MACARG3_SESSION : Field := ⟨a_HIF_MACARG3, 0, 18⟩
/-- Table 13-14: HIF_MACARG3.BIDX. -/
def HIF_MACARG3_BIDX : Field := ⟨a_HIF_MACARG3, 18, 4⟩
/-- Table 13-14: the key of register HIF_MACRES. -/
def a_HIF_MACRES : Nat := 0x1C20A0
/-- Table 13-14: HIF_MACRES.ADDR. -/
def HIF_MACRES_ADDR : Field := ⟨a_HIF_MACRES, 0, 25⟩
/-- Table 13-14: HIF_MACRES.RESULT. -/
def HIF_MACRES_RESULT : Field := ⟨a_HIF_MACRES, 25, 3⟩
/-- Table 13-14: HIF_MACRES.BUSY. -/
def HIF_MACRES_BUSY : Field := ⟨a_HIF_MACRES, 28, 1⟩
/-- Table 13-14: the key of register HIF_MACRES2. -/
def a_HIF_MACRES2 : Nat := 0x1C20A4
/-- Table 13-14: HIF_MACRES2.SESSION. -/
def HIF_MACRES2_SESSION : Field := ⟨a_HIF_MACRES2, 0, 18⟩
/-- Table 13-14: the key of register HIF_VMOD. -/
def a_HIF_VMOD (i : Nat) : Nat := 0x1C3000 + 0x4 * i
/-- Table 13-14: HIF_VMOD.HOLDOFF. -/
def HIF_VMOD_HOLDOFF (i : Nat) : Field := ⟨a_HIF_VMOD i, 0, 12⟩
/-- Table 13-14: HIF_VMOD.BATCH. -/
def HIF_VMOD_BATCH (i : Nat) : Field := ⟨a_HIF_VMOD i, 12, 8⟩
/-- Table 08-7: the key of register BUR_CTL. -/
def a_BUR_CTL : Nat := f1 0x0
/-- Table 08-7: BUR_CTL.EN. -/
def BUR_CTL_EN : Field := ⟨a_BUR_CTL, 0, 1⟩
/-- Table 08-7: BUR_CTL.LOCK. -/
def BUR_CTL_LOCK : Field := ⟨a_BUR_CTL, 1, 1⟩
/-- Table 08-7: BUR_CTL.ACT. -/
def BUR_CTL_ACT : Field := ⟨a_BUR_CTL, 2, 2⟩
/-- Table 08-7: BUR_CTL.PENDING. -/
def BUR_CTL_PENDING : Field := ⟨a_BUR_CTL, 4, 1⟩
/-- Table 08-7: BUR_CTL.PROT_FAULT. -/
def BUR_CTL_PROT_FAULT : Field := ⟨a_BUR_CTL, 5, 1⟩
/-- Table 08-8: the key of register BUR_STAT. -/
def a_BUR_STAT : Nat := f1 0x4
/-- Table 08-8: BUR_STAT.TIN. -/
def BUR_STAT_TIN : Field := ⟨a_BUR_STAT, 0, 8⟩
/-- Table 08-8: BUR_STAT.TOUT. -/
def BUR_STAT_TOUT : Field := ⟨a_BUR_STAT, 8, 8⟩
/-- Table 08-8: BUR_STAT.STUCK. -/
def BUR_STAT_STUCK : Field := ⟨a_BUR_STAT, 16, 8⟩
/-- Table 08-9: the key of register BUR_TIMING. -/
def a_BUR_TIMING : Nat := f1 0x8
/-- Table 08-9: BUR_TIMING.MAX_ASSERT. -/
def BUR_TIMING_MAX_ASSERT : Field := ⟨a_BUR_TIMING, 0, 16⟩
/-- Table 08-9: BUR_TIMING.OUT_HOLD. -/
def BUR_TIMING_OUT_HOLD : Field := ⟨a_BUR_TIMING, 16, 8⟩
/-- Table 08-10: the key of register BUR_DETCFG. -/
def a_BUR_DETCFG : Nat := f1 0xC
/-- Table 08-10: BUR_DETCFG.STH. -/
def BUR_DETCFG_STH : Field := ⟨a_BUR_DETCFG, 0, 6⟩
/-- Table 08-10: BUR_DETCFG.PTH. -/
def BUR_DETCFG_PTH : Field := ⟨a_BUR_DETCFG, 6, 6⟩
/-- Table 08-11: the key of register BUR_SAFEINFO. -/
def a_BUR_SAFEINFO : Nat := f1 0x10
/-- Table 08-11: BUR_SAFEINFO.VER. -/
def BUR_SAFEINFO_VER : Field := ⟨a_BUR_SAFEINFO, 0, 16⟩
/-- Table 08-11: BUR_SAFEINFO.SRC. -/
def BUR_SAFEINFO_SRC : Field := ⟨a_BUR_SAFEINFO, 16, 2⟩
/-- Table 08-11: BUR_SAFEINFO.OTPSLOTS. -/
def BUR_SAFEINFO_OTPSLOTS : Field := ⟨a_BUR_SAFEINFO, 18, 3⟩
/-- Table 08-12: the key of register BUR_TRIPCFG. -/
def a_BUR_TRIPCFG (i : Nat) : Nat := f1 0x40 + 0x4 * i
/-- Table 08-12: BUR_TRIPCFG.EN. -/
def BUR_TRIPCFG_EN (i : Nat) : Field := ⟨a_BUR_TRIPCFG i, 0, 1⟩
/-- Table 08-12: BUR_TRIPCFG.POL. -/
def BUR_TRIPCFG_POL (i : Nat) : Field := ⟨a_BUR_TRIPCFG i, 1, 1⟩
/-- Table 08-12: BUR_TRIPCFG.CMD. -/
def BUR_TRIPCFG_CMD (i : Nat) : Field := ⟨a_BUR_TRIPCFG i, 2, 4⟩
/-- Table 08-12: BUR_TRIPCFG.PORTS. -/
def BUR_TRIPCFG_PORTS (i : Nat) : Field := ⟨a_BUR_TRIPCFG i, 16, 16⟩
/-- Table 08-13: the key of register BUR_CMDCFG. -/
def a_BUR_CMDCFG (i : Nat) : Nat := f1 0x80 + 0x4 * i
/-- Table 08-13: BUR_CMDCFG.ACC. -/
def BUR_CMDCFG_ACC (i : Nat) : Field := ⟨a_BUR_CMDCFG i, 0, 1⟩
/-- Table 08-13: BUR_CMDCFG.OUTEN. -/
def BUR_CMDCFG_OUTEN (i : Nat) : Field := ⟨a_BUR_CMDCFG i, 1, 1⟩
/-- Table 08-13: BUR_CMDCFG.OUT. -/
def BUR_CMDCFG_OUT (i : Nat) : Field := ⟨a_BUR_CMDCFG i, 2, 3⟩
/-- Table 08-13: BUR_CMDCFG.REGEN. -/
def BUR_CMDCFG_REGEN (i : Nat) : Field := ⟨a_BUR_CMDCFG i, 16, 16⟩
/-- Table 08-14: the key of register BUR_PORTCFG. -/
def a_BUR_PORTCFG (i : Nat) : Nat := f1 0x100 + 0x4 * i
/-- Table 08-14: BUR_PORTCFG.TXEN. -/
def BUR_PORTCFG_TXEN (i : Nat) : Field := ⟨a_BUR_PORTCFG i, 0, 1⟩
/-- Table 08-14: BUR_PORTCFG.RXEN. -/
def BUR_PORTCFG_RXEN (i : Nat) : Field := ⟨a_BUR_PORTCFG i, 1, 1⟩
/-- Table 08-14: BUR_PORTCFG.PROF. -/
def BUR_PORTCFG_PROF (i : Nat) : Field := ⟨a_BUR_PORTCFG i, 2, 1⟩
/-- Table 08-14: BUR_PORTCFG.PRIO. -/
def BUR_PORTCFG_PRIO (i : Nat) : Field := ⟨a_BUR_PORTCFG i, 3, 1⟩
/-- Table 08-14: BUR_PORTCFG.BASE. -/
def BUR_PORTCFG_BASE (i : Nat) : Field := ⟨a_BUR_PORTCFG i, 4, 7⟩
/-- Table 08-15: the key of register BUR_PORTLVL. -/
def a_BUR_PORTLVL (i : Nat) : Nat := f1 0x140 + 0x4 * i
/-- Table 08-15: BUR_PORTLVL.BLEVEL. -/
def BUR_PORTLVL_BLEVEL (i : Nat) : Field := ⟨a_BUR_PORTLVL i, 0, 8⟩
/-- Table 08-15: BUR_PORTLVL.BACKOFF. -/
def BUR_PORTLVL_BACKOFF (i : Nat) : Field := ⟨a_BUR_PORTLVL i, 8, 6⟩
/-- Table 08-15: BUR_PORTLVL.TXGAIN. -/
def BUR_PORTLVL_TXGAIN (i : Nat) : Field := ⟨a_BUR_PORTLVL i, 14, 7⟩
/-- Table 08-15: BUR_PORTLVL.TXGAIN_EN. -/
def BUR_PORTLVL_TXGAIN_EN (i : Nat) : Field := ⟨a_BUR_PORTLVL i, 21, 1⟩
/-- Table 08-16: the key of register BUR_PCNT. -/
def a_BUR_PCNT (i : Nat) : Nat := f1 0x200 + 0x4 * i
/-- Table 08-16: BUR_PCNT.ACC. -/
def BUR_PCNT_ACC (i : Nat) : Field := ⟨a_BUR_PCNT i, 0, 16⟩
/-- Table 08-16: BUR_PCNT.REF. -/
def BUR_PCNT_REF (i : Nat) : Field := ⟨a_BUR_PCNT i, 16, 16⟩
/-- Table 08-16: the key of register BUR_TXCNT. -/
def a_BUR_TXCNT (i : Nat) : Nat := f1 0x240 + 0x4 * i
/-- Table 08-16: BUR_TXCNT.COUNT. -/
def BUR_TXCNT_COUNT (i : Nat) : Field := ⟨a_BUR_TXCNT i, 0, 32⟩
/-- Table 03-8: the key of register BUR_PEND. -/
def a_BUR_PEND (i : Nat) : Nat := f1 0x380 + 0x4 * i
/-- Table 03-8: BUR_PEND.PEND. -/
def BUR_PEND_PEND (i : Nat) : Field := ⟨a_BUR_PEND i, 0, 32⟩
/-- Table 03-7: the key of register BUR_ROUTE. -/
def a_BUR_ROUTE (i : Nat) : Nat := f1 0x400 + 0x4 * i
/-- Table 03-7: BUR_ROUTE.REC. -/
def BUR_ROUTE_REC (i : Nat) : Field := ⟨a_BUR_ROUTE i, 0, 1⟩
/-- Table 03-7: BUR_ROUTE.IRQ. -/
def BUR_ROUTE_IRQ (i : Nat) : Field := ⟨a_BUR_ROUTE i, 1, 1⟩
/-- Table 03-7: BUR_ROUTE.FUNC. -/
def BUR_ROUTE_FUNC (i : Nat) : Field := ⟨a_BUR_ROUTE i, 2, 1⟩
/-- Table 03-7: BUR_ROUTE.RING. -/
def BUR_ROUTE_RING (i : Nat) : Field := ⟨a_BUR_ROUTE i, 3, 4⟩
/-- Table 03-7: BUR_ROUTE.VECTOR. -/
def BUR_ROUTE_VECTOR (i : Nat) : Field := ⟨a_BUR_ROUTE i, 15, 5⟩
/-- Table 13-13: the key of register F1_RBASELO. -/
def a_F1_RBASELO (i : Nat) : Nat := f1 0x1000 + 0x20 * i
/-- Table 13-13: F1_RBASELO.BASE. -/
def F1_RBASELO_BASE (i : Nat) : Field := ⟨a_F1_RBASELO i, 12, 20⟩
/-- Table 13-13: the key of register F1_RBASEHI. -/
def a_F1_RBASEHI (i : Nat) : Nat := f1 0x1004 + 0x20 * i
/-- Table 13-13: F1_RBASEHI.BASE. -/
def F1_RBASEHI_BASE (i : Nat) : Field := ⟨a_F1_RBASEHI i, 0, 32⟩
/-- Table 13-13: the key of register F1_RCFG. -/
def a_F1_RCFG (i : Nat) : Nat := f1 0x1008 + 0x20 * i
/-- Table 13-13: F1_RCFG.TYPE. -/
def F1_RCFG_TYPE (i : Nat) : Field := ⟨a_F1_RCFG i, 0, 3⟩
/-- Table 13-13: F1_RCFG.LOGSZ. -/
def F1_RCFG_LOGSZ (i : Nat) : Field := ⟨a_F1_RCFG i, 3, 5⟩
/-- Table 13-13: F1_RCFG.VECTOR. -/
def F1_RCFG_VECTOR (i : Nat) : Field := ⟨a_F1_RCFG i, 20, 5⟩
/-- Table 13-13: F1_RCFG.IEN. -/
def F1_RCFG_IEN (i : Nat) : Field := ⟨a_F1_RCFG i, 28, 1⟩
/-- Table 13-13: F1_RCFG.EN. -/
def F1_RCFG_EN (i : Nat) : Field := ⟨a_F1_RCFG i, 29, 1⟩
/-- Table 13-13: F1_RCFG.REFUSED. -/
def F1_RCFG_REFUSED (i : Nat) : Field := ⟨a_F1_RCFG i, 30, 1⟩
/-- Table 13-13: the key of register F1_RPROD. -/
def a_F1_RPROD (i : Nat) : Nat := f1 0x100C + 0x20 * i
/-- Table 13-13: F1_RPROD.P. -/
def F1_RPROD_P (i : Nat) : Field := ⟨a_F1_RPROD i, 0, 32⟩
/-- Table 13-13: the key of register F1_RCONS. -/
def a_F1_RCONS (i : Nat) : Nat := f1 0x1010 + 0x20 * i
/-- Table 13-13: F1_RCONS.C. -/
def F1_RCONS_C (i : Nat) : Field := ⟨a_F1_RCONS i, 0, 32⟩
/-- Table 13-13: the key of register F1_RSTAT. -/
def a_F1_RSTAT (i : Nat) : Nat := f1 0x1014 + 0x20 * i
/-- Table 13-13: F1_RSTAT.IDLE. -/
def F1_RSTAT_IDLE (i : Nat) : Field := ⟨a_F1_RSTAT i, 0, 1⟩
/-- Table 13-13: F1_RSTAT.ERR. -/
def F1_RSTAT_ERR (i : Nat) : Field := ⟨a_F1_RSTAT i, 1, 3⟩
/-- Table 13-13: F1_RSTAT.STOPPED. -/
def F1_RSTAT_STOPPED (i : Nat) : Field := ⟨a_F1_RSTAT i, 4, 1⟩
/-- Table 13-13: F1_RSTAT.RESV. -/
def F1_RSTAT_RESV (i : Nat) : Field := ⟨a_F1_RSTAT i, 5, 17⟩
/-- Table 13-13: the key of register F1_RRSVD. -/
def a_F1_RRSVD (i : Nat) (j : Nat) : Nat := f1 0x1018 + 0x20 * i + 0x4 * j
/-- Table 13-14: the key of register F1_VMOD. -/
def a_F1_VMOD (i : Nat) : Nat := f1 0x1200 + 0x4 * i
/-- Table 13-14: F1_VMOD.HOLDOFF. -/
def F1_VMOD_HOLDOFF (i : Nat) : Field := ⟨a_F1_VMOD i, 0, 12⟩
/-- Table 13-14: F1_VMOD.BATCH. -/
def F1_VMOD_BATCH (i : Nat) : Field := ⟨a_F1_VMOD i, 12, 8⟩
/-- Table 13-15: the key of register HIF_MBXCMD. -/
def a_HIF_MBXCMD : Nat := f1 0x8000
/-- Table 13-15: HIF_MBXCMD.OP. -/
def HIF_MBXCMD_OP : Field := ⟨a_HIF_MBXCMD, 0, 8⟩
/-- Table 13-15: HIF_MBXCMD.SEQ. -/
def HIF_MBXCMD_SEQ : Field := ⟨a_HIF_MBXCMD, 8, 8⟩
/-- Table 13-15: the key of register HIF_MBXSTAT. -/
def a_HIF_MBXSTAT : Nat := f1 0x8004
/-- Table 13-15: HIF_MBXSTAT.BUSY. -/
def HIF_MBXSTAT_BUSY : Field := ⟨a_HIF_MBXSTAT, 0, 1⟩
/-- Table 13-15: HIF_MBXSTAT.RESULT. -/
def HIF_MBXSTAT_RESULT : Field := ⟨a_HIF_MBXSTAT, 1, 3⟩
/-- Table 13-15: HIF_MBXSTAT.DONESEQ. -/
def HIF_MBXSTAT_DONESEQ : Field := ⟨a_HIF_MBXSTAT, 8, 8⟩
/-- Table 13-15: HIF_MBXSTAT.PROG. -/
def HIF_MBXSTAT_PROG : Field := ⟨a_HIF_MBXSTAT, 16, 8⟩
/-- Table 13-15: HIF_MBXSTAT.MODE. -/
def HIF_MBXSTAT_MODE : Field := ⟨a_HIF_MBXSTAT, 24, 4⟩
/-- Table 13-15: the key of register HIF_MBXARG. -/
def a_HIF_MBXARG (i : Nat) : Nat := f1 0x8010 + 0x4 * i
/-- Table 13-15: HIF_MBXARG.ARG. -/
def HIF_MBXARG_ARG (i : Nat) : Field := ⟨a_HIF_MBXARG i, 0, 32⟩
/-- Table 13-2: the key of register HIF_MBXBUF. -/
def a_HIF_MBXBUF (i : Nat) : Nat := f1 0x9000 + 0x4 * i
/-- Table 13-2: HIF_MBXBUF.DATA. -/
def HIF_MBXBUF_DATA (i : Nat) : Field := ⟨a_HIF_MBXBUF i, 0, 32⟩
/-- Table 13-2: the key of register F1_MSIX_ADDRLO. -/
def a_F1_MSIX_ADDRLO (i : Nat) : Nat := f1 0xC000 + 0x10 * i
/-- Table 13-2: F1_MSIX_ADDRLO.ADDR. -/
def F1_MSIX_ADDRLO_ADDR (i : Nat) : Field := ⟨a_F1_MSIX_ADDRLO i, 0, 32⟩
/-- Table 13-2: the key of register F1_MSIX_ADDRHI. -/
def a_F1_MSIX_ADDRHI (i : Nat) : Nat := f1 0xC004 + 0x10 * i
/-- Table 13-2: F1_MSIX_ADDRHI.ADDR. -/
def F1_MSIX_ADDRHI_ADDR (i : Nat) : Field := ⟨a_F1_MSIX_ADDRHI i, 0, 32⟩
/-- Table 13-2: the key of register F1_MSIX_DATA. -/
def a_F1_MSIX_DATA (i : Nat) : Nat := f1 0xC008 + 0x10 * i
/-- Table 13-2: F1_MSIX_DATA.DATA. -/
def F1_MSIX_DATA_DATA (i : Nat) : Field := ⟨a_F1_MSIX_DATA i, 0, 32⟩
/-- Table 13-2: the key of register F1_MSIX_CTRL. -/
def a_F1_MSIX_CTRL (i : Nat) : Nat := f1 0xC00C + 0x10 * i
/-- Table 13-2: F1_MSIX_CTRL.MASK. -/
def F1_MSIX_CTRL_MASK (i : Nat) : Field := ⟨a_F1_MSIX_CTRL i, 0, 1⟩
/-- Table 13-2: the key of register F1_MSIX_PBA. -/
def a_F1_MSIX_PBA : Nat := f1 0xD000
/-- Table 13-2: F1_MSIX_PBA.PENDING. -/
def F1_MSIX_PBA_PENDING : Field := ⟨a_F1_MSIX_PBA, 0, 32⟩
/-- Rows 0 to 39 of the register map, by rising address (Tables 19-3 to 19-5). -/
def regMap0 : List Row := [
  ⟨"SYS_ID", 0x0, 1, 0x0, 1, 0x0, 0x0, 0x0, 0x0, 0x0, 0x0, 0xFFFFFFF0, 0x0, 2, 0⟩,
  ⟨"SYS_CAP", 0x4, 1, 0x0, 1, 0x0, 0x0, 0x0, 0x0, 0x0, 0x0, 0xFFFF, 0x8000, 2, 0⟩,
  ⟨"SYS_MODE", 0x20, 1, 0x0, 1, 0x0, 0x0, 0x0, 0x0, 0x0, 0xF, 0x0, 0x0, 2, 1⟩,
  ⟨"SYS_MODESTAT", 0x24, 1, 0x0, 1, 0x0, 0x0, 0x0, 0x400, 0x0, 0x0, 0x7BFF, 0x111, 2, 1⟩,
  ⟨"SYS_BOOTSTAT", 0x28, 1, 0x0, 1, 0x0, 0x0, 0x0, 0x0, 0x0, 0x0, 0xFFFFFFFF, 0x3, 2, 1⟩,
  ⟨"SYS_LOCK", 0x30, 1, 0x0, 1, 0x0, 0x0, 0x0, 0x0, 0x1, 0x0, 0x0, 0x0, 2, 1⟩,
  ⟨"SYS_VIOLCNT", 0x40, 1, 0x0, 1, 0x0, 0x0, 0x0, 0x0, 0x0, 0x10000, 0xFFFF, 0x0, 0, 3⟩,
  ⟨"SYS_VIOLADDR", 0x44, 1, 0x0, 1, 0x0, 0x0, 0x0, 0x0, 0x0, 0x0, 0xFFFFFFFF, 0x0, 0, 3⟩,
  ⟨"SYS_VIOLINFO", 0x48, 1, 0x0, 1, 0x0, 0x0, 0x0, 0x0, 0x0, 0x0, 0x7F, 0x0, 0, 3⟩,
  ⟨"SYS_DECSYNC", 0x50, 1, 0x0, 1, 0x0, 0x0, 0x1, 0x0, 0x0, 0x2, 0xFF00, 0x0, 0, 3⟩,
  ⟨"SYS_DECSYNCT", 0x54, 1, 0x0, 1, 0x0, 0x0, 0x0, 0x0, 0x0, 0x0, 0xFFFFFFFF, 0x0, 0, 3⟩,
  ⟨"SQR_TICK_LO", 0x10000, 1, 0x0, 1, 0x0, 0x0, 0x0, 0x0, 0x0, 0x0, 0xFFFFFFFF, 0x0, 0, 1⟩,
  ⟨"SQR_TICK_HI", 0x10004, 1, 0x0, 1, 0x0, 0x0, 0x0, 0x0, 0x0, 0x0, 0xFFFFFFFF, 0x0, 0, 3⟩,
  ⟨"SQR_SWEVT", 0x10010, 1, 0x0, 1, 0x0, 0x0, 0x0, 0x0, 0x0, 0xFFFFFFFF, 0x0, 0x0, 0, 3⟩,
  ⟨"SQR_DROPCNT", 0x10014, 1, 0x0, 1, 0x0, 0x0, 0x0, 0x0, 0x0, 0x0, 0xFFFFFFFF, 0x0, 0, 2⟩,
  ⟨"SQR_PEND", 0x10100, 16, 0x4, 1, 0x0, 0x0, 0x0, 0xFFFFFFFF, 0x0, 0x0, 0x0, 0x0, 0, 3⟩,
  ⟨"SQR_ROUTE", 0x11000, 512, 0x4, 1, 0x0, 0x7FFFFF, 0x0, 0x0, 0x0, 0x0, 0x0, 0x0, 0, 3⟩,
  ⟨"CLK_STAT", 0x20000, 1, 0x0, 1, 0x0, 0x0, 0x0, 0x0, 0x0, 0x0, 0xFFFF03, 0x0, 0, 1⟩,
  ⟨"PWR_REQ", 0x21000, 1, 0x0, 1, 0x0, 0x0, 0xFFFFF, 0x0, 0x0, 0x0, 0x0, 0xFFFFF, 0, 3⟩,
  ⟨"PWR_STAT", 0x21004, 1, 0x0, 1, 0x0, 0x0, 0x0, 0x100000, 0x0, 0x0, 0x2FFFFF, 0xFFFFF, 0, 1⟩,
  ⟨"PWR_RST", 0x21008, 1, 0x0, 1, 0x0, 0x0, 0x0, 0x0, 0x0, 0xFFFFF, 0x0, 0x0, 0, 3⟩,
  ⟨"PWR_THCFG", 0x21040, 1, 0x0, 1, 0x0, 0x7F00FFFF, 0xFF0000, 0x0, 0x0, 0x0, 0x0, 0x437D7369, 0, 3⟩,
  ⟨"PWR_TSENS", 0x21100, 8, 0x4, 1, 0x0, 0x0, 0x0, 0x0, 0x0, 0x0, 0x3FFF, 0x0, 0, 3⟩,
  ⟨"HIF_RBASELO", 0x40000, 4096, 0x20, 1, 0x0, 0xFFFFF000, 0x0, 0x0, 0x0, 0x0, 0x0, 0x0, 2, 3⟩,
  ⟨"HIF_RBASEHI", 0x40004, 4096, 0x20, 1, 0x0, 0xFFFFFFFF, 0x0, 0x0, 0x0, 0x0, 0x0, 0x0, 2, 3⟩,
  ⟨"HIF_RCFG", 0x40008, 4096, 0x20, 1, 0x0, 0x3FFFFFFF, 0x0, 0x40000000, 0x0, 0x0, 0x0, 0x20, 2, 3⟩,
  ⟨"HIF_RPROD", 0x4000c, 4096, 0x20, 1, 0x0, 0x0, 0x0, 0x0, 0x0, 0x0, 0xFFFFFFFF, 0x0, 2, 3⟩,
  ⟨"HIF_RCONS", 0x40010, 4096, 0x20, 1, 0x0, 0x0, 0x0, 0x0, 0x0, 0x0, 0xFFFFFFFF, 0x0, 2, 3⟩,
  ⟨"HIF_RSTAT", 0x40014, 4096, 0x20, 1, 0x0, 0x0, 0x0, 0x0, 0x0, 0x0, 0x3FFFFF, 0x1, 2, 3⟩,
  ⟨"HIF_RRSVD", 0x40018, 4096, 0x20, 2, 0x4, 0x0, 0x0, 0x0, 0x0, 0x0, 0x0, 0x0, 2, 3⟩,
  ⟨"BLV_QBASE", 0x60000, 1, 0x0, 1, 0x0, 0x7FFFF, 0x0, 0x0, 0x0, 0x0, 0x0, 0x0, 3, 2⟩,
  ⟨"BLV_SBASE", 0x60004, 1, 0x0, 1, 0x0, 0x7FFFF, 0x0, 0x0, 0x0, 0x0, 0x0, 0x0, 3, 2⟩,
  ⟨"BLV_DBASE", 0x60008, 1, 0x0, 1, 0x0, 0x7FFFF, 0x0, 0x0, 0x0, 0x0, 0x0, 0x0, 3, 2⟩,
  ⟨"BLV_CBASE", 0x6000c, 1, 0x0, 1, 0x0, 0x7FFFF, 0x0, 0x0, 0x0, 0x0, 0x0, 0x0, 3, 2⟩,
  ⟨"BLV_RBASE", 0x60010, 1, 0x0, 1, 0x0, 0x7FFFF, 0x0, 0x0, 0x0, 0x0, 0x0, 0x0, 3, 2⟩,
  ⟨"BLV_POOLCFG", 0x60014, 1, 0x0, 1, 0x0, 0x1FFFFFF, 0x0, 0x8000000, 0x0, 0x2000000, 0x4000000, 0x0, 3, 2⟩,
  ⟨"BLV_LFREE", 0x60020, 1, 0x0, 1, 0x0, 0x0, 0x0, 0x0, 0x0, 0x0, 0x1FFFFFF, 0x0, 3, 3⟩,
  ⟨"BLV_LQUEUED", 0x60024, 1, 0x0, 1, 0x0, 0x0, 0x0, 0x0, 0x0, 0x0, 0x1FFFFFF, 0x0, 3, 3⟩,
  ⟨"BLV_LRX", 0x60028, 1, 0x0, 1, 0x0, 0x0, 0x0, 0x0, 0x0, 0x0, 0x1FFFFFF, 0x0, 3, 3⟩,
  ⟨"BLV_LRET", 0x6002c, 1, 0x0, 1, 0x0, 0x0, 0x0, 0x0, 0x0, 0x0, 0x1FFFFFF, 0x0, 3, 3⟩]
/-- Rows 40 to 79 of the register map, by rising address (Tables 19-3 to 19-5). -/
def regMap1 : List Row := [
  ⟨"BLV_LQUAR", 0x60030, 1, 0x0, 1, 0x0, 0x0, 0x0, 0x0, 0x0, 0x0, 0x1FFFFFF, 0x0, 3, 3⟩,
  ⟨"BLV_LSTAT", 0x60034, 1, 0x0, 1, 0x0, 0x0, 0x0, 0x0, 0x0, 0x0, 0x1F, 0x0, 3, 3⟩,
  ⟨"BLV_FLOOR", 0x60040, 8, 0x4, 1, 0x0, 0x1FFFFFF, 0x0, 0x0, 0x0, 0x0, 0x0, 0x0, 3, 3⟩,
  ⟨"BLV_DRR0", 0x60060, 1, 0x0, 1, 0x0, 0xFFFFFFFF, 0x0, 0x0, 0x0, 0x0, 0x0, 0x90A0C8FF, 3, 3⟩,
  ⟨"BLV_DRR1", 0x60064, 1, 0x0, 1, 0x0, 0xFF, 0x0, 0x0, 0x0, 0x0, 0x0, 0x90, 3, 3⟩,
  ⟨"BLV_NOCELL", 0x60070, 1, 0x0, 1, 0x0, 0x0, 0x0, 0x0, 0x0, 0x0, 0xFFFFFFFF, 0x0, 3, 3⟩,
  ⟨"BLV_QUARCNT", 0x60074, 1, 0x0, 1, 0x0, 0x0, 0x0, 0x0, 0x0, 0x0, 0xFFFFFFFF, 0x0, 3, 3⟩,
  ⟨"BLV_DROP", 0x60078, 1, 0x0, 1, 0x0, 0x0, 0x0, 0x0, 0x0, 0x0, 0xFFFFFFFF, 0x0, 3, 3⟩,
  ⟨"BLV_BCQ", 0x60080, 16, 0x4, 1, 0x0, 0x1FFFFF, 0x0, 0x0, 0x0, 0x0, 0x0, 0x0, 3, 3⟩,
  ⟨"BLV_OBJCMD", 0x60100, 1, 0x0, 1, 0x0, 0x0, 0x0, 0x0, 0x0, 0x3FFFFFFF, 0x0, 0x0, 3, 3⟩,
  ⟨"BLV_OBJSTAT", 0x60104, 1, 0x0, 1, 0x0, 0x0, 0x0, 0x0, 0x0, 0x0, 0x1F, 0x0, 3, 3⟩,
  ⟨"BLV_OBJDATA", 0x60140, 64, 0x4, 1, 0x0, 0xFFFFFFFF, 0x0, 0x0, 0x0, 0x0, 0x0, 0x0, 3, 3⟩,
  ⟨"BLV_SHAPE0", 0x60408, 255, 0x8, 1, 0x0, 0xFFFFFF, 0x0, 0x0, 0x0, 0x0, 0x0, 0x0, 3, 3⟩,
  ⟨"BLV_SHAPE1", 0x6040c, 255, 0x8, 1, 0x0, 0xFFFFFF, 0x0, 0x0, 0x0, 0x0, 0x0, 0x2400, 3, 3⟩,
  ⟨"ARC_CFG", 0x70000, 40, 0x10, 1, 0x0, 0x7FF03FF, 0x0, 0x0, 0x80000000, 0x0, 0x0, 0x121, 101, 3⟩,
  ⟨"ARC_STAT", 0x70004, 40, 0x10, 1, 0x0, 0x0, 0x0, 0x0, 0x0, 0x0, 0x1FF3FFF, 0x0, 101, 3⟩,
  ⟨"ARC_CNT", 0x70008, 40, 0x10, 1, 0x0, 0x0, 0x0, 0x0, 0x0, 0x0, 0xFFFFFFFF, 0x0, 101, 3⟩,
  ⟨"ARC_ERR", 0x7000c, 40, 0x10, 1, 0x0, 0x0, 0x0, 0x0, 0x0, 0x0, 0xFFFFFFFF, 0x0, 101, 3⟩,
  ⟨"MEM_CFG", 0x80000, 1, 0x0, 1, 0x0, 0x0, 0x0, 0x0, 0x0, 0x0, 0x3FF, 0x0, 6, 1⟩,
  ⟨"MEM_SWPCFG", 0x80010, 1, 0x0, 1, 0x0, 0x3FFFF, 0x0, 0x0, 0x0, 0x0, 0x0, 0x305A0, 6, 3⟩,
  ⟨"MEM_SWPSTAT", 0x80014, 1, 0x0, 1, 0x0, 0x0, 0x0, 0x1000000, 0x0, 0x0, 0xFFFFFF, 0x0, 6, 3⟩,
  ⟨"MEM_BKTCFG", 0x80020, 1, 0x0, 1, 0x0, 0xFFFFFFFF, 0x0, 0x0, 0x0, 0x0, 0x0, 0x3C0020, 6, 3⟩,
  ⟨"MEM_BKTCFG2", 0x80024, 1, 0x0, 1, 0x0, 0xFFFFFFFF, 0x0, 0x0, 0x0, 0x0, 0x0, 0x2580010, 6, 3⟩,
  ⟨"MEM_MARKCFG", 0x80028, 1, 0x0, 1, 0x0, 0xFFFF, 0x0, 0x0, 0x0, 0x0, 0x0, 0x400, 6, 3⟩,
  ⟨"MEM_DBKT", 0x80030, 4, 0x4, 1, 0x0, 0x0, 0x0, 0x0, 0x0, 0x0, 0xFFFFFFFF, 0x0, 6, 3⟩,
  ⟨"MEM_MARK", 0x80040, 4, 0x4, 1, 0x0, 0x1F1F, 0x0, 0x0, 0x0, 0x0, 0xFFFF0000, 0x0, 6, 3⟩,
  ⟨"MEM_UELOG0", 0x80100, 16, 0x8, 1, 0x0, 0x0, 0x0, 0x0, 0x0, 0x0, 0x1FFFFFFF, 0x0, 6, 3⟩,
  ⟨"MEM_UELOG1", 0x80104, 16, 0x8, 1, 0x0, 0x0, 0x0, 0x0, 0x0, 0x0, 0x7F, 0x0, 6, 3⟩,
  ⟨"MEM_UESTAT", 0x80180, 1, 0x0, 1, 0x0, 0x0, 0x0, 0x0, 0x0, 0x0, 0xFF0F, 0x0, 6, 3⟩,
  ⟨"MEM_REPLOG0", 0x80200, 8, 0x8, 1, 0x0, 0x0, 0x0, 0x0, 0x0, 0x0, 0x3FFFFFF, 0x0, 6, 3⟩,
  ⟨"MEM_REPLOG1", 0x80204, 8, 0x8, 1, 0x0, 0x0, 0x0, 0x0, 0x0, 0x0, 0x7, 0x0, 6, 3⟩,
  ⟨"MEM_DBGCTL", 0x80280, 1, 0x0, 1, 0x0, 0x0, 0xFFFFFF, 0x0, 0x0, 0x0, 0x0, 0x0, 6, 3⟩,
  ⟨"MEM_DBGSTAT", 0x80284, 1, 0x0, 1, 0x0, 0x0, 0x0, 0x1, 0x0, 0x0, 0x0, 0x0, 6, 3⟩,
  ⟨"MEM_DIAGCMD", 0x80300, 1, 0x0, 1, 0x0, 0x0, 0x0, 0x0, 0x0, 0x7, 0x0, 0x0, 6, 3⟩,
  ⟨"MEM_DIAGADDR", 0x80304, 1, 0x0, 1, 0x0, 0x1FFFFFFF, 0x0, 0x0, 0x0, 0x0, 0x0, 0x0, 6, 3⟩,
  ⟨"MEM_DIAGSTAT", 0x80308, 1, 0x0, 1, 0x0, 0x0, 0x0, 0x0, 0x0, 0x0, 0x7, 0x0, 6, 3⟩,
  ⟨"MEM_DIAGDATA", 0x80340, 16, 0x4, 1, 0x0, 0xFFFFFFFF, 0x0, 0x0, 0x0, 0x0, 0x0, 0x0, 6, 3⟩,
  ⟨"MEM_DIAGCHK", 0x80380, 4, 0x4, 1, 0x0, 0xFFFFFFFF, 0x0, 0x0, 0x0, 0x0, 0x0, 0x0, 6, 3⟩,
  ⟨"MEM_SBKT", 0x80400, 92, 0x4, 1, 0x0, 0x0, 0x0, 0x0, 0x0, 0x0, 0xFFFFFFFF, 0x0, 6, 3⟩,
  ⟨"CPH_CFG", 0x90000, 1, 0x0, 1, 0x0, 0xFFFF1F, 0x0, 0x0, 0x0, 0x0, 0x0, 0x40018, 5, 3⟩]
/-- Rows 80 to 119 of the register map, by rising address (Tables 19-3 to 19-5). -/
def regMap2 : List Row := [
  ⟨"CPH_STAT", 0x90004, 1, 0x0, 1, 0x0, 0x0, 0x0, 0x0, 0x0, 0x0, 0x3FFFF, 0x0, 5, 3⟩,
  ⟨"CPH_CNT0", 0x90008, 1, 0x0, 1, 0x0, 0x0, 0x0, 0x0, 0x0, 0x0, 0xFFFFFFFF, 0x0, 5, 3⟩,
  ⟨"CPH_CNT1", 0x9000c, 1, 0x0, 1, 0x0, 0x0, 0x0, 0x0, 0x0, 0x0, 0xFFFFFFFF, 0x0, 5, 3⟩,
  ⟨"KEY_VCNT0", 0x90100, 1, 0x0, 1, 0x0, 0x0, 0x0, 0x0, 0x0, 0x0, 0x1FF01FF, 0x100, 5, 1⟩,
  ⟨"KEY_VCNT1", 0x90104, 1, 0x0, 1, 0x0, 0x0, 0x0, 0x0, 0x0, 0x0, 0x1FF01FF, 0x0, 5, 1⟩,
  ⟨"KEY_KCCNT", 0x90108, 1, 0x0, 1, 0x0, 0x0, 0x0, 0x0, 0x0, 0x0, 0x1FF, 0x0, 5, 1⟩,
  ⟨"KEY_CMD", 0x90200, 1, 0x0, 1, 0x0, 0x0, 0x0, 0x0, 0x0, 0x3FFFFF7, 0x0, 0x0, 5, 3⟩,
  ⟨"KEY_CMDSTAT", 0x90204, 1, 0x0, 1, 0x0, 0x0, 0x0, 0x0, 0x0, 0x0, 0xF, 0x0, 5, 3⟩,
  ⟨"KEY_DIN", 0x90240, 18, 0x4, 1, 0x0, 0x0, 0x0, 0x0, 0x0, 0xFFFFFFFF, 0x0, 0x0, 5, 3⟩,
  ⟨"KEY_DOUT", 0x90290, 10, 0x4, 1, 0x0, 0x0, 0x0, 0x0, 0x0, 0x0, 0xFFFFFFFF, 0x0, 5, 3⟩,
  ⟨"KEY_SLOT", 0x91000, 256, 0x4, 1, 0x0, 0x0, 0x0, 0x0, 0x0, 0x0, 0x3FFFF, 0x0, 5, 1⟩,
  ⟨"TIM_TB_LOW", 0xa0000, 3, 0x10, 1, 0x0, 0x0, 0x0, 0x0, 0x0, 0x0, 0xFFFFFFFF, 0x0, 3, 1⟩,
  ⟨"TIM_TB_NS", 0xa0004, 3, 0x10, 1, 0x0, 0x0, 0x0, 0x0, 0x0, 0x0, 0xFFFFFFFF, 0x0, 3, 1⟩,
  ⟨"TIM_TB_SLO", 0xa0008, 3, 0x10, 1, 0x0, 0x0, 0x0, 0x0, 0x0, 0x0, 0xFFFFFFFF, 0x0, 3, 1⟩,
  ⟨"TIM_TB_SHI", 0xa000c, 3, 0x10, 1, 0x0, 0x0, 0x0, 0x0, 0x0, 0x0, 0xFFFFFFFF, 0x0, 3, 1⟩,
  ⟨"TIM_TBSTAT", 0xa0040, 2, 0x4, 1, 0x0, 0x0, 0x0, 0x0, 0x0, 0x10000, 0xFFF7, 0x0, 3, 1⟩,
  ⟨"TIM_TBFREQ", 0xa0048, 2, 0x4, 1, 0x0, 0x0, 0x0, 0x0, 0x0, 0x0, 0xFFFFFFFF, 0x0, 3, 1⟩,
  ⟨"TIM_TBPEND", 0xa0050, 2, 0x4, 1, 0x0, 0x0, 0x0, 0x0, 0x0, 0x0, 0xFFFFFFFF, 0x0, 3, 1⟩,
  ⟨"TIM_PTOFS", 0xa0058, 1, 0x0, 1, 0x0, 0x0, 0x0, 0x0, 0x0, 0x0, 0xFFFFFFFF, 0x0, 3, 1⟩,
  ⟨"TIM_CFG", 0xa0060, 1, 0x0, 1, 0x0, 0xFF7FFFFF, 0x0, 0x0, 0x0, 0x0, 0x0, 0xA6403E8, 3, 1⟩,
  ⟨"TIM_TB1CFG", 0xa0064, 1, 0x0, 1, 0x0, 0xFF7FFF, 0x0, 0x0, 0x0, 0x0, 0x0, 0xF83107, 3, 1⟩,
  ⟨"TIM_HOP", 0xa0068, 1, 0x0, 1, 0x0, 0x0, 0x0, 0x0, 0x0, 0x0, 0xFFFFFFFF, 0x0, 3, 1⟩,
  ⟨"TIM_TIMEQ", 0xa006c, 1, 0x0, 1, 0x0, 0x0, 0x0, 0x0, 0x0, 0x0, 0xFFFFFFFF, 0x0, 3, 1⟩,
  ⟨"TIM_TB0CMD", 0xa0070, 1, 0x0, 1, 0x0, 0x0, 0x0, 0x0, 0x0, 0xF, 0x30, 0x0, 3, 1⟩,
  ⟨"TIM_TB0ARG", 0xa0080, 4, 0x4, 1, 0x0, 0xFFFFFFFF, 0x0, 0x0, 0x0, 0x0, 0x0, 0x0, 3, 1⟩,
  ⟨"TIM_TB0REF", 0xa0090, 2, 0x4, 1, 0x0, 0xFFFFFFFF, 0x0, 0x0, 0x0, 0x0, 0x0, 0x0, 3, 1⟩,
  ⟨"TIM_TB3PH", 0xa00a0, 1, 0x0, 1, 0x0, 0x0, 0x0, 0x0, 0x0, 0x0, 0xFFFFFFFF, 0x0, 11, 1⟩,
  ⟨"TIM_TB3CYC", 0xa00a4, 2, 0x4, 1, 0x0, 0x0, 0x0, 0x0, 0x0, 0x0, 0xFFFFFFFF, 0x0, 11, 1⟩,
  ⟨"TIM_TB3STAT", 0xa00ac, 1, 0x0, 1, 0x0, 0x0, 0x0, 0x0, 0x0, 0x0, 0x3, 0x0, 11, 1⟩,
  ⟨"TIM_PLL", 0xa00b0, 1, 0x0, 1, 0x0, 0x3, 0x0, 0x0, 0x0, 0x0, 0xFFFFFF00, 0x0, 0, 1⟩,
  ⟨"TIM_PPSCFG", 0xa00c0, 1, 0x0, 1, 0x0, 0xFFFF07FF, 0x0, 0x0, 0x0, 0x0, 0x0, 0x324, 0, 1⟩,
  ⟨"TIM_PPSIN0", 0xa00d0, 4, 0x4, 1, 0x0, 0x0, 0x0, 0x0, 0x0, 0x0, 0xFFFFFFFF, 0x0, 0, 1⟩,
  ⟨"TIM_PPSIN2", 0xa00e0, 4, 0x4, 1, 0x0, 0x0, 0x0, 0x0, 0x0, 0x0, 0xFFFFFFFF, 0x0, 0, 1⟩,
  ⟨"TIM_SYNCCFG", 0xa00f0, 1, 0x0, 1, 0x0, 0x3, 0x0, 0x0, 0x0, 0x0, 0x0, 0x0, 0, 1⟩,
  ⟨"TIM_MSCTL", 0xa0800, 1, 0x0, 1, 0x0, 0xFFFF7, 0x0, 0x0, 0x0, 0x0, 0x0, 0x2A8F0, 11, 3⟩,
  ⟨"TIM_MSCFG", 0xa0810, 4, 0x4, 1, 0x0, 0xFFFFFFFF, 0x0, 0x0, 0x0, 0x0, 0x0, 0x10A, 11, 3⟩,
  ⟨"TIM_MSFREQ", 0xa0820, 4, 0x4, 1, 0x0, 0x0, 0x0, 0x0, 0x0, 0x0, 0xFFFFFFFF, 0x0, 11, 3⟩,
  ⟨"TIM_MSRMS", 0xa0830, 4, 0x4, 1, 0x0, 0x0, 0x0, 0x0, 0x0, 0x0, 0xFFFFFF, 0x0, 11, 3⟩,
  ⟨"TIM_MSENV", 0xa0840, 4, 0x4, 1, 0x0, 0x0, 0x0, 0x0, 0x0, 0x0, 0xFFFFFF, 0x0, 11, 3⟩,
  ⟨"TIM_MSPEAK", 0xa0850, 4, 0x4, 1, 0x0, 0x0, 0x0, 0x0, 0x0, 0x0, 0xFFFFFF, 0x0, 11, 3⟩]
/-- Rows 120 to 159 of the register map, by rising address (Tables 19-3 to 19-5). -/
def regMap3 : List Row := [
  ⟨"TIM_MSZCT", 0xa0860, 4, 0x4, 1, 0x0, 0x0, 0x0, 0x0, 0x0, 0x0, 0xFFFFFFFF, 0x0, 11, 3⟩,
  ⟨"TIM_MSZCF", 0xa0870, 4, 0x4, 1, 0x0, 0x0, 0x0, 0x0, 0x0, 0x0, 0xFFFF, 0x0, 11, 3⟩,
  ⟨"TIM_MSSTAT", 0xa0880, 4, 0x4, 1, 0x0, 0x0, 0x0, 0x200, 0x0, 0x0, 0xD3F, 0x800, 11, 3⟩,
  ⟨"TIM_MSHARM", 0xa0900, 4, 0x100, 50, 0x4, 0x0, 0x0, 0x0, 0x0, 0x0, 0xFFFFFFFF, 0x0, 11, 3⟩,
  ⟨"MAC_SFCFG", 0xb0000, 1, 0x0, 1, 0x0, 0x3FFFFFF, 0x0, 0x0, 0x0, 0x0, 0x0, 0xA0641, 4, 3⟩,
  ⟨"MAC_BCNCFG", 0xb0004, 1, 0x0, 1, 0x0, 0xFFFFFFF, 0x0, 0x0, 0x0, 0x0, 0x0, 0x1900000, 4, 3⟩,
  ⟨"MAC_BCNCFG2", 0xb0008, 1, 0x0, 1, 0x0, 0x1FFFFF, 0x0, 0x0, 0x0, 0x0, 0x0, 0x40258, 4, 3⟩,
  ⟨"MAC_DOMAIN", 0xb000c, 1, 0x0, 1, 0x0, 0x1FFFFFF, 0x0, 0x0, 0x0, 0x0, 0x0, 0x0, 4, 3⟩,
  ⟨"MAC_SFSTAT", 0xb0010, 1, 0x0, 1, 0x0, 0x0, 0x0, 0x100000, 0x0, 0x0, 0xFFFFF, 0x0, 4, 3⟩,
  ⟨"MAC_SFN", 0xb0014, 1, 0x0, 1, 0x0, 0x0, 0x0, 0x0, 0x0, 0x0, 0xFFFFFFFF, 0x0, 4, 3⟩,
  ⟨"MAC_PARENT", 0xb0018, 1, 0x0, 1, 0x0, 0x0, 0x0, 0x0, 0x0, 0x0, 0x1FFFFFFF, 0x1FFFFFE, 4, 3⟩,
  ⟨"MAC_BCNCNT", 0xb001c, 1, 0x0, 1, 0x0, 0x0, 0x0, 0x0, 0x0, 0x0, 0xFFFFFFFF, 0x0, 4, 3⟩,
  ⟨"MAC_CSMA", 0xb0020, 1, 0x0, 1, 0x0, 0xFFFFFFFF, 0x0, 0x0, 0x0, 0x0, 0x0, 0x53637484, 4, 3⟩,
  ⟨"MAC_JOIN", 0xb0024, 1, 0x0, 1, 0x0, 0xFFFF7, 0x0, 0x0, 0x0, 0x0, 0x0, 0x40443, 4, 3⟩,
  ⟨"MAC_PRESENCE", 0xb0028, 1, 0x0, 1, 0x0, 0xFFF, 0x0, 0x0, 0x0, 0x0, 0x0, 0x432, 4, 3⟩,
  ⟨"MAC_ALLOCCTL", 0xb002c, 1, 0x0, 1, 0x0, 0x0, 0x0, 0x40000, 0x0, 0x1, 0x3F3FF00, 0x0, 4, 3⟩,
  ⟨"MAC_BCNRX", 0xb0030, 1, 0x0, 1, 0x0, 0x0, 0x0, 0x0, 0x0, 0x0, 0xFFFFFFFF, 0x0, 4, 3⟩,
  ⟨"MAC_ACKCFG", 0xb0040, 1, 0x0, 1, 0x0, 0xFFFF, 0x0, 0x0, 0x0, 0x0, 0x0, 0x237, 4, 3⟩,
  ⟨"MAC_RELAY", 0xb0044, 1, 0x0, 1, 0x0, 0xFF3F, 0x0, 0x0, 0x0, 0x0, 0x0, 0x1021, 4, 3⟩,
  ⟨"MAC_SLEEPY", 0xb0048, 1, 0x0, 1, 0x0, 0xFFFFFFF, 0x0, 0x0, 0x0, 0x0, 0x0, 0x3C320B4, 4, 3⟩,
  ⟨"MAC_DUPCNT", 0xb0050, 1, 0x0, 1, 0x0, 0x0, 0x0, 0x0, 0x0, 0x0, 0xFFFFFFFF, 0x0, 4, 3⟩,
  ⟨"MAC_OLDCNT", 0xb0054, 1, 0x0, 1, 0x0, 0x0, 0x0, 0x0, 0x0, 0x0, 0xFFFFFFFF, 0x0, 4, 3⟩,
  ⟨"MAC_PENDFULL", 0xb0058, 1, 0x0, 1, 0x0, 0x0, 0x0, 0x0, 0x0, 0x0, 0xFFFFFFFF, 0x0, 4, 3⟩,
  ⟨"MAC_NOACKCNT", 0xb005c, 1, 0x0, 1, 0x0, 0x0, 0x0, 0x0, 0x0, 0x0, 0xFFFFFFFF, 0x0, 4, 3⟩,
  ⟨"MAC_LATEACK", 0xb0060, 1, 0x0, 1, 0x0, 0x0, 0x0, 0x0, 0x0, 0x0, 0xFFFFFFFF, 0x0, 4, 3⟩,
  ⟨"MAC_CTCNT", 0xb0064, 1, 0x0, 1, 0x0, 0x0, 0x0, 0x0, 0x0, 0x0, 0xFFFFFFFF, 0x0, 4, 3⟩,
  ⟨"MAC_HOLDEXP", 0xb0068, 1, 0x0, 1, 0x0, 0x0, 0x0, 0x0, 0x0, 0x0, 0xFFFFFFFF, 0x0, 4, 3⟩,
  ⟨"MAC_TMSBASE", 0xb0100, 1, 0x0, 1, 0x0, 0x7FFFF, 0x0, 0x0, 0x0, 0x0, 0x0, 0x0, 4, 2⟩,
  ⟨"MAC_TMSCFG", 0xb0104, 1, 0x0, 1, 0x0, 0xFFFFFFF, 0x0, 0x20000000, 0x0, 0x0, 0x10000000, 0x0, 4, 2⟩,
  ⟨"MAC_SNRBASE", 0xb0108, 1, 0x0, 1, 0x0, 0x7FFFF, 0x0, 0x0, 0x0, 0x0, 0x0, 0x0, 4, 2⟩,
  ⟨"MAC_DWLO", 0xb0200, 8, 0x10, 1, 0x0, 0x0, 0x3FFFF, 0x0, 0x0, 0x0, 0x0, 0x0, 4, 3⟩,
  ⟨"MAC_DWHI", 0xb0204, 8, 0x10, 1, 0x0, 0x0, 0x3FFFF, 0x0, 0x0, 0x0, 0x0, 0x0, 4, 3⟩,
  ⟨"MAC_DWTIME", 0xb0208, 8, 0x10, 1, 0x0, 0x0, 0x1FFFFFFF, 0x0, 0x0, 0x0, 0x0, 0x0, 4, 3⟩,
  ⟨"MAC_DWDUTY", 0xb020c, 8, 0x10, 1, 0x0, 0x0, 0x3FFFFF, 0x0, 0x0, 0x0, 0x0, 0x0, 4, 3⟩,
  ⟨"MAC_ALLOC0", 0xb0400, 64, 0x10, 1, 0x0, 0xFFFFFFFF, 0x0, 0x0, 0x0, 0x0, 0x0, 0x0, 4, 3⟩,
  ⟨"MAC_ALLOC1", 0xb0404, 64, 0x10, 1, 0x0, 0xFFFFFFF, 0x0, 0x0, 0x0, 0x0, 0x0, 0x0, 4, 3⟩,
  ⟨"MAC_ALLOC2", 0xb0408, 64, 0x10, 1, 0x0, 0xFFFF, 0x0, 0x0, 0x0, 0x0, 0x0, 0x0, 4, 3⟩,
  ⟨"UAR_CFG", 0xc0000, 4, 0x100, 1, 0x0, 0xFF03FF, 0x0, 0x0, 0x0, 0x0, 0x0, 0x140006, 10, 3⟩,
  ⟨"UAR_DIV", 0xc0004, 4, 0x100, 1, 0x0, 0xFFFFFF, 0x0, 0x0, 0x0, 0x0, 0x0, 0x200, 10, 3⟩,
  ⟨"UAR_QCFG", 0xc0008, 4, 0x100, 1, 0x0, 0x3FFF, 0x0, 0x0, 0x0, 0xC000, 0x0, 0x1C00, 10, 3⟩]
/-- Rows 160 to 199 of the register map, by rising address (Tables 19-3 to 19-5). -/
def regMap4 : List Row := [
  ⟨"UAR_DATA", 0xc000c, 4, 0x100, 1, 0x0, 0xFF, 0x0, 0x0, 0x0, 0x0, 0x1F00, 0x0, 10, 3⟩,
  ⟨"UAR_STAT", 0xc0010, 4, 0x100, 1, 0x0, 0x0, 0x0, 0x0, 0x0, 0x0, 0x3FFFF, 0x10000, 10, 3⟩,
  ⟨"UAR_ISR", 0xc0014, 4, 0x100, 1, 0x0, 0x0, 0x0, 0xFFF, 0x0, 0x0, 0x0, 0x0, 10, 3⟩,
  ⟨"UAR_IEN", 0xc0018, 4, 0x100, 1, 0x0, 0xFFF, 0x0, 0x0, 0x0, 0x0, 0x0, 0x0, 10, 3⟩,
  ⟨"UAR_SC", 0xc001c, 4, 0x100, 1, 0x0, 0xFFFFFF, 0x0, 0x0, 0x0, 0x0, 0x0, 0x34C02, 10, 3⟩,
  ⟨"FSP_CFG", 0xc1000, 1, 0x0, 1, 0x0, 0x3, 0x0, 0x0, 0x0, 0x0, 0x0, 0x0, 10, 3⟩,
  ⟨"FSP_STAT", 0xc1004, 1, 0x0, 1, 0x0, 0x0, 0x0, 0x0, 0x0, 0x0, 0xFF03, 0x0, 10, 2⟩,
  ⟨"FSP_WEAR", 0xc1008, 1, 0x0, 1, 0x0, 0x1FFFF, 0x0, 0x0, 0x0, 0x0, 0x0, 0x13880, 10, 3⟩,
  ⟨"FSP_WEAR2", 0xc100c, 1, 0x0, 1, 0x0, 0x0, 0x0, 0x0, 0x0, 0x0, 0x1FFFF, 0x0, 10, 0⟩,
  ⟨"FSP_LOGCMD", 0xc1010, 1, 0x0, 1, 0x0, 0x0, 0x0, 0x0, 0x0, 0xFFF, 0x3000, 0x0, 10, 3⟩,
  ⟨"FSP_BUF", 0xc2000, 1024, 0x4, 1, 0x0, 0x0, 0x0, 0x0, 0x0, 0x0, 0xFFFFFFFF, 0x0, 10, 3⟩,
  ⟨"GPI_DIR", 0xc3000, 1, 0x0, 1, 0x0, 0xFFFF, 0x0, 0x0, 0x0, 0x0, 0x0, 0x0, 10, 3⟩,
  ⟨"GPI_OUT", 0xc3004, 1, 0x0, 1, 0x0, 0xFFFF, 0x0, 0x0, 0x0, 0x0, 0x0, 0x0, 10, 3⟩,
  ⟨"GPI_OD", 0xc3008, 1, 0x0, 1, 0x0, 0xFFFF, 0x0, 0x0, 0x0, 0x0, 0x0, 0x0, 10, 3⟩,
  ⟨"GPI_IN", 0xc300c, 1, 0x0, 1, 0x0, 0x0, 0x0, 0x0, 0x0, 0x0, 0xFFFF, 0x0, 10, 3⟩,
  ⟨"GPI_EDGE", 0xc3010, 1, 0x0, 1, 0x0, 0xFFFFFFFF, 0x0, 0x0, 0x0, 0x0, 0x0, 0x0, 10, 3⟩,
  ⟨"PRT_PROFILE", 0x100000, 16, 0x8000, 1, 0x0, 0x7, 0x0, 0x80, 0x0, 0x0, 0x78, 0x0, 1, 3⟩,
  ⟨"PRT_AFE", 0x100100, 16, 0x8000, 1, 0x0, 0xFF00FF, 0x0, 0x1000000, 0x0, 0x0, 0x7F00, 0xA0C8C, 1, 3⟩,
  ⟨"PRT_CLIP", 0x100104, 16, 0x8000, 1, 0x0, 0x0, 0x0, 0x0, 0x0, 0x0, 0xFFFFFFFF, 0x0, 1, 3⟩,
  ⟨"PRT_DEC", 0x100200, 16, 0x8000, 1, 0x0, 0xF, 0x0, 0x0, 0x0, 0x0, 0x1FF0, 0x0, 100, 3⟩,
  ⟨"PRT_DETCFG", 0x100210, 16, 0x8000, 1, 0x0, 0x3FFF, 0x0, 0x0, 0x0, 0x0, 0x0, 0x288C, 100, 3⟩,
  ⟨"PRT_DETPK", 0x100214, 16, 0x8000, 1, 0x0, 0x0, 0x0, 0x0, 0x0, 0x0, 0xFFFF, 0x0, 100, 3⟩,
  ⟨"PRT_DETRMS", 0x100218, 16, 0x8000, 1, 0x0, 0x0, 0x0, 0x0, 0x0, 0x0, 0xFFFF, 0x0, 100, 3⟩,
  ⟨"PRT_DETENV", 0x10021c, 16, 0x8000, 1, 0x0, 0x0, 0x0, 0x0, 0x0, 0x0, 0xFFFF, 0x0, 100, 3⟩,
  ⟨"PRT_DETSTAT", 0x100220, 16, 0x8000, 1, 0x0, 0x0, 0x0, 0x0, 0x0, 0x0, 0xFF3FFFFF, 0x200000, 100, 3⟩,
  ⟨"PRT_WAVE", 0x100300, 16, 0x8000, 1, 0x0, 0x7FF0FFF, 0x0, 0x0, 0x0, 0x0, 0x0, 0x1E0012, 100, 3⟩,
  ⟨"PRT_RXCFG", 0x100400, 16, 0x8000, 1, 0x0, 0xFFFFFFFF, 0x0, 0x0, 0x0, 0x0, 0x0, 0x92E0314, 100, 3⟩,
  ⟨"PRT_RXSTAT", 0x100404, 16, 0x8000, 1, 0x0, 0x0, 0x0, 0x0, 0x0, 0x0, 0xFFFF0F, 0x0, 100, 3⟩,
  ⟨"PRT_RXOFS", 0x100408, 16, 0x8000, 1, 0x0, 0x0, 0x0, 0x0, 0x0, 0x0, 0xFFFFFFFF, 0x0, 100, 3⟩,
  ⟨"PRT_RXSOFS", 0x10040c, 16, 0x8000, 1, 0x0, 0x0, 0x0, 0x0, 0x0, 0x0, 0xFFFFFFFF, 0x0, 100, 3⟩,
  ⟨"PRT_RXDET", 0x100420, 16, 0x8000, 1, 0x0, 0x0, 0x0, 0x0, 0x0, 0x0, 0xFFFFFFFF, 0x0, 100, 3⟩,
  ⟨"PRT_RXGOOD", 0x100424, 16, 0x8000, 1, 0x0, 0x0, 0x0, 0x0, 0x0, 0x0, 0xFFFFFFFF, 0x0, 100, 3⟩,
  ⟨"PRT_RXIGN", 0x100428, 16, 0x8000, 1, 0x0, 0x0, 0x0, 0x0, 0x0, 0x0, 0xFFFFFFFF, 0x0, 100, 3⟩,
  ⟨"PRT_RXFAIL", 0x100440, 16, 0x8000, 16, 0x4, 0x0, 0x0, 0x0, 0x0, 0x0, 0xFFFFFFFF, 0x0, 100, 3⟩,
  ⟨"PRT_TMGEN", 0x100480, 16, 0x8000, 1, 0x0, 0x1FFFFFFF, 0x0, 0x0, 0x0, 0x0, 0x0, 0x134FA28C, 100, 3⟩,
  ⟨"PRT_NOISECFG", 0x1004a0, 16, 0x8000, 1, 0x0, 0xFF, 0x0, 0x0, 0x0, 0x0, 0x0, 0x32, 100, 3⟩,
  ⟨"PRT_TXCFG", 0x100500, 16, 0x8000, 1, 0x0, 0xFFFFF, 0x0, 0x0, 0x0, 0x0, 0x0, 0x3C, 100, 3⟩,
  ⟨"PRT_MASK", 0x100540, 16, 0x8000, 32, 0x4, 0x0, 0xFFFFFF, 0x0, 0x0, 0x0, 0x0, 0x0, 100, 3⟩,
  ⟨"PRT_MASKSTAT", 0x1005c0, 16, 0x8000, 1, 0x0, 0x0, 0x0, 0x10000, 0x0, 0x0, 0xFFFF, 0x0, 100, 3⟩,
  ⟨"PRT_TXPSD", 0x100600, 16, 0x8000, 64, 0x4, 0x3F3F3F3F, 0x0, 0x0, 0x0, 0x0, 0x0, 0x0, 100, 3⟩]
/-- Rows 200 to 239 of the register map, by rising address (Tables 19-3 to 19-5). -/
def regMap5 : List Row := [
  ⟨"PRT_LDCTL", 0x100700, 16, 0x8000, 1, 0x0, 0x7FFFFF, 0x0, 0x0, 0x0, 0x0, 0x3800000, 0x50209, 1, 3⟩,
  ⟨"PRT_TXCNT", 0x100720, 16, 0x8000, 1, 0x0, 0x0, 0x0, 0x0, 0x0, 0x0, 0xFFFFFFFF, 0x0, 100, 3⟩,
  ⟨"PRT_DWDEF", 0x100724, 16, 0x8000, 1, 0x0, 0x0, 0x0, 0x0, 0x0, 0x0, 0xFFFFFFFF, 0x0, 100, 3⟩,
  ⟨"PRT_DWTRUNC", 0x100728, 16, 0x8000, 1, 0x0, 0x0, 0x0, 0x0, 0x0, 0x0, 0xFFFFFFFF, 0x0, 100, 3⟩,
  ⟨"PRT_TXLATE", 0x10072c, 16, 0x8000, 1, 0x0, 0x0, 0x0, 0x0, 0x0, 0x0, 0xFFFFFFFF, 0x0, 100, 3⟩,
  ⟨"PRT_LDFLTCNT", 0x100730, 16, 0x8000, 1, 0x0, 0x0, 0x0, 0x0, 0x0, 0x0, 0xFFFFFFFF, 0x0, 100, 3⟩,
  ⟨"PRT_G3CFG", 0x100800, 16, 0x8000, 1, 0x0, 0xFFFFFFFF, 0x0, 0x0, 0x0, 0x0, 0x0, 0xFFFFFFFF, 100, 3⟩,
  ⟨"PRT_G3CFG2", 0x100804, 16, 0x8000, 1, 0x0, 0x7, 0x0, 0x0, 0x0, 0x0, 0x0, 0x5, 100, 3⟩,
  ⟨"PRT_G3KEY", 0x100810, 16, 0x8000, 4, 0x4, 0x1FF, 0x0, 0x0, 0x0, 0x0, 0x0, 0x0, 100, 3⟩,
  ⟨"PRT_G3FC", 0x100820, 16, 0x8000, 1, 0x0, 0xFFFFFFFF, 0x0, 0x0, 0x0, 0x0, 0x0, 0x0, 100, 3⟩,
  ⟨"GRP_CFG", 0x180000, 4, 0x100, 1, 0x0, 0x1F, 0x0, 0x40, 0x0, 0x0, 0x20, 0x18, 8, 3⟩,
  ⟨"GRP_DECCFG", 0x180400, 1, 0x0, 1, 0x0, 0x3FFFF, 0x0, 0x0, 0x0, 0x0, 0x0, 0x10214, 8, 3⟩,
  ⟨"GRP_DECSTAT", 0x180404, 1, 0x0, 1, 0x0, 0x0, 0x0, 0x0, 0x0, 0x0, 0xFFFF7F7F, 0x0, 8, 3⟩,
  ⟨"MSIX_ADDRLO", 0x1c0000, 256, 0x10, 1, 0x0, 0xFFFFFFFF, 0x0, 0x0, 0x0, 0x0, 0x0, 0x0, 2, 3⟩,
  ⟨"MSIX_ADDRHI", 0x1c0004, 256, 0x10, 1, 0x0, 0xFFFFFFFF, 0x0, 0x0, 0x0, 0x0, 0x0, 0x0, 2, 3⟩,
  ⟨"MSIX_DATA", 0x1c0008, 256, 0x10, 1, 0x0, 0xFFFFFFFF, 0x0, 0x0, 0x0, 0x0, 0x0, 0x0, 2, 3⟩,
  ⟨"MSIX_CTRL", 0x1c000c, 256, 0x10, 1, 0x0, 0x1, 0x0, 0x0, 0x0, 0x0, 0x0, 0x1, 2, 3⟩,
  ⟨"MSIX_PBA", 0x1c1000, 8, 0x4, 1, 0x0, 0x0, 0x0, 0x0, 0x0, 0x0, 0xFFFFFFFF, 0x0, 2, 3⟩,
  ⟨"HIF_LINKCTL", 0x1c2000, 1, 0x0, 1, 0x0, 0x0, 0x3, 0x0, 0x0, 0x0, 0x0, 0x3, 2, 3⟩,
  ⟨"HIF_LINKSTAT", 0x1c2004, 1, 0x0, 1, 0x0, 0x0, 0x0, 0x0, 0x0, 0x0, 0xFFFF0007, 0x0, 2, 1⟩,
  ⟨"HIF_RXMAP", 0x1c2020, 8, 0x4, 1, 0x0, 0xFFFFFF, 0x0, 0x0, 0x0, 0x0, 0x0, 0x190000, 2, 3⟩,
  ⟨"HIF_NOTCFG", 0x1c2040, 1, 0x0, 1, 0x0, 0x1FFF, 0x0, 0x0, 0x0, 0x0, 0x0, 0x0, 2, 3⟩,
  ⟨"HIF_TELCFG", 0x1c2044, 1, 0x0, 1, 0x0, 0x1FFF, 0x0, 0x0, 0x0, 0x0, 0x0, 0x0, 2, 3⟩,
  ⟨"HIF_RXDROP", 0x1c2050, 1, 0x0, 1, 0x0, 0x0, 0x0, 0x0, 0x0, 0x0, 0xFFFFFFFF, 0x0, 2, 3⟩,
  ⟨"HIF_EVDROP", 0x1c2054, 1, 0x0, 1, 0x0, 0x0, 0x0, 0x0, 0x0, 0x0, 0xFFFFFFFF, 0x0, 2, 3⟩,
  ⟨"HIF_MACCMD", 0x1c2080, 1, 0x0, 1, 0x0, 0x0, 0x0, 0x0, 0x0, 0x3, 0x0, 0x0, 2, 3⟩,
  ⟨"HIF_MACARG01", 0x1c2084, 2, 0x4, 1, 0x0, 0xFFFFFFFF, 0x0, 0x0, 0x0, 0x0, 0x0, 0x0, 2, 3⟩,
  ⟨"HIF_MACARG2", 0x1c208c, 1, 0x0, 1, 0x0, 0x1FFFFFF, 0x0, 0x0, 0x0, 0x0, 0x0, 0x0, 2, 3⟩,
  ⟨"HIF_MACARG3", 0x1c2090, 1, 0x0, 1, 0x0, 0x3FFFFF, 0x0, 0x0, 0x0, 0x0, 0x0, 0x0, 2, 3⟩,
  ⟨"HIF_MACRES", 0x1c20a0, 1, 0x0, 1, 0x0, 0x0, 0x0, 0x0, 0x0, 0x0, 0x1FFFFFFF, 0x0, 2, 3⟩,
  ⟨"HIF_MACRES2", 0x1c20a4, 1, 0x0, 1, 0x0, 0x0, 0x0, 0x0, 0x0, 0x0, 0x3FFFF, 0x0, 2, 3⟩,
  ⟨"HIF_VMOD", 0x1c3000, 256, 0x4, 1, 0x0, 0xFFFFF, 0x0, 0x0, 0x0, 0x0, 0x0, 0x0, 2, 3⟩,
  ⟨"BUR_CTL", 0x100000000, 1, 0x0, 1, 0x0, 0x1, 0x0, 0x0, 0x2, 0x0, 0x3C, 0x0, 0, 1⟩,
  ⟨"BUR_STAT", 0x100000004, 1, 0x0, 1, 0x0, 0x0, 0x0, 0x0, 0x0, 0x0, 0xFFFFFF, 0x0, 0, 1⟩,
  ⟨"BUR_TIMING", 0x100000008, 1, 0x0, 1, 0x0, 0xFFFFFF, 0x0, 0x0, 0x0, 0x0, 0x0, 0x1401F4, 0, 1⟩,
  ⟨"BUR_DETCFG", 0x10000000c, 1, 0x0, 1, 0x0, 0xFFF, 0x0, 0x0, 0x0, 0x0, 0x0, 0x718, 0, 1⟩,
  ⟨"BUR_SAFEINFO", 0x100000010, 1, 0x0, 1, 0x0, 0x0, 0x0, 0x0, 0x0, 0x0, 0x1FFFFF, 0x0, 0, 1⟩,
  ⟨"BUR_TRIPCFG", 0x100000040, 8, 0x4, 1, 0x0, 0xFFFF003F, 0x0, 0x0, 0x0, 0x0, 0x0, 0x0, 0, 1⟩,
  ⟨"BUR_CMDCFG", 0x100000080, 16, 0x4, 1, 0x0, 0xFFFF001F, 0x0, 0x0, 0x0, 0x0, 0x0, 0x0, 0, 1⟩,
  ⟨"BUR_PORTCFG", 0x100000100, 16, 0x4, 1, 0x0, 0x7FF, 0x0, 0x0, 0x0, 0x0, 0x0, 0x70, 0, 1⟩]
/-- Rows 240 to 261 of the register map, by rising address (Tables 19-3 to 19-5). -/
def regMap6 : List Row := [
  ⟨"BUR_PORTLVL", 0x100000140, 16, 0x4, 1, 0x0, 0x3FFFFF, 0x0, 0x0, 0x0, 0x0, 0x0, 0xC00, 0, 1⟩,
  ⟨"BUR_PCNT", 0x100000200, 16, 0x4, 1, 0x0, 0x0, 0x0, 0x0, 0x0, 0x0, 0xFFFFFFFF, 0x0, 0, 1⟩,
  ⟨"BUR_TXCNT", 0x100000240, 16, 0x4, 1, 0x0, 0x0, 0x0, 0x0, 0x0, 0x0, 0xFFFFFFFF, 0x0, 0, 1⟩,
  ⟨"BUR_PEND", 0x100000380, 2, 0x4, 1, 0x0, 0x0, 0x0, 0xFFFFFFFF, 0x0, 0x0, 0x0, 0x0, 0, 3⟩,
  ⟨"BUR_ROUTE", 0x100000400, 64, 0x4, 1, 0x0, 0xF807B, 0x0, 0x0, 0x0, 0x0, 0x4, 0x4, 0, 3⟩,
  ⟨"F1_RBASELO", 0x100001000, 16, 0x20, 1, 0x0, 0xFFFFF000, 0x0, 0x0, 0x0, 0x0, 0x0, 0x0, 2, 3⟩,
  ⟨"F1_RBASEHI", 0x100001004, 16, 0x20, 1, 0x0, 0xFFFFFFFF, 0x0, 0x0, 0x0, 0x0, 0x0, 0x0, 2, 3⟩,
  ⟨"F1_RCFG", 0x100001008, 16, 0x20, 1, 0x0, 0x31F000F8, 0x0, 0x40000000, 0x0, 0x0, 0x7, 0x24, 2, 3⟩,
  ⟨"F1_RPROD", 0x10000100c, 16, 0x20, 1, 0x0, 0x0, 0x0, 0x0, 0x0, 0x0, 0xFFFFFFFF, 0x0, 2, 3⟩,
  ⟨"F1_RCONS", 0x100001010, 16, 0x20, 1, 0x0, 0xFFFFFFFF, 0x0, 0x0, 0x0, 0x0, 0x0, 0x0, 2, 3⟩,
  ⟨"F1_RSTAT", 0x100001014, 16, 0x20, 1, 0x0, 0x0, 0x0, 0x0, 0x0, 0x0, 0x3FFFFF, 0x1, 2, 3⟩,
  ⟨"F1_RRSVD", 0x100001018, 16, 0x20, 2, 0x4, 0x0, 0x0, 0x0, 0x0, 0x0, 0x0, 0x0, 2, 3⟩,
  ⟨"F1_VMOD", 0x100001200, 32, 0x4, 1, 0x0, 0xFFFFF, 0x0, 0x0, 0x0, 0x0, 0x0, 0x0, 2, 3⟩,
  ⟨"HIF_MBXCMD", 0x100008000, 1, 0x0, 1, 0x0, 0x0, 0x0, 0x0, 0x0, 0xFFFF, 0x0, 0x0, 2, 3⟩,
  ⟨"HIF_MBXSTAT", 0x100008004, 1, 0x0, 1, 0x0, 0x0, 0x0, 0x0, 0x0, 0x0, 0xFFFFF0F, 0x1000000, 2, 3⟩,
  ⟨"HIF_MBXARG", 0x100008010, 8, 0x4, 1, 0x0, 0xFFFFFFFF, 0x0, 0x0, 0x0, 0x0, 0x0, 0x0, 2, 3⟩,
  ⟨"HIF_MBXBUF", 0x100009000, 1024, 0x4, 1, 0x0, 0xFFFFFFFF, 0x0, 0x0, 0x0, 0x0, 0x0, 0x0, 2, 3⟩,
  ⟨"F1_MSIX_ADDRLO", 0x10000c000, 32, 0x10, 1, 0x0, 0xFFFFFFFF, 0x0, 0x0, 0x0, 0x0, 0x0, 0x0, 2, 3⟩,
  ⟨"F1_MSIX_ADDRHI", 0x10000c004, 32, 0x10, 1, 0x0, 0xFFFFFFFF, 0x0, 0x0, 0x0, 0x0, 0x0, 0x0, 2, 3⟩,
  ⟨"F1_MSIX_DATA", 0x10000c008, 32, 0x10, 1, 0x0, 0xFFFFFFFF, 0x0, 0x0, 0x0, 0x0, 0x0, 0x0, 2, 3⟩,
  ⟨"F1_MSIX_CTRL", 0x10000c00c, 32, 0x10, 1, 0x0, 0x1, 0x0, 0x0, 0x0, 0x0, 0x0, 0x1, 2, 3⟩,
  ⟨"F1_MSIX_PBA", 0x10000d000, 1, 0x0, 1, 0x0, 0x0, 0x0, 0x0, 0x0, 0x0, 0xFFFFFFFF, 0x0, 2, 3⟩]
/-- The register map (R407). -/
def regMap : List Row := regMap0 ++ regMap1 ++ regMap2 ++ regMap3 ++ regMap4 ++ regMap5 ++ regMap6

/-- The indices `(i, j)` of address `a` in a row, if the row holds it. -/
def Row.indexOf (r : Row) (a : Nat) : Option (Nat × Nat) :=
  if a < r.base then none
  else
    let o := a - r.base
    let i := if r.s1 = 0 then 0 else if r.s2 = 0 ∨ r.s2 < r.s1 then o / r.s1 else o % r.s2 / r.s1
    let o2 := o - i * r.s1
    let j := if r.s2 = 0 then 0 else o2 / r.s2
    if i < r.n1 ∧ j < r.n2 ∧ o = i * r.s1 + j * r.s2 then some (i, j) else none

/-- The row of the map that holds address `a`, with the indices of `a` in it. -/
def rowOf (l : List Row) (a : Nat) : Option (Row × Nat × Nat) :=
  match l with
  | [] => none
  | r :: t =>
    match r.indexOf a with
    | some (i, j) => some (r, i, j)
    | none => rowOf t a

/-- The value of the register at key `a` right after reset (the Reset columns). -/
def resetWord (a : Nat) : Word :=
  match rowOf regMap a with
  | some (r, _, _) => BitVec.ofNat 32 r.reset
  | none => 0

end Sys2Proof.Machine
end

