-- ==== Sys2Proof/Machine/Waveform.lean ====
section
/-! DEFINITION. The pure arithmetic of the waveforms: numerology, code-block counts, frame durations,
headers, check codes and tone-map records (R103 to R124, R145, R146, R427). Profiles are coded as in
Table 02-2: 1 BB, 2 NB-HV, 3 NB-CEN, 4 G9903. -/

namespace Sys2Proof.Machine

/-- Division rounded up. -/
def ceilDiv (a b : Nat) : Nat := (a + b - 1) / b

/-- Table 05-1: the first usable carrier of a profile. -/
def firstCarrier (prof : Nat) : Nat := if prof = 1 then 30 else if prof = 2 then 7 else 1

/-- Table 05-1: the number of usable carriers of a profile. -/
def carrierCount (prof : Nat) : Nat := if prof = 1 then 1380 else if prof = 2 then 125 else 38

/-- Table 05-1: FFT size in samples. -/
def fftSize (prof : Nat) : Nat := if prof = 1 then 4096 else 256

/-- Table 05-1: guard interval of index `gi` in samples. -/
def guardLen (prof gi : Nat) : Nat := (if prof = 1 then 512 else 32) * (gi + 1)

/-- Table 05-1: transmit window overlap in samples. -/
def windowOverlap (prof : Nat) : Nat := if prof = 1 then 128 else 8

/-- Ticks of `x` symbol samples: 4 ns in BB, 1.024 us in the narrowband profiles, rounded up (R156). -/
def sampleTicks (prof x : Nat) : Nat := if prof = 1 then ceilDiv x 2 else 128 * x

/-- R119: the preamble duration in ticks. -/
def tPre (prof : Nat) : Nat := if prof = 1 then 2560 else 40960

/-- Table 06-2: the detection latency in ticks; `swk` is 0 for an OFDM frame, else k of SWk. -/
def lambdaTicks (prof swk : Nat) : Nat :=
  if prof = 1 then 128 + (if swk = 0 then 0 else 2 ^ (swk + 2))
  else if prof = 4 then 4096
  else 2048 + (if swk = 0 then 0 else if prof = 2 then 2 ^ (swk + 9) else 2 ^ (swk + 11))

/-- Symbol duration of SWk in ticks: 2^k / W with the chirp widths of R114. -/
def sweepSymbol (prof k : Nat) : Nat :=
  if prof = 1 then 2 ^ (k + 2) else if prof = 2 then 2 ^ (k + 9) else 2 ^ (k + 11)

/-- R114: carriers spanned by a sweep allocation. -/
def sweepSpan (prof : Nat) : Nat := if prof = 1 then 512 else if prof = 2 then 64 else 16

/-- Table 05-2: information bits per block; `rate` 0, 1, 2 for 1/2, 2/3, 5/6. -/
def infoBits (blk : Bool) (rate : Nat) : Nat :=
  let n := if blk then 8640 else 1944
  if rate = 0 then n / 2 else if rate = 1 then n / 3 * 2 else n / 6 * 5

/-- R108: whether the long code is used for a payload of `b` bits. -/
def longCode (prof : Nat) (blk : Bool) (rate b : Nat) : Bool :=
  decide (prof = 1) && blk && decide (infoBits true rate ≤ b)

/-- R108: the number of code blocks of a payload of `b` bits. -/
def blockCount (long : Bool) (rate b : Nat) : Nat := ceilDiv b (infoBits long rate)

/-- R108: the coded bits of a payload of `b` bits: full blocks, and a last block shortened by its
filler bits that sends its information bits and as many parity bits as keep the rate. -/
def codedBits (long : Bool) (rate b : Nat) : Nat :=
  let k := infoBits long rate
  let n := if long then 8640 else 1944
  let blocks := blockCount long rate b
  if blocks = 0 then 0
  else
    let last := b - (blocks - 1) * k
    (blocks - 1) * n + last + ceilDiv ((n - k) * last) k

/-- R112: coded header bits. -/
def headerCoded (prof : Nat) : Nat := if prof = 1 then 1228 else 1132

/-- R112: coded header bits per symbol with `n` unmasked carriers. -/
def headerBitsPerSym (prof n : Nat) : Nat := if prof = 1 then 2 * (n / 8) else 2 * n

/-- R112: header symbols H_h. -/
def headerSyms (prof n : Nat) : Nat := ceilDiv (headerCoded prof) (headerBitsPerSym prof n)

/-- R110, R117: samples of the channel-estimation section with `streams` streams. -/
def chestSamples (prof streams : Nat) : Nat :=
  let sce := if streams ≤ 1 then 1 else if streams = 2 then 2 else 4
  guardLen prof 3 + 2 * sce * fftSize prof

/-- R113: coded bits per symbol of ORr on `n` unmasked carriers. -/
def orBitsPerSym (n r : Nat) : Nat := 2 * (n / r)

/-- The payload settings of a frame: those of a map (Table 05-7). `mode`: 0 OB, 1 to 3 OR2 to OR8,
4 to 11 SW5 to SW12 (Table 05-4). -/
structure PhyMap where
  mode : Nat
  rate : Nat
  blk : Bool
  gi : Nat
  streams : Nat
  bps : Nat
  tmap : Nat
  gen : Nat
  deriving DecidableEq, Repr

/-- Coded bits per payload symbol of a map on `n` unmasked carriers. -/
def mapBitsPerSym (m : PhyMap) (n : Nat) : Nat :=
  if m.mode = 0 then m.bps else orBitsPerSym n (2 ^ m.mode)

/-- R428: whether an OFDM frame with this map can be built on `n` unmasked carriers. -/
def buildable (prof n : Nat) (m : PhyMap) : Bool :=
  (if prof = 1 then decide (8 ≤ n) else decide (1 ≤ n)) &&
  (if m.mode = 0 then decide (0 < m.bps) else decide (2 ^ m.mode ≤ n))

/-- R156: the on-time in ticks of an OFDM frame of `len` payload bytes (Table 05-3). -/
def ofdmDur (prof n len : Nat) (m : PhyMap) : Nat :=
  let b := 8 * len
  let nsym := ceilDiv (codedBits (longCode prof m.blk m.rate b) m.rate b) (mapBitsPerSym m n)
  let pre := if prof = 1 then 5120 else 320
  let samples := pre + chestSamples prof m.streams
    + headerSyms prof n * (fftSize prof + guardLen prof 3)
    + nsym * (fftSize prof + guardLen prof m.gi)
  sampleTicks prof samples

/-- R115: the symbols of a sweep frame SWk of `len` payload bytes. -/
def sweepSyms (k len : Nat) : Nat :=
  10 + ceilDiv 128 k + ceilDiv (codedBits false 0 (8 * len)) k

/-- R115, R156: the on-time in ticks of a sweep frame SWk of `len` payload bytes. -/
def sweepDur (prof k len : Nat) : Nat := sweepSyms k len * sweepSymbol prof k

/-- R118: the default map of a port, from PRT[n]_WAVE.DEFMODE and DEFSW. -/
def defaultMap (defmode defsw : Nat) : PhyMap :=
  { mode := if defsw = 0 then defmode else 3 + defsw, rate := 0, blk := false, gi := 3,
    streams := 1, bps := 0, tmap := 6, gen := 0 }

/-- R119: the map of a frame whose sweep form would be too long: OR8 on the largest guard. -/
def longSweepFallback : PhyMap :=
  { mode := 3, rate := 0, blk := false, gi := 3, streams := 1, bps := 0, tmap := 6, gen := 0 }

/-- Whether a map's frames are sweep frames, and of which k (0: no). -/
def PhyMap.swk (m : PhyMap) : Nat := if 4 ≤ m.mode then m.mode + 1 else 0

/-! ### Check codes (R427) -/

/-- One bit into a CRC register of `w` bits, most significant first. -/
def crcStep (w poly reg : Nat) (b : Bool) : Nat :=
  let top := bitN reg (w - 1)
  let r := reg * 2 % 2 ^ w
  if top != b then Nat.xor r poly else r

/-- Bits `n - 1` down to 0 of `v` into a CRC register. -/
def crcBits (w poly : Nat) (n v reg : Nat) : Nat :=
  match n with
  | 0 => reg
  | k + 1 => crcBits w poly k v (crcStep w poly reg (bitN v k))

/-- The CRC-24 of the `n` low bits of a header (R427, Table 05-4). -/
def crc24 (n v : Nat) : Nat := crcBits 24 0x864CFB n v 0xFFFFFF

/-- The CRC-16 of the `n` low bits of a sweep header (R115, R427). -/
def crc16Bits (n v : Nat) : Nat := crcBits 16 0x1021 n v 0xFFFF

/-- The CRC-16 over bytes (R427). -/
def crc16 (l : List Byte) : Nat := l.foldl (fun r b => crcBits 16 0x1021 8 b.toNat r) 0xFFFF

/-- One reflected bit step of CRC-32. -/
def crc32Bit (r : Nat) : Nat := if r % 2 = 1 then Nat.xor (r / 2) 0xEDB88320 else r / 2

/-- One byte into the CRC-32 register, least significant bit first (R427). -/
def crc32Byte (r : Nat) (b : Byte) : Nat :=
  let r0 := Nat.xor r b.toNat
  crc32Bit (crc32Bit (crc32Bit (crc32Bit (crc32Bit (crc32Bit (crc32Bit (crc32Bit r0)))))))

/-- The CRC-32 over bytes (R427). -/
def crc32 (l : List Byte) : Nat := Nat.xor (l.foldl crc32Byte 0xFFFFFFFF) 0xFFFFFFFF

/-! ### Headers (Table 05-4, R115) -/

/-- A decoded frame header. -/
structure PhyHeader where
  cls : Nat
  mode : Nat
  rate : Nat
  blk : Bool
  gi : Nat
  tmap : Nat
  nss : Nat
  gen : Nat
  len : Nat
  nsym : Nat
  macFc : Nat
  deriving DecidableEq, Repr

/-- The OFDM header of a profile read from its bits, `none` where its CRC fails or a value is invalid
(Table 05-4, R112). -/
def parseHeader (prof v : Nat) : Option PhyHeader :=
  let top := if prof = 1 then 232 else 136
  let f := fun lo w => v / 2 ^ lo % 2 ^ w
  let ok := crc24 top (v % 2 ^ top) == f top 24 && f 0 2 == 0 && decide (f 4 4 ≤ 3)
    && decide (f 8 2 ≤ 2) && decide (f 13 3 ≤ 6) && decide (f 22 14 ≤ 9216)
  if ok then
    some { cls := f 2 2, mode := f 4 4, rate := f 8 2, blk := f 10 1 == 1, gi := f 11 2, tmap := f 13 3,
           nss := f 16 2, gen := f 18 4, len := f 22 14, nsym := f 36 16, macFc := f 56 (top - 56) }
  else none

/-- The sweep header read from its bits (R115). Its MAC_FC travels in the payload. -/
def parseSweepHeader (v : Nat) : Option PhyHeader :=
  let f := fun lo w => v / 2 ^ lo % 2 ^ w
  let ok := crc16Bits 48 (v % 2 ^ 48) == f 48 16 && f 0 2 == 0 && decide (4 ≤ f 4 4) && decide (f 4 4 ≤ 11)
    && decide (f 8 14 ≤ 9216)
  if ok then
    some { cls := f 2 2, mode := f 4 4, rate := 0, blk := false, gi := 0, tmap := 6, nss := 0, gen := 0,
           len := f 8 14, nsym := 0, macFc := 0 }
  else none

/-! ### Tone-map records (Table 05-7), as the bytes of the record from its address -/

/-- A byte of a record, zero beyond its end. -/
def recByte (r : List Byte) (i : Nat) : Nat := (r.getD i 0).toNat

/-- The `n`-byte little-endian number at byte `i` of a record. -/
def recNat (r : List Byte) (i n : Nat) : Nat := leNat ((r.drop i).take n)

/-- Bits of carrier index `i` of stream `s` (the bit tables of Table 05-7). -/
def recLoad (r : List Byte) (s i : Nat) : Nat :=
  let b := recByte r (64 + 704 * s + i / 2)
  if i % 2 = 0 then b % 16 else b / 16

/-- The sum of the bit table of stream `s` over `n` carriers. -/
def recSum (r : List Byte) (s n : Nat) : Nat :=
  match n with
  | 0 => 0
  | k + 1 => recLoad r s k + recSum r s k

/-- Whether some carrier `i < n` of stream `s` is loaded while masked, or with 13 to 15 bits (R122). -/
def recBadLoad (r : List Byte) (masked : Nat → Bool) (s n : Nat) : Bool :=
  match n with
  | 0 => false
  | k + 1 =>
    (decide (0 < recLoad r s k) && masked k) || decide (13 ≤ recLoad r s k) || recBadLoad r masked s k

/-- Whether every stream's BPS field equals the sum of its bit table (Table 05-7). -/
def recBpsOk (r : List Byte) (n s : Nat) : Bool :=
  match s with
  | 0 => true
  | k + 1 => decide (recNat r (8 + 4 * k) 4 = recSum r k n) && recBpsOk r n k

/-- Whether some stream of the record loads a masked carrier or an invalid count. -/
def recBadStreams (r : List Byte) (masked : Nat → Bool) (n s : Nat) : Bool :=
  match s with
  | 0 => false
  | k + 1 => recBadLoad r masked k n || recBadStreams r masked n k

/-- SWK of a record. -/
def recSwk (r : List Byte) : Nat := recByte r 3 % 16

/-- R122, Table 05-7: whether a record may be used against a mask. A sweep record ignores its tables. -/
def recUsable (prof : Nat) (masked : Nat → Bool) (r : List Byte) : Bool :=
  let s := recByte r 2 % 4 + 1
  let n := carrierCount prof
  if recSwk r = 0 then
    recBpsOk r n s && !recBadStreams r masked n s &&
      (decide (recByte r 1 % 4 = 0) || decide (recByte r 1 / 4 % 4 = 0))
  else decide (5 ≤ recSwk r) && decide (recSwk r ≤ 12)

/-- VALID of a record. -/
def recValid (r : List Byte) : Bool := recByte r 0 % 2 == 1

/-- GEN of a record. -/
def recGen (r : List Byte) : Nat := recByte r 0 / 16

/-- DELAY of a transmit record, in ticks. -/
def recDelay (r : List Byte) : Nat := recNat r 4 4

/-- The map a record stands for, with at most `maxStreams` streams (Table 05-6, Table 05-7). -/
def recMap (r : List Byte) (maxStreams : Nat) : PhyMap :=
  if recSwk r = 0 then
    let s := min (recByte r 2 % 4 + 1) maxStreams
    { mode := recByte r 1 % 4, rate := recByte r 1 / 4 % 4, blk := recByte r 1 / 16 % 2 == 1,
      gi := recByte r 1 / 32 % 4, streams := s,
      bps := (List.range s).foldl (fun a k => a + recNat r (8 + 4 * k) 4) 0,
      tmap := recByte r 0 / 2 % 8, gen := recGen r }
  else
    { mode := recSwk r - 1, rate := 0, blk := false, gi := 3, streams := 1, bps := 0, tmap := 6, gen := 0 }

/-! ### Tone-map generation (R145, R146), in units of 0.25 dB -/

/-- Table 06-9: thr(b, R) in 0.25 dB, `rate` 0, 1, 2. -/
def loadThr (b rate : Nat) : Int :=
  (if b = 1 then 4 else if b = 2 then 16 else 30 + 12 * ((b : Int) - 3)) + 8 * (rate : Int)

/-- Table 05-5: the required SNR of SWk in 0.25 dB. -/
def sweepReq (k : Nat) : Int := -30 - 10 * ((k : Int) - 5)

/-- R146: the largest load `b <= n` of a carrier of SNR `snr` at a rate and margin, else 0. -/
def carrierLoad (snr margin : Int) (rate n : Nat) : Nat :=
  match n with
  | 0 => 0
  | k + 1 => if loadThr (k + 1) rate + margin ≤ snr then k + 1 else carrierLoad snr margin rate k

/-- R146: the loads of all carriers; a masked carrier (`none`) loads nothing. -/
def loads (snr : List (Option Int)) (margin : Int) (rate : Nat) : List Nat :=
  snr.map (fun x => match x with
    | none => 0
    | some v => carrierLoad v margin rate 12)

/-- Six times R times the sum of the loads, so that rates compare in whole numbers. -/
def info6 (snr : List (Option Int)) (margin : Int) (rate : Nat) : Nat :=
  (if rate = 0 then 3 else if rate = 1 then 4 else 5) * (loads snr margin rate).sum

/-- R146: the rate with the largest information bits, the lower on a tie. -/
def bestRate (snr : List (Option Int)) (margin : Int) : Nat :=
  let a := info6 snr margin 0
  let b := info6 snr margin 1
  let c := info6 snr margin 2
  if b ≤ a ∧ c ≤ a then 0 else if c ≤ b then 1 else 2

/-- The values of a list of integers in rising order. -/
def insertInt (x : Int) (l : List Int) : List Int :=
  match l with
  | [] => [x]
  | y :: r => if x ≤ y then x :: y :: r else y :: insertInt x r

/-- Twice the median of a list of integers (the mean of the two middle ones for an even count). -/
def median2 (l : List Int) : Int :=
  let s := l.foldr insertInt []
  let n := s.length
  if n = 0 then 0 else s.getD ((n - 1) / 2) 0 + s.getD (n / 2) 0

/-- R146: the smallest r of 2, 4, 8 (as mode 1, 2, 3) whose copies reach thr(2, 1/2) + margin, else OR8.
Twice the gain of r copies is 24, 48, 72 units of 0.125 dB: 10 log10 r rounded down, which decides
the same comparisons. -/
def orChoice (med2 : Int) (need2 : Int) : Nat :=
  if need2 ≤ med2 + 24 then 1 else if need2 ≤ med2 + 48 then 2 else 3

/-- R146: the smallest k of 5 to 12 with median >= req(k) + margin, else 12. -/
def sweepChoice (med2 margin : Int) (k fuel : Nat) : Nat :=
  match fuel with
  | 0 => 12
  | f + 1 => if 2 * (sweepReq k + margin) ≤ med2 then k else sweepChoice med2 margin (k + 1) f

/-- R146: the guard index with the smallest guard that absorbs the delay spread (in samples). -/
def guardChoice (prof spread i fuel : Nat) : Nat :=
  match fuel with
  | 0 => 3
  | f + 1 => if spread + windowOverlap prof ≤ guardLen prof i then i else guardChoice prof spread (i + 1) f

/-- R146: the candidate map of one stream: mode, rate, guard, block length, loads; and its information
bits per symbol times six. `snr` lists the unmasked carriers' SNR in 0.25 dB, `none` where masked. -/
structure Candidate where
  mode : Nat
  rate : Nat
  gi : Nat
  blk : Bool
  swk : Nat
  load : List Nat
  info : Nat
  deriving DecidableEq, Repr

/-- R146: the candidate. OB where info[R] reaches R times the n/2 information bits of OR2, R cancelling. A sweep
candidate keeps the MODE `defmode` of the default map. -/
def candidate (prof defmode : Nat) (grouped : Bool) (snr : List (Option Int)) (margin : Int) (spread : Nat) :
    Candidate :=
  let vals := snr.filterMap id
  let n := vals.length
  let med2 := median2 vals
  let r := bestRate snr margin
  let need2 := 2 * (loadThr 2 0 + margin)
  let gi := guardChoice prof spread 0 4
  let blk := decide (prof = 1)
  if n / 2 ≤ (loads snr margin r).sum then
    { mode := 0, rate := r, gi := gi, blk := blk, swk := 0, load := loads snr margin r,
      info := info6 snr margin r }
  else if need2 ≤ med2 + 72 ∨ grouped then
    let m := orChoice med2 need2
    { mode := m, rate := 0, gi := gi, blk := blk, swk := 0, load := snr.map (fun _ => 0),
      info := 6 * (n / 2 ^ m) }
  else
    { mode := defmode, rate := 0, gi := 3, blk := false, swk := sweepChoice med2 margin 5 8,
      load := snr.map (fun _ => 0), info := 0 }

/-- The bytes of a bit table: 4 bits per carrier, the even carrier in the low nibble (Table 05-7). -/
def nibbleBytes (l : List Nat) : List Byte :=
  match l with
  | [] => []
  | [a] => [BitVec.ofNat 8 (a % 16)]
  | a :: b :: r => BitVec.ofNat 8 (a % 16 + 16 * (b % 16)) :: nibbleBytes r

end Sys2Proof.Machine
end

