-- ==== Sys2Proof/Machine/State.lean ====
section
/-! DEFINITION. The machine's state, as plain data: the registers (by address, R407), the state the
spec gives each block beside its registers, the queue of waiting commands, and the state right after
reset. Where the spec gives no reset value the docstring names the log entry that does. -/

namespace Sys2Proof.Machine

/-- What a fault would name. No command of this block ends in a fault: every error the spec describes
is an effect on the state, so the one constructor is never raised (safe). -/
inductive Fault where
  /-- Never raised; the type of faults needs a name. -/
  | none
  deriving DecidableEq, Repr

/-- Why a command is not carried out. -/
inductive Refusal where
  /-- A row of the operation table without a meaning yet. Raised by no arm once the model is whole. -/
  | notModelled (mnemonic : String)
  /-- R307: a JTAG debug access into PD_CPH in the MANUFACTURE lifecycle state. The spec says nothing of
  its effect: the debug unit is outside it. Raised by `execJtagDebugAccess` alone; safe. -/
  | debugUnit
  deriving DecidableEq, Repr

/-! ## The Square (chapter 03) -/

/-- A staged or drained event record (Table 03-5). -/
structure EvRec where
  source : Nat
  tick : Nat
  data : Nat
  rep : Nat
  deriving DecidableEq, Repr

/-- The Square: staging slots by source (R69), LOST marks by ring (R70), the history (R74), the tick and
rank of the captured violation (R76), and per register the W1C bits the device set in this tick (R13). -/
structure SquareSt where
  staged : Tab EvRec := []
  lost : Tab Bool := []
  history : List EvRec := []
  violTick : Nat := 0
  violRank : Nat := 0
  fresh : Tab Word := []
  deriving DecidableEq, Repr

/-! ## Modes, boot, fuses and OTP (chapters 00, 02, 08, 14, 15) -/

/-- A vault key record of OTP, and whether its CRC-32 verifies (R312). -/
structure OtpKey where
  slot : Nat
  usage : Nat
  size : Nat
  key : Nat
  ok : Bool := true
  deriving DecidableEq, Repr

/-- Fuses and one-time programmable memory. `variant`: 0 NF9716, 1 NF9708, 2 NF9704-T (Table 00-1). The
fused values of a fresh device are log entry 2. -/
structure OtpSt where
  variant : Nat := 0
  stepping : BitVec 8 := 0x21
  eui : Nat := 0
  vendor : BitVec 16 := 0
  field : Bool := false
  counter : Nat := 0
  keyHash : Tab Nat := []
  revoked : BitVec 4 := 0
  safeProfiles : List (List Word) := []
  keys : List OtpKey := []
  fixedKeys : Tab Nat := []
  dramCfg : Word := 0
  deriving DecidableEq, Repr

/-- The boot (R40 to R49, R53, R56). `step`: the last step of Table 02-7 that is complete. `running`: the
pair being loaded (0 A, 1 B, 3 none). `trialSeq`: SEQ of the boot record whose TRIAL pair has been booted (R48).
`autoTick`, `autoSafe`: the last automatic transition, and whether it went to SAFE (R38). -/
structure BootSt where
  step : Nat := 0
  warmLow : Bool := false
  warmRestart : Bool := false
  running : Nat := 3
  trialSeq : Option Nat := none
  secVer : Nat := 0
  autoTick : Option Nat := none
  autoSafe : Bool := false
  deriving DecidableEq, Repr

/-! ## Power, clocks, supplies (chapter 18) -/

/-- Domains ramping up (R395), domains in reset (R396), low supplies (R398), the PORST_N pin (R402). -/
structure PowerSt where
  rising : BitVec 20 := 0
  resetting : BitVec 20 := 0
  supplyLow : BitVec 5 := 0
  porstLow : Bool := false
  deriving DecidableEq, Repr

/-! ## Front end and mains sensing (chapter 04) -/

/-- The decimators a reset edge reaches (R90). -/
inductive DecTarget where
  | all
  | port (n : Nat)
  | burin (n : Nat)
  | mains (i : Nat)
  deriving DecidableEq, Repr

/-- A port's front end: a calibration pass in progress and the start of the last one (R84); the last
reset edge of its data chain and of its Burin front decimator, in SCLK edges (R89, R92); the detector
window settings in force (R96), the 24-bit envelope (R95), and the profile of a pending change (R35). -/
structure FePort where
  calActive : Bool := false
  calStart : Nat := 0
  chainEdge : Nat := 0
  chainL : Nat := 0
  burEdge : Nat := 0
  win : Nat := 12
  slotWin : Bool := false
  env : BitVec 24 := 0
  wish : Nat := 0
  deriving DecidableEq, Repr

/-- A mains-sense input: the tick in which its last positive crossing was decided, whether the cycle that
ended there is valid, the tick in which the last valid cycle was decided and the last eight valid periods (R197, in
2^-16 tick); its last positive and negative
crossings in 2^-16 tick (R99), the number of cycles an overload still invalidates (R98), the valid cycles of
the running harmonic average (R102), and the last reset edge of the chain in SCLK edges. -/
structure MsPort where
  decided : Nat := 0
  valid : Bool := false
  validAt : Option Nat := none
  periods : List Nat := []
  lastPos : Option Nat := none
  lastNeg : Option Nat := none
  ovl : Nat := 0
  cycles : Nat := 0
  edge : Nat := 0
  deriving DecidableEq, Repr

/-- Front end and mains sensing: the reset edges not yet reached (in SCLK edges, two per tick, R91). -/
structure FrontSt where
  port : Tab FePort := []
  ms : Tab MsPort := []
  edges : List (Nat × DecTarget) := []
  deriving DecidableEq, Repr

/-! ## Frames (chapters 05, 10) -/

/-- Link frame control (Table 10-1). `ftype`: 0 DATA, 1 ACK, 2 CTRL, 3 KNOCK, 4 AUTH, 5 POLL. -/
structure Lfc where
  ftype : Nat := 0
  ackreq : Bool := false
  sec : Bool := false
  more : Bool := false
  relay : Bool := false
  dup : Bool := false
  tclass : Nat := 0
  src : Nat := 0
  dst : Nat := 0
  seq : Nat := 0
  fcnt : Nat := 0
  esrc : Nat := 0
  edst : Nat := 0
  hopleft : Nat := 0
  deriving DecidableEq, Repr

/-- A frame of a transmit queue (R243, R253). `compl`: the COMPL ring, TOKEN and TXSUB ring of a frame the
host submitted. `body`: the body in the clear; `wire`: what its cells hold once it is dequeued (the ciphertext
and tag of a secured frame, R19). `retained`: dequeued, its cells RETAINED (R254). `outcome`: of the last
attempt (Table 07-3). `g3`: a G9903 frame. `poison`: an outgoing cut-through relay whose incoming frame
failed (R235); `arriving`: its body is still on its way into cells (R293). `deferred`, `notBefore`:
deferred, and to which tick; `reported`: a deferral of it was reported (R161).
`ts`: the timestamp of the last attempt (R158); `cw`, `bo`: its contention window and backoff (R210). `phy`: 3 for a
sounding frame (R364); `expire`: the end of its hold window (R236). -/
structure TxFrame where
  id : Nat
  compl : Option (Nat × Nat × Nat) := none
  lfc : Lfc := {}
  cls : Nat := 0
  cut : Bool := false
  timed : Bool := false
  auth : Bool := false
  g3 : Bool := false
  launchNs : Nat := 0
  body : List Byte := []
  wire : List Byte := []
  enq : Nat := 0
  retained : Bool := false
  arriving : Bool := false
  ready : Bool := false
  awaiting : Bool := false
  attempts : Nat := 0
  retry : Nat := 0
  outcome : Nat := 0
  port : Nat := 0
  lastTl : Nat := 0
  ts : Nat := 0
  cw : Option Nat := none
  bo : Option Nat := none
  treq : Option Nat := none
  notBefore : Nat := 0
  deferred : Bool := false
  reported : Bool := false
  mode : Nat := 0
  relayOf : Option Nat := none
  poison : Bool := false
  phy : Nat := 0
  expire : Nat := 0
  deriving DecidableEq, Repr

/-- The detection of a frame (R130, R131): its place within the detection tick, in 2^-16 ns; its timestamp, by the
mapping in force in that tick; and TB1, in 2^-48 ns, at the detection and at the pin arrival (R363), zero while TB1 is
invalid. -/
structure Detect where
  sub : Nat := 0
  ts : Nat := 0
  tb1 : Nat := 0
  arrived : Nat := 0
  deriving DecidableEq, Repr

/-- A received frame, from its commit on. `tdet`: the detection tick (R130); `endTick`: the tick E_r of the
last sample (R223); `phy`: CLASS of the header (0 data, 1 short, 2 beacon, 3 sounding); `payload`: without extension and frame check, with the tag of a secured frame. -/
structure RxFrame where
  id : Nat
  port : Nat
  tdet : Nat
  endTick : Nat
  slot : Nat
  tmap : Nat
  mode : Nat
  sweep : Bool
  phy : Nat
  len : Nat
  lfc : Lfc
  payload : List Byte
  snr : BitVec 8
  psnr : BitVec 8
  gain : Nat
  fofs : BitVec 32
  sofs : BitVec 32
  g3 : Bool := false
  cells : Nat := 0
  det : Detect := {}
  deriving DecidableEq, Repr

/-! ## Arcade (chapter 12) -/

/-- What a packet carries. -/
inductive Load where
  | rx (f : RxFrame)
  | tx (queue frame : Nat)
  deriving DecidableEq, Repr

/-- An entry of a packet table: the words and bytes of a packet (R268), and its load. -/
structure Packet where
  words : Nat
  load : Load
  deriving DecidableEq, Repr

/-- An Arcade instance (R267 to R276). `opened`: the words written since the rewind mark; `filling`: the
committed packets of the filling bank; `handed`: a bank is the reader's, with the packets it has not read
and its unread words; `holding`: the writer holds (R273); `skipping`: words are discarded up to the commit
request (R271, R276). -/
structure ArcSt where
  wbank : Bool := false
  mark : Nat := 0
  opened : Option Nat := none
  filling : List Packet := []
  isHanded : Bool := false
  handed : List Packet := []
  unread : Nat := 0
  holding : Bool := false
  skipping : Bool := false
  deriving DecidableEq, Repr

/-! ## The Boulevard (chapter 11) -/

/-- A completion to be posted on a COMPL ring (Table 13-6). `quality`: bytes 12 to 15; `ts`: bytes 16 to 31; `src`: the
ring whose descriptor it completes. -/
structure Compl where
  ring : Nat
  token : Nat
  status : Nat
  kind : Nat := 0
  sec : Bool := false
  ct : Bool := false
  cls : Nat := 0
  tsv : Bool := false
  len : Nat := 0
  queue : Nat := 0
  port : Nat := 0
  attempts : Nat := 0
  outcome : Nat := 0
  quality : Nat := 0
  ts : Nat := 0
  src : Nat := 0
  deriving DecidableEq, Repr

/-- A return in progress (R255): the cells in transit to FREE, the completion it owes (R20), and whether
it belongs to a flush (R260). -/
structure Return where
  cells : Nat
  compl : Option Compl
  flush : Bool
  deriving DecidableEq, Repr

/-- The counts of the ledger (R257). -/
structure Ledger where
  configured : Nat := 0
  free : Nat := 0
  queued : Nat := 0
  rx : Nat := 0
  retained : Nat := 0
  quar : Nat := 0
  lost : Bool := false
  deriving DecidableEq, Repr

/-- The choice state of a port (R245): last by class, deficits of classes 3 to 7, cptr, fresh, and its
candidate (a queue chosen and not yet dequeued). -/
structure BlvPort where
  last : Tab Nat := []
  deficit : Tab Nat := []
  cptr : Nat := 3
  fresh : Bool := true
  cand : Option Nat := none
  deriving DecidableEq, Repr

/-- A quarantine sweep (R262): the queue, its cells not yet moved, the frames lost. -/
structure Sweep where
  queue : Nat
  cells : Nat
  frames : Nat
  deriving DecidableEq, Repr

/-- The Boulevard: the tables (R241) with their caches as one (R250), the frames of every queue (the
internal control queue of port n is 2^20 + n), the ledger, the returns, the quarantine marks (R262) with
the cells a quarantined queue holds, the poisoned lines of the queue region (two queues each, R341), the sweeps, the EXH ticks (R322) and the object command (R259). -/
structure BlvSt where
  queues : Tab (BitVec 256) := []
  sessions : Tab (BitVec 2048) := []
  dir : Tab (BitVec 512) := []
  frames : Tab (List TxFrame) := []
  ports : Tab BlvPort := []
  led : Ledger := {}
  returns : List Return := []
  quarQ : Tab Bool := []
  quarS : Tab Bool := []
  quarP : Tab Bool := []
  quarCells : Tab Nat := []
  badLines : Tab Bool := []
  sweeps : List Sweep := []
  rebuilding : Bool := false
  exh : Tab Nat := []
  objFlush : Option Nat := none
  nextId : Nat := 1
  deriving DecidableEq, Repr

/-! ## The host interface (chapter 13) -/

/-- A posted receive buffer that was taken (R296). -/
structure RxBuf where
  addr : Nat
  len : Nat
  token : Nat
  deriving DecidableEq, Repr

/-- A frame for the host (R296): the frame, its body in the clear, its class, session, and the tick from
which it waits for a buffer. `failed`: its tag failed under CT = 1 (R331). -/
structure Delivery where
  frame : RxFrame
  body : List Byte
  cls : Nat
  session : Nat
  since : Nat
  failed : Bool := false
  deriving DecidableEq, Repr

/-- The hold-off timer of a vector (R301): when it expires, and the requests since. -/
structure VecTimer where
  expiry : Nat
  n : Nat
  deriving DecidableEq, Repr

/-- An outstanding join request (R212, R302). -/
structure JoinReq where
  eui : Nat
  knockId : Nat
  cap : Nat
  port : Nat
  snr : Nat
  via : Nat
  hop : Nat
  deriving DecidableEq, Repr

/-- A mailbox command in progress (R303): SEQ, RESULT and the words ARG0 and ARG1 it will leave, and whether it
waits for its flash operation. -/
structure MbxJob where
  seq : Nat
  result : Nat
  waits : Bool := false
  arg0 : Option Nat := none
  arg1 : Option Nat := none
  deriving DecidableEq, Repr

/-- The host interface: whether the link is up (R283), taken buffers by RXPOST ring, descriptors taken and not yet
completed by ring, frames that wait for the host, vector timers (function 1's vectors from 4,096), outstanding join
requests, and the mailbox command in progress. -/
structure HifSt where
  linkUp : Bool := false
  bufs : Tab (List RxBuf) := []
  taken : Tab Nat := []
  deliveries : List Delivery := []
  timers : Tab VecTimer := []
  joins : List JoinReq := []
  mbx : Option MbxJob := none
  deriving DecidableEq, Repr

/-! ## Cipher engines and keys (chapter 14) -/

/-- What a cipher request is for. -/
inductive CphUse where
  /-- Reception of a dispatched frame. -/
  | rx (id : Nat)
  /-- Encryption of a dequeued frame. -/
  | tx (queue id : Nat)
  deriving DecidableEq, Repr

/-- A cipher request (R327): its use, session, the vault slot it names (R314), priority, arrival tick and number, the bytes still to
process, its engine start, and whether its context lies in the store (R329). -/
structure CphReq where
  use : CphUse
  session : Nat
  prio : Nat
  arrival : Nat
  num : Nat
  bytes : Nat
  saved : Bool := false
  start : Nat := 0
  slot : Nat := 0
  deriving DecidableEq, Repr

/-- A dispatched secured frame (R227) and its session. -/
structure Dispatch where
  frame : RxFrame
  session : Nat
  deriving DecidableEq, Repr

/-- The cipher block: keys by slot (R311), the unwrapped-key cache oldest first (R316), the waiting
requests, the engines' streams by engine, the dispatched frames awaiting their tags, the written-page map
of the directory (R325), a waiting ERASE (R313), and the tick of the last reseed (R310). -/
structure CphSt where
  keys : Tab Nat := []
  cache : List (Nat × Nat × Nat) := []
  waiting : List CphReq := []
  engines : Tab CphReq := []
  dispatched : List Dispatch := []
  pages : Tab Bool := []
  erasing : Option Nat := none
  reseed : Nat := 0
  nextNum : Nat := 0
  deriving DecidableEq, Repr

/-! ## Receiver (chapter 06) -/

/-- A frame in reception or, its samples taken, still in decoding (R126). `sweepK`: 0 for an OB or OR
frame; `sent`: blocks given to the decoders; `parts`: decoded blocks by index (R137); `ended`: the tick of
its last sample; `large`: consecutive symbols of large phase error (R133). -/
structure Acq where
  id : Nat
  tdet : Nat
  snr : BitVec 8
  slot : Nat
  sweepK : Nat
  g3 : Bool
  hdr : Option PhyHeader := none
  map : Option PhyMap := none
  blocks : Nat := 0
  sent : Nat := 0
  parts : Tab (List Byte) := []
  ended : Option Nat := none
  large : Nat := 0
  fofs : BitVec 32 := 0
  sofs : BitVec 32 := 0
  gain : Nat := 0
  meas : Option RxMeas := none
  det : Detect := {}
  deriving DecidableEq, Repr

/-- The receiver of a port: the frame in reception, the frames still in decoding, the tick at which it leaves BLANKED
(R136), and PRT_RXCFG as it stood at the last entry into SEARCH (Table 06-10). -/
structure RxPort where
  cur : Option Acq := none
  tails : List Acq := []
  blank : Nat := 0
  cfg : Word := 0
  deriving DecidableEq, Repr

/-- A code block in the LDPC pool (R138): its port, frame, index, and arrival tick. -/
structure CodeBlock where
  port : Nat
  frame : Nat
  idx : Nat
  header : Bool
  arrival : Nat
  cap : Nat := 0
  deriving DecidableEq, Repr

/-- The receivers and the LDPC pool (R138, R139): waiting blocks in arrival order, blocks in decoders, and
per port the superframes since the last noise record (R143). -/
structure RxSt where
  port : Tab RxPort := []
  waiting : List CodeBlock := []
  decoders : Tab CodeBlock := []
  nextId : Nat := 1
  lastNoise : Tab Nat := []
  deriving DecidableEq, Repr

/-! ## Transmitter (chapter 07) -/

/-- What is on the line. -/
inductive AirKind where
  | data (queue id : Nat)
  | ack (f : Lfc)
  | beacon (b : Beacon)
  deriving DecidableEq, Repr

/-- A frame on the line (R156, R168): its kind, on-time [start, stop), acknowledgement window length (0: none),
the outcome it will have (Table 07-3), whether it is grouped, its occupied range in 1/512 Hz (R159), the stop
it was launched with, and the tick and band of a truncation (R162). -/
structure Air where
  kind : AirKind
  start : Nat
  stop : Nat
  mode : Nat
  aw : Nat
  outcome : Nat := 0
  grouped : Bool := false
  lo : Nat := 0
  hi : Nat := 0
  full : Nat := 0
  trunc : Option (Nat × Nat) := none
  deriving DecidableEq, Repr

/-- An open acknowledgement window (R224): of which frame, and [opening, closing). -/
structure AckWin where
  queue : Nat
  id : Nat
  opening : Nat
  closing : Nat
  deriving DecidableEq, Repr

/-- An ACK to be launched (R223): its frame control, the tick E_r, the sweep mode of the frame
acknowledged (0: none), and whether it answers a POLL. -/
structure AckPlan where
  lfc : Lfc
  er : Nat
  sweepK : Nat
  poll : Bool
  deriving DecidableEq, Repr

/-- A run of a port in a dwell band (R160). -/
structure Run where
  start : Nat
  stop : Nat
  deriving DecidableEq, Repr

/-- The transmitter of a port: the dequeued frames whose packets it has, in order; the frames to be sent
again first (R178, R279); the frame on the line; the acknowledgement window; the ACK to be launched; LDEN
(since when asserted, when its tail ends, whether it is asserted for a launch to come); the end of the FLT_HOLD window; the runs and the on-time
intervals, newest first, by band (R159). -/
structure TxPort where
  ready : List (Nat × Nat) := []
  again : List (Nat × Nat) := []
  air : Option Air := none
  win : Option AckWin := none
  ack : Option AckPlan := none
  ldSince : Option Nat := none
  ldTail : Option Nat := none
  ldPlan : Bool := false
  holdEnd : Nat := 0
  runs : Tab Run := []
  onTime : Tab (List (Nat × Nat)) := []
  deriving DecidableEq, Repr

/-! ## Mains-locked frame, link layer (chapters 09, 10) -/

/-- The contention of a port (R210): the tick until which the medium is busy, how many priority slots of the
present opportunity are past (none: no opportunity), and the tick in which a launch is granted. -/
structure Csma where
  busyUntil : Nat := 0
  prs : Option Nat := none
  grant : Option Nat := none
  deriving DecidableEq, Repr

/-- A knock under way (R211): KNOCKID, repetitions made, beacon periods since the last one. -/
structure Knocking where
  knockId : Nat
  tries : Nat
  periods : Nat
  deriving DecidableEq, Repr

/-- The MAC sequencers. Superframe: entry tick, start s_j, p_hat in 2^-16 tick, LOCK count, the
superframe number at which the beacon period began. Parent: content of the last beacon, DELTA of FOLLOW =
MAINS (2^-16 tick), receive window. Tables in force and pending with their countdown (R206, R207). Timers:
beacon period counter, when each neighbour was last sent a frame, service periods and hold marks, the
rejoining counter (R219), the sounding and ranging clocks. `ref`: the beacon whose timing is applied (R201);
`periodRef`: the TB1 timestamp of the period's start; `cross`: the positive crossings of REF decided since the
superframe began (tick, time in 2^-16 tick, whether the cycle is valid); `missed`: the beacon period whose miss is
decided; `tableNext`: an orphan's new table is used from the next period (R217); `bidx`: the beacon index of the
admission (R202); `winPend`: a window is closed and its miss undecided (R205); `ignored`: knocks ignored beyond JOINMAX
(R212). `dwell`: per dwell register the tick of its last write
and its former value (R162). -/
structure MacSt where
  entry : Nat := 0
  start : Option Nat := none
  pHat : Nat := 0
  lockRun : Nat := 0
  period : Nat := 0
  periodSf : Nat := 0
  periodStart : Nat := 0
  inForce : List Alloc := []
  holdsTable : Bool := false
  tableNext : Bool := false
  bidx : Nat := 0
  coming : Option (Nat × List Alloc) := none
  tgen : Nat := 0
  beacon : Option Beacon := none
  ref : Option Beacon := none
  periodRef : Nat := 0
  cross : List (Nat × Nat × Bool) := []
  missed : Option Nat := none
  winPend : Bool := false
  ignored : Nat := 0
  delta : Int := 0
  winOpen : Bool := false
  winHit : Bool := false
  winStart : Nat := 0
  winEnd : Nat := 0
  rejoin : Nat := 0
  rejoinTo : Option Beacon := none
  knock : Option Knocking := none
  csma : Tab Csma := []
  sentTo : Tab Nat := []
  service : Tab (Nat × Nat) := []
  pendingDelay : Tab Nat := []
  g3last : Tab (Nat × Nat) := []
  g3fc : Tab Nat := []
  dwell : Tab (Nat × Word) := []
  deriving DecidableEq, Repr

/-! ## Time bases (chapter 16) -/

/-- TB0 or TB1 (R356): its value and PEND in 2^-48 ns, and the tick of the last accepted correction. FREQ,
VALID, HOLD and EPOCH are in the base's registers. -/
structure TbSt where
  val : Nat := 0
  pend : Int := 0
  acc : Nat := 0
  deriving DecidableEq, Repr

/-- The time bases. TB3 (R367): CYC, the start c_k and predicted end of its cycle in 2^-16 tick (none: no
cycle yet), the tick T_d and PHASE P_d of the last re-anchoring, whether a valid crossing moved this cycle's
end, the cycles extrapolated, and the tick PD_MSN went off. The TB2 seconds of the last discipline and trim
steps (R362, R368); the last whole second PPS_OUT rose at and when it falls; the PPS_IN edge (TB2 and TB0,
R369); the reset edges of case (b) still to come and the tick at which the pulse of SYNC_OUT ends (R370); the ranging
exchange and the last hop delays in 2^-16 ns (R364). -/
structure TimeSt where
  tb0 : TbSt := {}
  tb1 : TbSt := {}
  ptofs : Int := 0
  cyc : Nat := 0
  cycStart : Option Nat := none
  cycEnd : Nat := 0
  phTick : Nat := 0
  phBase : Nat := 0
  cycHit : Bool := false
  extrap : Nat := 0
  msnOff : Option Nat := none
  disc : Nat := 0
  trimSec : Nat := 0
  ppsSec : Nat := 0
  ppsFall : Option Nat := none
  ppsIn : Nat × Nat := (0, 0)
  syncEdges : List Nat := []
  syncFall : Nat := 0
  rangeReq : Option (Nat × Nat) := none
  rseq : Nat := 0
  rangeAt : Nat := 0
  hops : List Nat := []
  deriving DecidableEq, Repr

/-! ## Memory (chapter 15) -/

/-- DRAM and SRAM. `dram`: the stored bits of every line: byte `80 * L + j` is data byte `j` of line `L` for
`j < 64`, and above that byte `j - 64` of its check symbols, 8 and 9 of codewords 0 to 3 in turn (R336); an
unlisted byte is zero, as a fill leaves it (R343). `sram`: the 72 stored bits of a word (data below), by
2^20 * group + word. The Sweeper's next line and word and the tick its passes began; corrections by device
since the cold reset and by row and device in the present pass (R338, R349); the tick of the last fill and
of the last leak by bucket (R344; SRAM buckets from 4). -/
structure MemSt where
  dram : List Host.Cell := []
  sram : Tab (BitVec 72) := []
  line : Nat := 0
  word : Nat := 0
  lineStart : Nat := 0
  byDev : Tab Nat := []
  byRow : Tab Nat := []
  filled : Nat := 0
  leaks : Tab Nat := []
  deriving DecidableEq, Repr

/-! ## Burin (chapter 08) -/

/-- A burst on a port: its command, on-time [start, stop), whether it is a regeneration, the input or source
port, and whether it is sent under PREEMPT and on the wideband profile (R193). -/
structure Burst where
  cmd : Nat
  start : Nat
  stop : Nat
  regen : Bool
  source : Nat
  preempt : Bool
  wide : Bool
  deriving DecidableEq, Repr

/-- A candidate triple that waits for its decision (R183): the tick of the decision, its hop, the profile of
its detector (PORTCFG), its three symbols. -/
structure BurCand where
  due : Nat
  hop : Nat
  cfg : Word
  s0 : Dechirp
  s1 : Dechirp
  s2 : Dechirp
  deriving DecidableEq, Repr

/-- Burin on a port. Transmission: the burst being sent or sent last, whether its last tick is reached, the one chosen
next, the pending new, regeneration and repeat requests by command with their input or source port
(R175), PORTCFG and PORTLVL as transmission uses them (R193), the PGA code before the burst (R180). Detection:
hops so far, the transforms of the last hops (newest first), candidates, the hop of the last decision by
command (R185), and the ticks of acceptances and burst starts by command (R190). -/
structure BurPort where
  cur : Option Burst := none
  chosen : Option Burst := none
  ended : Bool := true
  fresh : Tab Nat := []
  regen : Tab Nat := []
  again : Tab Nat := []
  txCfg : Word := 0
  txLvl : Word := 0
  gain : Option Nat := none
  hop : Nat := 0
  wins : List (Dechirp × Dechirp) := []
  cands : List BurCand := []
  decided : Tab Nat := []
  marks : List (Nat × Nat) := []
  deriving DecidableEq, Repr

/-- A trip input: its synchronised level, its asserted state (R174), the end ticks of its MAX_ASSERT window
and of its re-arm window (R181). Its STUCK state is in BUR_STAT. -/
structure TripIn where
  high : Bool := false
  asserted : Bool := false
  maxEnd : Option Nat := none
  rearm : Option Nat := none
  deriving DecidableEq, Repr

/-- A TRIP_OUT pin (R188): the end tick of its latest hold window, the command and port of the acceptance that
last asserted or retriggered it, and when that was. Its level is in BUR_STAT. -/
structure TripOut where
  holdEnd : Nat := 0
  cmd : Nat := 0
  port : Nat := 0
  last : Nat := 0
  deriving DecidableEq, Repr

/-- Burin: its ports and pins; the safe-profile store (60 words, or none; R195), the words of the profile in
force (none: Burin is disabled), and the device-wide change that falls in a later tick (R193): that tick, ACT
and the words. -/
structure BurSt where
  port : Tab BurPort := []
  ins : Tab TripIn := []
  outs : Tab TripOut := []
  safe : List Word := []
  words : List Word := []
  next : Option (Nat × Nat × List Word) := none
  deriving DecidableEq, Repr

/-! ## UARTs, flash store (chapter 17) -/

/-- A UART (R373 to R380): its queues (an entry of the receive queue as UAR[u]_DATA shows it), the character
on the line and whether it is still the head of the queue, the retransmissions made, the level of CTS_N and the
level R378 gives RTS_N while RTSEN is 1, whether a BREAK holds back reception and the tick it began in, the tick of the last character stored,
the tick of the last activity, and whether RXTO was set since. -/
structure Uart where
  rxq : List Nat := []
  txq : List Byte := []
  sending : Option (Byte × Bool) := none
  tries : Nat := 0
  cts : Bool := true
  rts : Bool := false
  broken : Option Nat := none
  stored : Option Nat := none
  active : Nat := 0
  timedOut : Bool := false
  deriving DecidableEq, Repr

/-- A flash operation (R390) with its effect: a repair record, a mailbox command (its operation, region, offset
and length or value), a log read, a log unit. -/
inductive FlashOp where
  | repair (record : List Byte) (k : Nat) (mark : Bool)
  | mailbox (op region offset len : Nat)
  | logRead (unit : Nat)
  | logWrite (records : List Nat)
  deriving DecidableEq, Repr

/-- The flash and the supervisor's use of it: its bytes (an erased byte, 0xFF, is not listed), the erase counts
by first address of a sector or block (R389), the operation in progress and those that wait, the log: the unit being
filled, the tick of its first record, full units not yet written, the next unit sequence and place (R387); the
repair records written, the marks already copied and the candidates being copied (R388). -/
structure FlashSt where
  mem : List Host.Cell := []
  erases : Tab Nat := []
  op : Option FlashOp := none
  waiting : List FlashOp := []
  unit : List Nat := []
  unitTick : Nat := 0
  full : List (List Nat) := []
  unitSeq : Nat := 0
  unitPos : Nat := 0
  records : Nat := 0
  block : Nat := 0
  copied : Tab Word := []
  deriving DecidableEq, Repr

/-! ## What the machine sends out -/

/-- What the block has sent to the outside, newest first: the model's own record (log entry 3). -/
inductive Output where
  /-- A write of the device into host memory. -/
  | hostWrite (addr : Nat) (data : List Byte)
  /-- An MSI-X message of a function (R301). -/
  | msix (func vector : Nat)
  /-- An answer to a host read. -/
  | readData (v : Nat)
  /-- A read answered with Completer Abort (R351). -/
  | completerAbort
  /-- A request answered with Unsupported Request (R286). -/
  | unsupported
  /-- A poisoned TLP logged through AER (R305). -/
  | aer
  deriving DecidableEq, Repr

/-! ## The state -/

/-- The state of the block. -/
structure State where
  /-- The registers by key (function 0: BAR0 offset; function 1: `f1` of its offset). An unlisted
  register holds its reset value. -/
  regs : Tab Word
  /-- The tick number (R57). -/
  tick : Nat
  sq : SquareSt
  otp : OtpSt
  boot : BootSt
  pw : PowerSt
  fe : FrontSt
  rx : RxSt
  tx : Tab TxPort
  arc : Tab ArcSt
  blv : BlvSt
  hif : HifSt
  cph : CphSt
  mac : MacSt
  time : TimeSt
  mem : MemSt
  bur : BurSt
  uart : Tab Uart
  fsp : FlashSt
  /-- The model's own: the next free value to take (log entry 1). -/
  free : Nat
  /-- The model's own: everything sent out, newest first (log entry 3). -/
  posted : List Output
  /-- The commands that wait, first in, first out. -/
  pending : List Instr
  deriving DecidableEq, Repr

/-- The state right after reset: the boot has not begun its steps, the device is in PROOF (Table 02-5)
and every register holds its reset value. -/
def State.reset : State :=
  { regs := [], tick := 0, sq := {}, otp := {}, boot := {}, pw := {}, fe := {}, rx := {}, tx := [],
    arc := [], blv := {}, hif := {}, cph := {}, mac := {}, time := {}, mem := {}, bur := {}, uart := [], fsp := {},
    free := 0, posted := [], pending := [] }

end Sys2Proof.Machine
end

