-- ==== Sys2Proof/Machine/Ops.lean ====
section
/-! DEFINITION. The shared operations every command is built from: reading and writing registers and
their fields, free values, the device's units and domains, firing an event of the Square (R67 to R69),
and recording a silent violation (R75, R76). -/

namespace Sys2Proof.Machine

/-! ## Registers -/

/-- The value a register holds (R11): the listed word, else its reset value. -/
def State.reg (s : State) (a : Nat) : Word := look (resetWord a) s.regs a

/-- Gives a register a value. -/
def State.setReg (s : State) (a : Nat) (v : Word) : State :=
  { s with regs := store (resetWord a) a v s.regs }

/-- The value of a register field. -/
def State.get (s : State) (f : Field) : Nat := bits (s.reg f.addr) f.lo f.w

/-- Gives a register field a value. -/
def State.set (s : State) (f : Field) (v : Nat) : State :=
  s.setReg f.addr (withBits (s.reg f.addr) f.lo f.w v)

/-- A one-bit field as a truth value. -/
def State.flag (s : State) (f : Field) : Bool := s.get f == 1

/-- A field read as two's complement (R8). -/
def State.getI (s : State) (f : Field) : Int := signed f.w (s.get f)

/-- Gives a field the two's complement code of an integer. -/
def State.setI (s : State) (f : Field) (v : Int) : State := s.set f (unsigned f.w v)

/-- Adds `n` to a counter field that saturates at its largest value. -/
def State.bump (s : State) (f : Field) (n : Nat := 1) : State := s.set f (satAdd f.w (s.get f) n)

/-- Adds 1 to a counter field that wraps. -/
def State.count (s : State) (f : Field) : State := s.set f (s.get f + 1)

/-- The W1C bits the device has set in a register in this tick (R13). -/
def State.freshBits (s : State) (a : Nat) : Word := look 0 s.sq.fresh a

/-- The device sets a W1C flag: the bit reads 1, and a 1 written to it in this same tick does not clear
it (R13). -/
def State.raiseFlag (s : State) (f : Field) : State :=
  let s1 := s.set f 1
  { s1 with sq.fresh := store 0 f.addr (withBits (s.freshBits f.addr) f.lo f.w 1) s1.sq.fresh }

/-- Clears the W1C bits written 1, but those the device set in this tick (R11, R13). -/
def State.clearW1c (s : State) (a : Nat) (mask : Nat) (written : Word) : State :=
  let m := BitVec.ofNat 32 mask &&& written &&& ~~~(s.freshBits a)
  s.setReg a (s.reg a &&& ~~~m)

/-! ## Free values -/

/-- The next free value below `n` (log entry 1), and the state that has taken it. -/
def State.takeFree (s : State) (n : Nat) : Nat × State :=
  (Config.freeNat s.free % n, { s with free := s.free + 1 })

/-- Records something sent to the outside. -/
def State.post (s : State) (o : Output) : State := { s with posted := o :: s.posted }

/-! ## Modes, variants, domains -/

/-- Table 02-1: mode codes. -/
def mProof : Nat := 1
def mStandby : Nat := 2
def mCoordinator : Nat := 3
def mRepeater : Nat := 4
def mMember : Nat := 5
def mTerminal : Nat := 6
def mIsland : Nat := 7
def mMonitor : Nat := 8
def mSurvey : Nat := 9
def mSafe : Nat := 10
def mFactory : Nat := 11

/-- The current mode (R32). -/
def State.mode (s : State) : Nat := s.get SYS_MODESTAT_MODE

/-- A transition is in progress (R425). -/
def State.busy (s : State) : Bool := s.flag SYS_MODESTAT_BUSY

/-- R426: what is permitted only in STANDBY is permitted now. -/
def State.standbyOk (s : State) : Bool := s.mode == mStandby && !s.busy

/-- An operating mode: one of Table 02-1 in which the line carries frames. -/
def operating (m : Nat) : Bool := decide (3 ≤ m) && m != mSafe && decide (m ≤ 11)

/-- Table 00-1: the number of line ports. -/
def State.ports (s : State) : Nat :=
  if s.otp.variant = 0 then 16 else if s.otp.variant = 1 then 8 else 4

/-- Table 00-1: the number of MIMO groups. -/
def State.groups (s : State) : Nat :=
  if s.otp.variant = 0 then 4 else if s.otp.variant = 1 then 2 else 0

/-- Table 00-1: the AES engines that serve link traffic. -/
def State.engines (s : State) : Nat :=
  if s.otp.variant = 0 then 12 else if s.otp.variant = 1 then 8 else 0

/-- The NF9704-T (Table 00-1). -/
def State.isT (s : State) : Bool := s.otp.variant == 2

/-- Table 00-1: the modes a variant offers. -/
def State.offersMode (s : State) (m : Nat) : Bool :=
  if s.isT then m == mProof || m == mStandby || m == mTerminal || m == mMonitor || m == mSurvey
    || m == mSafe || m == mFactory
  else true

/-- The active profile of a port (Table 02-3). -/
def State.profile (s : State) (n : Nat) : Nat := s.get (PRT_PROFILE_ACT n)

/-- Table 02-2: profile codes. -/
def pfOff : Nat := 0
def pfBB : Nat := 1
def pfHV : Nat := 2
def pfCen : Nat := 3
def pfG3 : Nat := 4
def pfBurin : Nat := 5

/-- A profile that runs no data (R35). -/
def dataless (p : Nat) : Bool := p == pfOff || p == pfBurin

/-- Table 02-2: whether a mode admits a profile. -/
def admits (mode prof : Nat) : Bool :=
  if prof = pfCen then mode != mTerminal
  else if prof = pfG3 then mode != mTerminal && mode != mSurvey
  else decide (prof ≤ 5)

/-- Table 18-1: domain codes. -/
def dAon : Nat := 0
def dProt : Nat := 1
def dHif : Nat := 2
def dFab : Nat := 3
def dMac : Nat := 4
def dCph : Nat := 5
def dMemc : Nat := 6
def dDec : Nat := 8
def dPer : Nat := 10
def dMsn : Nat := 11
def dPair (n : Nat) : Nat := 12 + n / 2

/-- A domain is on (R392, Table 18-7). -/
def State.domOn (s : State) (d : Nat) : Bool := bitN (s.get PWR_STAT_ON) d

/-- The domain of Arcade instance `i` (R17, Table 01-1). -/
def arcDomain (i : Nat) : Nat := if i < 32 then 12 + i / 4 else dHif

/-- The domains present in the variant (Table 00-2). -/
def State.present (s : State) : Nat :=
  if s.otp.variant = 0 then 0xFFFFF else if s.otp.variant = 1 then 0x0FFFF else 0x03FFF

/-- Table 18-1: the domains that stay on in SAFE: PD_AON, PD_PROT, PD_HIF, PD_SUP, PD_PER (Table 02-10). -/
def safeDomains : Nat := 0x607

/-! ## Events (chapter 03) -/

/-- The domain whose block raises a source (Table 03-4, R15). -/
def sourceDomain (src : Nat) : Nat :=
  if 32 ≤ src ∧ src < 90 then dProt
  else if (96 ≤ src ∧ src < 100) ∨ src = 101 ∨ (458 ≤ src ∧ src < 462) then dMemc
  else if 102 ≤ src ∧ src < 142 then arcDomain (src - 102)
  else if src = 147 ∨ src = 148 then dCph
  else if (178 ≤ src ∧ src < 182) ∨ src = 192 then dMsn
  else if 182 ≤ src ∧ src < 188 then dMac
  else if 208 ≤ src ∧ src < 336 then
    (if (src - 208) % 8 = 7 then dProt else dPair ((src - 208) / 8))
  else if 336 ≤ src ∧ src < 376 then arcDomain (src - 336)
  else if 464 ≤ src ∧ src < 486 then dPer
  else dAon

/-- The port a source belongs to, if it belongs to one. -/
def sourcePort (src : Nat) : Option Nat :=
  if 48 ≤ src ∧ src < 64 then some (src - 48)
  else if 64 ≤ src ∧ src < 80 then some (src - 64)
  else if 208 ≤ src ∧ src < 336 then some ((src - 208) / 8)
  else if 102 ≤ src ∧ src < 134 then some ((src - 102) / 2)
  else if 336 ≤ src ∧ src < 368 then some ((src - 336) / 2)
  else none

/-- R67, Table 00-2: whether a source can fire: its unit is present and its domain on. -/
def State.sourceOn (s : State) (src : Nat) : Bool :=
  s.domOn (sourceDomain src) &&
    (match sourcePort src with
     | some n => decide (n < s.ports)
     | none => true)

/-- The pending bit of a source (Table 03-8). -/
def pendField (src : Nat) : Field :=
  if 32 ≤ src ∧ src < 96 then ⟨a_BUR_PEND ((src - 32) / 32), src % 32, 1⟩
  else ⟨a_SQR_PEND (src / 32), src % 32, 1⟩

/-- R69: the staged record after one more occurrence of its source. -/
def stageRec (old : Option EvRec) (src tick data : Nat) : EvRec :=
  match old with
  | none => { source := src, tick := tick, data := data % 2 ^ 32, rep := 0 }
  | some r => { r with rep := satAdd 8 r.rep 1 }

/-- Fires an event source (R67 to R69): its pending bit is set and its staging slot filled, or REPEAT
of the staged record rises. A source whose unit is absent or whose domain is off does not fire. -/
def State.fire (s : State) (src : Nat) (data : Nat := 0) : State :=
  if s.sourceOn src then
    let s1 := s.raiseFlag (pendField src)
    { s1 with sq.staged := put src (stageRec (find s.sq.staged src) src s.tick data) s1.sq.staged }
  else s

/-- The source of port event `k` of port `n` (Table 03-4). -/
def esPort (n k : Nat) : Nat := 208 + 8 * n + k

/-! ## Silent violations (R75 to R77) -/

/-- R76: the rank of a violation among those of one tick. -/
def accessRank (a : Access) : Nat :=
  match a with
  | .host f _ _ _ => f.val
  | .internal _ _ => 2

/-- Records a silent violation of a kind (R76): the count rises, and the first since the count was zero
is captured; of several in one tick, the one of lowest rank. -/
def State.violate (s : State) (a : Access) (kind : Nat) : State :=
  let rank := accessRank a
  let captures := s.get SYS_VIOLCNT_COUNT == 0 || (s.sq.violTick == s.tick && s.flag SYS_VIOLINFO_VALID
    && decide (rank < s.sq.violRank))
  let s1 := s.bump SYS_VIOLCNT_COUNT
  if captures then
    let (addr, w, f, b) := match a with
      | .host f b o w => (o, w, f.val, b.val)
      | .internal o w => (o, w, 0, 0)
    let s2 := s1.setReg a_SYS_VIOLADDR addr
    let s3 := s2.setReg a_SYS_VIOLINFO
      (BitVec.ofNat 32 (1 + 2 * b2n w + 4 * f + 8 * b + 16 * kind))
    { s3 with sq.violTick := s.tick, sq.violRank := rank }
  else s1

/-- Clears the violation record and re-arms capture (R77). -/
def State.clearViolations (s : State) : State :=
  ((s.set SYS_VIOLCNT_COUNT 0).setReg a_SYS_VIOLADDR 0).setReg a_SYS_VIOLINFO 0

/-! ## Reaching a register (R16, R42, R50, R54, R73, R75, R82, R407) -/

/-- SYS_LOCK is set (R11). -/
def State.locked (s : State) : Bool := s.flag SYS_LOCK_LOCK

/-- The key of the register a host access of a function reaches at a BAR0 offset: function 1 sees the
time registers at 0x4000 (R361). -/
def regKey (func : Nat) (offset : Nat) : Nat :=
  if func = 0 then offset
  else if 0x4000 ≤ offset ∧ offset < 0x8000 then 0xA0000 + (offset - 0x4000)
  else f1 offset

/-- R73: an offset of function 0's BAR0 that is function 1's space. -/
def otherFunctions (key : Nat) : Bool :=
  key == a_SQR_PEND 1 || key == a_SQR_PEND 2 ||
    (decide (a_SQR_ROUTE 32 ≤ key) && decide (key < a_SQR_ROUTE 96))

/-- Table 00-2: whether the register of a row exists in the variant. -/
def State.rowPresent (s : State) (r : Row) (i : Nat) : Bool :=
  if r.dom = 100 ∨ (r.base ≥ a_PRT_PROFILE 0 ∧ r.base < a_PRT_PROFILE 0 + 0x8000) then decide (i < s.ports)
  else if r.name = "GRP_CFG" then decide (i < s.groups)
  else if r.dom = 101 ∧ i < 32 then decide (i / 2 < s.ports)
  else true

/-- The domain that holds register `i` of a row. -/
def rowDomain (r : Row) (i : Nat) : Nat :=
  if r.dom = 100 then dPair i else if r.dom = 101 then arcDomain i else r.dom

/-- R38: SAFE was entered automatically in this tick, so a request of this tick is still judged. -/
def State.safeThisTick (s : State) : Bool := s.boot.autoTick == some s.tick && s.boot.autoSafe

/-- R42, R50: a window that is silent in PROOF or in SAFE. -/
def State.silentWindow (s : State) (func key : Nat) : Bool :=
  if s.mode == mProof then
    (if func = 0 then decide (0x10000 ≤ key) else !(decide (f1 0 ≤ key) && decide (key < f1 0x1000)))
  else if s.mode == mSafe then
    (if func = 0 then
      !(key == a_SYS_ID || key == a_SYS_CAP || key == a_SYS_MODESTAT || key == a_SYS_BOOTSTAT
        || (key == a_SYS_MODE && s.safeThisTick))
     else decide (key < f1 0x8000) || decide (f1 0xA000 ≤ key))
  else false

/-- Whether all writable fields of a row are RWL, and some are (R75). -/
def Row.onlyRwl (r : Row) : Bool :=
  r.rwl != 0 && r.rw == 0 && r.w1c == 0 && r.w1s == 0 && r.wo == 0

/-- R405: the memory debug window is implemented without rows of its own (Table 19-2). -/
def debugWindow (key : Nat) : Bool := decide (0x88000 ≤ key) && decide (key < 0x89000)

/-- R361: the TIM registers, and those of them written through function 1's mirror alone: TIM_TBSTAT, TIM_CFG,
TIM_TB1CFG, TIM_TB0CMD, TIM_TB0ARG, TIM_TB0REF, TIM_PLL, TIM_PPSCFG and TIM_SYNCCFG. -/
def timKey (key : Nat) : Bool := decide (0xA0000 ≤ key) && decide (key < 0xA4000)
def timF1 (key : Nat) : Bool :=
  key == a_TIM_TBSTAT 0 || key == a_TIM_TBSTAT 1 || key == a_TIM_CFG || key == a_TIM_TB1CFG || key == a_TIM_TB0CMD
    || (decide (a_TIM_TB0ARG 0 ≤ key) && decide (key ≤ a_TIM_TB0REF 1)) || key == a_TIM_PLL
    || key == a_TIM_PPSCFG || key == a_TIM_SYNCCFG

/-- The KIND of the silent violation of a 4 B host access, `none` where it is none (R75). In PROOF and
in SAFE the KIND of an access to a silent window is not stated: a free value of 0 to 4 (log entry 5). An access to
BAR2 of function 1, which has none, is no violation but an Unsupported Request (Table 13-11). -/
def State.violationKind (s : State) (func bar : Nat) (offset : Nat) (write : Bool) : Option Nat :=
  if bar ≠ 0 then
    if func ≠ 0 then none
    else if s.mode == mProof || s.mode == mSafe then some (Config.freeNat s.free % 5)
    else if write && offset % 4096 == 0 && decide (offset < 0x1000000) then none
    else some 0
  else
    let key := regKey func offset
    if func = 0 ∧ otherFunctions key then some 3
    else if debugWindow key && func == 0 then
      (if s.silentWindow func key then some (Config.freeNat s.free % 5)
       else if !s.domOn dMemc then some 2
       else none)
    else
      match rowOf regMap key with
      | none => some 0
      | some (r, i, _) =>
        if !s.rowPresent r i then some 0
        else if s.silentWindow func key then
          (if s.domOn (rowDomain r i) then some (Config.freeNat s.free % 5) else some 2)
        else if !s.domOn (rowDomain r i) then some 2
        else if write && s.locked && r.onlyRwl then some 1
        else if write && timKey key && (func == 0) == timF1 key then some 3
        else none

/-- A 4 B host write that reaches its register does `f`; one that is a silent violation is recorded and
has no other effect (R75). Every command that is a register write passes here. -/
def State.hostWrite (s : State) (func : Nat) (offset : Nat) (f : State → State) : State :=
  match s.violationKind func 0 offset true with
  | some k => { s with free := s.free + 1 }.violate
      (.host (Fin.ofNat 2 func) 0 (BitVec.ofNat 32 offset) true) k
  | none => f s

/-- A 4 B host read that reaches its register does `f`; a silent violation reads zero (R75). -/
def State.hostRead (s : State) (func : Nat) (offset : Nat) (f : State → State) : State :=
  match s.violationKind func 0 offset false with
  | some k => ({ s with free := s.free + 1 }.violate
      (.host (Fin.ofNat 2 func) 0 (BitVec.ofNat 32 offset) false) k).post (.readData 0)
  | none => f s

/-- Stores the fields of a register by their access types (R11 to R13): RW and WO fields take the
written value, RWL fields unless locked, W1C bits written 1 clear unless set in this tick, W1S bits
written 1 set; RO and reserved bits ignore the write. -/
def State.storeFields (s : State) (r : Row) (a : Nat) (v : Word) : State :=
  let wr := BitVec.ofNat 32 (r.rw ||| r.wo ||| (if s.locked then 0 else r.rwl))
  let s1 := s.setReg a ((s.reg a &&& ~~~wr) ||| (v &&& wr))
  let s2 := s1.clearW1c a r.w1c v
  s2.setReg a (s2.reg a ||| (v &&& BitVec.ofNat 32 r.w1s))

/-- The stored value of a register, as a host read sees it: WO and reserved fields read zero, RWL fields
read zero once locked (R11, R12). -/
def State.readFields (s : State) (r : Row) (a : Nat) : Word :=
  s.reg a &&& BitVec.ofNat 32 (r.rw ||| r.ro ||| r.w1c ||| r.w1s ||| (if s.locked then 0 else r.rwl))

/-! ## Times -/

/-- Ticks in a microsecond, a millisecond, a second (R10). -/
def tUs : Nat := 125
def tMs : Nat := 125000
def tS : Nat := 125000000

/-! ## Per-port and per-input records, reset edges (chapter 04) -/

/-- The front-end record of port `n`. -/
def State.fePort (s : State) (n : Nat) : FePort := look {} s.fe.port n

/-- Replaces the front-end record of port `n`. -/
def State.setFePort (s : State) (n : Nat) (p : FePort) : State :=
  { s with fe.port := store {} n p s.fe.port }

/-- The record of mains-sense input `i`. -/
def State.ms (s : State) (i : Nat) : MsPort := look {} s.fe.ms i

/-- Replaces the record of mains-sense input `i`. -/
def State.setMs (s : State) (i : Nat) (p : MsPort) : State :=
  { s with fe.ms := store {} i p s.fe.ms }

/-- Schedules a reset edge (R91); the same cause on the same edge is one reset (R94). -/
def State.addEdge (s : State) (e : Nat) (t : DecTarget) : State :=
  if s.fe.edges.contains (e, t) then s else { s with fe.edges := (e, t) :: s.fe.edges }

/-- Table 04-5: the effective k of a port's data chain; PRT[n]_DEC.K overrides it in MONITOR and SURVEY. -/
def State.effK (s : State) (n : Nat) : Nat :=
  let k := s.get (PRT_DEC_K n)
  if k ≠ 0 ∧ (s.mode = mMonitor ∨ s.mode = mSurvey) then k
  else if s.profile n = pfHV ∨ s.profile n = pfCen then 8
  else if s.profile n = pfG3 then 9
  else 0

/-- A change of the effective k resets the chain in the tick after the change (R90 c, R91). -/
def State.refreshK (s : State) (n : Nat) : State :=
  if s.effK n = s.get (PRT_DEC_ACT_K n) then s
  else (s.set (PRT_DEC_ACT_K n) (s.effK n)).addEdge (2 * (s.tick + 1)) (.port n)

end Sys2Proof.Machine
end

