-- ==== Sys2Proof/Machine/HostOps.lean ====
section
/-! DEFINITION. Chapter 13: the operations on rings, completions, event entries and vectors that other blocks
share (R287 to R301). -/

namespace Sys2Proof.Machine

/-! ## Ring registers of either function (Table 13-13) -/

def rLo (f r : Nat) : Field := if f = 0 then HIF_RBASELO_BASE r else F1_RBASELO_BASE r
def rHi (f r : Nat) : Field := if f = 0 then HIF_RBASEHI_BASE r else F1_RBASEHI_BASE r
def rType (f r : Nat) : Field := if f = 0 then HIF_RCFG_TYPE r else F1_RCFG_TYPE r
def rLog (f r : Nat) : Field := if f = 0 then HIF_RCFG_LOGSZ r else F1_RCFG_LOGSZ r
def rVec (f r : Nat) : Field := if f = 0 then HIF_RCFG_VECTOR r else F1_RCFG_VECTOR r
def rIen (f r : Nat) : Field := if f = 0 then HIF_RCFG_IEN r else F1_RCFG_IEN r
def rEn (f r : Nat) : Field := if f = 0 then HIF_RCFG_EN r else F1_RCFG_EN r
def rRefused (f r : Nat) : Field := if f = 0 then HIF_RCFG_REFUSED r else F1_RCFG_REFUSED r
def rP (f r : Nat) : Field := if f = 0 then HIF_RPROD_P r else F1_RPROD_P r
def rC (f r : Nat) : Field := if f = 0 then HIF_RCONS_C r else F1_RCONS_C r
def rIdle (f r : Nat) : Field := if f = 0 then HIF_RSTAT_IDLE r else F1_RSTAT_IDLE r
def rErr (f r : Nat) : Field := if f = 0 then HIF_RSTAT_ERR r else F1_RSTAT_ERR r
def rStopped (f r : Nat) : Field := if f = 0 then HIF_RSTAT_STOPPED r else F1_RSTAT_STOPPED r
def rResv (f r : Nat) : Field := if f = 0 then HIF_RSTAT_RESV r else F1_RSTAT_RESV r

/-- Table 13-1: the rings of a function. -/
def ringCount (f : Nat) : Nat := if f = 0 then 4096 else 16

/-- R287: ring types. -/
def tTxSub : Nat := 1
def tRxPost : Nat := 2
def tCompl : Nat := 3
def tEvent : Nat := 4

/-- R287: SIZE = 2^LOGSZ. -/
def State.rSize (s : State) (f r : Nat) : Nat := 2 ^ s.get (rLog f r)

/-- R287: (P - C) mod 2^32. -/
def State.rFill (s : State) (f r : Nat) : Nat := (s.get (rP f r) + 2 ^ 32 - s.get (rC f r)) % 2 ^ 32

/-- R287: the host address of entry `i` of a ring. -/
def State.rAddr (s : State) (f r esize i : Nat) : Nat :=
  s.get (rHi f r) * 2 ^ 32 + s.get (rLo f r) * 4096 + esize * (i % s.rSize f r)

/-- R291: PHASE of entry `i`. -/
def State.rPhase (s : State) (f r i : Nat) : Nat := (i / s.rSize f r + 1) % 2

/-- The ring is enabled, of the type, and not stopped (R288, R290). -/
def State.rLive (s : State) (f r type : Nat) : Bool :=
  decide (r < ringCount f) && s.get (rType f r) == type && s.flag (rEn f r) && !s.flag (rStopped f r)

/-! ## Vectors (R301) -/

/-- The key of a vector's timer. -/
def vecKey (f v : Nat) : Nat := 4096 * f + v

def vMask (f v : Nat) : Field := if f = 0 then MSIX_CTRL_MASK v else F1_MSIX_CTRL_MASK v
def vHoldoff (f v : Nat) : Field := if f = 0 then HIF_VMOD_HOLDOFF v else F1_VMOD_HOLDOFF v
def vBatch (f v : Nat) : Field := if f = 0 then HIF_VMOD_BATCH v else F1_VMOD_BATCH v

/-- The pending bit of a vector in the pending-bit array. -/
def vPend (f v : Nat) : Field :=
  if f = 0 then ⟨(MSIX_PBA_PENDING (v / 32)).addr, v % 32, 1⟩ else ⟨F1_MSIX_PBA_PENDING.addr, v % 32, 1⟩

/-- Starts or ends a vector's timer: it runs when HOLDOFF is not 0. -/
def State.setTimer (s : State) (f v : Nat) : State :=
  let h := s.get (vHoldoff f v)
  if h = 0 then { s with hif.timers := del (vecKey f v) s.hif.timers }
  else { s with hif.timers := put (vecKey f v) ⟨s.tick + h * tUs, 0⟩ s.hif.timers }

/-- R301: the message is sent and the timer set. In SAFE no message is sent. -/
def State.sendVector (s : State) (f v : Nat) : State := (s.post (.msix f v)).setTimer f v

/-- R301: a request of vector `v`. -/
def State.requestVector (s : State) (f v : Nat) : State :=
  if s.mode = mSafe then s
  else if s.flag (vMask f v) then s.set (vPend f v) 1
  else match find s.hif.timers (vecKey f v) with
    | none => s.sendVector f v
    | some t =>
      let b := s.get (vBatch f v)
      if 0 < b ∧ b ≤ t.n + 1 then s.sendVector f v
      else { s with hif.timers := put (vecKey f v) { t with n := t.n + 1 } s.hif.timers }

/-! ## Event rings (R300) -/

/-- The key of a ring's LOST mark. -/
def lostKey (f r : Nat) : Nat := 4096 * f + r

/-- The 16 B of an event entry (Table 13-8) as a number, with LOST and PHASE of its place. -/
def State.eventBits (s : State) (f r i : Nat) (low lowData word3 : Nat) (lost : Bool) : Nat :=
  low % 2 ^ 64 + lowData % 2 ^ 32 * 2 ^ 64
    + (word3 + 2 ^ 9 * b2n lost + 2 ^ 10 * s.rPhase f r i) * 2 ^ 96

/-- R291: writes one entry at the producer index and advances it. -/
def State.putEvent (s : State) (f r low lowData word3 : Nat) (lost : Bool) : State :=
  let i := s.get (rP f r)
  (s.post (.hostWrite (s.rAddr f r 16 i) (leBytes 16 (s.eventBits f r i low lowData word3 lost)))).set
    (rP f r) (i + 1)

/-- R70, R300: whether a ring takes `n` more event entries. -/
def State.eventRoom (s : State) (f r n : Nat) : Bool :=
  s.rLive f r tEvent && decide (s.rFill f r + n ≤ s.rSize f r)

/-- The LOST mark of a ring. -/
def State.ringLost (s : State) (f r : Nat) : Bool := look false s.sq.lost (lostKey f r)

/-- Sets or clears the LOST mark of a ring. -/
def State.setLost (s : State) (f r : Nat) (b : Bool) : State :=
  { s with sq.lost := store false (lostKey f r) b s.sq.lost }

/-- The KIND 3 entries of a payload: 12 B each. -/
def State.putPayload (s : State) (f r : Nat) (l : List Nat) : State :=
  match l with
  | [] => s
  | x :: rest => (s.putEvent f r (x % 2 ^ 64) (x / 2 ^ 64) (3 * 2 ^ 11) false).putPayload f r rest

/-- R300: a KIND 1 or KIND 2 record on ring `r` of function 0: the head entry, then the payload entries (12 B
each, as numbers). When the ring lacks room the record is dropped and counted in HIF_EVDROP, and the next
record written there carries LOST. -/
def State.putRecord (s : State) (kind r type data : Nat) (payload : List Nat) : State :=
  if s.mode = mSafe then s
  else if s.eventRoom 0 r (1 + payload.length) then
    let lost := s.ringLost 0 r
    let s1 := s.putEvent 0 r s.tick (type + data % 2 ^ 24 * 256)
      (kind * 2 ^ 11 + payload.length % 256 * 2 ^ 16) lost
    let s2 := (s1.putPayload 0 r payload).setLost 0 r false
    if s2.flag (rIen 0 r) then s2.requestVector 0 (s2.get (rVec 0 r)) else s2
  else (s.bump HIF_EVDROP_COUNT).setLost 0 r true

/-- R300: a MAC notification record of Table 13-9. -/
def State.notify (s : State) (type data : Nat) (payload : List Nat) : State :=
  if s.flag HIF_NOTCFG_EN then s.putRecord 1 (s.get HIF_NOTCFG_RING) type data payload else s

/-- R300: a telemetry record of Table 13-9; ES486 fires as it is pushed. -/
def State.telemetry (s : State) (type data port : Nat) (payload : List Nat) : State :=
  if s.flag HIF_TELCFG_EN then (s.putRecord 2 (s.get HIF_TELCFG_RING) type data payload).fire 486 port
  else s

/-- The bytes of a payload in entries of 12 B. -/
def chunk12 (l : List Byte) (n : Nat) : List Nat :=
  match n with
  | 0 => []
  | k + 1 => leNat (l.take 12) :: chunk12 (l.drop 12) k

/-- Table 13-9: RING_ERR. -/
def State.notifyRingErr (s : State) (f r err : Nat) : State := s.notify 6 (r + 4096 * f) [err]

/-- R290: the ring stops with an error, and RING_ERR is written. -/
def State.stopRing (s : State) (f r err : Nat) : State :=
  ((s.set (rStopped f r) 1).set (rErr f r) err).notifyRingErr f r err

/-- Table 13-9: PRESENCE. `st`: 1 PRESENT, 2 ABSENT. -/
def State.notifyPresence (s : State) (st addr : Nat) : State := s.notify 3 st [addr]

/-! ## Completions (R298, R299, Table 13-6) -/

/-- The 32 B of a completion entry as a number. -/
def Compl.word (c : Compl) (phase : Nat) : Nat :=
  c.status + 2 ^ 8 * phase + 2 ^ 9 * c.kind + 2 ^ 10 * b2n c.sec + 2 ^ 11 * b2n c.ct
    + 2 ^ 12 * (c.cls % 8) + 2 ^ 15 * b2n c.tsv + 2 ^ 16 * (c.len % 2 ^ 14)
    + 2 ^ 32 * (c.token % 2 ^ 32)
    + 2 ^ 64 * (c.queue % 2 ^ 20 + 2 ^ 20 * (c.port % 16) + 2 ^ 24 * min c.attempts 15
      + 2 ^ 28 * (c.outcome % 8))
    + 2 ^ 96 * (c.quality % 2 ^ 32) + 2 ^ 128 * (if c.tsv then c.ts % 2 ^ 128 else 0)

/-- R288: IDLE: the ring is disabled and none of its descriptors is in progress. -/
def State.refreshIdle (s : State) (f r : Nat) : State :=
  s.set (rIdle f r) (b2n (!s.flag (rEn f r) && (f != 0 || look 0 s.hif.taken r == 0)))

/-- A descriptor of ring `r` has been completed. -/
def State.untake (s : State) (r : Nat) : State :=
  { s with hif.taken := store 0 r (look 0 s.hif.taken r - 1) s.hif.taken }.refreshIdle 0 r

/-- R299: the descriptor of a completion is no longer reserved on its COMPL ring, nor in progress on its own. -/
def State.settleCompl (s : State) (c : Compl) : State :=
  (s.set (HIF_RSTAT_RESV c.ring) (s.get (HIF_RSTAT_RESV c.ring) - 1)).untake c.src

/-- R291, R298, R299: posts a completion on its COMPL ring: the entry is written, P advances, RESV falls by
the descriptor completed, and VECTOR is requested when IEN is 1. A stopped ring produces no entry (R290). Nothing is
posted in SAFE (R51). -/
def State.postCompl (s : State) (c : Compl) : State :=
  if s.mode = mSafe then s
  else if s.flag (rStopped 0 c.ring) then s.settleCompl c
  else
    let i := s.get (HIF_RPROD_P c.ring)
    let s1 := s.post (.hostWrite (s.rAddr 0 c.ring 32 i) (leBytes 32 (c.word (s.rPhase 0 c.ring i))))
    let s2 := (s1.set (HIF_RPROD_P c.ring) (i + 1)).settleCompl c
    if s2.flag (HIF_RCFG_IEN c.ring) then s2.requestVector 0 (s2.get (HIF_RCFG_VECTOR c.ring)) else s2

/-- A completion, where one is owed. -/
def State.postComplO (s : State) (c : Option Compl) : State :=
  match c with
  | some x => s.postCompl x
  | none => s

/-- R290, R298, R299: whether a descriptor whose ring names COMPL ring `k` may be taken: `k` produces entries, and has
room beyond RESV. -/
def State.credit (s : State) (k : Nat) : Bool :=
  s.rLive 0 k tCompl && decide (s.get (HIF_RSTAT_RESV k) + 1 + s.rFill 0 k ≤ s.rSize 0 k)

end Sys2Proof.Machine
end

