-- ==== Sys2Proof/Machine/BlvOps.lean ====
section
/-! DEFINITION. Chapter 11: the tables of the Boulevard, its frames, cells and ledger, eligibility, the choice
of a frame and shaping (R241 to R257, R262). -/

namespace Sys2Proof.Machine

/-! ## Fields of the tables -/

/-- A field of a table entry: its low bit and width. -/
structure Sub where
  lo : Nat
  w : Nat
  deriving DecidableEq, Repr

/-- The value of a field of a table entry. -/
def sub {n : Nat} (v : BitVec n) (f : Sub) : Nat := bits v f.lo f.w

/-- A table entry with a field replaced. -/
def withSub {n : Nat} (v : BitVec n) (f : Sub) (x : Nat) : BitVec n := withBits v f.lo f.w x

/-- Table 11-3. -/
def qBOUND : Sub := ⟨0, 1⟩
def qBCAST : Sub := ⟨1, 1⟩
def qCLASS : Sub := ⟨2, 3⟩
def qHOLD : Sub := ⟨5, 1⟩
def qSESSION : Sub := ⟨8, 18⟩
def qPORT : Sub := ⟨8, 4⟩
def qHEAD : Sub := ⟨32, 24⟩
def qSHAPE : Sub := ⟨56, 8⟩
def qTAIL : Sub := ⟨64, 24⟩
def qCELLS : Sub := ⟨96, 25⟩
def qFRAMES : Sub := ⟨128, 24⟩
def qTOKENS : Sub := ⟨160, 32⟩
def qLAST : Sub := ⟨192, 32⟩
def qTAG : Sub := ⟨224, 32⟩

/-- Table 11-5. -/
def sNEIGH : Sub := ⟨0, 25⟩
def sVALID : Sub := ⟨25, 1⟩
def sEXH : Sub := ⟨26, 1⟩
def sWARNED : Sub := ⟨27, 1⟩
def sNABSENT : Sub := ⟨28, 1⟩
def sNSLEEPY : Sub := ⟨29, 1⟩
def sPORT : Sub := ⟨32, 4⟩
def sGROUPED : Sub := ⟨36, 1⟩
def sLINK : Sub := ⟨37, 16⟩
def sTXFC : Sub := ⟨64, 32⟩
def sTOKENS : Sub := ⟨96, 32⟩
def sLAST : Sub := ⟨128, 32⟩
def sSHAPE : Sub := ⟨160, 8⟩
def sRELAYQ : Sub := ⟨192, 20⟩
def sRQEN : Sub := ⟨212, 1⟩
def sH : Sub := ⟨512, 32⟩
def sV : Sub := ⟨544, 128⟩
def sP (k : Nat) : Sub := ⟨672 + 16 * k, 16⟩
def sPMASK : Sub := ⟨928, 16⟩
def sKEYBLOB : Sub := ⟨1024, 384⟩
def sKEYINFO : Sub := ⟨1408, 32⟩

/-- Table 11-6. -/
def dEUI : Sub := ⟨0, 64⟩
def dSTATE : Sub := ⟨64, 2⟩
def dREPEATER : Sub := ⟨66, 1⟩
def dSLEEPY : Sub := ⟨67, 1⟩
def dGROUPED : Sub := ⟨68, 1⟩
def dBELOW : Sub := ⟨69, 1⟩
def dDIRECT : Sub := ⟨70, 1⟩
def dSESSION : Sub := ⟨72, 18⟩
def dNEXTHOP : Sub := ⟨96, 25⟩
def dPORT : Sub := ⟨121, 4⟩
def dCSEQS : Sub := ⟨128, 16⟩
def dCSEQTX : Sub := ⟨144, 16⟩
def dCMAP : Sub := ⟨160, 64⟩
def dLASTRX : Sub := ⟨224, 32⟩
def dADDR2 : Sub := ⟨256, 25⟩
def dHOP : Sub := ⟨281, 4⟩

/-! ## Sizes and entries -/

/-- R266: the sizes of the tables. -/
def State.queueCount (s : State) : Nat := if s.isT then 64 else 2 ^ 20
def State.sessionCount (s : State) : Nat := if s.isT then 64 else 2 ^ 18
def State.dirCount (s : State) : Nat := if s.isT then 256 else 2 ^ 25

/-- The unassigned address and the broadcast address (R213). -/
def addrNone : Nat := 0x1FFFFFE
def addrAll : Nat := 0x1FFFFFF

/-- Queue state `q` (Table 11-3). -/
def State.queue (s : State) (q : Nat) : BitVec 256 := look 0 s.blv.queues q
def State.setQueue (s : State) (q : Nat) (v : BitVec 256) : State :=
  { s with blv.queues := store 0 q v s.blv.queues }

/-- Session `k` (Table 11-5). -/
def State.ses (s : State) (k : Nat) : BitVec 2048 := look 0 s.blv.sessions k
def State.setSes (s : State) (k : Nat) (v : BitVec 2048) : State :=
  { s with blv.sessions := store 0 k v s.blv.sessions }

/-- What an entry of the directory holds after a fill: entry 0 as the supervisor writes it (R54, R251): the
device's EUI-64, no address and no parent; every other entry free. -/
def State.dirFresh (s : State) (i : Nat) : BitVec 512 :=
  if i = 0 then BitVec.ofNat 512 (s.otp.eui % 2 ^ 64 + addrNone * 2 ^ 256) else 0

/-- Directory entry `i` (Table 11-6). -/
def State.dirEnt (s : State) (i : Nat) : BitVec 512 := look (s.dirFresh i) s.blv.dir i
def State.setDirEnt (s : State) (i : Nat) (v : BitVec 512) : State :=
  { s with blv.dir := store (s.dirFresh i) i v s.blv.dir }

/-- R213, R251: the device's own address: 0 for a coordinator, else that of entry 0. -/
def State.ownAddr (s : State) : Nat :=
  if s.mode = mCoordinator then 0 else sub (s.dirEnt 0) dADDR2

/-- R251: the index of the entry of address `a`. -/
def State.dirIndex (s : State) (a : Nat) : Nat := Nat.xor a s.ownAddr

/-- The entry of address `a`. -/
def State.dirOf (s : State) (a : Nat) : BitVec 512 := s.dirEnt (s.dirIndex a)
def State.setDirOf (s : State) (a : Nat) (v : BitVec 512) : State := s.setDirEnt (s.dirIndex a) v

/-- R262: quarantine marks. -/
def State.qQuar (s : State) (q : Nat) : Bool := look false s.blv.quarQ q
def State.sQuar (s : State) (k : Nat) : Bool := look false s.blv.quarS k
def State.pQuar (s : State) (i : Nat) : Bool := look false s.blv.quarP (i / 64)

/-- The valid sessions in rising order that meet a test. -/
def State.findSes (s : State) (p : BitVec 2048 → Bool) : Option Nat :=
  (s.blv.sessions.find? (fun e => sub e.2 sVALID == 1 && p e.2)).map (fun e => e.1)

/-- The session of the link to a neighbour: the one its directory entry names, where it is valid and belongs to that
neighbour, else the first valid one of that neighbour (DEDUCED, log entry 81). -/
def State.sesFrom (s : State) (src : Nat) : Option Nat :=
  let k := sub (s.dirOf src) dSESSION
  if k ≠ 0 ∧ sub (s.ses k) sVALID = 1 ∧ sub (s.ses k) sNEIGH = src then some k
  else s.findSes (fun v => sub v sNEIGH == src)

/-! ## Frames of queues -/

/-- The internal control queue of port `n` (R243). -/
def ctrlQueue (n : Nat) : Nat := 2 ^ 20 + n

/-- The frames of a queue, the head first. -/
def State.framesOf (s : State) (q : Nat) : List TxFrame := look [] s.blv.frames q
def State.setFrames (s : State) (q : Nat) (l : List TxFrame) : State :=
  { s with blv.frames := store [] q l s.blv.frames }

/-- A frame of a queue by its number. -/
def State.frameOf (s : State) (q id : Nat) : Option TxFrame := (s.framesOf q).find? (fun f => f.id == id)

/-- Replaces a frame of a queue. -/
def State.setFrame (s : State) (q : Nat) (f : TxFrame) : State :=
  s.setFrames q ((s.framesOf q).map (fun g => if g.id == f.id then f else g))

/-- R253: the cells of a frame of `len` bytes. -/
def cellsOf (len : Nat) : Nat := max 1 (ceilDiv len 256)

/-- The cells of a transmit frame. -/
def TxFrame.cells (f : TxFrame) : Nat := cellsOf f.body.length

/-- The class-c floor of R256: the largest of BLV_FLOOR[0] to BLV_FLOOR[c]. -/
def State.floor (s : State) (c : Nat) : Nat :=
  match c with
  | 0 => s.get (BLV_FLOOR_FLOOR 0)
  | k + 1 => max (s.get (BLV_FLOOR_FLOOR (k + 1))) (s.floor k)

/-- R256: whether `k` cells are admitted for class `c`. During a rebuild every allocation fails. -/
def State.admitsCells (s : State) (c k : Nat) : Bool :=
  !s.blv.rebuilding && decide (k + s.floor c ≤ s.blv.led.free)

/-- R254: `k` cells go from FREE to RX. -/
def State.takeCells (s : State) (k : Nat) : State :=
  { s with blv.led.free := s.blv.led.free - k, blv.led.rx := s.blv.led.rx + k }

/-- R256: a refused allocation is counted, but not during a rebuild. -/
def State.countNoCell (s : State) (rx : Bool) : State :=
  if s.blv.rebuilding then s else if rx then s.bump BLV_NOCELL_RX else s.bump BLV_NOCELL_TX

/-- R255: `k` cells that were RX return, in transit until the walk ends; what they owe is posted then. -/
def State.returnRx (s : State) (k : Nat) (c : Option Compl) : State :=
  { s with
    blv.led.rx := s.blv.led.rx - k
    blv.returns := s.blv.returns ++ [⟨k, c, false⟩] }

/-- R254, R255: cells of a frame return from QUEUED or RETAINED. -/
def State.returnTx (s : State) (retained : Bool) (k : Nat) (c : Option Compl) (flush : Bool) : State :=
  let s1 := if retained then { s with blv.led.retained := s.blv.led.retained - k }
    else { s with blv.led.queued := s.blv.led.queued - k }
  { s1 with blv.returns := s1.blv.returns ++ [⟨k, c, flush⟩] }

/-- A free cell index for HEAD or TAIL (log entry 1). -/
def State.refreshEnds (s : State) (q : Nat) (head tail : Bool) : State :=
  let (h, s1) := s.takeFree (2 ^ 24)
  let (t, s2) := s1.takeFree (2 ^ 24)
  let v := s2.queue q
  let v1 := if head then withSub v qHEAD h else v
  s2.setQueue q (if tail then withSub v1 qTAIL t else v1)

/-- R243, R254: a frame whose cells are RX is linked onto a queue. -/
def State.linkFrame (s : State) (q : Nat) (f : TxFrame) : State :=
  let k := f.cells
  let s1 := { s with
    blv.led.rx := s.blv.led.rx - k
    blv.led.queued := s.blv.led.queued + k
    blv.nextId := s.blv.nextId + 1 }
  let l := s1.framesOf q
  let s2 := s1.setFrames q (l ++ [{ f with
    id := s.blv.nextId
    enq := s.tick
    expire := s.tick + s.get MAC_SLEEPY_HOLD * tS }])
  if q < 2 ^ 20 then
    let v := s2.queue q
    let v1 := withSub (withSub v qCELLS (sub v qCELLS + k)) qFRAMES (sub v qFRAMES + 1)
    (s2.setQueue q v1).refreshEnds q l.isEmpty true
  else s2

/-- The queue's counts after a frame has left it: CELLS counts the QUEUED ones (R257). -/
def State.unlinkCounts (s : State) (q : Nat) (f : TxFrame) : State :=
  if q < 2 ^ 20 then
    let v := s.queue q
    let v1 := withSub v qFRAMES (sub v qFRAMES - 1)
    let v2 := if f.retained then v1 else withSub v1 qCELLS (sub v1 qCELLS - f.cells)
    (s.setQueue q v2).refreshEnds q true (s.framesOf q).isEmpty
  else s

/-- A port's transmitter record. -/
def State.txPort (s : State) (n : Nat) : TxPort := look {} s.tx n
def State.setTxPort (s : State) (n : Nat) (p : TxPort) : State := { s with tx := store {} n p s.tx }

/-- A frame leaves every list of its port. -/
def State.forget (s : State) (q id : Nat) : State :=
  forN 16 (fun n t =>
    let p := t.txPort n
    t.setTxPort n { p with
      ready := p.ready.filter (fun x => x != (q, id)), again := p.again.filter (fun x => x != (q, id)),
      win := (match p.win with
        | some w => if w.queue == q && w.id == id then none else some w
        | none => none) }) s

/-- The completion a frame owes (Table 13-6), where the host submitted it. -/
def TxFrame.complOf (f : TxFrame) (q status : Nat) : Option Compl :=
  f.compl.map (fun c =>
    { ring := c.1, token := c.2.1, src := c.2.2, status := status, kind := 0, sec := f.lfc.sec, ct := f.cut, cls := f.cls,
      tsv := decide (0 < f.attempts) && f.ts != 0, len := f.body.length, queue := q, port := f.port,
      attempts := f.attempts, outcome := f.outcome, ts := f.ts })

/-- R20: a frame completes: it leaves its queue, its cells return, and the completion follows them. -/
def State.completeTx (s : State) (q : Nat) (f : TxFrame) (status : Nat) (flush : Bool := false) : State :=
  let s1 := s.setFrames q ((s.framesOf q).filter (fun g => g.id != f.id))
  let s2 := (s1.unlinkCounts q f).forget q f.id
  s2.returnTx f.retained f.cells (f.complOf q status) flush

/-- Completes every frame of a list. -/
def State.completeAll (s : State) (q : Nat) (l : List TxFrame) (status : Nat) : State :=
  forEach l (fun f t => t.completeTx q f status true) s

/-! ## Shaping (R247) -/

/-- R247: the units of 256 ticks of the bucket clock. -/
def State.bucketNow (s : State) : Nat := s.tick / 256 % 2 ^ 32

/-- R247: a bucket after its refill. -/
def State.refillTokens (s : State) (p tokens last : Nat) : Nat :=
  min (256 * s.get (BLV_SHAPE1_BURST (p - 1)))
    (tokens + s.get (BLV_SHAPE0_RATE (p - 1)) * ((s.bucketNow + 2 ^ 32 - last) % 2 ^ 32))

/-- R247: refills the bucket of a queue. -/
def State.refillQueue (s : State) (q : Nat) : State :=
  let v := s.queue q
  if sub v qSHAPE = 0 then s
  else s.setQueue q (withSub (withSub v qTOKENS (s.refillTokens (sub v qSHAPE) (sub v qTOKENS)
    (sub v qLAST))) qLAST s.bucketNow)

/-- R247: refills the bucket of a session. -/
def State.refillSes (s : State) (k : Nat) : State :=
  let v := s.ses k
  if sub v sSHAPE = 0 then s
  else s.setSes k (withSub (withSub v sTOKENS (s.refillTokens (sub v sSHAPE) (sub v sTOKENS)
    (sub v sLAST))) sLAST s.bucketNow)

/-- R247: a new binding or a session write fills the bucket. -/
def State.newTokens (s : State) (p : Nat) : Nat :=
  if p = 0 then 0 else 256 * s.get (BLV_SHAPE1_BURST (p - 1))

/-- R247: whether a bucket holds 256 * LEN after refill. -/
def State.bucketOk (s : State) (p tokens last len : Nat) : Bool :=
  p == 0 || decide (256 * len ≤ s.refillTokens p tokens last)

/-! ## Eligibility and choice (R244, R245) -/

/-- The port a queue sends on: PORT of a broadcast queue, else that of its session. -/
def State.queuePort (s : State) (q : Nat) : Nat :=
  if 2 ^ 20 ≤ q then q - 2 ^ 20
  else
    let v := s.queue q
    if sub v qBCAST = 1 then sub v qPORT else sub (s.ses (sub v qSESSION)) sPORT

/-- The session of a queue, 0 for a broadcast or control queue. -/
def State.queueSes (s : State) (q : Nat) : Nat :=
  if 2 ^ 20 ≤ q ∨ sub (s.queue q) qBCAST = 1 then 0 else sub (s.queue q) qSESSION

/-- The bytes that a frame adds to its body on the line: frame check, tag, and the extension of a
narrowband DATA frame (R221, R222). -/
def State.lineLen (s : State) (n : Nat) (f : TxFrame) : Nat :=
  f.body.length + 4 + 16 * b2n f.lfc.sec
    + (if f.lfc.ftype = 0 ∧ f.phy = 0 ∧ (s.profile n = pfHV ∨ s.profile n = pfCen) then 12 else 0)

/-- R237: a service period of the neighbour is open. -/
def State.serviceOpen (s : State) (addr : Nat) : Bool :=
  let p := look (0, 0) s.mac.service addr
  decide (p.1 ≤ s.tick) && decide (s.tick < p.2)

/-- R244, conditions 1 to 4 and 6, of queue `q` for port `n`. -/
def State.eligible (s : State) (q n : Nat) : Bool :=
  match s.framesOf q with
  | [] => false
  | f :: _ =>
    !f.awaiting && !f.ready && decide (f.notBefore ≤ s.tick) && s.queuePort q == n &&
    (if 2 ^ 20 ≤ q then true
     else
      let v := s.queue q
      let k := sub v qSESSION
      let len := s.lineLen n f
      sub v qBOUND == 1 && !s.qQuar q && sub v qHOLD == 0 &&
      (f.attempts != 0 || f.retained || s.bucketOk (sub v qSHAPE) (sub v qTOKENS) (sub v qLAST) len) &&
      (if sub v qBCAST = 1 then true
       else
        let e := s.ses k
        sub e sVALID == 1 && !s.sQuar k && sub e sEXH == 0 && sub e sNABSENT == 0 &&
        (sub e sNSLEEPY == 0 || s.serviceOpen (sub e sNEIGH)) &&
        (f.attempts != 0 || f.retained || s.bucketOk (sub e sSHAPE) (sub e sTOKENS) (sub e sLAST) len)))

/-- The queues with frames, in rising order, that are eligible for port `n` in class `c`. -/
def State.eligibleOf (s : State) (n c : Nat) (permits : TxFrame → Bool) : List Nat :=
  (s.blv.frames.filter (fun e => decide (e.1 < 2 ^ 20) && sub (s.queue e.1) qCLASS == c && s.eligible e.1 n
    && (match e.2 with
      | f :: _ => permits f
      | [] => false))).map (fun e => e.1)

/-- R245: the smallest queue above `last`, wrapping to the smallest. -/
def nextAfter (l : List Nat) (last : Nat) : Option Nat :=
  match l.find? (fun q => decide (last < q)) with
  | some q => some q
  | none => l.head?

/-- The Boulevard's record of a port. -/
def State.blvPort (s : State) (n : Nat) : BlvPort := look {} s.blv.ports n
def State.setBlvPort (s : State) (n : Nat) (p : BlvPort) : State :=
  { s with blv.ports := store {} n p s.blv.ports }

/-- R245: quantum[c] in units of 64 B. -/
def State.quantum (s : State) (c : Nat) : Nat :=
  if c = 3 then s.get BLV_DRR0_QUANTUM3 else if c = 4 then s.get BLV_DRR0_QUANTUM4
  else if c = 5 then s.get BLV_DRR0_QUANTUM5 else if c = 6 then s.get BLV_DRR0_QUANTUM6
  else s.get BLV_DRR1_QUANTUM7

/-- R245: next(c). -/
def nextClass (c : Nat) : Nat := if c = 7 then 3 else c + 1

/-- R245: the deficit round robin over `steps` steps; `lists c` are the eligible queues of class `c`, `len q`
the LEN of a queue's head, `quantum c` the bytes of a visit. -/
def drr (lists : Nat → List Nat) (len quantum : Nat → Nat) (steps : Nat) (p : BlvPort) :
    Option Nat × BlvPort :=
  match steps with
  | 0 => (none, p)
  | k + 1 =>
    let c := p.cptr
    match nextAfter (lists c) (look 0 p.last c) with
    | none =>
      drr lists len quantum k { p with
        deficit := store 0 c 0 p.deficit, cptr := nextClass c, fresh := true }
    | some q =>
      let d := look 0 p.deficit c + (if p.fresh then quantum c else 0)
      if len q ≤ d then
        (some q, { p with
          deficit := store 0 c (d - len q) p.deficit, fresh := false, last := store 0 c q p.last })
      else
        drr lists len quantum k { p with
          deficit := store 0 c d p.deficit, cptr := nextClass c, fresh := true }

/-- R245: strict priority of classes 0 to 2. -/
def strict (lists : Nat → List Nat) (p : BlvPort) (c fuel : Nat) : Option (Nat × BlvPort) :=
  match fuel with
  | 0 => none
  | k + 1 =>
    match nextAfter (lists c) (look 0 p.last c) with
    | some q => some (q, { p with last := store 0 c q p.last })
    | none => strict lists p (c + 1) k

/-- R245: the choice of a queue for port `n`: none where no queue is eligible. -/
def State.choose (s : State) (n : Nat) (permits : TxFrame → Bool) : Option Nat × BlvPort :=
  let p := s.blvPort n
  let lists := fun c => s.eligibleOf n c permits
  let len := fun q => (match s.framesOf q with
    | f :: _ => s.lineLen n f
    | [] => 0)
  let ctrlOk := (match s.framesOf (ctrlQueue n) with
    | f :: _ => s.eligible (ctrlQueue n) n && permits f
    | [] => false)
  if ctrlOk then (some (ctrlQueue n), p)
  else match strict lists p 0 3 with
    | some (q, p1) => (some q, p1)
    | none => drr lists len (fun c => 64 * s.quantum c) 10 p

/-! ## Quarantine (R262) -/

/-- Withdraws a queue as candidate of every port. -/
def State.withdraw (s : State) (q : Nat) : State :=
  forN 16 (fun n t =>
    let p := t.blvPort n
    if p.cand = some q then t.setBlvPort n { p with cand := none } else t) s

/-- Table 11-9: the queue is quarantined: not scheduled, its RETAINED head completes QUARANTINED, and a
sweep begins over its QUEUED frames, which are lost without completion (R261). -/
def State.quarantineQueue (s : State) (q : Nat) : State :=
  if s.qQuar q then s
  else
    let s1 := ({ s with blv.quarQ := store false q true s.blv.quarQ }.bump BLV_QUARCNT_QUEUES).withdraw q
    let l := s1.framesOf q
    let s2 := forEach (l.filter (fun f => f.retained)) (fun f t => t.completeTx q f 7) s1
    let lost := l.filter (fun f => !f.retained)
    let cells := sumBy (fun f => f.cells) lost
    let s3 := s2.setFrames q []
    { s3 with blv.sweeps := s3.blv.sweeps ++ [⟨q, cells, lost.length⟩] }

/-- R316: the cached key of a session is invalidated. -/
def State.uncache (s : State) (k : Nat) : State :=
  let c := s.cph.cache.filter (fun e => e.1 != k)
  { s with cph.cache := c }.set KEY_KCCNT_VALID c.length

/-- Table 11-9: the session is quarantined. -/
def State.quarantineSes (s : State) (k : Nat) : State :=
  if s.sQuar k then s
  else ({ s with blv.quarS := store false k true s.blv.quarS }.bump BLV_QUARCNT_SESSIONS).uncache k

/-- Table 11-9: the directory page is quarantined. -/
def State.quarantinePage (s : State) (p : Nat) : State :=
  if look false s.blv.quarP p then s
  else { s with blv.quarP := store false p true s.blv.quarP }.bump BLV_QUARCNT_PAGES

/-! ## Rebuild (R264) -/

/-- Table 11-2: ACT: the pool holds CELLS cells. -/
def State.showAct (s : State) : State :=
  s.set BLV_POOLCFG_ACT (b2n (!s.blv.rebuilding && s.blv.led.configured == s.get BLV_POOLCFG_CELLS))

/-- R264: a rebuild starts: no state holds a cell until it completes. -/
def State.startRebuild (s : State) : State :=
  { s with
    blv.rebuilding := true
    blv.returns := []
    blv.quarCells := []
    blv.sweeps := []
    blv.led := { configured := if s.isT then 8192 else s.get BLV_POOLCFG_CELLS } }.showAct

/-- R264: the rebuild completes: every configured cell is FREE. -/
def State.endRebuild (s : State) : State :=
  if s.blv.rebuilding then
    let s1 := { s with
      blv.rebuilding := false
      blv.led := { configured := s.blv.led.configured, free := s.blv.led.configured } }
    (if s.isT then s1.set BLV_POOLCFG_CELLS 8192 else s1).showAct
  else s

end Sys2Proof.Machine
end

