-- ==== Sys2Proof/Machine/MemOps.lean ====
section
/-! DEFINITION. Chapter 15: the chip-failure code, reads and writes of DRAM lines with their counts and reports,
the SRAM code, and the buckets (R335 to R345, R349). -/

namespace Sys2Proof.Machine

/-! ## GF(2^16) (R336) -/

/-- Multiplication by alpha. -/
def gfA (x : Nat) : Nat := if x < 2 ^ 15 then 2 * x else Nat.xor (2 * x) 0x1100B

/-- Multiplication by alpha^j. -/
def gfPow (x j : Nat) : Nat :=
  match j with
  | 0 => x
  | k + 1 => gfA (gfPow x k)

/-- Multiplication, by the low `n` bits of `b`. -/
def gfMul (a b n : Nat) : Nat :=
  match n with
  | 0 => 0
  | k + 1 => Nat.xor (if bitN b k then gfPow a k else 0) (gfMul a b k)

/-- 1 / (alpha^8 + alpha^9). -/
def gfInv89 : Nat := 0x75D3

/-! ## Lines (R336) -/

/-- A stored byte of DRAM: zero where nothing is listed (R343). -/
def State.dramByte (s : State) (k : Nat) : Byte := look 0 s.mem.dram k

/-- Stores a byte of DRAM. -/
def State.setDramByte (s : State) (k : Nat) (b : Byte) : State :=
  { s with mem.dram := store 0 k b s.mem.dram }

/-- Symbol `j` of codeword `w` of line `l`: data for `j < 8`, check symbols 8 and 9. -/
def State.symbol (s : State) (l w j : Nat) : Nat :=
  let k := if j < 8 then 80 * l + 16 * w + 2 * j else 80 * l + 64 + 4 * w + 2 * (j - 8)
  (s.dramByte k).toNat + 256 * (s.dramByte (k + 1)).toNat

/-- Stores symbol `j` of codeword `w` of line `l`. -/
def State.setSymbol (s : State) (l w j v : Nat) : State :=
  let k := if j < 8 then 80 * l + 16 * w + 2 * j else 80 * l + 64 + 4 * w + 2 * (j - 8)
  (s.setDramByte k (BitVec.ofNat 8 v)).setDramByte (k + 1) (BitVec.ofNat 8 (v / 256))

/-- S0 over the first `n` symbols. -/
def State.syn0 (s : State) (l w n : Nat) : Nat :=
  match n with
  | 0 => 0
  | j + 1 => Nat.xor (s.symbol l w j) (s.syn0 l w j)

/-- S1 over the first `n` symbols. -/
def State.syn1 (s : State) (l w n : Nat) : Nat :=
  match n with
  | 0 => 0
  | j + 1 => Nat.xor (gfPow (s.symbol l w j) j) (s.syn1 l w j)

/-- R336: writes the check symbols of codeword `w` from its data symbols. -/
def State.encodeWord (s : State) (l w : Nat) : State :=
  let a := s.syn0 l w 8
  let b := s.syn1 l w 8
  let c9 := gfMul gfInv89 (Nat.xor b (gfPow a 8)) 16
  (s.setSymbol l w 8 (Nat.xor a c9)).setSymbol l w 9 c9

/-- The 64 data bytes of a line as stored. -/
def State.lineBytes (s : State) (l : Nat) : List Byte := (List.range 64).map (fun j => s.dramByte (80 * l + j))

/-- Stores bytes one after another. -/
def State.storeBytes (s : State) (k : Nat) (b : List Byte) : State :=
  match b with
  | [] => s
  | x :: r => (s.setDramByte k x).storeBytes (k + 1) r

/-- R340: a full-line write: encoded without reading, always succeeds, heals. -/
def State.writeLine (s : State) (l : Nat) (b : List Byte) : State :=
  forN 4 (fun w t => t.encodeWord l w) (s.storeBytes (80 * l) ((b ++ List.replicate 64 0).take 64))

/-- What a decode finds (R337, R338). -/
inductive Decoded where
  | clean
  | corrected (dev : Nat)
  | bad
  deriving DecidableEq, Repr

/-- R337: the device a codeword's syndromes locate: `none` where both are zero, 10 where uncorrectable. -/
def locate (s0 s1 : Nat) : Option Nat :=
  if s0 = 0 ∧ s1 = 0 then none
  else if s0 = 0 ∨ s1 = 0 then some 10
  else some (((List.range 10).find? (fun j => gfPow s0 j == s1)).getD 10)

/-- R337: what the codewords agree on. -/
def joinLoc (a : Decoded) (l : Option Nat) : Decoded :=
  match l with
  | none => a
  | some j =>
    if 9 < j then .bad
    else match a with
      | .clean => .corrected j
      | .corrected k => if j = k then a else .bad
      | .bad => .bad

/-- R338: what a codeword shows under a mark on device `m`. -/
def joinMark (m : Nat) (a : Decoded) (s0 s1 : Nat) : Decoded :=
  if s0 = 0 ∧ s1 = 0 then a
  else if s1 = gfPow s0 m then (match a with
    | .bad => .bad
    | _ => .corrected m)
  else .bad

/-- R335: rank and line index in the rank of a line address. -/
def State.rankOf (s : State) (l : Nat) : Nat × Nat :=
  let two := s.get MEM_CFG_CH == 3
  let ch := if two then l % 2 else if s.get MEM_CFG_CH = 2 then 1 else 0
  let m := if two then l / 2 else l
  (2 * ch + m / 2 ^ 27, m % 2 ^ 27)

/-- R335: the lines fitted. -/
def State.lines (s : State) : Nat := s.get MEM_CFG_CAP * 2 ^ 24

/-- R338: the mark of a rank's subchannel. -/
def State.markOf (s : State) (r sub : Nat) : Option Nat :=
  if sub = 0 then (if s.flag (MEM_MARK_MV0 r) then some (s.get (MEM_MARK_CHIP0 r)) else none)
  else if s.flag (MEM_MARK_MV1 r) then some (s.get (MEM_MARK_CHIP1 r)) else none

/-- R337, R338: decodes the stored bits of a line. -/
def State.decodeLine (s : State) (l : Nat) : Decoded :=
  let (r, i) := s.rankOf l
  match s.markOf r (i % 2) with
  | none => [0, 1, 2, 3].foldl (fun a w => joinLoc a (locate (s.syn0 l w 10) (s.syn1 l w 10))) .clean
  | some m => [0, 1, 2, 3].foldl (fun a w => joinMark m a (s.syn0 l w 10) (s.syn1 l w 10)) .clean

/-- R337: symbol `j` of each codeword takes its correction. -/
def State.fixLine (s : State) (l j : Nat) : State :=
  forN 4 (fun w t => t.setSymbol l w j (Nat.xor (s.symbol l w j) (s.syn0 l w 10))) s

/-- R344: adds a correction to a bucket; at the threshold its overflow event fires and it empties. -/
def State.bucketAdd (s : State) (cnt tot : Field) (th src data : Nat) : State :=
  let c := s.get cnt + 1
  let s1 := s.bump tot
  if th ≤ c then (s1.set cnt 0).fire src data else s1.set cnt c

/-- R349: enters a repair candidate in the first free entry of MEM_REPLOG, unless the row is there already. -/
def State.repairCandidate (s : State) (r i dev : Nat) : State :=
  let bg := i / 2 ^ 8 % 8
  let bank := i / 2 ^ 11 % 4
  let row := i / 2 ^ 13 % 2 ^ 14
  let same := fun k => s.flag (MEM_REPLOG1_VALID k) && s.get (MEM_REPLOG0_RANK k) == r
    && s.get (MEM_REPLOG0_SUBCH k) == i % 2 && s.get (MEM_REPLOG0_BG k) == bg
    && s.get (MEM_REPLOG0_BANK k) == bank && s.get (MEM_REPLOG0_ROW k) == row
    && (s.get (MEM_REPLOG0_DEV k) == dev)
  if (List.range 8).any same then s
  else match (List.range 8).find? (fun k => !s.flag (MEM_REPLOG1_VALID k)) with
    | none => s
    | some k =>
      (s.setReg (a_MEM_REPLOG0 k) (BitVec.ofNat 32
        (r + 4 * (i % 2) + 8 * dev + 128 * bg + 1024 * bank + 4096 * row))).setReg (a_MEM_REPLOG1 k) 1

/-- R338: sets a mark. -/
def State.setMark (s : State) (r sub dev : Nat) : State :=
  if sub = 0 then (s.set (MEM_MARK_CHIP0 r) dev).set (MEM_MARK_MV0 r) 1
  else (s.set (MEM_MARK_CHIP1 r) dev).set (MEM_MARK_MV1 r) 1

/-- R337, R338, R344, R349: counts one correction on a device: on a marked device in MARKHITS alone; else in
the bucket, towards the automatic mark, and towards the row's repair. -/
def State.countCorrection (s : State) (l dev : Nat) : State :=
  let (r, i) := s.rankOf l
  match s.markOf r (i % 2) with
  | some _ => s.bump (MEM_MARK_MARKHITS r)
  | none =>
    let s1 := s.bucketAdd (MEM_DBKT_COUNT r) (MEM_DBKT_TOTAL r) (s.get MEM_BKTCFG_TH) (458 + r) 0
    let kd := 20 * r + 10 * (i % 2) + dev
    let nd := look 0 s1.mem.byDev kd + 1
    let kr := (i / 2 ^ 8 * 2 + i % 2) * 64 + 10 * r + dev
    let nr := look 0 s1.mem.byRow kr + 1
    let s2 := { s1 with
      mem.byDev := store 0 kd nd s1.mem.byDev
      mem.byRow := store 0 kr nr s1.mem.byRow }
    let s3 := if nr = 16 then s2.repairCandidate r i dev else s2
    let th := s.get MEM_MARKCFG_MARK_TH
    if th ≠ 0 ∧ nd = th then s3.setMark r (i % 2) dev else s3

/-- R342: MEM_UELOG records an uncorrectable line or word; not where it equals the most recent entry. -/
def State.logUe (s : State) (whr req kind : Nat) : State :=
  let n := s.get MEM_UESTAT_NEXT
  let p := (n + 15) % 16
  if s.flag (MEM_UELOG1_VALID p) && s.get (MEM_UELOG0_WHERE p) == whr
      && ((s.get (MEM_UELOG1_KIND p) == 2) == (kind == 2)) then s
  else
    (((((s.set (MEM_UELOG0_WHERE n) whr).set (MEM_UELOG1_REQ n) req).set (MEM_UELOG1_KIND n) kind).set
      (MEM_UELOG1_VALID n) 1).set MEM_UESTAT_NEXT (n + 1)).bump MEM_UESTAT_COUNT

/-- R342, R349: an uncorrectable line is reported: ES096 + r, MEM_UELOG, and its row for repair. -/
def State.reportUe (s : State) (l req kind : Nat) : State :=
  let (r, i) := s.rankOf l
  ((s.fire (96 + r) (i + req * 2 ^ 28)).logUe l req kind).repairCandidate r i 15

/-- R342: a read of a line: its data, corrected and written back, or none where it is uncorrectable. A
correction on a marked device alone is not written back. -/
def State.readLine (s : State) (l req : Nat) : Option (List Byte) × State :=
  match s.decodeLine l with
  | .clean => (some (s.lineBytes l), s)
  | .corrected j =>
    let f := s.fixLine l j
    let (r, i) := s.rankOf l
    if (s.markOf r (i % 2)).isSome then (some (f.lineBytes l), s.countCorrection l j)
    else (some (f.lineBytes l), f.countCorrection l j)
  | .bad => (none, s.reportUe l req 0)

/-- R341: a narrow write of bytes inside a line: whether it was carried out. -/
def State.narrowWrite (s : State) (l off : Nat) (b : List Byte) (req : Nat) : Bool × State :=
  match s.decodeLine l with
  | .bad => (false, ((s.reportUe l req 1).fire 101 req))
  | d =>
    let s1 := match d with
      | .corrected j => (s.fixLine l j).countCorrection l j
      | _ => s
    let old := s1.lineBytes l
    (true, s1.writeLine l (old.take off ++ b ++ old.drop (off + b.length)))

/-- Reads `n` whole lines from line `l`: their bytes, none where one is uncorrectable. -/
def State.readLines (s : State) (l n req : Nat) : Option (List Byte) × State :=
  match n with
  | 0 => (some [], s)
  | k + 1 =>
    let (a, s1) := s.readLine l req
    let (b, s2) := s1.readLines (l + 1) k req
    (match a, b with
     | some x, some y => (some (x ++ y), s2)
     | _, _ => (none, s2))

/-- Writes whole lines from line `l` (R340). -/
def State.writeLines (s : State) (l n : Nat) (b : List Byte) : State :=
  match n with
  | 0 => s
  | k + 1 => (s.writeLine l (b.take 64)).writeLines (l + 1) k (b.drop 64)

/-! ## SRAM (R339) -/

/-- Table 15-2: the words of a macro group. -/
def groupWords (g : Nat) : Nat :=
  let kib := if g = 0 then 32 else if g = 1 then 128 else if g ≤ 58 then 256 else if g ≤ 76 then 256
    else if g = 77 then 512 else if g ≤ 81 then 256 else if g = 82 then 64 else if g = 83 then 32
    else if g ≤ 91 then 448 else 0
  kib * 128

/-- Table 15-2: the domain of a macro group. -/
def groupDomain (g : Nat) : Nat :=
  if g = 0 then dAon else if g = 1 then dProt else if g ≤ 25 then 9 else if g ≤ 33 then dMac
  else if g ≤ 77 then dFab else if g ≤ 79 then dHif else if g ≤ 81 then dDec else if g = 82 then dCph
  else if g = 83 then dMemc else 12 + (g - 84)

/-- The 72 stored bits of a word: 64 of data, 8 of check. -/
def State.sramWord (s : State) (g w : Nat) : BitVec 72 := look 0 s.mem.sram (2 ^ 20 * g + w)
def State.setSramWord (s : State) (g w : Nat) (v : BitVec 72) : State :=
  { s with mem.sram := store 0 (2 ^ 20 * g + w) v s.mem.sram }

/-- The check bits of a data word; those of zero are zero (R343). -/
def sramCheck (d : Nat) : Nat := Nat.xor (Config.secded d % 256) (Config.secded 0 % 256)

/-- R339: a word with a single bit flipped that is a codeword, where there is one. -/
def sramFlip (v : Nat) (n : Nat) : Option Nat :=
  match n with
  | 0 => none
  | k + 1 =>
    let x := Nat.xor v (2 ^ k)
    if sramCheck (x % 2 ^ 64) = x / 2 ^ 64 then some x else sramFlip v k

/-- R339: decodes a stored word: itself, its correction, or none. -/
def sramDecode (v : BitVec 72) : Option Nat :=
  if sramCheck (v.toNat % 2 ^ 64) = v.toNat / 2 ^ 64 then some v.toNat else sramFlip v.toNat 72

/-- R339, R344: one correction in a macro group. -/
def State.countSram (s : State) (g : Nat) : State :=
  s.bucketAdd (MEM_SBKT_COUNT g) (MEM_SBKT_TOTAL g) (s.get MEM_BKTCFG2_TH) 462 g

/-- R343: DRAM is filled with zero; the sweep restarts at line 0 (R347). -/
def State.fillDram (s : State) : State :=
  { s with
    mem.dram := []
    mem.line := 0
    mem.lineStart := s.tick
    mem.byRow := []
    mem.filled := s.tick }

end Sys2Proof.Machine
end

