-- ==== Sys2Proof/Machine/TimeOps.lean ====
section
/-! DEFINITION. Chapter 16: the time bases, timestamps, and corrections that other chapters use. -/

namespace Sys2Proof.Machine

/-- 2^48: the held resolution of a base is 2^-48 ns (R356). -/
def q48 : Nat := 2 ^ 48

/-- Base `b` (0 TB0, 1 TB1). -/
def State.tb (s : State) (b : Nat) : TbSt := if b = 0 then s.time.tb0 else s.time.tb1

/-- Replaces base `b`; PEND and SLEWING show the outstanding correction (Table 16-7). -/
def State.setTb (s : State) (b : Nat) (t : TbSt) : State :=
  let s1 := if b = 0 then { s with time.tb0 := t } else { s with time.tb1 := t }
  (s1.setI (TIM_TBPEND_PEND b) (t.pend / 2 ^ 44)).set (TIM_TBSTAT_SLEWING b) (b2n (t.pend != 0))

/-- VALID and HOLD of a base. -/
def State.tbValid (s : State) (b : Nat) : Bool := s.flag (TIM_TBSTAT_VALID b)
def State.tbHold (s : State) (b : Nat) : Bool := s.flag (TIM_TBSTAT_HOLD b)

/-- R356: 8 ns * (1 + FREQ) in 2^-48 ns. -/
def State.tbRate (s : State) (b : Nat) : Int := 2 ^ 51 + 512 * s.getI (TIM_TBFREQ_FREQ b)

/-- R356: SLEWMAX * 8 ns in 2^-48 ns. -/
def State.slewStep (s : State) : Nat := 2 ^ 51 * s.get TIM_CFG_SLEWMAX / 1000000

/-- R356: the slew of `n` ticks. -/
def State.slewOf (s : State) (n : Nat) (pend : Int) : Int :=
  clampI (-(n * s.slewStep : Nat)) (n * s.slewStep : Nat) pend

/-- R356: base `b` after `n` ticks. -/
def State.advanceTb (s : State) (b n : Nat) : State :=
  if s.tbValid b then
    let t := s.tb b
    let w := s.slewOf n t.pend
    s.setTb b { t with val := ((t.val : Int) + n * s.tbRate b + w).toNat, pend := t.pend - w }
  else s

/-- R363: PTOFS after `n` ticks: it falls by the slew of TB1. -/
def State.advancePt (s : State) (n : Nat) : State :=
  if s.tbValid 1 then
    let p := s.time.ptofs - s.slewOf n s.time.tb1.pend
    { s with time.ptofs := p }.setI TIM_PTOFS_PTOFS (p / 2 ^ 44)
  else s

/-- The base of a two-bit selector (TSB, LTB, PPSCFG.BASE): 1 TB1, 2 TB0; none for TB2. -/
def selBase (sel : Nat) : Option Nat := if sel = 1 then some 1 else if sel = 2 then some 0 else none

/-- R354, R356: the value of a selected base at the start of the present tick, in 2^-48 ns. -/
def State.baseVal (s : State) (sel : Nat) : Nat :=
  match selBase sel with
  | none => 8 * s.tick * q48
  | some b => (s.tb b).val

/-- A selected base is valid; TB2 always is. -/
def State.baseOk (s : State) (sel : Nat) : Bool :=
  match selBase sel with
  | none => true
  | some b => s.tbValid b

/-- Table 16-2: the 128-bit timestamp of a value in 2^-48 ns of a selected base. -/
def State.stamp (s : State) (sel : Nat) (v : Nat) : Nat :=
  let ns := v / q48
  let (hold, epoch) := match selBase sel with
    | none => (0, 0)
    | some b => (s.get (TIM_TBSTAT_HOLD b), s.get (TIM_TBSTAT_EPOCH b))
  v / 2 ^ 32 % 2 ^ 16 + sel * 2 ^ 16 + hold * 2 ^ 18 + epoch * 2 ^ 19
    + ns % 1000000000 * 2 ^ 32 + ns / 1000000000 % 2 ^ 64 * 2 ^ 64

/-- R359: the timestamp of an instant `ns` nanoseconds after the start of the present tick; zero while the
base is invalid (R357). -/
def State.stampNow (s : State) (sel ns : Nat) : Nat :=
  if s.baseOk sel then s.stamp sel (s.baseVal sel + ns * q48) else 0

/-- R355: the value in 2^-48 ns that a timestamp stands for. -/
def stampVal (t : Nat) : Nat :=
  ((t / 2 ^ 64) * 1000000000 + t / 2 ^ 32 % 2 ^ 32) * q48 + t % 2 ^ 16 * 2 ^ 32

/-- R359: the ticks from now until base `b` reaches a value, negative when it has passed it. -/
def State.ticksTo (s : State) (b : Nat) (target : Nat) : Int :=
  let t := s.tb b
  let d : Int := (target : Int) - t.val
  let r := s.tbRate b
  if d ≤ 0 then d / r
  else
    let w : Int := if 0 ≤ t.pend then s.slewStep else -(s.slewStep : Int)
    let m := (d + (r + w) - 1) / (r + w)
    if m * (s.slewStep : Int) ≤ |t.pend| then m else max 1 ((d - t.pend + r - 1) / r)

/-- R359: the tick in which a selected base reaches a value. -/
def State.tickOf (s : State) (sel : Nat) (target : Nat) : Nat :=
  match selBase sel with
  | none => ceilDiv target (8 * q48)
  | some b => ((s.tick : Int) + s.ticksTo b target).toNat

/-- R157, R359: T_req of a launch time (nanoseconds, its seconds known by their low 32 bits): the first tick
whose start lies at or after L - 12 ns; none while the base is invalid. -/
def State.launchTick (s : State) (sel sec ns : Nat) : Option Nat :=
  if s.baseOk sel then
    let now := s.baseVal sel / q48 / 1000000000
    let low : Nat := (sec + 2 ^ 32 - now % 2 ^ 32) % 2 ^ 32
    let full : Int := Int.ofNat now + (if low < 2 ^ 31 then (Int.ofNat low) else Int.ofNat low - 2 ^ 32)
    let l := full.toNat * 1000000000 + ns
    some (s.tickOf sel ((l - 12) * q48))
  else none

/-- ES188 with JUMPCNT (R358). -/
def State.jump (s : State) (b data : Nat) : State := (s.fire 188 data).bump (TIM_TBSTAT_JUMPCNT b)

/-- R358: whether a correction is too large. -/
def State.isJump (s : State) (theta : Int) : Bool :=
  decide ((s.get TIM_CFG_JUMP_TH * 1000 * q48 : Nat) < |theta|)

/-- R358: a base that is invalid starts at the source's value. -/
def State.startTb (s : State) (b v : Nat) : State :=
  (s.setTb b { val := v, pend := 0, acc := s.tick }).set (TIM_TBSTAT_VALID b) 1

/-- R358: a correction of a base by `theta` (2^-48 ns); the source's value serves an invalid base. -/
def State.correct (s : State) (b : Nat) (theta : Int) (source : Nat) : Bool × State :=
  if s.tbValid b then
    if s.isJump theta then (false, s.jump b (if theta < 0 then 1 else 0))
    else (true, s.setTb b { s.tb b with pend := theta, acc := s.tick })
  else (true, s.startTb b source)

/-- R356: FREQ is held to +-200 ppm. -/
def clampFreq (f : Int) : Int := clampI (-879609302) 879609302 f

/-- R366, R360: a base enters or leaves holdover; ES189 carries the base (0 TB0, 1 TB1 in Table 16-7's
numbering). -/
def State.setHold (s : State) (b : Nat) (h : Bool) : State :=
  if s.tbHold b = h then s
  else (s.set (TIM_TBSTAT_HOLD b) (b2n h)).fire 189 (b2n h + 2 * b)

/-- R370: SYNC_OUT rises for 64 ns, and ES191 fires, when TIM_SYNCCFG.SRC selects the cause. -/
def State.syncOut (s : State) (src : Nat) : State :=
  if s.get TIM_SYNCCFG_SRC = src ∧ s.domOn dFab then { s with time.syncFall := s.tick + 8 }.fire 191 else s

/-! ## TB3 (R367) -/

/-- The nominal period in 2^-16 tick (R199). -/
def State.nominal (s : State) : Nat :=
  if s.flag TIM_MSCTL_NOM then 2083333 * 65536 else 2500000 * 65536

/-- R197: p_hat: the mean period of the last eight valid cycles of REF, else the nominal period. -/
def State.pHat (s : State) : Nat :=
  let l := (s.ms (s.get TIM_MSCTL_REF)).periods
  if l.isEmpty ∨ !bitN (s.get TIM_MSCTL_EN) (s.get TIM_MSCTL_REF) then s.nominal
  else l.sum / l.length

/-- R367: PHASE at the present tick. -/
def State.phase (s : State) : Nat :=
  match s.time.cycStart with
  | none => 0
  | some _ =>
    let e := s.time.cycEnd / 65536
    let d := s.time.phTick
    if e ≤ d then s.time.phBase
    else min (2 ^ 32 - 1) (s.time.phBase + (s.tick - d) * (2 ^ 32 - s.time.phBase) / (e - d))

/-- R367: a valid positive crossing of REF at time `at_` (2^-16 tick) moves the end of TB3's cycle when it is
decided in the first half of the cycle, and re-anchors PHASE; the first crossing of all starts TB3. -/
def State.tb3Crossing (s : State) (at_ : Nat) (ok : Bool) : State :=
  let p := s.pHat
  match s.time.cycStart with
  | none =>
    { s with
      time.cycStart := some at_
      time.cycEnd := at_ + p
      time.phTick := s.tick
      time.phBase := 0 }
  | some c =>
    if ok && decide (c ≤ s.tick * 65536) && decide (s.tick * 65536 < c + p / 2) then
      let d := clampI (-(p / 16 : Nat)) (p / 16 : Nat) ((at_ : Int) - c)
      let ph := s.phase
      let s1 := { s with
        time.cycEnd := ((c : Int) + p + d).toNat
        time.phTick := s.tick
        time.phBase := ph
        time.cycHit := true
        time.extrap := 0 }
      if s.flag TIM_TB3STAT_HOLD then (s1.set TIM_TB3STAT_HOLD 0).fire 189 (2 * 3) else s1
    else s

/-- R197, R199: a positive crossing of REF is decided: the superframe procedure will use it, and a valid one
clears FLY. -/
def State.sfCrossing (s : State) (at_ : Nat) (ok : Bool) : State :=
  let s1 := { s with mac.cross := s.mac.cross ++ [(s.tick, at_, ok)] }
  if ok then s1.set MAC_SFSTAT_FLY 0 else s1

/-- The cycle count as its registers show it. -/
def State.showCyc (s : State) : State :=
  ((s.set (TIM_TB3CYC_CYC 0) (s.time.cyc % 2 ^ 32)).set (TIM_TB3CYC_CYC 1) (s.time.cyc / 2 ^ 32 % 2 ^ 32)).set
    TIM_TB3STAT_VALID 1

end Sys2Proof.Machine
end

