-- ==== Sys2Proof/Machine/FrameOps.lean ====
section
/-! DEFINITION. What a frame is on a port: its link frame control (Table 10-1), the slots of the superframe
(R198), the masked set (R152), its transmit record (R119, R123) and where it may be placed (R207 to R209). -/

namespace Sys2Proof.Machine

/-! ## Link frame control (Table 10-1) -/

/-- The 176 bits of link frame control. -/
def Lfc.bits (f : Lfc) : Nat :=
  f.ftype % 8 + 2 ^ 3 * b2n f.ackreq + 2 ^ 4 * b2n f.sec + 2 ^ 5 * b2n f.more + 2 ^ 6 * b2n f.relay
    + 2 ^ 7 * b2n f.dup + 2 ^ 8 * (f.tclass % 8) + 2 ^ 11 * (f.src % 2 ^ 25) + 2 ^ 36 * (f.dst % 2 ^ 25)
    + 2 ^ 61 * (f.seq % 2 ^ 16) + 2 ^ 80 * (f.fcnt % 2 ^ 32) + 2 ^ 112 * (f.esrc % 2 ^ 25)
    + 2 ^ 137 * (f.edst % 2 ^ 25) + 2 ^ 162 * (f.hopleft % 16)

/-- Link frame control from its bits; a frame without RELAY has its hop's addresses as its ends'. -/
def Lfc.ofBits (v : Nat) : Lfc :=
  let g := fun lo w => v / 2 ^ lo % 2 ^ w
  let relay := bitN v 6
  { ftype := g 0 3, ackreq := bitN v 3, sec := bitN v 4, more := bitN v 5, relay := relay, dup := bitN v 7,
    tclass := g 8 3, src := g 11 25, dst := g 36 25, seq := g 61 16, fcnt := g 80 32,
    esrc := if relay then g 112 25 else g 11 25, edst := if relay then g 137 25 else g 36 25,
    hopleft := g 162 4 }

/-- R319: the additional data: the 22 B of link frame control with MORE taken as zero. -/
def Lfc.aad (f : Lfc) : List Byte := leBytes 22 ({ f with more := false }).bits

/-- R319: the nonce. -/
def Lfc.nonce (f : Lfc) : List Byte := leBytes 4 f.fcnt ++ leBytes 4 (f.src % 2 ^ 25) ++ leBytes 4 (f.dst % 2 ^ 25)

/-! ## Slots of the superframe (R197, R198) -/

/-- The start of slot `m` counted from the start `a` of the present superframe, for a period `p` in 2^-16
tick: slot `m mod 6` of the `m / 6`-th superframe after it. -/
def slotStart (a p m : Nat) : Nat := a + (m / 6 * p + m % 6 * p / 6) / 65536

/-- The slot, counted from the start of the present superframe, that holds a tick at or after that start. -/
def slotIndex (a p t : Nat) : Nat :=
  if p = 0 ∨ t ≤ a then 0
  else
    let m := ((t - a) * 65536 * 6 + 6 * 65536 - 1) / p
    if slotStart a p m ≤ t then m else m - 1

/-- The start of the present superframe and its period, while one is kept. -/
def State.frameGrid (s : State) : Option (Nat × Nat) :=
  s.mac.start.map (fun a => (a, s.mac.pHat))

/-- The slot that holds tick `t`, with its first tick and the tick after it, by the device's own superframe;
slot 0 without bounds while no superframe is kept. -/
def State.slotAt (s : State) (t : Nat) : Nat × Nat × Nat :=
  match s.frameGrid with
  | none => (0, 0, 0)
  | some (a, p) =>
    let m := slotIndex a p t
    (m % 6, slotStart a p m, slotStart a p (m + 1))

/-! ## Masks (R104, R152) -/

/-- R152: carrier `m` is masked by an enabled entry of port `n`. -/
def State.maskedOne (s : State) (n m : Nat) : Bool :=
  (List.range 32).any (fun k => s.flag (PRT_MASK_EN n k) && decide (s.get (PRT_MASK_LO n k) ≤ m)
    && decide (m ≤ s.get (PRT_MASK_HI n k)))

/-- R135, R151: the ports of a frame: those of the group, or the one. -/
def framePorts (n : Nat) (grouped : Bool) : List Nat :=
  if grouped then [n / 4 * 4, n / 4 * 4 + 1, n / 4 * 4 + 2, n / 4 * 4 + 3] else [n]

/-- R152: the masked set of a frame. -/
def State.masked (s : State) (n : Nat) (grouped : Bool) (m : Nat) : Bool :=
  (framePorts n grouped).any (fun p => s.maskedOne p m)

/-- The unmasked usable carriers of a frame (profile carrier indices). -/
def State.openCarriers (s : State) (n : Nat) (grouped : Bool) : List Nat :=
  let prof := s.profile n
  (List.range (carrierCount prof)).filter (fun i => !s.masked n grouped (firstCarrier prof + i))

/-! ## Link areas and records (R123, R124, R144) -/

/-- R124: a session's link has areas in the stores. -/
def State.hasArea (s : State) (k : Nat) : Bool :=
  let v := s.ses k
  k != 0 && (if sub v sGROUPED = 1 then decide (sub v sLINK < s.get MAC_TMSCFG_GLINKS)
    else if s.isT then decide (sub v sLINK < 4) else decide (sub v sLINK < s.get MAC_TMSCFG_LINKS))

/-- A size rounded up to a multiple of 64 KiB. -/
def round64k (x : Nat) : Nat := ceilDiv x 65536 * 65536

/-- R123: the DRAM address of record `x` of a link. -/
def State.recAddr (s : State) (grouped : Bool) (link x : Nat) : Nat :=
  let base := s.get MAC_TMSBASE_BASE * 65536
  if grouped then base + round64k (18432 * s.get MAC_TMSCFG_LINKS) + 294912 * link + 16384 * x
  else base + 18432 * link + 1024 * x

/-- R144: the DRAM address of the SNR block of a link, slot and stream. -/
def State.snrAddr (s : State) (grouped : Bool) (link slot stream : Nat) : Nat :=
  let base := s.get MAC_SNRBASE_BASE * 65536
  if grouped then base + round64k (12288 * s.get MAC_TMSCFG_LINKS) + 49152 * link + 8192 * slot + 2048 * stream
  else base + 12288 * link + 2048 * slot

/-- The record `x` of a session's link: its bytes, empty where the link has no area or a line cannot be read
(Table 15-5). -/
def State.readRec (s : State) (k x : Nat) : List Byte × State :=
  if s.hasArea k then
    let v := s.ses k
    let g := sub v sGROUPED == 1
    let (b, s1) := s.readLines (s.recAddr g (sub v sLINK) x / 64) (if g then 256 else 16) 6
    (b.getD [], s1)
  else ([], s)

/-- Writes the record `x` of a session's link, in whole lines. -/
def State.writeRec (s : State) (k x : Nat) (b : List Byte) : State :=
  if s.hasArea k then
    let v := s.ses k
    let g := sub v sGROUPED == 1
    s.writeLines (s.recAddr g (sub v sLINK) x / 64) (if g then 256 else 16) b
  else s

/-- R153: a record in force for a frame of port `n`: VALID, well formed, and loading no masked carrier; the matrices of a
grouped one are of the group's granularity (Table 05-7). -/
def State.recOk (s : State) (n : Nat) (grouped : Bool) (r : List Byte) : Bool :=
  !r.isEmpty && recValid r &&
    recUsable (s.profile n) (fun i => s.masked n grouped (firstCarrier (s.profile n) + i)) r &&
    (!grouped || recSwk r != 0 || recByte r 2 / 4 % 4 == s.get (GRP_CFG_PRECG (n / 4)))

/-- Table 06-2: the DELAY of a link: that of its transmit record of the present slot, or LAMBDA of a frame of mode SW`swk`
(0: OFDM). -/
def State.delayOf (s : State) (n k : Nat) (t : Nat) (swk : Nat) : Nat × State :=
  let (r, s1) := s.readRec k (s.slotAt t).1
  if r.isEmpty || !recValid r then (lambdaTicks (s.profile n) swk, s1) else (recDelay r, s1)

/-! ## The map of a frame (R118, R119, R153) -/

/-- R118: the default map of port `n`. -/
def State.defMap (s : State) (n : Nat) : PhyMap :=
  defaultMap (s.get (PRT_WAVE_DEFMODE n)) (s.get (PRT_WAVE_DEFSW n))

/-- R119: the map that a frame of session `k` (0: none) takes when it launches on port `n` in tick `tl`, and
whether a stored record was rejected against the mask (R153). -/
def State.chooseMap (s : State) (n k tl : Nat) (grouped : Bool) : PhyMap × Bool × State :=
  if k = 0 ∨ !s.hasArea k then (s.defMap n, false, s)
  else
    let (d, s1) := s.delayOf n k tl 0
    let td := tl + tPre (s.profile n) + d
    let (slot, a, b) := s.slotAt td
    let g := s.get (PRT_WAVE_GUARD n) * tUs
    if a + g ≤ td ∧ td + g ≤ b then
      let (r, s2) := s1.readRec k slot
      if r.isEmpty || !recValid r then (s.defMap n, false, s2)
      else if s.recOk n grouped r then
        let m := recMap r (s.get (GRP_CFG_NSS_MAX (n / 4)) + 1)
        (if m.mode = 0 ∧ m.bps = 0 then (s.defMap n, false, s2) else ({ m with tmap := slot }, false, s2))
      else (s.defMap n, true, s2)
    else (s.defMap n, false, s1)

/-- R119, R428: the map a frame of `len` bytes is sent on: a sweep form that would be too long is replaced by
OR8, and a map that cannot be built by the default one; none where that cannot be built either. -/
def State.fitMap (s : State) (n : Nat) (grouped : Bool) (len : Nat) (m : PhyMap) : Option PhyMap :=
  let c := (s.openCarriers n grouped).length
  let prof := s.profile n
  let long := fun (x : PhyMap) => if x.swk ≠ 0 ∧ 9216 < len + 22 then longSweepFallback else x
  let m1 := long m
  if m1.swk ≠ 0 ∨ buildable prof c m1 then some m1
  else
    let d := long (s.defMap n)
    if d.swk ≠ 0 ∨ buildable prof c d then some d else none

/-- R156: the on-time of a frame of `len` bytes on a map, and its length on the line. -/
def State.durOf (s : State) (n : Nat) (grouped : Bool) (len : Nat) (m : PhyMap) : Nat :=
  let prof := s.profile n
  if prof = pfG3 then Config.g9903Dur len
  else if m.swk ≠ 0 then sweepDur prof m.swk (len + 22)
  else ofdmDur prof (s.openCarriers n grouped).length len m

/-- R224: the duration of the ACK a frame asks for: a short frame on the default map, or a sweep frame of the
same mode with LEN 26. -/
def State.ackDur (s : State) (n swk : Nat) : Nat :=
  let prof := s.profile n
  if swk ≠ 0 then sweepDur prof swk 26
  else
    let d := s.defMap n
    if d.swk ≠ 0 then sweepDur prof d.swk 26 else ofdmDur prof (s.openCarriers n false).length 0 d

/-- Table 10-3. -/
def rifs (prof : Nat) : Nat := if prof = pfBB then 640 else 10240
def ackDl (prof : Nat) : Nat := if prof = pfBB then 5120 else 81920

/-- R224: the length of the acknowledgement window. T_pre is that of the ACK. -/
def State.ackWindow (s : State) (n swk delay : Nat) : Nat :=
  let prof := s.profile n
  let k := if swk ≠ 0 then swk else (s.defMap n).swk
  let tp := if k ≠ 0 then 10 * sweepSymbol prof k else tPre prof
  ackDl prof + tp + 2 * delay + s.get MAC_ACKCFG_ACK_SLACK * tUs

/-! ## Where a frame may be placed (R202, R207 to R209) -/

/-- Slot unit `u` of a slot `[a, b)`. -/
def slotUnit (a b u : Nat) : Nat := a + u * (b - a) / 512

/-- R216: in orphan scan. -/
def State.orphan (s : State) : Bool := s.get MAC_SFSTAT_STATE == 4

/-- R208: whether an allocation entry is one this device may use on port `n` for class `c`. -/
def State.ownsAlloc (s : State) (n c : Nat) (e : Alloc) : Bool :=
  e.owner == s.ownAddr && bitN e.classes c &&
    (if s.mode = mCoordinator ∨ s.mode = mIsland then bitN e.ports n else n == s.get MAC_SFSTAT_PPORT)

/-- The part of entry `e` inside slot `slot` = `[a, b)`, beside the beacon region (R208). -/
def State.allocSpan (s : State) (slot a b : Nat) (e : Alloc) : Option (Nat × Nat) :=
  if bitN e.slots slot then
    let lo := if slot = 0 then max e.start (s.get MAC_BCNCFG2_BREG) else e.start
    if lo < e.stop then some (slotUnit a b lo, slotUnit a b e.stop) else none
  else none

/-- R208: `[tl, te)` lies inside an allocation the device may use. -/
def State.inAlloc (s : State) (n c tl te : Nat) : Bool :=
  let (slot, a, b) := s.slotAt tl
  s.mac.holdsTable && s.mac.inForce.any (fun e => s.ownsAlloc n c e &&
    (match s.allocSpan slot a b e with
     | some (x, y) => decide (x ≤ tl) && decide (te ≤ y)
     | none => false))

/-- R209: `[tl, te)` meets neither the beacon region nor an allocation of slot `slot` = `[a, b)`. -/
def State.clearIn (s : State) (n slot a b tl te : Nat) : Bool :=
  let meets := fun (x y : Nat) => decide (tl < y) && decide (x < te)
  !(slot == 0 && meets a (slotUnit a b (s.get MAC_BCNCFG2_BREG))) &&
    s.mac.inForce.all (fun e =>
      !(bitN e.slots slot && bitN e.ports n && meets (slotUnit a b e.start) (slotUnit a b e.stop)))

/-- R209 over the slots from index `m` on. -/
def State.clearFrom (s : State) (n a p m tl te fuel : Nat) : Bool :=
  match fuel with
  | 0 => true
  | k + 1 =>
    s.clearIn n (m % 6) (slotStart a p m) (slotStart a p (m + 1)) tl te &&
      (decide (te ≤ slotStart a p (m + 1)) || s.clearFrom n a p (m + 1) tl te k)

/-- R209: `[tl, te)` lies in one contention stretch of port `n`. In TERMINAL the whole superframe is
contention. -/
def State.inContention (s : State) (n tl te : Nat) : Bool :=
  if s.mode = mTerminal then true
  else match s.frameGrid with
    | none => false
    | some (a, p) => s.clearFrom n a p (slotIndex a p tl) tl te ((te - tl) * 65536 * 6 / (p + 1) + 3)

/-- The contention record of port `n`. -/
def State.csmaOf (s : State) (n : Nat) : Csma := look {} s.mac.csma n
def State.setCsma (s : State) (n : Nat) (c : Csma) : State :=
  { s with mac.csma := store {} n c s.mac.csma }

/-- R156, R208 to R210, R216: the MAC's rules place `[tl, te)` of a class-`c` frame of port `n`: inside an
allocation, or in contention in the tick in which a launch was granted. G9903 ports keep no superframe. -/
def State.placed (s : State) (n c tl te : Nat) : Bool :=
  if s.profile n = pfG3 then true
  else if s.orphan then false
  else s.inAlloc n c tl te || (s.inContention n tl te && (s.csmaOf n).grant == some s.tick)

/-- R156, R209: an opportunity of port `n` that permits a frame: its class has an allocation now, or the port
is in contention. -/
def State.permits (s : State) (n : Nat) (f : TxFrame) : Bool :=
  s.profile n == pfG3 || (!s.orphan &&
    (s.inAlloc n f.cls s.tick (s.tick + 1) || s.inContention n s.tick (s.tick + 1)))

/-- R210: the level of a class. -/
def csmaLevel (c : Nat) : Nat := if c ≤ 2 then 3 else if c = 3 then 2 else if c ≤ 5 then 1 else 0

def cwMin (l : Nat) : Field :=
  if l = 0 then MAC_CSMA_CWMIN0 else if l = 1 then MAC_CSMA_CWMIN1 else if l = 2 then MAC_CSMA_CWMIN2
  else MAC_CSMA_CWMIN3
def cwMax (l : Nat) : Field :=
  if l = 0 then MAC_CSMA_CWMAX0 else if l = 1 then MAC_CSMA_CWMAX1 else if l = 2 then MAC_CSMA_CWMAX2
  else MAC_CSMA_CWMAX3

/-- R210: the largest window of a level. -/
def State.cwTop (s : State) (l : Nat) : Nat := max (s.get (cwMax l)) (s.get (cwMin l))

end Sys2Proof.Machine
end

