-- ==== Sys2Proof/Machine/Arcade.lean ====
section
/-! DEFINITION. Chapter 12: the operations of one Arcade instance (R267 to R278). A packet is written at its
commit; what a discard means to the traffic (R279) is in the files of that traffic. -/

namespace Sys2Proof.Machine

/-- Arcade instance `i`. -/
def State.arcOf (s : State) (i : Nat) : ArcSt := look {} s.arc i

/-- Replaces Arcade instance `i`. -/
def State.setArc (s : State) (i : Nat) (a : ArcSt) : State := { s with arc := store {} i a s.arc }

/-- The words of a bank (R267). -/
def bankWords : Nat := 512

/-- The words of committed packets in the filling bank. -/
def ArcSt.used (a : ArcSt) : Nat := sumBy (fun p => p.words) a.filling

/-- The words of a packet of `len` bytes with its leading word (R268). -/
def packetWords (len : Nat) : Nat := 1 + ceilDiv len 32

/-- Table 00-2: instance `i` is present: instances of absent ports are not. -/
def State.arcPresent (s : State) (i : Nat) : Bool := decide (32 ≤ i) || decide (i / 2 < s.ports)

/-- R275: fires ES336 + i; in one tick the source fires once with each of the DATA bits that apply. -/
def State.arcFire (s : State) (i : Nat) (bit : Nat) : State :=
  match find s.sq.staged (336 + i) with
  | some r =>
    if r.tick = s.tick ∧ s.sourceOn (336 + i) then
      { s with sq.staged := put (336 + i) { r with data := Nat.lor r.data bit } s.sq.staged }
    else s.fire (336 + i) bit
  | none => s.fire (336 + i) bit

/-- R272: the handover condition: no packet is open, the filling bank holds a committed packet, and the
other bank is released. -/
def ArcSt.mayHandOver (a : ArcSt) : Bool :=
  a.opened.isNone && !a.filling.isEmpty && !a.isHanded

/-- R272, R275: the writer hands its filling bank over; FILL rises, and a rise through LEVEL fires. -/
def State.arcHandOver (s : State) (i : Nat) : State :=
  let a := s.arcOf i
  if a.mayHandOver then
    let fill := a.used
    let s1 := s.setArc i { a with
      wbank := !a.wbank, filling := [], isHanded := true, handed := a.filling, unread := fill }
    let level := s.get (ARC_CFG_LEVEL i)
    if level ≠ 0 ∧ level ≤ fill then s1.arcFire i 1 else s1
  else s

/-- R270: whether a packet may open in the filling bank as it stands. -/
def State.arcRoom (s : State) (i : Nat) : Bool :=
  let a := s.arcOf i
  decide (s.get (ARC_CFG_MAXPKT i) ≤ bankWords - a.used) && decide (a.filling.length < 512)

/-- R269, R270, R273: opens a packet, handing the bank over first when it has no room; the writer holds when
the other bank is not released, or while a flush is in progress (R277). -/
def State.arcOpen (s : State) (i : Nat) : State :=
  if s.flag (ARC_CFG_FLUSH i) then s.setArc i { s.arcOf i with holding := true }
  else
    let s1 := if s.arcRoom i then s else s.arcHandOver i
    let a := s1.arcOf i
    if s1.arcRoom i && a.opened.isNone then
      s1.setArc i { a with opened := some 0, holding := false, skipping := false }
    else if a.opened.isSome then s1
    else s1.setArc i { a with holding := true }

/-- The instance has an open packet. -/
def State.arcIsOpen (s : State) (i : Nat) : Bool := (s.arcOf i).opened.isSome

/-- R269: a rewind request: the open packet leaves no trace. -/
def State.arcRewind (s : State) (i : Nat) : State :=
  let a := s.arcOf i
  if a.opened.isSome then (s.setArc i { a with opened := none }).bump (ARC_CNT_REWIND i)
  else s.setArc i { a with skipping := false }

/-- R271: whether the open packet of `words` words fits the filling bank. -/
def State.arcFits (s : State) (i words : Nat) : Bool := decide ((s.arcOf i).used + words ≤ bankWords)

/-- R269, R271: the last word is written with the commit request: the packet of `words` words is committed,
or, where the bank has no word left for it, rewound as oversize. Nothing is committed while words are being
discarded, or without an open packet. -/
def State.arcCommit (s : State) (i words : Nat) (l : Load) : State :=
  let a := s.arcOf i
  if a.opened.isNone then s.setArc i { a with skipping := false }
  else if s.arcFits i words then
    (s.setArc i { a with opened := none, filling := a.filling ++ [⟨words, l⟩] }).bump (ARC_CNT_COMMIT i)
  else
    (((s.setArc i { a with opened := none }).bump (ARC_CNT_REWIND i)).bump (ARC_ERR_OVERSIZE i)).arcFire i 2

/-- The next packet the reader may read: only packets of handed banks (R274). -/
def State.arcFront (s : State) (i : Nat) : Option Packet := (s.arcOf i).handed.head?

/-- The reader reads the next packet. -/
def State.arcRead (s : State) (i : Nat) : State :=
  let a := s.arcOf i
  match a.handed with
  | [] => s
  | p :: r => s.setArc i { a with handed := r, unread := a.unread - p.words }

/-- R272: the reader releases a bank it has drained. -/
def State.arcReleaseBank (s : State) (i : Nat) : State :=
  let a := s.arcOf i
  if a.isHanded && a.handed.isEmpty then s.setArc i { a with isHanded := false, unread := 0 } else s

/-- The packets in handed and filling banks (R280). -/
def ArcSt.packets (a : ArcSt) : List Packet := a.handed ++ a.filling

/-- R276: the instance empties: every committed packet and the open one are discarded and counted in LOST;
the rest of an open packet will be discarded up to its commit request. -/
def State.arcEmpty (s : State) (i : Nat) : State :=
  let a := s.arcOf i
  let lost := a.packets.length + b2n a.opened.isSome
  (s.setArc i { wbank := a.wbank, skipping := a.opened.isSome || a.skipping }).bump (ARC_ERR_LOST i) lost

/-- A whole packet of the instances 32 to 39 passes: it is committed and read (its data are the fabric's or
the host's before the next command). -/
def State.arcPass (s : State) (i : Nat) : State := s.bump (ARC_CNT_COMMIT i)

/-- Table 12-5: ARC_STAT of an instance, composed of its state. -/
def State.arcStat (s : State) (i : Nat) : Word :=
  let a := s.arcOf i
  BitVec.ofNat 32 (a.unread % 2048 + 2 ^ 11 * b2n a.holding + 2 ^ 12 * b2n a.opened.isSome
    + 2 ^ 13 * b2n a.wbank + 2 ^ 16 * (a.used % 512))

end Sys2Proof.Machine
end

