-- ==== Sys2Proof/Machine/CphOps.lean ====
section
/-! DEFINITION. Chapter 14: the vault, session keys, frame counters and cipher requests that the traffic uses
(R311 to R322, R327). -/

namespace Sys2Proof.Machine

/-- Slot states (R311). -/
def kEMPTY : Nat := 0
def kOTP : Nat := 1
def kPROV : Nat := 2
def kEPH : Nat := 3

/-- The length in bits of a SIZE code (Table 14-10). -/
def sizeBits (c : Nat) : Nat := if c = 0 then 128 else if c = 1 then 256 else 512

/-- R311: usage bits. -/
def uKEK : Nat := 0
def uLINK : Nat := 1
def uXTS : Nat := 2
def uTAG : Nat := 3

/-- The key of a slot. -/
def State.keyOf (s : State) (k : Nat) : Nat := look 0 s.cph.keys k

/-- R314: a count of slots in a state. -/
def vcnt (st : Nat) : Field :=
  if st = kEMPTY then KEY_VCNT0_EMPTY else if st = kOTP then KEY_VCNT0_OTP
  else if st = kPROV then KEY_VCNT1_PROV else KEY_VCNT1_EPH

/-- R311, R314: a slot takes a state, USAGE, SIZE and key; the counts follow. -/
def State.setSlot (s : State) (k st usage size key : Nat) : State :=
  let old := s.get (KEY_SLOT_STATE k)
  let s1 := s.set (vcnt old) (s.get (vcnt old) - 1)
  let s2 := s1.set (vcnt st) (s1.get (vcnt st) + 1)
  let s3 := ((s2.set (KEY_SLOT_STATE k) st).set (KEY_SLOT_USAGE k) usage).set (KEY_SLOT_SIZE k) size
  { s3 with cph.keys := store 0 k key s3.cph.keys }

/-- R311, R316: a slot may serve as KEK: not 2 or 3, not EMPTY, USAGE KEK. -/
def State.isKek (s : State) (k : Nat) : Bool :=
  k != 2 && k != 3 && s.get (KEY_SLOT_STATE k) != kEMPTY && bitN (s.get (KEY_SLOT_USAGE k)) uKEK

/-- Table 14-3. -/
structure KeyInfo where
  k256 : Bool
  vault : Bool
  slot : Nat
  rsvdOk : Bool
  deriving DecidableEq, Repr

def keyInfo (v : BitVec 2048) : KeyInfo :=
  let x := sub v sKEYINFO
  { k256 := bitN x 0, vault := bitN x 1, slot := x / 2 ^ 8 % 2 ^ 8,
    rsvdOk := x / 4 % 64 == 0 && x / 2 ^ 16 == 0 }

/-- R315: the wrapped key of a session, and whether the rest of KEYBLOB is zero. -/
def keyBlob (v : BitVec 2048) : List Byte × Bool :=
  let n := if (keyInfo v).k256 then 40 else 24
  let x := sub v sKEYBLOB
  (leBytes n x, x / 2 ^ (8 * n) == 0)

/-- R316: how a key is obtained: the key, or the path that failed (1 vault, 0 blob). -/
inductive KeyResult where
  | key (k : Nat)
  | fail (path : Nat)
  deriving DecidableEq, Repr

/-- R316: places a key in the cache, evicting the least recently used entry. -/
def State.cacheKey (s : State) (ses key kek : Nat) : State :=
  let c := s.cph.cache.filter (fun e => e.1 != ses)
  let c1 := if c.length < 256 then c else c.tail
  let c2 := c1 ++ [(ses, key, kek)]
  { s with cph.cache := c2 }.set KEY_KCCNT_VALID c2.length

/-- R316: obtains the key of a session. -/
def State.obtainKey (s : State) (ses : Nat) : KeyResult × State :=
  let v := s.ses ses
  let i := keyInfo v
  if i.vault then
    if i.slot = 2 ∨ i.slot = 3 ∨ s.get (KEY_SLOT_STATE i.slot) = kEMPTY
        ∨ !bitN (s.get (KEY_SLOT_USAGE i.slot)) uLINK
        ∨ sizeBits (s.get (KEY_SLOT_SIZE i.slot)) ≠ (if i.k256 then 256 else 128) then (.fail 1, s)
    else (.key (s.keyOf i.slot), s)
  else if !s.isKek i.slot || !i.rsvdOk || !(keyBlob v).2 then (.fail 0, s)
  else match s.cph.cache.find? (fun e => e.1 == ses) with
    | some e => (.key e.2.1, s.cacheKey ses e.2.1 e.2.2)
    | none =>
      match Config.kwUnwrap (s.keyOf i.slot) (keyBlob v).1 with
      | some k => (.key k, s.cacheKey ses k i.slot)
      | none => (.fail 0, s)

/-- R317: the key of a session was not obtained. -/
def State.keyFail (s : State) (ses path : Nat) : State :=
  let s1 := (s.fire 146 (ses + path * 2 ^ 31)).bump CPH_CNT0_UNWRAP
  s1.setSes ses (withSub (s1.ses ses) sVALID 0)

/-- CPH_STAT shows the requests waiting, the engines busy and the records in the context store. -/
def State.showCph (s : State) : State :=
  ((s.set CPH_STAT_WAIT (min 64 s.cph.waiting.length)).set CPH_STAT_BUSY s.cph.engines.length).set CPH_STAT_CTX
    (s.cph.waiting.countP (fun r => r.saved))

/-- R314: the slot that a session's requests name. -/
def State.slotOf (s : State) (ses : Nat) : Nat := (keyInfo (s.ses ses)).slot

/-- R314: a request that names a slot comes or goes. -/
def State.refUp (s : State) (k : Nat) : State := s.set (KEY_SLOT_REFCNT k) (s.get (KEY_SLOT_REFCNT k) + 1)
def State.refDown (s : State) (k : Nat) : State := s.set (KEY_SLOT_REFCNT k) (s.get (KEY_SLOT_REFCNT k) - 1)

/-- R327: a requester presents a request. -/
def State.cphRequest (s : State) (use : CphUse) (ses prio bytes : Nat) : State :=
  let r : CphReq := { use := use, session := ses, prio := prio, arrival := s.tick, num := s.cph.nextNum,
                      bytes := bytes, slot := s.slotOf ses }
  let s1 := { s with
    cph.waiting := s.cph.waiting ++ [r]
    cph.nextNum := s.cph.nextNum + 1 }
  (s1.refUp r.slot).showCph

/-- A request ends wherever it is. -/
def State.cphEnd (s : State) (use : CphUse) : State :=
  let gone := s.cph.waiting.filter (fun r => r.use == use) ++
    (s.cph.engines.filter (fun e => e.2.use == use)).map (fun e => e.2)
  let s1 := { s with
    cph.waiting := s.cph.waiting.filter (fun r => r.use != use)
    cph.engines := s.cph.engines.filter (fun e => e.2.use != use) }
  (forEach gone (fun r t => t.refDown r.slot) s1).showCph

/-- R321: what taking a counter does: `none` where the session is exhausted already. -/
def State.takeCounter (s : State) (ses : Nat) : Option Nat × State :=
  let v := s.ses ses
  let exhaust := fun (t : State) (w : BitVec 2048) =>
    ({ t.setSes ses (withSub w sEXH 1) with blv.exh := put ses s.tick t.blv.exh }).fire 144 ses
  if sub v sTXFC = 0xFFFFFFFF then (none, exhaust s v)
  else
    let c := sub v sTXFC + 1
    let w := withSub v sTXFC c
    let warn := decide (0xFFFFFFFF - c ≤ 2 ^ s.get CPH_CFG_HEADROOM) && sub v sWARNED == 0
    let w1 := if warn then withSub w sWARNED 1 else w
    let s1 := if warn then (s.setSes ses w1).fire 145 ses else s.setSes ses w1
    (some c, if c = 0xFFFFFFFF then exhaust s1 w1 else s1)

/-- R325: every fill of the directory region draws a new directory key and clears the written-page map. -/
def State.redrawDirKey (s : State) : State :=
  let (k, s1) := s.takeFree (2 ^ 256)
  let s2 := s1.setSlot 2 kEPH (2 ^ uXTS) 1 k
  { s2 with cph.pages := [] }

end Sys2Proof.Machine
end

