-- ==== Sys2Proof/Machine/RxOps.lean ====
section
/-! DEFINITION. Chapter 06: the operations of a port's receiver: its state, the end of a frame, the LDPC pool,
SNR estimates and tone-map generation (R126, R134 to R147). -/

namespace Sys2Proof.Machine

/-- Table 06-1. -/
def rIDLE : Nat := 0
def rBLANKED : Nat := 1
def rSEARCH : Nat := 2
def rCHEST : Nat := 3
def rHEADER : Nat := 4
def rPAYLOAD : Nat := 5

/-- Table 06-7. -/
def fHEADER : Nat := 0
def fTMAP : Nat := 1
def fDECODE : Nat := 2
def fCHECK : Nat := 3
def fOVERSIZE : Nat := 4
def fCAPTURED : Nat := 5
def fRESET : Nat := 6
def fBURIN : Nat := 7
def fOVERRUN : Nat := 8
def fSYNC : Nat := 9
def fMAP : Nat := 10

/-- The receiver of port `n`. -/
def State.rxPort (s : State) (n : Nat) : RxPort := look {} s.rx.port n
def State.setRxPort (s : State) (n : Nat) (p : RxPort) : State := { s with rx.port := store {} n p s.rx.port }

/-- The receiver's state code. -/
def State.rxState (s : State) (n : Nat) : Nat := s.get (PRT_RXSTAT_STATE n)

/-- The receiver enters a state; a change of PRT_RXCFG applies from the next entry into SEARCH (Table 06-10). -/
def State.setRxState (s : State) (n v : Nat) : State :=
  let s1 := if v = rSEARCH ∧ s.rxState n ≠ rSEARCH then
    s.setRxPort n { s.rxPort n with cfg := s.reg (a_PRT_RXCFG n) } else s
  s1.set (PRT_RXSTAT_STATE n) v

/-- A field of PRT_RXCFG as it applies. -/
def State.rxCfg (s : State) (n : Nat) (f : Nat → Field) : Nat := bits (s.rxPort n).cfg (f n).lo (f n).w

/-- R126: the port takes part in reception. -/
def State.rxOn (s : State) (n : Nat) : Bool :=
  decide (n < s.ports) && s.domOn (dPair n) && operating s.mode && !dataless (s.profile n)

/-- R135: the port's receiver acts in its group. -/
def State.joint (s : State) (n : Nat) : Bool := s.flag (GRP_CFG_ACT (n / 4))

/-- R135: the port on which a frame of port `n` is reported. -/
def State.rxHome (s : State) (n : Nat) : Nat := if s.joint n then n / 4 * 4 else n

/-- R126, R134: the receiver returns to SEARCH (IDLE where the port takes no part). -/
def State.toSearch (s : State) (n : Nat) : State :=
  s.setRxState n (if s.rxOn n then (if s.rxState n = rBLANKED then rBLANKED else rSEARCH) else rIDLE)

/-- The waiting blocks as WAIT and PEAK show them (Table 06-5). -/
def State.showPool (s : State) : State :=
  let w := s.rx.waiting.length
  (s.set GRP_DECSTAT_WAIT w).set GRP_DECSTAT_PEAK (max w (s.get GRP_DECSTAT_PEAK))

/-- R138: the blocks of a frame, waiting or in a decoder, are discarded. -/
def State.dropBlocks (s : State) (n id : Nat) : State :=
  { s with
    rx.waiting := s.rx.waiting.filter (fun b => !(b.port == n && b.frame == id))
    rx.decoders := s.rx.decoders.filter (fun e => !(e.2.port == n && e.2.frame == id)) }.showPool

/-- R133, R134: the final offsets of a frame are latched. -/
def State.latchOffsets (s : State) (n : Nat) (a : Acq) : State :=
  (s.set (PRT_RXOFS_FOFS n) a.fofs.toNat).set (PRT_RXSOFS_SOFS n) a.sofs.toNat

/-- A frame of the port is no longer held by the receiver. -/
def State.dropAcq (s : State) (n id : Nat) : State :=
  let p := s.rxPort n
  let cur := (match p.cur with
    | some a => if a.id = id then none else some a
    | none => none)
  s.setRxPort n { p with cur := cur, tails := p.tails.filter (fun a => a.id != id) }

/-- The frames a receiver holds, oldest first. The oldest owns the instance's open packet (R269). -/
def RxPort.frames (p : RxPort) : List Acq := p.tails ++ (match p.cur with
  | some a => [a]
  | none => [])

/-- R269: the next frame's packet opens once the instance is free. -/
def State.rxOpenNext (s : State) (n : Nat) : State :=
  if (s.rxPort n).frames.isEmpty then s else s.arcOpen (2 * n)

/-- R235: the incoming frame of a cut-through relay fails: the outgoing frame will end with a complemented check. -/
def State.poisonRelay (s : State) (id : Nat) : State :=
  if s.blv.frames.any (fun e => e.2.any (fun f => f.relayOf == some id && !f.poison)) then
    let mark := fun (e : Nat × List TxFrame) =>
      (e.1, e.2.map (fun f => if f.relayOf = some id then { f with poison := true } else f))
    { s with blv.frames := s.blv.frames.map mark }.bump MAC_CTCNT_POISONED
  else s

/-- R210: the medium of port `n` was busy up to this tick. -/
def State.busyNow (s : State) (n : Nat) : State :=
  let c := s.csmaOf n
  s.setCsma n { c with busyUntil := max c.busyUntil s.tick }

/-- R21, R138, R141: a frame ends without success: its packet is rewound, its blocks are discarded and its
reason is counted. Its event is the caller's. -/
def State.rxEnd (s : State) (n : Nat) (a : Acq) (reason : Nat) : State :=
  let p := s.rxPort n
  let current := (match p.cur with
    | some c => c.id == a.id
    | none => false)
  let owner := p.frames.head?.map (fun c => c.id) == some a.id
  let s1 := ((if current then s.latchOffsets n a else s).dropBlocks n a.id).dropAcq n a.id
  let s2 := if owner then (s1.arcRewind (2 * n)).rxOpenNext n else s1
  let s3 := (s2.bump (PRT_RXFAIL_COUNT n reason)).poisonRelay a.id
  if current then (s3.toSearch n).busyNow n else s3

/-- R141: a frame fails: ES208 + 8n + 2 with its reason. -/
def State.rxFail (s : State) (n : Nat) (a : Acq) (reason : Nat) : State :=
  (s.rxEnd n a reason).fire (esPort n 2) reason

/-- Every frame of the port fails (a reset of its chain, a mode change). -/
def State.rxAbandon (s : State) (n reason : Nat) : State :=
  forEach (s.rxPort n).frames (fun a t => t.rxFail n a reason) s

/-- The frame whose samples are being taken fails. -/
def State.rxAbandonCur (s : State) (n reason : Nat) : State :=
  match (s.rxPort n).cur with
  | some a => s.rxFail n a reason
  | none => s

/-- R136: BLANK in ticks. -/
def State.blankTicks (s : State) (n : Nat) : Nat :=
  let b := s.rxCfg n PRT_RXCFG_BLANK * tUs
  if s.profile n = pfHV ∨ s.profile n = pfCen then 16 * b else b

/-- R136: the receiver enters BLANKED at a transmit or burst start; a frame in reception fails, on the port that
receives for its group (R135). -/
def State.rxBlank (s : State) (n reason : Nat) : State :=
  if s.rxOn n then (s.rxAbandonCur (s.rxHome n) reason).setRxState n rBLANKED else s

/-- R136: the transmission or burst ended now; BLANKED lasts BLANK longer. -/
def State.rxBlankUntil (s : State) (n : Nat) : State :=
  s.setRxPort n { s.rxPort n with blank := max (s.rxPort n).blank (s.tick + s.blankTicks n) }

/-- R81: the gain code, in AUTO, moves by so many steps of 0.5 dB within 0 to 96 (R80). -/
def State.stepGain (s : State) (n : Nat) (d : Int) : State :=
  s.set (PRT_AFE_ACT_GAIN n) (clampI 0 96 ((s.get (PRT_AFE_ACT_GAIN n) : Int) + d)).toNat

/-- A frame of the port by its number. -/
def State.acqOf (s : State) (n id : Nat) : Option Acq := (s.rxPort n).frames.find? (fun a => a.id == id)

/-- Replaces a frame of the port. -/
def State.setAcq (s : State) (n : Nat) (a : Acq) : State :=
  let p := s.rxPort n
  s.setRxPort n { p with
    cur := p.cur.map (fun c => if c.id = a.id then a else c)
    tails := p.tails.map (fun c => if c.id = a.id then a else c) }

/-! ## SNR estimates (R144, R145) -/

/-- The SNR block of a link, slot and stream: its 2 KiB; zero, as after a fill, where a line cannot be read
(Table 15-5). -/
def State.readSnr (s : State) (k slot stream : Nat) : List Byte × State :=
  let v := s.ses k
  let (b, s1) := s.readLines (s.snrAddr (sub v sGROUPED == 1) (sub v sLINK) slot stream / 64) 32 6
  (b.getD (List.replicate 2048 0), s1)

def State.writeSnr (s : State) (k slot stream : Nat) (b : List Byte) : State :=
  let v := s.ses k
  s.writeLines (s.snrAddr (sub v sGROUPED == 1) (sub v sLINK) slot stream / 64) 32 b

/-- R145: snr + (meas - snr) * 2^-AVG of each unmasked carrier. -/
def avgSnr (masked : Nat → Bool) (avg : Nat) (i : Nat) (old meas : List Byte) : List Byte :=
  match old, meas with
  | o :: os, m :: ms =>
    (if masked i then o
     else BitVec.ofInt 8 ((o.toNat : Int) + ((m.toNat : Int) - o.toNat) / 2 ^ avg)) ::
      avgSnr masked avg (i + 1) os ms
  | os, _ => os

/-- The frame count and last generation's superframe of an SNR block (R144). -/
def snrCount (b : List Byte) : Nat := leNat ((b.drop 2040).take 4)
def snrLast (b : List Byte) : Nat := leNat ((b.drop 2044).take 4)

/-- An SNR block with its counts replaced. -/
def snrWith (b : List Byte) (count last : Nat) : List Byte := b.take 2040 ++ leBytes 4 count ++ leBytes 4 last

/-! ## Tone-map generation (R146, R147) -/

/-- The estimates of a stream as R146 uses them: 0.25 dB, `none` where masked. -/
def State.estimates (s : State) (n : Nat) (grouped : Bool) (b : List Byte) : List (Option Int) :=
  let prof := s.profile n
  (List.range (carrierCount prof)).map (fun i =>
    if s.masked n grouped (firstCarrier prof + i) then none
    else some (((b.getD i 0).toNat : Int) - 40))

/-- R146: whether every one of the first `k` streams of a bit-loaded candidate loads a carrier. -/
def allLoad (c : Candidate) (per k : Nat) : Bool :=
  (List.range k).all (fun i => decide (0 < ((c.load.drop (i * per)).take per).sum))

/-- R146: the candidate over the largest stream count whose every stream loads a carrier, at most `k`. -/
def bestStreams (prof defmode : Nat) (grouped : Bool) (ests : List (List (Option Int))) (margin : Int) (spread k : Nat) :
    Nat × Candidate :=
  match k with
  | 0 => (1, candidate prof defmode grouped (ests.take 1).flatten margin spread)
  | j + 1 =>
    let c := candidate prof defmode grouped (ests.take (j + 1)).flatten margin spread
    if c.mode = 0 ∧ c.swk = 0 ∧ allLoad c (carrierCount prof) (j + 1) ∧ j + 1 ≤ ests.length then (j + 1, c)
    else bestStreams prof defmode grouped ests margin spread j

/-- Table 05-7: the bytes of a candidate's record, up to the end of its precoding. -/
def candRecord (prof : Nat) (c : Candidate) (streams slot gen precg : Nat) (precode : List Byte) : List Byte :=
  let per := carrierCount prof
  let table := fun i => (c.load.drop (i * per)).take per
  let pad := fun (l : List Byte) (n : Nat) => (l ++ List.replicate n 0).take n
  let bps := ((List.range streams).map (fun i => leBytes 4 (table i).sum)).flatten
  [BitVec.ofNat 8 (1 + 2 * slot + 16 * (gen % 16)), BitVec.ofNat 8 (c.mode + 4 * c.rate + 16 * b2n c.blk
    + 32 * c.gi), BitVec.ofNat 8 (streams - 1 + 4 * precg), BitVec.ofNat 8 c.swk] ++ leBytes 4 0
    ++ pad bps 16 ++ List.replicate 40 0
    ++ ((List.range streams).map (fun i => pad (nibbleBytes (table i)) 704)).flatten ++ precode

/-- R146: information bits per symbol of a stored record, times six. -/
def recInfo6 (r : List Byte) (open_ : Nat) : Nat :=
  let m := recMap r 4
  if m.swk ≠ 0 then 0
  else if m.mode = 0 then (if m.rate = 0 then 3 else if m.rate = 1 then 4 else 5) * m.bps
  else 6 * (open_ / 2 ^ m.mode)

/-- The receive record of a session's link and slot in force: the valid one of the two, the newer generation
of two valid ones. -/
def newerRec (a b : List Byte) : List Byte :=
  let va := !a.isEmpty && recValid a
  let vb := !b.isEmpty && recValid b
  if va && vb then (if recGen b = (recGen a + 1) % 16 then b else a)
  else if va then a else if vb then b else []

/-- R230: the payload of a TMFB. -/
def tmfbPayload (slot gen delay : Nat) (r : List Byte) : List Byte :=
  [2, BitVec.ofNat 8 (slot + 16 * (gen % 16))] ++ leBytes 4 delay ++ r

/-- R229: the next control sequence number towards a neighbour. -/
def State.nextCseq (s : State) (addr : Nat) : Nat × State :=
  let v := s.dirOf addr
  let q := sub v dCSEQTX
  (q, s.setDirOf addr (withSub v dCSEQTX (q + 1)))

/-- R254: a MAC control frame of class 0 takes its cells and is linked onto a port's internal control queue;
it is not made when it is not admitted. -/
def State.sendCtrl (s : State) (n dst : Nat) (ackreq : Bool) (body : List Byte) : State :=
  let k := cellsOf body.length
  if s.admitsCells 0 k then
    let (q, s1) := if ackreq then s.nextCseq dst else (0, s)
    (s1.takeCells k).linkFrame (ctrlQueue n)
      { id := 0, body := body,
        lfc := { ftype := 2, ackreq := ackreq, src := s.ownAddr, dst := dst, seq := q, esrc := s.ownAddr,
                 edst := dst } }
  else s.countNoCell false

/-- R146, R147: after an update, a new generation is built when one is due, written into the receive record of
the opposite parity, and fed back. -/
def State.generate (s : State) (n k slot : Nat) (m : RxMeas) : State :=
  let v := s.ses k
  let grouped := sub v sGROUPED == 1
  let prof := s.profile n
  let (b0, s1) := s.readSnr k slot 0
  let sfn := s.get MAC_SFN_SFN
  let (ra, s2) := s1.readRec k (6 + 2 * slot)
  let (rb, s3) := s2.readRec k (7 + 2 * slot)
  let cur := newerRec ra rb
  if !s.flag (PRT_TMGEN_EN n) || decide (snrCount b0 < s.get (PRT_TMGEN_MINFR n))
      || (!cur.isEmpty && snrLast b0 == sfn) then s3
  else
    let nss := if grouped then s.get (GRP_CFG_NSS_MAX (n / 4)) + 1 else 1
    let ests := (List.range nss).map (fun i => s3.estimates n grouped (s3.readSnr k slot i).1)
    let (st, c) := bestStreams prof (s.get (PRT_WAVE_DEFMODE n)) grouped ests (s.get (PRT_TMGEN_MARGIN n)) m.spread nss
    let oldInfo := recInfo6 cur (s.openCarriers n grouped).length
    let changed := decide (s.get (PRT_TMGEN_UPD n) * oldInfo ≤
      100 * (if c.info ≤ oldInfo then oldInfo - c.info else c.info - oldInfo)) && c.info != oldInfo
    let refresh := s.get (PRT_TMGEN_REFRESH n) != 0
      && decide (s.get (PRT_TMGEN_REFRESH n) ≤ (sfn + 2 ^ 32 - snrLast b0) % 2 ^ 32)
    if cur.isEmpty || refresh || changed then
      let gen := (recGen cur + 1) % 16
      let r := candRecord prof c st slot gen (if grouped then s.get (GRP_CFG_PRECG (n / 4)) else 0) (if grouped then m.precode else [])
      let s4 := s3.writeRec k (6 + 2 * slot + gen % 2) r
      let s5 := s4.writeSnr k slot 0 (snrWith (s4.readSnr k slot 0).1 (snrCount b0) sfn)
      let delay := look (lambdaTicks prof 0) s.mac.pendingDelay k
      s5.sendCtrl n (sub v sNEIGH) true (tmfbPayload slot gen delay r)
    else s3

/-- R145: a frame received good updates the SNR of its slot, and may lead to a new generation. -/
def State.updateSnr (s : State) (n k slot : Nat) (m : RxMeas) : State :=
  if s.hasArea k then
    let v := s.ses k
    let grouped := sub v sGROUPED == 1
    let prof := s.profile n
    let mask := fun i => decide (carrierCount prof ≤ i) || s.masked n grouped (firstCarrier prof + i)
    let upd := fun (i : Nat) (t : State) =>
      let (b, t1) := t.readSnr k slot i
      let b1 := avgSnr mask (s.get (PRT_TMGEN_AVG n)) 0 b (m.snr.getD i [])
      t1.writeSnr k slot i (snrWith (b1.take 2040) (snrCount b + 1) (snrLast b))
    (forN m.snr.length upd s).generate n k slot m
  else s

/-- R121: with generation `gen` in use, the record of the generation before it stops being valid. -/
def State.retireRec (s : State) (k slot gen : Nat) : State :=
  let x := 6 + 2 * slot + (gen + 1) % 2
  let (r, s1) := s.readRec k x
  match r with
  | b :: rest => if recValid r && (recGen r + 1) % 16 == gen then s1.writeRec k x ((b &&& 0xFE) :: rest) else s1
  | [] => s1

/-! ## The end of a frame (R21, R141, R222) -/

/-- The 22 B of link frame control of a frame, and its payload after any of them it carries (R221): the
extension of a narrowband DATA frame, or the whole of it in a sweep frame. -/
def splitLfc (prof : Nat) (sweep : Bool) (macFc : Nat) (p : List Byte) : Lfc × List Byte :=
  if sweep then (Lfc.ofBits (leNat (p.take 22)), p.drop 22)
  else if prof = pfBB then (Lfc.ofBits macFc, p)
  else if macFc % 8 = 0 then (Lfc.ofBits (macFc % 2 ^ 80 + leNat (p.take 12) * 2 ^ 80), p.drop 12)
  else (Lfc.ofBits (macFc % 2 ^ 80), p)

/-- R222: the frame check of a payload: the CRC-32 of every byte before its last four. -/
def checkOk (p : List Byte) : Bool :=
  decide (4 ≤ p.length) && leNat (p.drop (p.length - 4)) == crc32 (p.take (p.length - 4))

/-- A good frame as its packet carries it. -/
def rxFrameOf (n : Nat) (a : Acq) (h : PhyHeader) (er : Nat) (lfc : Lfc) (body : List Byte) :
    RxFrame := {
  id := a.id, port := n, tdet := a.tdet, endTick := er, slot := a.slot, tmap := h.tmap, mode := h.mode,
  sweep := a.sweepK != 0, phy := h.cls, len := h.len, lfc := lfc, payload := body, snr := a.snr,
  psnr := (match a.meas with
    | some m => m.psnr
    | none => 0), gain := a.gain, fofs := a.fofs, sofs := a.sofs, det := a.det }

/-- R141: a frame is committed: ES208 + 8n + 1 fires, and its measurements enter the SNR store. -/
def State.rxGood (s : State) (n : Nat) (a : Acq) (h : PhyHeader) (f : RxFrame) : State :=
  let s1 := (s.arcCommit (2 * n) (packetWords h.len) (.rx f)).bump (PRT_RXGOOD_COUNT n)
  let s2 := s1.fire (esPort n 1) (h.len + a.slot * 2 ^ 14 + h.tmap * 2 ^ 17)
  let s3 := ((s2.dropBlocks n a.id).dropAcq n a.id).rxOpenNext n
  match s.sesFrom f.lfc.src, a.meas with
  | some k, some m =>
    let s4 := if h.tmap ≤ 5 ∧ a.sweepK = 0 then s3.retireRec k a.slot h.gen else s3
    s4.updateSnr n k a.slot m
  | _, _ => s3

/-- R21, R141, R145: once all blocks of a frame are decoded and its samples taken, its frame check decides. -/
def State.rxFinish (s : State) (n : Nat) (a : Acq) (h : PhyHeader) (er : Nat) : State :=
  let bytes := ((a.parts.map (fun e => e.2)).flatten).take h.len
  let short := h.cls == 1 && h.len == 0
  let (lfc, rest) := if h.cls ≤ 1 ∨ a.sweepK ≠ 0 then splitLfc (s.profile n) (a.sweepK != 0) h.macFc bytes
    else (Lfc.ofBits h.macFc, bytes)
  let body := if short then [] else rest.take (rest.length - 4)
  if !((short || checkOk bytes) && decide (lfc.ftype ≤ 5)) then s.rxFail n a fCHECK
  else if s.arcFits (2 * n) (packetWords h.len) then
    s.rxGood n a h (rxFrameOf n a h er lfc body)
  else
    (s.arcCommit (2 * n) (packetWords h.len) (.rx (rxFrameOf n a h er lfc body))).rxFail n a fOVERSIZE

/-- The frames of a port that are complete end, the oldest first, while the instance takes packets. -/
def State.rxProgress (s : State) (n fuel : Nat) : State :=
  match fuel with
  | 0 => s
  | k + 1 =>
    match (s.rxPort n).frames with
    | [] => s
    | a :: _ =>
      match a.hdr, a.ended with
      | some h, some er =>
        if a.parts.length < a.blocks then s
        else
          let s1 := if s.arcIsOpen (2 * n) then s else s.arcOpen (2 * n)
          if s1.arcIsOpen (2 * n) then (s1.rxFinish n a h er).rxProgress n k else s1
      | _, _ => s

end Sys2Proof.Machine
end

