-- ==== Sys2Proof/Machine/TxOps.lean ====
section
/-! DEFINITION. Chapter 07: the operations of a port's transmitter: the range a frame occupies, the dwell
accounts (R159 to R163), the line driver (R165 to R167), and the end of a frame on the line (R168, R178). -/

namespace Sys2Proof.Machine

/-! ## Burin on a port, as data transmission sees it -/

/-- The Burin record of port `n`. -/
def State.burPort (s : State) (n : Nat) : BurPort := look {} s.bur.port n
def State.setBurPort (s : State) (n : Nat) (p : BurPort) : State :=
  { s with bur.port := store {} n p s.bur.port }

/-- Fields of PORTCFG and PORTLVL (Tables 08-14 and 08-15). -/
def pcTXEN (w : Word) : Bool := w.getLsbD 0
def pcRXEN (w : Word) : Bool := w.getLsbD 1
def pcPROF (w : Word) : Bool := w.getLsbD 2
def pcPRIO (w : Word) : Bool := w.getLsbD 3
def pcBASE (w : Word) : Nat := bits w 4 7

/-- A burst is being sent on port `n`. -/
def State.bursting (s : State) (n : Nat) : Bool :=
  match (s.burPort n).cur with
  | some b => !(s.burPort n).ended || decide (s.tick < b.stop)
  | none => false

/-- R156: a burst under PREEMPT is being sent on port `n`, or starts in this tick. -/
def State.preempted (s : State) (n : Nat) : Bool :=
  (s.bursting n && (match (s.burPort n).cur with
    | some b => b.preempt
    | none => false)) ||
  (match (s.burPort n).chosen with
   | some b => decide (b.start ≤ s.tick) && b.preempt
   | none => false)

/-! ## The frame on the line -/

/-- R151: the port whose frame port `n` is sending, and the frame: its own, or the grouped one of its group. -/
def State.airOf (s : State) (n : Nat) : Option (Nat × Air) :=
  match (s.txPort n).air with
  | some a => some (n, a)
  | none =>
    match (s.txPort (n / 4 * 4)).air with
    | some a => if a.grouped then some (n / 4 * 4, a) else none
    | none => none

/-- R159: the occupied range of a frame on a map, in 1/512 Hz; none where it cannot be built. -/
def State.rangeOf (s : State) (n : Nat) (grouped : Bool) (m : PhyMap) : Nat × Nat :=
  let prof := s.profile n
  let hz := fun c => c * (if prof = pfBB then 31250000 else 1953125)
  if prof = pfG3 then (35900 * 512, 90600 * 512)
  else if m.swk ≠ 0 then
    let b := s.get (PRT_WAVE_SW_BASE n)
    (hz b, hz (b + sweepSpan prof))
  else
    let l := s.openCarriers n grouped
    (hz (firstCarrier prof + l.head?.getD 0), hz (firstCarrier prof + l.getLast?.getD 0))

/-- Table 08-1: the band of a burst, in 1/512 Hz. -/
def burRange (wide : Bool) (base : Nat) : Nat × Nat :=
  if wide then (2000000 * 512, 33250000 * 512) else (base * 1953125, (base + 64) * 1953125)

/-! ## Dwell (R159 to R163) -/

/-- A field of a dwell register as it applies in this tick: a write applies from the tick after it (R162). -/
def State.dwGet (s : State) (f : Field) : Nat :=
  match find s.mac.dwell f.addr with
  | some (t, w) => if t = s.tick then bits w f.lo f.w else s.get f
  | none => s.get f

/-- R159: the range `[a, b]` touches band `k`. -/
def State.touches (s : State) (k a b : Nat) : Bool :=
  let lo := s.dwGet (MAC_DWLO_LO k) * 256000
  let hi := s.dwGet (MAC_DWHI_HI k) * 256000
  decide (lo < hi) && decide (a < hi) && decide (lo ≤ b)

/-- MIN_OFF and MAX_ON in ticks, the duty bin and the duty limit. -/
def State.minOff (s : State) (k : Nat) : Nat := s.dwGet (MAC_DWTIME_MIN_OFF k) * 12500
def State.maxOn (s : State) (k : Nat) : Nat := s.dwGet (MAC_DWTIME_MAX_ON k) * tMs
def State.dutyBin (s : State) (k : Nat) : Nat := s.dwGet (MAC_DWDUTY_WIN k) * 1953125
def State.dutyMax (s : State) (k : Nat) : Nat :=
  s.dwGet (MAC_DWDUTY_DMAX k) * s.dwGet (MAC_DWDUTY_WIN k) * 125000

/-- The intervals of on-time of port `n` in band `k`, newest first. -/
def State.onTime (s : State) (n k : Nat) : List (Nat × Nat) := look [] (s.txPort n).onTime k

/-- Inserts an interval in rising order of start. -/
def insertIv (x : Nat × Nat) (l : List (Nat × Nat)) : List (Nat × Nat) :=
  match l with
  | [] => [x]
  | y :: r => if x.1 ≤ y.1 then x :: y :: r else y :: insertIv x r

/-- The length of the union of intervals in rising order, from tick `lo` up to tick `hi`. -/
def unionLen (lo hi : Nat) (l : List (Nat × Nat)) : Nat :=
  match l with
  | [] => 0
  | (a, b) :: r => (min hi b - max lo a) + unionLen (max lo b) hi r

/-- R160: the on-time recorded in the bin that holds `t` and the 64 bins before it. -/
def State.dutyUsed (s : State) (n k t : Nat) : Nat :=
  let w := s.dutyBin k
  unionLen ((t / w - 64) * w) ((t / w + 1) * w) ((s.onTime n k).foldr insertIv [])

/-- R160: the run of port `n` in band `k`. -/
def State.runOf (s : State) (n k : Nat) : Option Run := find (s.txPort n).runs k

/-- The result of a dwell check: passed, refused, or deferred to a tick by a rule (0 MAX_ON, 1 DUTY). -/
inductive DwellRes where
  | pass
  | refuse
  | defer (tick rule : Nat)
  deriving DecidableEq, Repr

/-- R160: the run rule. -/
def State.dwellRun (s : State) (n k tl dur : Nat) : DwellRes :=
  let max := s.maxOn k
  match s.runOf n k with
  | some r =>
    if tl < r.stop + s.minOff k then
      if max ≠ 0 ∧ r.start + max < tl + dur then .defer (r.stop + s.minOff k) 0 else .pass
    else if max ≠ 0 ∧ max < dur then .refuse else .pass
  | none => if max ≠ 0 ∧ max < dur then .refuse else .pass

/-- R160: the duty rule. -/
def State.dwellDuty (s : State) (n k tl dur : Nat) : DwellRes :=
  if s.dutyBin k = 0 then .pass
  else if s.dutyMax k < dur then .refuse
  else if s.dutyMax k < s.dutyUsed n k tl + dur then .defer ((tl / s.dutyBin k + 1) * s.dutyBin k) 1
  else .pass

/-- R161: of two results the refusal prevails, then the later deferral, then the first. The band that gives the
result goes with it. -/
def joinDwell (a b : DwellRes × Nat) : DwellRes × Nat :=
  match a.1, b.1 with
  | .refuse, _ => a
  | _, .refuse => b
  | .defer t _, .defer u _ => if t < u then b else a
  | .defer _ _, .pass => a
  | .pass, _ => b

/-- R160, R161: the dwell check of a frame of range `[lo, hi]` on port `n`, over every enabled band it touches. -/
def State.dwellCheck (s : State) (n lo hi tl dur : Nat) : DwellRes × Nat :=
  [0, 1, 2, 3, 4, 5, 6, 7].foldl (fun acc k =>
    if s.dwGet (MAC_DWTIME_EN k) = 1 ∧ s.touches k lo hi then
      joinDwell (joinDwell acc (s.dwellRun n k tl dur, k)) (s.dwellDuty n k tl dur, k)
    else acc) (.pass, 0)

/-- R151: the dwell check of a frame on all its ports. -/
def State.dwellAll (s : State) (ports : List Nat) (lo hi tl dur : Nat) : DwellRes × Nat :=
  ports.foldl (fun acc n => joinDwell acc (s.dwellCheck n lo hi tl dur)) (.pass, 0)

/-- R159, R160: on-time `[a, b)` of port `n` enters the account of band `k`. -/
def State.addOn (s : State) (n k a b : Nat) : State :=
  let p := s.txPort n
  let run := (match find p.runs k with
    | some r => if a < r.stop + s.minOff k then { r with stop := max r.stop b } else ⟨a, b⟩
    | none => ⟨a, b⟩)
  s.setTxPort n { p with
    runs := put k run p.runs
    onTime := put k ((a, b) :: look [] p.onTime k) p.onTime }

/-- On-time enters the accounts of every band that the range touches. -/
def State.addOnTime (s : State) (n lo hi a b : Nat) : State :=
  forN 8 (fun k t => if s.touches k lo hi then t.addOn n k a b else t) s

/-- Table 07-3: the DATA of a dwell event. -/
def dwData (band trunc rule : Nat) : Nat := band + 8 * trunc + 16 * rule

/-- R163: whether on-time of port `n` in band `k` breaks a limit. -/
def State.overrun (s : State) (n k b : Nat) : Bool :=
  s.dwGet (MAC_DWTIME_EN k) == 1 &&
  ((match s.runOf n k with
    | some r => s.maxOn k != 0 && decide (r.start + s.maxOn k < b)
    | none => false) ||
   (s.dutyBin k != 0 && decide (s.dutyMax k < s.dutyUsed n k b)))

/-- R163, R180: the on-time of a burst enters the accounts; an overrun of a band is reported. -/
def State.addBurst (s : State) (n lo hi a b : Nat) : State :=
  let s1 := s.addOnTime n lo hi a b
  forN 8 (fun j t =>
    let k := 7 - j
    if t.touches k lo hi && t.overrun n k b then t.fire (esPort n 6) (dwData k 0 3) else t) s1

/-- The on-time `[a, b)` of port `n` in band `k` ended at `e` instead. -/
def State.trimOn (s : State) (n k a b e : Nat) : State :=
  let p := s.txPort n
  let l := (look [] p.onTime k).map (fun x => if x = (a, b) then (a, e) else x)
  let runs := (match find p.runs k with
    | some r => put k { r with stop := l.foldl (fun m x => if r.start ≤ x.1 then max m x.2 else m) r.start } p.runs
    | none => p.runs)
  if (look [] p.onTime k).contains (a, b) then s.setTxPort n { p with runs := runs, onTime := put k l p.onTime }
  else s

/-- The on-time of a frame that ended early is corrected in every band. -/
def State.trimOnTime (s : State) (n a b e : Nat) : State := forN 8 (fun k t => t.trimOn n k a b e) s

/-! ## The line driver (R165 to R167) -/

/-- R166: LDENn is held by Burin. -/
def State.burHold (s : State) (n : Nat) : Bool := pcTXEN (s.burPort n).txCfg

/-- R165 to R167: what LDENn shall be. -/
def State.ldWant (s : State) (n : Nat) : Bool :=
  let p := s.txPort n
  let mode := s.get (PRT_LDCTL_LDMODE n)
  s.burHold n || (!(s.flag (PRT_LDCTL_FLT_OFF n) && s.flag (PRT_LDCTL_FAULT n)) &&
    (mode == 2 || (mode == 1 && ((s.airOf n).isSome || p.ldTail.isSome || p.ldPlan))))

/-- LDENn and BURHOLD follow what they depend on. -/
def State.refreshLd (s : State) (n : Nat) : State :=
  let want := s.ldWant n
  let s1 := s.set (PRT_LDCTL_BURHOLD n) (b2n (s.burHold n))
  if want = s.flag (PRT_LDCTL_LDEN n) then s1
  else
    (s1.set (PRT_LDCTL_LDEN n) (b2n want)).setTxPort n { s1.txPort n with
      ldSince := if want then some s.tick else none }

/-- R165: the driver is ready. -/
def State.ldReady (s : State) (n : Nat) : Bool :=
  match (s.txPort n).ldSince with
  | some t => decide (t + s.get (PRT_LDCTL_LEAD n) * tUs ≤ s.tick)
  | none => false

/-- R165: in TX mode LDENn is asserted for a launch to come. -/
def State.ldPlanLaunch (s : State) (n : Nat) : State :=
  (s.setTxPort n { s.txPort n with ldPlan := true }).refreshLd n

/-- R167: no data frame launches on a port with a fault, or in the hold window after it. -/
def State.faultFree (s : State) (n : Nat) : Bool :=
  !s.flag (PRT_LDCTL_FAULT n) && decide ((s.txPort n).holdEnd ≤ s.tick)

/-! ## The end of an attempt (R226, R178, R279) -/

/-- R226: RETRY of a class: MAC_ACKCFG applies from the next frame launched. -/
def State.retryOf (s : State) (c : Nat) : Nat :=
  if c ≤ 3 then s.get MAC_ACKCFG_RETRY_HI else s.get MAC_ACKCFG_RETRY_LO

/-- R209, R210: after a failed attempt the contention window rises by one, up to CWMAX. -/
def State.raiseCw (s : State) (f : TxFrame) : Nat :=
  let l := csmaLevel f.cls
  min (s.cwTop l) (f.cw.getD (s.get (cwMin l)) + 1)

/-- R39: the device is leaving for STANDBY. -/
def State.leaving (s : State) : Bool := s.busy && s.get SYS_MODESTAT_TARGET == mStandby

/-- R226, R240: RETRY of a frame launched on port `n` now. -/
def State.retryAt (s : State) (n : Nat) (f : TxFrame) : Nat :=
  if f.g3 then s.get (PRT_G3CFG2_MAXRETRY n) else s.retryOf f.cls

/-- R226, R39: an attempt that counts has failed: the frame stays at the head for its next attempt, or
completes NO_ACK. A G9903 frame makes MAXRETRY attempts after the first. -/
def State.failAttempt (s : State) (q : Nat) (f : TxFrame) : State :=
  if f.retry < f.attempts ∨ s.leaving then
    (s.completeTx q f 1).bump MAC_NOACKCNT_COUNT
  else
    s.setFrame q { f with awaiting := false, ready := false, bo := none, cw := some (s.raiseCw f) }

/-- R235: the outgoing frame of a cut-through relay whose incoming frame failed ends: its cells are freed. -/
def State.dropRelay (s : State) (q : Nat) (f : TxFrame) : State :=
  let s1 := s.setFrames q ((s.framesOf q).filter (fun g => g.id != f.id))
  ((s1.unlinkCounts q { f with retained := true }).forget q f.id).returnRx f.cells none

/-- R235: the incoming frame of a cut-through relay has not been verified. -/
def unproven (f : TxFrame) : Bool := f.poison || f.relayOf.isSome

/-- R178, R279: a frame whose attempt does not count is sent again ahead of the port's other frames: its packet
is gone, and it heads the list of frames to be sent again. A sounding frame cut by Burin is not sent again. -/
def State.sendAgain (s : State) (n q id : Nat) (outcome : Nat) : State :=
  match s.frameOf q id with
  | some f =>
    if f.poison then s.dropRelay q f
    else if f.phy = 3 ∧ outcome = 2 then s.completeTx q f 0
    else
    let s1 := s.setFrame q { f with awaiting := false, ready := false, outcome := outcome, bo := none }
    let p := s1.txPort n
    let l := p.again.filter (fun x => x != (q, id))
    s1.setTxPort n { p with
      ready := p.ready.filter (fun x => x != (q, id))
      again := (q, id) :: l }
  | none => s

/-- R178, R279: the frames of discarded packets are sent again in the original order. -/
def State.resend (s : State) (n : Nat) (l : List Packet) : State :=
  forEach l.reverse (fun p t => match p.load with
    | .tx q id => t.sendAgain n q id 4
    | .rx _ => t) s

/-- R276, R279: transmit instance 2n + 1 empties: the frames it held are sent again. -/
def State.flushTx (s : State) (n : Nat) : State :=
  let l := (s.arcOf (2 * n + 1)).packets
  (s.arcEmpty (2 * n + 1)).resend n l

/-- R276, R277: the flush of instance `i` is complete. -/
def State.flushDone (s : State) (i : Nat) : State := (s.set (ARC_CFG_FLUSH i) 0).arcFire i 4

/-- R136, R165, R168: the on-time of the frame on port `n` is over at tick `e`: its event fires, the receivers of
its ports stay blanked for BLANK longer, and LDENn begins its tail. -/
def State.airEnd (s : State) (n : Nat) (a : Air) (outcome e : Nat) : State :=
  let c := s.csmaOf n
  let s1 := (s.setTxPort n { s.txPort n with air := none }).setCsma n { c with
    busyUntil := max c.busyUntil (e + (if outcome = 0 then a.aw else 0)) }
  let s2 := s1.fire (esPort n 5) outcome
  forEach (framePorts n a.grouped) (fun p t =>
    let t1 := if e < a.full then t.trimOnTime p a.start a.full e else t
    let t2 := t1.rxBlankUntil p
    (t2.setTxPort p { t2.txPort p with
      ldTail := some (s.tick + t2.get (PRT_LDCTL_TAIL p) * tUs) }).refreshLd p) s2

/-- R177, R178, R51, R54: the frame on the line of port `n` is cut now, and its attempt does not count. -/
def State.cutAir (s : State) (n : Nat) (a : Air) (outcome : Nat) : State :=
  let s1 := s.airEnd n a outcome s.tick
  match a.kind with
  | .data q id => s1.sendAgain n q id outcome
  | _ => s1

/-- Table 07-1: the ramp of a truncation in ticks. -/
def rampTicks (prof : Nat) : Nat := sampleTicks prof (windowOverlap prof)

/-- R162: the tick in which band `k` truncates the frame of a port, by the values written. -/
def State.truncAt (s : State) (n k : Nat) (a : Air) : Option (Nat × Nat) :=
  let lo := s.get (MAC_DWLO_LO k) * 256000
  let hi := s.get (MAC_DWHI_HI k) * 256000
  let max_ := s.get (MAC_DWTIME_MAX_ON k) * tMs
  if s.flag (MAC_DWTIME_EN k) && decide (lo < hi) && decide (a.lo < hi) && decide (lo ≤ a.hi) && max_ != 0 then
    match s.runOf n k with
    | some r =>
      let t := max (s.tick + 1) (r.start + max_)
      if t < a.full then some (t, k) else none
    | none => none
  else none

/-- R162: the frame of port `n` is truncated where a run reaches its limit, as the dwell table now stands. -/
def State.retrunc (s : State) (n : Nat) : State :=
  match (s.txPort n).air with
  | some a =>
    let past := (match a.trunc with
      | some (t, _) => decide (t ≤ s.tick)
      | none => false)
    if past then s
    else
      let l := (framePorts n a.grouped).flatMap (fun p =>
        [0, 1, 2, 3, 4, 5, 6, 7].filterMap (fun k => s.truncAt p k a))
      let b := (match leastBy (fun x => 8 * x.1 + x.2) l with
        | some x => { a with
            trunc := some x
            outcome := 1
            stop := min a.full (x.1 + rampTicks (s.profile n)) }
        | none => { a with
            trunc := none
            outcome := 0
            stop := a.full })
      s.setTxPort n { s.txPort n with air := some b }
  | none => s

/-- R162: a dwell register was written in this tick. -/
def State.dwFresh (s : State) : Bool := s.mac.dwell.any (fun e => e.2.1 == s.tick)

/-- Puts a frame on the line of port `n` (R136, R159, R168): TXCNT, its event, the blanking of its receivers and
its on-time. The values of a dwell write in this tick apply to it from the next tick (Table 07-4). -/
def State.airBegin (s : State) (n : Nat) (a : Air) (data : Nat) : State :=
  let s1 := (s.setTxPort n { s.txPort n with air := some a }).bump (PRT_TXCNT_COUNT n)
  let s2 := s1.fire (esPort n 4) data
  let s3 := forEach (framePorts n a.grouped) (fun p t =>
    let t1 := (t.rxBlank p fRESET).addOnTime p a.lo a.hi a.start a.stop
    (t1.setTxPort p { t1.txPort p with
      ldPlan := false
      ldTail := none }).refreshLd p) s2
  if s3.dwFresh then s3.retrunc n else s3

/-- R226, Table 10-5: a frame's attempt has ended with an outcome that counts (not COMPLETE): as a window that
closed without an ACK. -/
def State.attemptEnd (s : State) (q id outcome : Nat) : State :=
  match s.frameOf q id with
  | some f =>
    if unproven f then s.dropRelay q f
    else
    let g := { f with attempts := f.attempts + 1, outcome := outcome, ready := false, awaiting := false }
    (s.setFrame q g).failAttempt q g
  | none => s

end Sys2Proof.Machine
end

