-- ==== Sys2Proof/Machine/ArcadeCmd.lean ====
section
/-! DEFINITION. Chapter 12: the meanings of Arcade's commands (R272, R276 to R279). -/

namespace Sys2Proof.Machine

/-- An instance that is present and powered (Table 00-2, R17). -/
def State.arcLive (s : State) (i : Nat) : Bool := s.arcPresent i && s.domOn (arcDomain i)

/-- ARCADE_HANDOVER (R272). -/
def execArcadeHandover (i : Fin 40) (s : State) : Host.Outcome State Fault Refusal :=
  .next (if s.arcLive i && !s.flag (ARC_CFG_FLUSH i) then s.arcHandOver i else s)

/-- R272, R273: the reader releases a drained bank; a receiver that held goes on. -/
def State.arcFree (s : State) (i : Nat) : State :=
  let s1 := s.arcReleaseBank i
  if i < 32 ∧ i % 2 = 0 then s1.rxProgress (i / 2) 64 else s1

/-- ARCADE_RELEASE (R272). -/
def execArcadeRelease (i : Fin 40) (s : State) : Host.Outcome State Fault Refusal :=
  .next (if s.arcLive i then s.arcFree i else s)

/-- Table 12-2: the frame whose packet was open fails with RESET. -/
def State.failOpen (s : State) (n : Nat) : State :=
  match (s.rxPort n).frames with
  | a :: _ => s.rxFail n a fRESET
  | [] => s

/-- R276, R279: instance `i` empties, and its frames have the outcomes of Table 12-2. -/
def State.arcDiscard (s : State) (i : Nat) : State :=
  let was := s.arcIsOpen i
  if 32 ≤ i then s.arcEmpty i
  else if i % 2 = 1 then s.flushTx (i / 2)
  else if was then (s.arcEmpty i).failOpen (i / 2)
  else s.arcEmpty i

/-- R277: a flush of instance `i` waits for the frame that its port is sending. -/
def State.flushWaits (s : State) (i : Nat) : Bool :=
  decide (i < 32) && i % 2 == 1 && (s.airOf (i / 2)).isSome

/-- R276, R277: a write of FLUSH. -/
def State.arcFlush (s : State) (i : Nat) : State :=
  if s.flag (ARC_CFG_FLUSH i) then s
  else
    let s1 := s.set (ARC_CFG_FLUSH i) 1
    if s1.flushWaits i then s1 else s1.arcDiscard i

/-- Table 12-4: the values that MAXPKT and LEVEL store. -/
def maxpktStored (i old v : Nat) : Nat :=
  if v = 0 then old else if 512 < v then 512 else if i < 32 ∧ i % 2 = 0 then v else max 289 v

/-- Table 12-4: a write of ARC_CFG. -/
def State.arcCfgWrite (s : State) (i : Nat) (data : Word) : State :=
  let s1 := s.set (ARC_CFG_MAXPKT i) (maxpktStored i (s.get (ARC_CFG_MAXPKT i)) (bits data 0 10))
  let s2 := s1.set (ARC_CFG_LEVEL i) (min 1024 (bits data 16 11))
  if data.getLsbD 31 then s2.arcFlush i else s2

/-- ARCADE_FLUSH (R276): a write of ARC_CFG with FLUSH 1; `data` holds its other fields. -/
def execArcadeFlush (i : Fin 40) (data : Word) (s : State) : Host.Outcome State Fault Refusal :=
  .next (s.hostWrite 0 (a_ARC_CFG i) (fun t => t.arcCfgWrite i (data ||| 0x80000000)))

/-- R276, R277: the flush of instance `i` ends; one that waited for its frame takes effect now. -/
def State.arcFlushEnd (s : State) (i : Nat) : State :=
  if s.flag (ARC_CFG_FLUSH i) && !s.flushWaits i then (s.arcDiscard i).flushDone i else s

/-- ARCADE_FLUSH_COMPLETE (R276). -/
def execArcadeFlushComplete (i : Fin 40) (s : State) : Host.Outcome State Fault Refusal :=
  .next (if s.arcLive i then s.arcFlushEnd i else s)

/-- Table 12-2: the frame that the port of instance `i` is sending ends STOPPED. -/
def State.stopAir (s : State) (i : Nat) : State :=
  if i < 32 ∧ i % 2 = 1 then
    (match s.airOf (i / 2) with
     | some (m, a) => s.cutAir m a 4
     | none => s)
  else s

/-- R278: a duplicated pointer differs: the instance is reset. -/
def State.arcMismatch (s : State) (i : Nat) : State :=
  (((s.fire (102 + i)).bump (ARC_ERR_MISMATCH i)).arcDiscard i).stopAir i

/-- ARCADE_POINTER_MISMATCH (R278). -/
def execArcadePointerMismatch (i : Fin 40) (s : State) : Host.Outcome State Fault Refusal :=
  .next (if s.arcLive i then s.arcMismatch i else s)

end Sys2Proof.Machine
end

