-- ==== Sys2Proof/Machine/BurinOps.lean ====
section
/-! DEFINITION. Chapter 08: the operations of Burin: the values in force (R192, R193), trip inputs (R174, R181),
requests and the choice of a burst (R175), decisions (R184), outputs and regeneration (R188 to R190), and the
safe profile (R195). -/

namespace Sys2Proof.Machine

/-! ## The profile in force (R192, R193) -/

/-- Word `k` of the profile in force (Table 08-5); zero while Burin is disabled. -/
def State.burWord (s : State) (k : Nat) : Word := s.bur.words.getD k 0

def wTrip (i : Nat) : Nat := 1 + i
def wCmd (c : Nat) : Nat := 9 + c
def wPort (n : Nat) : Nat := 25 + n
def wLvl (n : Nat) : Nat := 41 + n
def wTiming : Nat := 57
def wDet : Nat := 58

/-- The configured profile in the layout of Table 08-5, without its check word. -/
def State.burConfigured (s : State) : List Word :=
  [0] ++ (List.range 8).map (fun i => s.reg (a_BUR_TRIPCFG i))
    ++ (List.range 16).map (fun c => s.reg (a_BUR_CMDCFG c))
    ++ (List.range 16).map (fun n => s.reg (a_BUR_PORTCFG n))
    ++ (List.range 16).map (fun n => s.reg (a_BUR_PORTLVL n))
    ++ [s.reg a_BUR_TIMING, s.reg a_BUR_DETCFG]

/-- R192: the profile that shall run: ACT and its words. -/
def State.burTarget (s : State) : Nat × List Word :=
  if s.flag BUR_CTL_PROT_FAULT || decide (s.boot.step < 4) then (0, [])
  else if s.flag BUR_CTL_EN && s.mode != mSafe then (3, s.burConfigured)
  else if s.bur.safe.isEmpty then (0, [])
  else (s.get BUR_SAFEINFO_SRC, s.bur.safe)

/-- The words that the transmit sides shall reach. -/
def State.burGoal (s : State) : List Word :=
  match s.bur.next with
  | some (_, _, w) => w
  | none => s.bur.words

/-- R193: PENDING: a present port's transmit side has not applied the change. -/
def State.showPending (s : State) : State :=
  let w := s.burGoal
  s.set BUR_CTL_PENDING (b2n ((List.range s.ports).any (fun n =>
    (s.burPort n).txCfg != w.getD (wPort n) 0 || (s.burPort n).txLvl != w.getD (wLvl n) 0)))

/-- R193: the transmit side of port `n` takes the values it shall reach. -/
def State.burApplyTx (s : State) (n : Nat) : State :=
  let w := s.burGoal
  (s.setBurPort n { s.burPort n with
    txCfg := w.getD (wPort n) 0
    txLvl := w.getD (wLvl n) 0 }).refreshLd n

/-- R175: no burst is in progress on port `n`, or its last tick is reached. -/
def State.burFree (s : State) (n : Nat) : Bool := (s.burPort n).ended

/-- R193: a change of what shall be in force: the transmit side of a port without a burst changes now, every
other value in the tick after. -/
def State.burChange (s : State) : State :=
  let (act, w) := s.burTarget
  let now := (match s.bur.next with
    | some (_, a, v) => (a, v)
    | none => (s.get BUR_CTL_ACT, s.bur.words))
  if now = (act, w) then s
  else
    let s1 := { s with bur.next := some (s.tick + 1, act, w) }
    (forN s.ports (fun n t =>
      if t.burFree n && (t.burPort n).chosen.isNone then t.burApplyTx n else t) s1).showPending

/-! ## Requests and the choice of a burst (R174, R175) -/

/-- Table 08-1: the ticks of a burst. -/
def burstTicks (wide : Bool) : Nat := if wide then 3072 else 98304

/-- R175: the next burst of port `n` among its pending requests: code, source, whether a regeneration. -/
def BurPort.pick (p : BurPort) : Option (Nat × Nat × Bool) :=
  match p.fresh, p.regen, p.again with
  | (c, i) :: _, _, _ => some (c, i, false)
  | [], (c, i) :: _, _ => some (c, i, true)
  | [], [], (c, i) :: _ => some (c, i, false)
  | [], [], [] => none

/-- R175: when the port is free, the next burst is chosen; a choice of this same tick is made again. On a port
whose transmission is disabled no request stays (R193). -/
def State.burChoose (s : State) (n : Nat) : State :=
  let p := s.burPort n
  let open_ := (match p.chosen with
    | some b => b.start == s.tick + 1
    | none => true)
  if !s.burFree n || !open_ then s
  else if !pcTXEN p.txCfg then s.setBurPort n { p with fresh := [], regen := [], again := [] }
  else match p.pick with
    | none => s
    | some (c, i, r) =>
      let wide := pcPROF p.txCfg
      s.setBurPort n { p with chosen := some {
        cmd := c, start := s.tick + 1, stop := s.tick + 1 + burstTicks wide, regen := r, source := i,
        preempt := !pcPRIO p.txCfg, wide := wide } }

/-- R174: port `n` accepts a request. -/
def State.burMay (s : State) (n : Nat) : Bool := decide (n < s.ports) && pcTXEN (s.burPort n).txCfg

/-- R174: a new request of input `i` for command `c` on port `n`; of several inputs that wait with one command, the
lowest is reported (DESIGN CHOICE, log entry 33). -/
def State.reqNew (s : State) (n c i : Nat) : State :=
  let p := s.burPort n
  (s.setBurPort n { p with fresh := put c (min i (look i p.fresh c)) p.fresh }).burChoose n

/-- R189: a regeneration request on port `m` for command `c` accepted on port `n`. -/
def State.reqRegen (s : State) (m c n : Nat) : State :=
  let p := s.burPort m
  (s.setBurPort m { p with regen := put c (min n (look n p.regen c)) p.regen }).burChoose m

/-! ## Trip inputs (R174, R181) -/

/-- Trip input `i`. -/
def State.trip (s : State) (i : Nat) : TripIn := look {} s.bur.ins i
def State.setTrip (s : State) (i : Nat) (t : TripIn) : State := { s with bur.ins := store {} i t s.bur.ins }

/-- Fields of TRIPCFG in force. -/
def State.tEn (s : State) (i : Nat) : Bool := (s.burWord (wTrip i)).getLsbD 0
def State.tPol (s : State) (i : Nat) : Bool := (s.burWord (wTrip i)).getLsbD 1
def State.tCmd (s : State) (i : Nat) : Nat := bits (s.burWord (wTrip i)) 2 4
def State.tPorts (s : State) (i : Nat) : Nat := bits (s.burWord (wTrip i)) 16 16

/-- The STUCK state of input `i`. -/
def State.stuck (s : State) (i : Nat) : Bool := bitN (s.get BUR_STAT_STUCK) i

/-- A bit of a field of BUR_STAT. -/
def State.setBit (s : State) (f : Field) (i : Nat) (b : Bool) : State :=
  s.set ⟨f.addr, f.lo + i, 1⟩ (b2n b)

/-- R181: input `i` sustains repeats of command `c` on port `n`. -/
def State.sustains (s : State) (i n c : Nat) : Bool :=
  s.tEn i && (s.trip i).asserted && !s.stuck i && s.tCmd i == c && bitN (s.tPorts i) n

/-- R181: pending repeats that no input sustains are dropped. -/
def State.dropRepeats (s : State) : State :=
  forN 16 (fun n t =>
    let p := t.burPort n
    t.setBurPort n { p with again := p.again.filter (fun e =>
      (List.range 8).any (fun i => t.sustains i n e.1)) }) s

/-- R181: TRIP_STUCK is raised on input `i`. -/
def State.raiseStuck (s : State) (i : Nat) : State :=
  ((s.setBit BUR_STAT_STUCK i true).fire (80 + i) 1).dropRepeats

/-- R181: input `i` is re-armed. -/
def State.rearmTrip (s : State) (i : Nat) : State :=
  ((s.setTrip i { s.trip i with rearm := none }).setBit BUR_STAT_STUCK i false).fire (80 + i) 0

/-- R181: a MAX_ASSERT window or a re-arm window of input `i` that has ended acts now. -/
def State.tripDue (s : State) (i : Nat) : State :=
  let t := s.trip i
  let s1 := (match t.maxEnd with
    | some e => if e ≤ s.tick ∧ t.asserted ∧ !s.stuck i then
        (s.setTrip i { t with maxEnd := none }).raiseStuck i else s
    | none => s)
  match (s1.trip i).rearm with
  | some e => if e ≤ s1.tick ∧ s1.stuck i then s1.rearmTrip i else s1
  | none => s1

/-- R174, R181: an assertion of input `i`: its event, its MAX_ASSERT window, and the requests it makes. -/
def State.tripAssert (s : State) (i : Nat) : State :=
  let s1 := (s.setTrip i { s.trip i with asserted := true, rearm := none }).setBit BUR_STAT_TIN i true
  let s2 := s1.fire (32 + i) (1 + 16 * s1.tCmd i)
  if s2.stuck i then s2
  else
    let window := bits (s2.burWord wTiming) 0 16 * tMs
    let s3 := s2.setTrip i { s2.trip i with maxEnd := some (s.tick + window) }
    forN 16 (fun n t => if bitN (t.tPorts i) n && t.burMay n then t.reqNew n (t.tCmd i) i else t) s3

/-- R174, R181: a deassertion of input `i`. -/
def State.tripRelease (s : State) (i : Nat) : State :=
  let s1 := (s.setTrip i { s.trip i with
    asserted := false
    maxEnd := none
    rearm := if s.stuck i then some (s.tick + 1250000) else none }).setBit BUR_STAT_TIN i false
  s1.fire (32 + i) (16 * s1.tCmd i)

/-- R174: the asserted state of input `i` follows its level, POL, EN and the profile in force. A disabled input
keeps no window and is not stuck. -/
def State.refreshTrip (s : State) (i : Nat) : State :=
  let want := s.tEn i && ((s.trip i).high != s.tPol i)
  let s0 := s.tripDue i
  let s1 := if want = (s0.trip i).asserted then s0 else if want then s0.tripAssert i else s0.tripRelease i
  if s1.tEn i then s1
  else
    let s2 := s1.setTrip i { s1.trip i with maxEnd := none, rearm := none }
    if s2.stuck i then s2.rearmTrip i else s2

/-! ## The change of every other value (R193) -/

/-- R193: what a change does to the detector of port `n`: a new PROF or BASE resets its front decimator in the
next tick, and with it or with RXEN taken away an undecided burst is lost. -/
def State.burDetChange (s : State) (old : Word) (n : Nat) : State :=
  let w := s.burWord (wPort n)
  let moved := pcPROF old != pcPROF w || pcBASE old != pcBASE w
  let s1 := if moved then s.addEdge (2 * (s.tick + 1)) (.burin n) else s
  if moved || !pcRXEN w then s1.setBurPort n { s1.burPort n with wins := [], cands := [] } else s1

/-- R193: the device-wide change that is due takes effect: ACT, ES088, the trip inputs and the detectors. -/
def State.burSettle (s : State) : State :=
  match s.bur.next with
  | none => s
  | some (t, act, w) =>
    if s.tick < t then s
    else
      let old := s.bur.words
      let was := s.get BUR_CTL_ACT
      let s1 := { s with
        bur.words := w
        bur.next := none }.set BUR_CTL_ACT act
      let s2 := if was ≠ 0 ∧ act ≠ 0 ∧ (was = 3) ≠ (act = 3) then s1.fire 88 (if act = 3 then 0 else 1) else s1
      let s3 := forN s.ports (fun n t => t.burDetChange (old.getD (wPort n) 0) n) s2
      (forN 8 (fun i t => t.refreshTrip (7 - i)) s3).showPending

/-- R41, R174, R192: Burin starts: the profile in force applies at once, every front decimator starts, and an
input that is active is asserted. -/
def State.burStart (s : State) : State :=
  let s1 := s.burChange
  match s1.bur.next with
  | none => s1
  | some (_, act, w) =>
    let s2 := { s1 with
      bur.words := w
      bur.next := none }.set BUR_CTL_ACT act
    let s3 := forN s.ports (fun n t => t.setFePort n { t.fePort n with burEdge := 2 * t.tick }) s2
    (forN 8 (fun i t => t.refreshTrip (7 - i)) s3).showPending

/-! ## Decisions (R184, R185) -/

/-- Table 08-1: the spreading factor, in 1/8 bin, and the match tolerance. -/
def burN8 (wide : Bool) : Nat := if wide then 2048 else 512
def burTol8 (wide : Bool) : Nat := if wide then 32 else 8

/-- R184: the distance of two shifts modulo N is at most TOL. -/
def burMatch (wide : Bool) (x y : Nat) : Bool :=
  let n := burN8 wide
  let d := (x % n + n - y % n) % n
  decide (min d (n - d) ≤ burTol8 wide)

/-- Table 08-2: u_j - u_i of command `c`, in 1/8 shift: 3c, 12c and 15c, four times that in the wideband
profile. -/
def burDiff (wide : Bool) (i j c : Nat) : Nat :=
  (if i = 0 then (if j = 1 then 3 else 15) else 12) * c * (if wide then 32 else 8)

/-- R182: the measured shift of a down-dechirp. -/
def downShift (wide : Bool) (bin : Nat) : Nat := (burN8 wide - bin % burN8 wide) % burN8 wide

/-- R184: matched[c] of a candidate for thresholds in 0.5 dB. -/
def burMatched (x : BurCand) (sth pth c : Nat) : Nat :=
  let wide := pcPROF x.cfg
  let sh := fun k => if k = 0 then x.s0.bin else if k = 1 then downShift wide x.s1.bin else x.s2.bin
  let q := fun k => if k = 0 then x.s0.q else if k = 1 then x.s1.q else x.s2.q
  let fits := fun (i j th : Nat) => decide (128 * th ≤ q i) && decide (128 * th ≤ q j)
    && burMatch wide (sh j + burN8 wide - sh i % burN8 wide) (burDiff wide i j c)
  if fits 0 1 sth && fits 1 2 sth && fits 0 2 sth then 3
  else if fits 0 1 pth || fits 1 2 pth || fits 0 2 pth then 2 else 0

/-- R184: the outcome of a candidate: the command, the symbols matched, and whether it is accepted. -/
def State.burJudge (s : State) (x : BurCand) : Option (Nat × Nat × Bool) :=
  let det := s.burWord wDet
  let m := burMatched x (bits det 0 6) (bits det 6 6)
  let cands := (List.range 16).filter (fun c => decide (2 ≤ m c))
  match cands with
  | [] => none
  | [c] =>
    if m c = 3 then some (c, 3, true)
    else some (c, 2, (s.burWord (wCmd c)).getLsbD 0)
  | _ => ((cands.filter (fun c => m c == 2)).head?).map (fun c => (c, 2, false))

/-- R190: remembers that port `n` accepted command `c` or started a burst of it now. -/
def State.burMark (s : State) (n c : Nat) : State :=
  let p := s.burPort n
  let l := p.marks.filter (fun e => decide (s.tick ≤ e.2 + 2 * 98304))
  s.setBurPort n { p with marks := (c, s.tick) :: l }

/-- R190: within the two burst durations before now, port `m` accepted command `c` or started a burst of it. -/
def State.burRecent (s : State) (m c : Nat) : Bool :=
  let p := s.burPort m
  p.marks.any (fun e => e.1 == c && decide (e.2 < s.tick)
    && decide (s.tick ≤ e.2 + 2 * burstTicks (pcPROF p.txCfg)))

/-- R188: an acceptance of command `c` on port `n` asserts or retriggers its TRIP_OUT. Of two in one tick the
lower port is reported. -/
def State.tripOut (s : State) (j c n : Nat) : State :=
  let o := look {} s.bur.outs j
  let stop := max o.holdEnd (s.tick + bits (s.burWord wTiming) 16 8 * tMs)
  let twin := o.last == s.tick && o.holdEnd != 0
  let mine := !twin || decide (n < o.port)
  let put_ := fun (t : State) (x : TripOut) => { t with bur.outs := store {} j x t.bur.outs }
  let s1 := put_ s (if mine then ⟨stop, c, n, s.tick⟩ else { o with holdEnd := stop })
  if !bitN (s.get BUR_STAT_TOUT) j then
    (s1.setBit BUR_STAT_TOUT j true).fire (40 + j) (1 + 16 * c + 256 * n)
  else if twin && mine then
    match find s1.sq.staged (40 + j) with
    | some r =>
      if r.tick = s.tick ∧ bitN r.data 0 then
        { s1 with sq.staged := put (40 + j) { r with data := 1 + 16 * c + 256 * n } s1.sq.staged }
      else s1
    | none => s1
  else s1

/-- R188 to R190: command `c` is accepted on port `n`. -/
def State.burAccept (s : State) (n c : Nat) : State :=
  let w := s.burWord (wCmd c)
  let s1 := if w.getLsbD 1 then s.tripOut (bits w 2 3) c n else s
  let s2 := forN 16 (fun m t =>
    if bitN (bits w 16 16) m && m != n && t.burMay m && !t.burRecent m c then t.reqRegen m c n else t) s1
  s2.burMark n c

/-! ## The safe profile (R195) -/

/-- Bits `m` of a word are zero. -/
def clearOf (w : Word) (m : Nat) : Bool := (w &&& BitVec.ofNat 32 m) == 0

/-- R195: every field holds a value that its register would store unchanged, and every reserved bit is zero;
the words of absent ports are checked for their reserved bits alone. -/
def safeFieldsOk (ports : Nat) (w : List Word) : Bool :=
  let g := fun k => w.getD k 0
  (List.range 8).all (fun i => clearOf (g (wTrip i)) 0xFFC0) &&
  (List.range 16).all (fun c => clearOf (g (wCmd c)) 0xFFE0) &&
  (List.range 16).all (fun n => clearOf (g (wPort n)) 0xFFFFF800 && clearOf (g (wLvl n)) 0xFFC00000 &&
    (decide (ports ≤ n) || (decide (7 ≤ pcBASE (g (wPort n))) && decide (pcBASE (g (wPort n)) ≤ 67)))) &&
  clearOf (g wTiming) 0xFF000000 && decide (10 ≤ bits (g wTiming) 0 16) &&
  decide (bits (g wTiming) 0 16 ≤ 60000) && decide (1 ≤ bits (g wTiming) 16 8) &&
  clearOf (g wDet) 0xFFFFF000 && decide (16 ≤ bits (g wDet) 0 6) && decide (16 ≤ bits (g wDet) 6 6)

/-- The bytes of words in little-endian order. -/
def wordBytes (w : List Word) : List Byte := (w.map (fun x => leBytes 4 x.toNat)).flatten

/-- R195: a record is a valid safe profile. -/
def safeValid (ports : Nat) (w : List Word) : Bool :=
  w.length == 60 && bits (w.getD 0 0) 0 16 == 0x4255 &&
    (w.getD 59 0).toNat == crc32 ((wordBytes w).take 236) && safeFieldsOk ports w

/-- VER of a safe profile. -/
def safeVer (w : List Word) : Nat := bits (w.getD 0 0) 16 16

/-- R195: the OTP profile: the valid record in the highest-numbered slot that holds one. -/
def State.otpProfile (s : State) : List Word :=
  (s.otp.safeProfiles.reverse.find? (fun w => safeValid s.ports w)).getD []

/-- R195: the store holds a profile, of source 1 OTP or 2 flash, or nothing. -/
def State.loadSafe (s : State) (w : List Word) (src : Nat) : State :=
  (({ s with bur.safe := w }.set BUR_SAFEINFO_VER (safeVer w)).set BUR_SAFEINFO_SRC
    (if w.isEmpty then 0 else src)).burChange

/-- A byte of the flash; an erased byte reads 0xFF. -/
def State.flashByte (s : State) (a : Nat) : Byte := look 0xFF s.fsp.mem a
def State.flashBytes (s : State) (a n : Nat) : List Byte := (List.range n).map (fun j => s.flashByte (a + j))

/-- The words of bytes in little-endian order. -/
def bytesWords (b : List Byte) (n : Nat) : List Word :=
  match n with
  | 0 => []
  | k + 1 => BitVec.ofNat 32 (leNat (b.take 4)) :: bytesWords (b.drop 4) k

/-- Table 17-2: the slot that holds the successor: the first one that is not erased (log entry 27). -/
def State.successorAt (s : State) : Option Nat :=
  ((List.range 16).map (fun k => 0x10000 + 4096 * k)).find? (fun a => s.flashByte a != 0xFF)

/-- R195: the tag of a successor record under vault slot 1. -/
def State.safeTag (s : State) (rec : List Byte) (ver : Nat) : List Byte :=
  fitTo 16 (Config.gcmEncrypt (s.keyOf 1)
    (leNat ([0x42, 0x55, 0x52, 0, 0, 0, 0, 0, 0, 0] ++ leBytes 2 ver)) rec [])

/-- R195: a successor record and tag may be loaded: it is valid, its tag verifies, and its VER is at least that
of the OTP profile. -/
def State.successorOk (s : State) (rec tag : List Byte) : Bool :=
  let w := bytesWords rec 60
  safeValid s.ports w && s.get (KEY_SLOT_STATE 1) != kEMPTY && s.safeTag rec (safeVer w) == tag &&
    decide (safeVer s.otpProfile ≤ safeVer w)

/-- R195: the supervisor checks the flash successor and loads it into the store. -/
def State.loadSuccessor (s : State) : Bool × State :=
  match s.successorAt with
  | some a =>
    let rec_ := s.flashBytes a 240
    if s.successorOk rec_ (s.flashBytes (a + 240) 16) then (true, s.loadSafe (bytesWords rec_ 60) 2)
    else (false, s)
  | none => (false, s)

end Sys2Proof.Machine
end

