-- ==== Sys2Proof/Machine/Burin.lean ====
section
/-! DEFINITION. Chapter 08: the meanings of the Burin commands. -/

namespace Sys2Proof.Machine

/-- The synchronised level of a trip input changes (R174). -/
def State.tripLevel (s : State) (i : Nat) (high : Bool) : State :=
  ((s.tripDue i).setTrip i { (s.tripDue i).trip i with high := high }).refreshTrip i

/-- TRIP_INPUT_EDGE (R174, R176). -/
def execTripInputEdge (i : Fin 8) (high : Bool) (s : State) : Host.Outcome State Fault Refusal :=
  .next (if s.domOn dProt then s.tripLevel i high else s.setTrip i { s.trip i with high := high })

/-- R177, R178: under PREEMPT the data frame that port `n` is sending is cut on all its ports, and its transmit
instance is flushed; a register flush that waits completes with it (R277). -/
def State.burCut (s : State) (n : Nat) : State :=
  match s.airOf n with
  | some (m, a) => ((s.flushTx m).flushDone (2 * m + 1)).cutAir m a 2
  | none => s

/-- R180: the gain of the port's PGA during its own bursts. -/
def State.burGain (s : State) (n : Nat) : State :=
  let p := s.burPort n
  if p.txLvl.getLsbD 21 then
    (s.setBurPort n { p with gain := some (s.get (PRT_AFE_ACT_GAIN n)) }).set (PRT_AFE_ACT_GAIN n) (bits p.txLvl 14 7)
  else s

/-- R176, R177, R180: the first sample of burst `b` of port `n` enters the adder now. Every pending request for
its command is cleared (R175). -/
def State.burBegin (s : State) (n : Nat) (b : Burst) : State :=
  let p := s.burPort n
  let b1 := { b with start := s.tick, stop := s.tick + burstTicks b.wide }
  let s1 := s.setBurPort n { p with
    cur := some b1
    ended := false
    chosen := none
    fresh := del b.cmd p.fresh
    regen := del b.cmd p.regen
    again := del b.cmd p.again }
  let s2 := ((s1.burMark n b.cmd).bump (BUR_TXCNT_COUNT n)).fire (64 + n)
    (b.cmd + 16 * b2n b.regen + 32 * b.source)
  let s3 := if b.preempt then s2.burCut n else s2
  let s4 := (s3.rxBlank n fBURIN).refreshLd n
  let r := burRange b.wide (pcBASE p.txCfg)
  (s4.addBurst n r.1 r.2 b1.start b1.stop).burGain n

/-- BURIN_BURST_START (R175, R176). -/
def execBurinBurstStart (n : Fin 16) (s : State) : Host.Outcome State Fault Refusal :=
  .next (match (s.burPort n).chosen with
  | some b => if b.start ≤ s.tick then s.burBegin n b else s
  | none => s)

/-- R174: the repeat that arises in the last tick of a burst of command `c` on port `n`; of several inputs that
sustain it the lowest is reported (log entry 33). -/
def State.burRepeat (s : State) (n c : Nat) : State :=
  match (List.range 8).find? (fun i => s.sustains i n c) with
  | some i =>
    if s.burMay n then s.setBurPort n { s.burPort n with again := put c i (s.burPort n).again } else s
  | none => s

/-- R175, R180, R193: in the last tick of a burst the transmit side of the port changes and the next burst is
chosen. -/
def State.burFinish (s : State) (n : Nat) (b : Burst) : State :=
  let p := s.burPort n
  let s0 := match p.gain with
    | some g => s.set (PRT_AFE_ACT_GAIN n) g
    | none => s
  let s1 := s0.setBurPort n { p with ended := true, gain := none }
  let s2 := s1.setRxPort n { s1.rxPort n with blank := max (s1.rxPort n).blank (b.stop + s1.blankTicks n) }
  (((s2.burApplyTx n).showPending).burRepeat n b.cmd).burChoose n

/-- BURIN_BURST_END (R175). -/
def execBurinBurstEnd (n : Fin 16) (s : State) : Host.Outcome State Fault Refusal :=
  .next (match (s.burPort n).cur with
  | some b => if !(s.burPort n).ended && decide (b.stop ≤ s.tick + 1) then s.burFinish n b else s
  | none => s)

/-- TRIP_STUCK (R181). -/
def execTripStuck (i : Fin 8) (s : State) : Host.Outcome State Fault Refusal := .next (s.tripDue i)

/-- TRIP_REARM (R181). -/
def execTripRearm (i : Fin 8) (s : State) : Host.Outcome State Fault Refusal :=
  .next (match (s.trip i).rearm with
  | some e => if e ≤ s.tick ∧ s.stuck i then s.rearmTrip i else s
  | none => s)

/-- R182: the detector of port `n` runs. -/
def State.detOn (s : State) (n : Nat) : Bool :=
  s.domOn dProt && decide (n < s.ports) && pcRXEN (s.burWord (wPort n))

/-- R183: the triple that ends `o` hops before the newest: its symbols and metric. -/
def triple (l : List (Dechirp × Dechirp)) (o : Nat) : Option (Dechirp × Dechirp × Dechirp × Nat) :=
  match l[o]?, l[o + 4]?, l[o + 8]? with
  | some c, some b, some a => some (a.1, b.2, c.1, a.1.power + b.2.power + c.1.power)
  | _, _, _ => none

/-- R183: a hop of port `n`: its windows are kept, and the triple at the former hop may be a candidate, decided
when the pipeline has passed it. -/
def State.detHop (s : State) (n : Nat) (up down : Dechirp) : State :=
  let p := s.burPort n
  let w := (up, down) :: p.wins.take 10
  let power := fun o => (match triple w o with
    | some x => x.2.2.2
    | none => 0)
  let cfg := s.burWord (wPort n)
  let due := s.tick + (if pcPROF cfg then 25 else 400)
  let new := (match triple w 1 with
    | some (a, b, c, m) => if power 2 ≤ m ∧ power 0 < m then [(⟨due, p.hop, cfg, a, b, c⟩ : BurCand)] else []
    | none => [])
  s.setBurPort n { p with hop := p.hop + 1, wins := w, cands := p.cands ++ new }

/-- DETECTOR_HOP (R182, R183). -/
def execDetectorHop (n : Fin 16) (up down : Dechirp) (s : State) : Host.Outcome State Fault Refusal :=
  .next (if s.detOn n then s.detHop n up down else s)

/-- R185: a decision on command `c` at a hop, for a candidate of port `n`: reported, unless one on the same
command lies within the eight hops before it. -/
def State.burDecide (s : State) (n : Nat) (x : BurCand) : State :=
  match s.burJudge x with
  | none => s
  | some (c, m, ok) =>
    let p := s.burPort n
    let late := (match find p.decided c with
      | some h => decide (x.hop ≤ h + 8)
      | none => false)
    if late then s
    else
      let s1 := s.setBurPort n { p with decided := put c x.hop p.decided }
      let s2 := (s1.fire (48 + n) (c + 16 * m + 64 * b2n ok)).bump (if ok then BUR_PCNT_ACC n else BUR_PCNT_REF n)
      if ok then s2.burAccept n c else s2

/-- BURIN_DECISION (R184): the decision tick of the oldest candidate. A detector decides only bursts of the
profile in force (R193). -/
def execBurinDecision (n : Fin 16) (s : State) : Host.Outcome State Fault Refusal :=
  .next (match (s.burPort n).cands with
  | x :: rest =>
    if x.due ≤ s.tick then
      let s1 := s.setBurPort n { s.burPort n with cands := rest }
      let w := s.burWord (wPort n)
      if s1.detOn n && pcPROF w == pcPROF x.cfg && pcBASE w == pcBASE x.cfg then s1.burDecide n x else s1
    else s
  | [] => s)

/-- R188: the hold of output `j` is over. -/
def State.tripOutEnd (s : State) (j : Nat) : State :=
  let o := look {} s.bur.outs j
  if bitN (s.get BUR_STAT_TOUT) j && decide (o.holdEnd ≤ s.tick) then
    (s.setBit BUR_STAT_TOUT j false).fire (40 + j) (16 * o.cmd + 256 * o.port)
  else s

/-- TRIP_OUT_HOLD_EXPIRY (R188). -/
def execTripOutHoldExpiry (j : Fin 8) (s : State) : Host.Outcome State Fault Refusal := .next (s.tripOutEnd j)

/-- The key of a Burin configuration register. -/
def burRegKey (r : BurReg) : Nat :=
  match r with
  | .timing => a_BUR_TIMING
  | .detcfg => a_BUR_DETCFG
  | .trip i => a_BUR_TRIPCFG i
  | .cmd c => a_BUR_CMDCFG c
  | .portCfg n => a_BUR_PORTCFG n
  | .portLvl n => a_BUR_PORTLVL n

/-- Tables 08-9 to 08-15: what a write leaves in a Burin configuration register. -/
def burRegStored (r : BurReg) (old data : Word) : Word :=
  match r with
  | .timing =>
    let m := bits data 0 16
    let h := bits data 16 8
    let w := if 10 ≤ m ∧ m ≤ 60000 then withBits old 0 16 m else old
    if h = 0 then w else withBits w 16 8 h
  | .detcfg => BitVec.ofNat 32 (max 16 (bits data 0 6) + 64 * max 16 (bits data 6 6))
  | .trip _ => data &&& 0xFFFF003F
  | .cmd _ => data &&& 0xFFFF001F
  | .portCfg _ =>
    let b := bits data 4 7
    let w := (data &&& 0xF) ||| (old &&& 0x7F0)
    if 7 ≤ b ∧ b ≤ 67 then withBits w 4 7 b else w
  | .portLvl _ => data &&& 0x3FFFFF

/-- R191: the register belongs to a port that the variant lacks. -/
def burRegAbsent (r : BurReg) (ports : Nat) : Bool :=
  match r with
  | .portCfg n => decide (ports ≤ n.val)
  | .portLvl n => decide (ports ≤ n.val)
  | _ => false

/-- R193, R194: a write of a configuration register of Burin; once locked it is ignored. -/
def State.burRegWrite (s : State) (r : BurReg) (data : Word) : State :=
  if s.flag BUR_CTL_LOCK || burRegAbsent r s.ports then s
  else (s.setReg (burRegKey r) (burRegStored r (s.reg (burRegKey r)) data)).burChange

/-- BURIN_CONFIG_WRITE (R193, R194). -/
def execBurinConfigWrite (r : BurReg) (data : Word) (s : State) : Host.Outcome State Fault Refusal :=
  .next (s.hostWrite 1 (burRegKey r - f1 0) (fun t => t.burRegWrite r data))

/-- R192, R194: a write of BUR_CTL: EN first, unless it is locked; then LOCK. -/
def State.burCtl (s : State) (en lock : Bool) : State :=
  let s1 := if s.flag BUR_CTL_LOCK then s else (s.set BUR_CTL_EN (b2n en)).burChange
  if lock then s1.set BUR_CTL_LOCK 1 else s1

/-- BURIN_EN_WRITE (R192). -/
def execBurinEnWrite (en : Bool) (s : State) : Host.Outcome State Fault Refusal :=
  .next (s.hostWrite 1 (a_BUR_CTL - f1 0) (fun t => t.burCtl en false))

/-- BURIN_LOCK (R194). -/
def execBurinLock (en : Bool) (s : State) : Host.Outcome State Fault Refusal :=
  .next (s.hostWrite 1 (a_BUR_CTL - f1 0) (fun t => t.burCtl en true))

/-- SAFE_PROFILE_SUCCESSOR_LOAD (R195). -/
def execSafeProfileSuccessorLoad (s : State) : Host.Outcome State Fault Refusal :=
  .next (if s.flag SYS_MODESTAT_READY && s.domOn dProt then s.loadSuccessor.2 else s)

end Sys2Proof.Machine
end

