-- ==== Sys2Proof/Machine/MacOps.lean ====
section
/-! DEFINITION. Chapters 09 and 10: the operations of the MAC that its commands share: the superframe and beacon
periods (R197 to R201), presence (R215), control sequences (R229), acknowledgements to be sent (R223), frames of
the MAC's own, and frames for the host. -/

namespace Sys2Proof.Machine

/-! ## State codes (Table 09-7) -/

def sfOWN : Nat := 0
def sfSCAN : Nat := 1
def sfJOINING : Nat := 2
def sfATTACHED : Nat := 3
def sfORPHAN : Nat := 4
def sfISLAND : Nat := 5

/-- STATE of the superframe. -/
def State.sfState (s : State) : Nat := s.get MAC_SFSTAT_STATE
def State.setSfState (s : State) (v : Nat) : State := s.set MAC_SFSTAT_STATE v

/-- R197: the mode keeps a superframe. -/
def State.keepsFrame (s : State) : Bool := decide (2 ≤ s.mode) && decide (s.mode ≤ 11) && s.mode != mSafe

/-- The device is a MEMBER or a REPEATER. -/
def State.isChild (s : State) : Bool := s.mode == mMember || s.mode == mRepeater

/-- R201: the device follows a parent's superframe. -/
def State.follows (s : State) : Bool := s.isChild && s.mac.ref.isSome && decide (2 ≤ s.sfState)

/-- The parent's address. -/
def State.parent (s : State) : Nat := s.get MAC_PARENT_ADDR

/-- The session of the link to the parent, 0 where there is none. -/
def State.parentSes (s : State) : Nat := sub (s.dirOf s.parent) dSESSION

/-- The beacon-period length less one: the parent's while one is followed (R203), else MAC_SFCFG.BP. -/
def State.bpLess1 (s : State) : Nat :=
  if s.mode = mCoordinator then s.get MAC_SFCFG_BP
  else match s.mac.ref with
    | some b => b.bp
    | none => s.get MAC_SFCFG_BP

/-- R197: p_hat of the superframe: nominal while no valid cycle of REF was decided since the mode was entered. -/
def State.sfPeriod (s : State) : Nat :=
  match (s.ms (s.get TIM_MSCTL_REF)).validAt with
  | some t => if s.mac.entry ≤ t then s.pHat else s.nominal
  | none => s.nominal

/-- The length of a beacon period in ticks. -/
def State.periodTicks (s : State) : Nat := (s.bpLess1 + 1) * s.sfPeriod / 65536

/-! ## The superframe (R197 to R201) -/

/-- R363: the parent-time view PT, in 2^-48 ns. -/
def State.parentTime (s : State) : Int := (s.tb 1).val + s.time.ptofs

/-- PERIOD of a beacon in 2^-48 ns. -/
def Beacon.len (b : Beacon) : Nat := b.period * 2 ^ 44

/-- R201: the superframe of the parent that PT lies in, counted from S_REF, rounded to the nearest boundary. -/
def State.nearestFrame (s : State) (b : Beacon) : Int :=
  let p : Int := Beacon.len b
  if p = 0 then 0 else (2 * (s.parentTime - stampVal b.sref) + p) / (2 * p)

/-- R201: PT has reached the start of superframe number `n` of the parent. -/
def State.reached (s : State) (b : Beacon) (n : Nat) : Bool :=
  let k : Int := signed 32 (n + 2 ^ 32 - b.sfn % 2 ^ 32)
  decide ((stampVal b.sref : Int) + k * Beacon.len b ≤ s.parentTime)

/-- R197: the positive crossing of REF decided in the first half of the superframe that starts at `a`. -/
def State.sfCross (s : State) (a : Nat) : Option (Nat × Bool) :=
  (s.mac.cross.find? (fun c => decide (a ≤ c.1) && decide (2 * (c.1 * 65536) < 2 * (a * 65536) + s.mac.pHat))).map
    (fun c => c.2)

/-- R197, R199: the phase step, in 2^-16 tick: MAXSTEP, and never more than a tenth of p_hat. -/
def State.maxStep (s : State) : Nat := min (s.get MAC_SFCFG_MAXSTEP * tUs * 65536) (s.mac.pHat / 10)

/-- REF is enabled. -/
def State.refOn (s : State) : Bool := bitN (s.get TIM_MSCTL_EN) (s.get TIM_MSCTL_REF)

/-- The crossing of this superframe that the procedure of R197 uses, by its deviation from s_j in 2^-16 tick;
under FOLLOW = MAINS with the offset DELTA of R201. None where there is no valid one. -/
def State.deviation (s : State) (a : Nat) : Option Int :=
  match s.sfCross a with
  | some (t, true) => some ((t : Int) + (if s.follows then s.mac.delta else 0) - (a * 65536 : Nat))
  | _ => none

/-- R197: s_next in ticks. -/
def State.ownNext (s : State) (a : Nat) : Nat :=
  let base : Int := (a * 65536 : Nat) + s.mac.pHat
  let m : Int := s.maxStep
  match s.deviation a with
  | some d => ((base + clampI (-m) m d) / 65536).toNat
  | none => (base / 65536).toNat

/-- R201: this superframe's end is the parent's by PT: FOLLOW is BEACON, or MAINS without a valid crossing. -/
def State.byBeacon (s : State) (a : Nat) : Bool :=
  s.follows && (!s.flag MAC_SFCFG_FOLLOW || !s.refOn || (s.deviation a).isNone)

/-- A superframe starts in this tick. -/
def State.sfDue (s : State) : Bool :=
  s.keepsFrame &&
  (match s.mac.start with
   | none =>
     (match s.mac.cross.find? (fun c => decide (s.mac.entry ≤ c.1)) with
      | some c => decide ((c.2.1 + s.sfPeriod) / 65536 ≤ s.tick)
      | none => !s.refOn && decide (s.mac.entry + s.sfPeriod / 65536 ≤ s.tick))
   | some a =>
     if s.byBeacon a then
       (match s.mac.ref with
        | some b => s.reached b (s.get MAC_SFN_SFN + 1) && decide (a < s.tick)
        | none => false)
     else decide (s.ownNext a ≤ s.tick))

/-- R197, R199: LOCK and FLY as the superframe that began at `a` leaves them. -/
def State.sfJudge (s : State) (a : Nat) : State :=
  match s.deviation a with
  | some d =>
    let near := decide (|d| ≤ (s.get MAC_SFCFG_MAXSTEP * tUs * 65536 : Nat))
    let run := if near then s.mac.lockRun + 1 else 0
    let s1 := { s with mac.lockRun := run }
    if 8 ≤ run then s1.set MAC_SFSTAT_LOCK 1 else s1
  | none => ({ s with mac.lockRun := 0 }.set MAC_SFSTAT_FLY 1).set MAC_SFSTAT_LOCK 0

/-- No table is in force or pending. -/
def State.noTable (s : State) : State :=
  { s with
    mac.inForce := []
    mac.holdsTable := false
    mac.tableNext := false
    mac.coming := none
    mac.rejoin := 0
    mac.rejoinTo := none }.set MAC_ALLOCCTL_CDOWN 0

/-- The superframe is taken up anew: on entry into a mode that keeps one (R197). No table is held, and a coordinator's
BIDX is 0 (R202). -/
def State.sfEnter (s : State) (st : Nat) : State :=
  (({ s with
    mac.entry := s.tick
    mac.start := none
    mac.lockRun := 0
    mac.cross := []
    mac.ref := none
    mac.beacon := none
    mac.winOpen := false
    mac.winPend := false
    mac.winEnd := s.tick
    mac.knock := none
    mac.csma := [] }.noTable.setSfState st).set MAC_SFSTAT_MISS 0).set MAC_SFSTAT_BIDX
      (if s.mode = mCoordinator then 0 else s.mac.bidx)

/-! ## Allocations (R206, R207) -/

/-- An entry of the shadow table, where it is enabled. -/
def State.shadow (s : State) (k : Nat) : Option Alloc :=
  if s.flag (MAC_ALLOC0_EN k) then some
    { owner := s.get (MAC_ALLOC0_OWNER k), slots := s.get (MAC_ALLOC0_SLOTS k), start := s.get (MAC_ALLOC1_START k),
      stop := s.get (MAC_ALLOC1_END k), classes := s.get (MAC_ALLOC1_CLASSES k),
      ports := s.get (MAC_ALLOC2_PORTS k) }
  else none

/-- The enabled entries of the shadow table, with their indices. -/
def State.shadowTable (s : State) : List (Nat × Alloc) :=
  (List.range 64).filterMap (fun k => (s.shadow k).map (fun e => (k, e)))

/-- R207: an entry is bad by itself. -/
def badAlloc (e : Alloc) : Bool := decide (e.stop ≤ e.start) || decide (512 < e.stop) || e.slots == 0

/-- R207: two entries overlap on a shared port in a common slot. -/
def clashAlloc (a b : Alloc) : Bool :=
  Nat.land a.ports b.ports != 0 && Nat.land a.slots b.slots != 0 && decide (a.start < b.stop)
    && decide (b.start < a.stop)

/-- R207: the first entry that causes a refusal. -/
def State.badEntry (s : State) : Option Nat :=
  let l := s.shadowTable
  (l.find? (fun x => badAlloc x.2 || l.any (fun y => y.1 != x.1 && clashAlloc x.2 y.2))).map (fun x => x.1)

/-- A table comes into force, as generation TGEN. -/
def State.tableNow (s : State) (t : List Alloc) (gen : Nat) : State :=
  ({ s with
    mac.inForce := t
    mac.holdsTable := true
    mac.tableNext := false
    mac.coming := none
    mac.tgen := gen % 256 }.set MAC_ALLOCCTL_TGEN gen).set MAC_ALLOCCTL_CDOWN 0

/-- A table will come into force at the start of the `c`-th following beacon period. -/
def State.tableIn (s : State) (c : Nat) (t : List Alloc) (gen : Nat) : State :=
  { s with
    mac.coming := some (c, t)
    mac.tgen := gen % 256 }.set MAC_ALLOCCTL_CDOWN (min 3 c)

/-! ## Presence (R215, R238) -/

/-- R215: STATE of a partner, and NABSENT of its session in the same tick. -/
def State.setPresence (s : State) (addr st : Nat) : State :=
  let v := s.dirOf addr
  let k := sub v dSESSION
  let s1 := s.setDirOf addr (withSub v dSTATE st)
  let s2 := if k = 0 then s1 else s1.setSes k (withSub (s1.ses k) sNABSENT (if st = 2 then 1 else 0))
  s2.notifyPresence st addr

/-- R27, R262: the directory entry of an address may be used: its page is not quarantined, and on the NF9704-T its
index exists (R266). -/
def State.dirUsable (s : State) (addr : Nat) : Bool :=
  !s.pQuar (s.dirIndex addr) && decide (s.dirIndex addr < s.dirCount)

/-- R215, R238: a good frame of any kind from a neighbour: LASTRX. -/
def State.heard (s : State) (addr : Nat) : State :=
  let v := s.dirOf addr
  if sub v dSTATE = 0 || !s.dirUsable addr then s
  else s.setDirOf addr (withSub v dLASTRX (s.mac.period % 2 ^ 32))

/-- R215: an absent partner becomes present again at its next authenticated frame. -/
def State.proved (s : State) (addr : Nat) : State :=
  if sub (s.dirOf addr) dSTATE = 2 then s.setPresence addr 1 else s

/-! ## Control sequences (R229) -/

/-- What R229 decides. -/
inductive SeqVerdict where
  | fresh
  | duplicate
  | outside
  deriving DecidableEq, Repr

/-- R229: the verdict on control sequence `x` from a neighbour, and the state it leaves. -/
def State.judgeSeq (s : State) (addr x : Nat) : SeqVerdict × State :=
  let v := s.dirOf addr
  let top := sub v dCSEQS
  let map := sub v dCMAP
  let d := (x + 65536 - top) % 65536
  let e := (top + 65536 - x) % 65536
  if 1 ≤ d ∧ d ≤ 32767 then
    (.fresh, s.setDirOf addr (withSub (withSub v dCSEQS x) dCMAP (map * 2 ^ d + 1)))
  else if e ≤ 63 then
    if bitN map e then (.duplicate, s)
    else (.fresh, s.setDirOf addr (withSub v dCMAP (map + 2 ^ e)))
  else (.outside, s.fire 151 addr)

/-! ## Acknowledgements to be sent (R223) -/

/-- The sweep mode k of a received frame, 0 for an OFDM frame. -/
def RxFrame.swk (f : RxFrame) : Nat := if f.sweep then f.mode + 1 else 0

/-- R223: an ACK is owed for a frame that asks for one and is addressed to this device. -/
def State.planAck (s : State) (n : Nat) (f : RxFrame) (dup poll : Bool) : State :=
  if f.lfc.ackreq && f.lfc.dst == s.ownAddr then
    let l : Lfc := { ftype := 1, dup := dup, src := f.lfc.dst, dst := f.lfc.src, seq := f.lfc.seq,
                     esrc := f.lfc.dst, edst := f.lfc.src }
    s.setTxPort n { s.txPort n with ack := some ⟨l, f.endTick, f.swk, poll⟩ }
  else s

/-- R236, R237: a frame is held for a neighbour: some unicast queue of its session holds one that is not yet
launched. `but`: a frame not counted. -/
def State.heldFor (s : State) (addr : Nat) (but : Option Nat) : Bool :=
  s.blv.frames.any (fun e => decide (e.1 < 2 ^ 20) && sub (s.queue e.1) qBCAST == 0
    && sub (s.ses (sub (s.queue e.1) qSESSION)) sNEIGH == addr
    && e.2.any (fun f => !f.awaiting && some f.id != but))

/-! ## Frames of the MAC's own (R254) -/

/-- A frame of the MAC takes its cells at class 0 and is linked onto the internal control queue of port `n`. -/
def State.sendMac (s : State) (n phy : Nat) (l : Lfc) (body : List Byte) : State :=
  let k := cellsOf body.length
  if s.admitsCells 0 k then
    (s.takeCells k).linkFrame (ctrlQueue n) { id := 0, body := body, phy := phy, lfc := l }
  else s.countNoCell false

/-- R211, R231: a knock to the sender of a beacon, on port `n`. -/
def State.sendKnock (s : State) (n to_ knockId : Nat) : State :=
  let cap := b2n (s.mode == mRepeater) + 4 * b2n (s.joint n)
  s.sendMac n 0 { ftype := 3, src := addrNone, dst := to_, esrc := addrNone, edst := to_ }
    (leBytes 8 (sub (s.dirEnt 0) dEUI) ++ leBytes 3 (s.get MAC_DOMAIN_DOMAIN) ++ [BitVec.ofNat 8 cap]
      ++ leBytes 4 knockId)

/-- Table 10-4: a keep-alive to the parent. -/
def State.sendKeepalive (s : State) : State :=
  let s1 := s.sendCtrl (s.get MAC_SFSTAT_PPORT) s.parent true [1]
  { s1 with mac.sentTo := put s.parent s.tick s1.mac.sentTo }

/-- Table 10-4: an answer to a joining device: ADMIT, PENDING or REJECT, neither acknowledged nor sequenced. -/
def State.sendAnswer (s : State) (n subtype eui : Nat) (rest : List Byte) : State :=
  s.sendCtrl n addrNone false (BitVec.ofNat 8 subtype :: leBytes 8 eui ++ rest)

/-! ## Frames for the host (R254, R256, R296) -/

/-- R256: cells for a received frame, by its class. -/
def State.admitRx (s : State) (c len : Nat) : Bool × State :=
  let k := cellsOf len
  if s.admitsCells c k then (true, s.takeCells k) else (false, s.countNoCell true)

/-- R296: a frame in RX cells waits for a buffer of its class. -/
def State.toHost (s : State) (f : RxFrame) (body : List Byte) (cls ses : Nat) (failed : Bool) : State :=
  { s with hif.deliveries := s.hif.deliveries ++ [{
      frame := { f with cells := cellsOf body.length }
      body := body
      cls := cls
      session := ses
      since := s.tick
      failed := failed }] }

/-- A received frame without a session, for the host: its cells are taken now. -/
def State.tunnel (s : State) (f : RxFrame) (cls : Nat) : State :=
  let (ok, s1) := s.admitRx cls f.payload.length
  if ok then s1.toHost f f.payload cls 0 false else s1

/-! ## Joining (R211, R217) -/

/-- A join attempt ends in failure: it is reported and scanning resumes. -/
def State.joinFail (s : State) (why : Nat) : State :=
  let s1 := { (s.notify 2 why []).noTable with
    mac.knock := none
    mac.ref := none
    mac.beacon := none }
  ((s1.setSfState sfSCAN).set MAC_PARENT_ADDR addrNone).set MAC_PARENT_HOP 0

/-- Table 13-9: PARENT. -/
def State.notifyParent (s : State) (addr hop : Nat) : State := s.notify 4 0 [addr + hop * 2 ^ 25]

/-! ## Packets of a receive instance -/

/-- The frame at the front of port `n`'s receive instance. -/
def State.rxFront (s : State) (n : Nat) : Option RxFrame :=
  match s.arcFront (2 * n) with
  | some p =>
    match p.load with
    | .rx f => some f
    | .tx _ _ => none
  | none => none

/-- The MAC takes the frame at the front, if it meets a test; whatever becomes of it, it is a good frame of its sender
(R215). -/
def State.takeRx (s : State) (n : Nat) (want : RxFrame → Bool) (act : RxFrame → State → State) : State :=
  match s.rxFront n with
  | some f => if want f then act f ((s.arcRead (2 * n)).heard f.lfc.src) else s
  | none => s

end Sys2Proof.Machine
end

