-- ==== Sys2Proof/Machine/Superframe.lean ====
section
/-! DEFINITION. Chapter 09: the meanings of the commands of the mains-locked frame: superframes, slots, beacon
periods, beacons and allocations. -/

namespace Sys2Proof.Machine

/-! ## Beacon periods (R200, R206, R207, R216 to R219) -/

/-- R205, R216: a miss is decided for the present beacon period. -/
def State.missBeacon (s : State) : State :=
  let m := satAdd 4 (s.get MAC_SFSTAT_MISS) 1
  let s1 := ((s.set MAC_SFSTAT_MISS m).bump MAC_BCNRX_MISSED).fire 187 m
  { s1 with
    mac.missed := some s.mac.period
    mac.winPend := false }

/-- R206, R207: a pending table comes one period nearer; a table that an orphan has taken is used from now on (R217). -/
def State.countDown (s : State) : State :=
  match s.mac.coming with
  | some (c, t) => if c ≤ 1 then s.tableNow t s.mac.tgen else s.tableIn (c - 1) t s.mac.tgen
  | none => if s.mac.tableNext then { s with
      mac.holdsTable := true
      mac.tableNext := false } else s

/-- An automatic change of mode between REPEATER and ISLAND (R218, R219, R425). -/
def State.autoMode (s : State) (m : Nat) : State :=
  ((s.set SYS_MODESTAT_MODE m).set HIF_MBXSTAT_MODE m).fire 457 m

/-- R218: a repeater whose miss count reaches 11 becomes an island. -/
def State.toIsland (s : State) : State :=
  if s.mode = mRepeater ∧ s.flag MAC_SFCFG_ISLAND_EN ∧ s.get MAC_SFSTAT_MISS = 11 then
    ({ s with
      mac.rejoin := 0
      mac.rejoinTo := none }.setSfState sfISLAND).autoMode mIsland
  else s

/-- R216: in orphan scan a miss is due at a period's start for the period that has just ended, unless one was. -/
def State.orphanMiss (s : State) (ended : Nat) : State :=
  if s.isChild && s.sfState == sfORPHAN && s.mac.missed != some ended then { s with mac.winPend := true } else s

/-- R216, R218, R220: the miss due in orphan scan is decided after every beacon of the tick: ES187 comes after ES186
(Table 09-3). -/
def State.orphanDecide (s : State) : State :=
  if s.mac.winPend && s.sfState == sfORPHAN then
    ({ s.missBeacon with mac.missed := some (s.mac.period - 1) }).toIsland
  else s

/-- R201: DELTA under FOLLOW = MAINS: the instant of S_REF less the device's own crossing of the same superframe,
in 2^-16 tick. -/
def State.takeDelta (s : State) (b : Beacon) : State :=
  match (s.ms (s.get TIM_MSCTL_REF)).lastPos with
  | some t =>
    let p : Int := s.sfPeriod
    let at_ : Int := (s.tick * 65536 : Nat) + ((stampVal b.sref : Int) - s.parentTime) * 65536 / s.tbRate 1
    let d := at_ - t
    let r := if p = 0 then d else d - p * ((2 * d + p) / (2 * p))
    { s with mac.delta := r }
  | none => s

/-- R217, R219: the sender of a beacon on port `n` becomes the parent. -/
def State.adopt (s : State) (b : Beacon) : State :=
  (((s.set MAC_PARENT_ADDR b.sender).set MAC_PARENT_HOP b.hop).setSfState sfATTACHED).set MAC_SFSTAT_MISS 0

/-- R219: the island returns to REPEATER under the sender of that beacon and takes its superframe and SFN in one
step; TB1 leaves holdover (R366). -/
def State.rejoinNow (s : State) (b : Beacon) : State :=
  let k := (s.parentTime - stampVal b.sref) / (if Beacon.len b = 0 then 1 else Beacon.len b : Nat)
  let sfn := unsigned 32 ((b.sfn : Int) + k)
  let gone := (s.parentTime - stampVal b.sref - k * Beacon.len b) / (8 * q48 : Nat)
  let s1 := (s.adopt b).autoMode mRepeater
  let s2 := { s1 with
    mac.rejoin := 0
    mac.rejoinTo := none
    mac.beacon := some b
    mac.ref := some b
    mac.start := some (s.tick - gone.toNat)
    mac.holdsTable := false
    mac.periodSf := sfn }.set MAC_SFN_SFN sfn
  ((s2.takeDelta b).setHold 1 false).notifyParent b.sender b.hop

/-- R219: REJOIN counts 3, 2, 1 in the next three periods; at the start of the one after, the island returns. -/
def State.rejoinStep (s : State) : State :=
  if s.mode = mIsland ∧ s.mac.rejoin ≠ 0 then
    match s.mac.rejoinTo with
    | some b => if s.mac.rejoin = 1 then s.rejoinNow b else { s with mac.rejoin := s.mac.rejoin - 1 }
    | none => s
  else s

/-- R211: a period without an answer to the knock. -/
def State.knockPeriod (s : State) : State :=
  { s with mac.knock := s.mac.knock.map (fun k => { k with periods := k.periods + 1 }) }

/-- BEACON_PERIOD_START (R200): ES183; pending tables, misses of an orphan and rejoin steps take effect. -/
def State.periodBegins (s : State) : State :=
  let ended := s.mac.period
  let s1 := { s with
    mac.periodSf := s.get MAC_SFN_SFN
    mac.periodStart := s.tick
    mac.periodRef := s.stampNow 1 0 }.fire 183 ((s.bpLess1 + 1) % 16)
  let s2 := (s1.countDown.knockPeriod).orphanMiss ended
  { s2 with mac.period := ended + 1 }.rejoinStep

/-! ## Superframes (R197 to R201) -/

/-- R200: a beacon period starts with the superframe that now begins. -/
def State.periodDue (s : State) (first : Bool) : Bool :=
  let sfn := s.get MAC_SFN_SFN
  if s.mode = mCoordinator ∨ s.mode = mIsland then
    first || decide (s.bpLess1 + 1 ≤ (sfn + 2 ^ 32 - s.mac.periodSf) % 2 ^ 32)
  else if s.follows then
    (match s.mac.ref with
     | some b => (sfn + 2 ^ 32 - b.sfn % 2 ^ 32) % 2 ^ 32 % (b.bp + 1) == 0
     | none => false)
  else false

/-- R200, R201: the number of the superframe that now begins. -/
def State.nextSfn (s : State) (first : Bool) : Nat :=
  match s.mac.ref with
  | some b =>
    if s.follows then unsigned 32 ((b.sfn : Int) + s.nearestFrame b) else s.get MAC_SFN_SFN + 1
  | none => if first ∧ s.mode = mCoordinator then s.time.cyc % 2 ^ 32 else s.get MAC_SFN_SFN + 1

/-- R197, R370: superframe j + 1 starts in this tick. -/
def State.sfStart (s : State) : State :=
  let first := s.mac.start.isNone
  let s1 := (match s.mac.start with
    | some a => s.sfJudge a
    | none => s)
  let s2 := if s1.isChild && decide (2 ≤ s1.sfState) then { s1 with mac.ref := s1.mac.beacon } else s1
  let s3 := { s2 with
    mac.start := some s.tick
    mac.pHat := s.sfPeriod
    mac.cross := s.mac.cross.filter (fun c => decide (s.tick ≤ c.1)) }
  let s4 := (((s3.set MAC_SFN_SFN (s2.nextSfn first)).set MAC_SFSTAT_SLOT 0).fire 182 0).syncOut 2
  if s4.periodDue first then s4.periodBegins else s4

/-- SUPERFRAME_START (R197 to R201). -/
def execSuperframeStart (s : State) : Host.Outcome State Fault Refusal :=
  .next (if s.sfDue then s.sfStart else s)

/-- SLOT_BOUNDARY (R198): slots 1 to 5; slot 0 begins with the superframe. -/
def execSlotBoundary (s : State) : Host.Outcome State Fault Refusal :=
  .next (match s.mac.start with
  | some a =>
    let m := s.get MAC_SFSTAT_SLOT + 1
    if s.keepsFrame && decide (m ≤ 5) && decide (slotStart a s.mac.pHat m ≤ s.tick) then
      (s.set MAC_SFSTAT_SLOT m).fire 182 m
    else s
  | none => s)

/-! ## Sending beacons (R202, R203, R365) -/

/-- R202: the device sends beacons. -/
def State.beacons (s : State) : Bool :=
  !s.busy && (s.mode == mCoordinator || s.mode == mIsland
    || (s.mode == mRepeater && (s.sfState == sfATTACHED || s.sfState == sfORPHAN)))

/-- R202: the launch tick of this period's beacon. -/
def State.beaconTick (s : State) : Nat :=
  s.mac.periodStart + s.get MAC_SFCFG_BOFS * 500 + s.get MAC_SFSTAT_BIDX * s.get MAC_BCNCFG2_BSPACE * tUs

/-- R365: the bound ERR in 16 ns. -/
def State.timeErr (s : State) (m : PhyMap) : Nat :=
  if s.mode = mCoordinator then 0
  else
    let up := (match s.mac.beacon with
      | some b => b.timeq / 2 ^ 8 % 2 ^ 16
      | none => 0xFFFF)
    if !s.flag TIM_HOP_VALID then 0xFFFF
    else
      let hop := if s.profile (s.get MAC_SFSTAT_PPORT) = pfBB ∧ m.swk = 0 then 30 else 150
      let drift := if s.tbHold 1 then (s.tick - s.time.tb1.acc) / 1250000 else 0
      min 0xFFFF (up + ceilDiv (hop + drift) 16)

/-- R365: TIMEQ. -/
def State.timeQ (s : State) (m : PhyMap) : Nat :=
  let tb0 := s.flag TIM_TB1CFG_SRC && s.tbValid 0 && !s.tbHold 0
  let own := s.mode == mCoordinator || s.mode == mIsland
  let g := if own then (if tb0 then s.get TIM_TB1CFG_GCLASS else 248)
    else (match s.mac.beacon with
      | some b => b.timeq % 256
      | none => 248)
  let src := if own then (if tb0 then 1 else 0) else 2
  g + 2 ^ 8 * s.timeErr m + 2 ^ 24 * b2n (s.tbHold 1) + 2 ^ 25 * src

/-- R203, R207: the table a beacon carries, with its CDOWN and TGEN: the pending one from the first of its three
periods on, else the one in force. -/
def State.carriedNow (s : State) : Nat × Nat × List Alloc :=
  match s.mac.coming with
  | some (c, t) => if c ≤ 3 then (c, s.mac.tgen, t) else (0, s.get MAC_ALLOCCTL_TGEN, s.mac.inForce)
  | none => (0, s.mac.tgen, s.mac.inForce)

/-- R203: the entries a beacon on port `n` carries. -/
def State.carried (s : State) (n : Nat) : List Alloc := s.carriedNow.2.2.filter (fun e => bitN e.ports n)

/-- What a repeater copies from its parent's latest beacon, else its own. -/
def upOr {α : Type} (last : Option Beacon) (own : α) (f : Beacon → α) : α :=
  match last with
  | some b => f b
  | none => own

/-- Table 09-1: the beacon of port `n`, sent on a map. -/
def State.beaconOf (s : State) (n : Nat) (m : PhyMap) : Beacon :=
  let coord := s.mode == mCoordinator
  let isl := s.mode == mIsland
  let last := if coord || isl then none else s.mac.beacon
  { domain := upOr last (s.get MAC_DOMAIN_DOMAIN) (fun b => b.domain)
    island := isl
    joinOpen := if coord then s.flag MAC_DOMAIN_JOIN_OPEN else upOr last false (fun b => b.joinOpen)
    hold := s.sfState == sfORPHAN || upOr last false (fun b => b.hold)
    rejoin := if isl then s.mac.rejoin % 4 else upOr last 0 (fun b => b.rejoin)
    sender := s.ownAddr
    hop := upOr last 0 (fun b => b.hop + 1)
    sfn := upOr last s.mac.periodSf (fun b => b.sfn)
    bp := upOr last s.bpLess1 (fun b => b.bp)
    bidx := s.get MAC_SFSTAT_BIDX
    tgen := s.carriedNow.2.1
    cdown := s.carriedNow.1
    sref := upOr last s.mac.periodRef (fun b => b.sref)
    period := if s.follows && !s.flag MAC_SFCFG_FOLLOW then upOr last (s.sfPeriod * 128 / 65536) (fun b => b.period)
      else s.sfPeriod * 128 / 65536
    timeq := s.timeQ m
    table := s.carried n }

/-- R118, R202: the map of a beacon: the default map without DEFSW, or the sweep mode of BMODE. -/
def State.beaconMap (s : State) (n : Nat) : PhyMap :=
  let m := s.get MAC_BCNCFG_BMODE
  if m = 0 then defaultMap (s.get (PRT_WAVE_DEFMODE n)) 0
  else { mode := 3 + m, rate := 0, blk := false, gi := 0, streams := 1, bps := 0, tmap := 6, gen := 0 }

/-- R165: the driver is ready for a launch whose tick was known ahead: in TX mode LDENn is asserted LEAD before. -/
def State.ldPlanned (s : State) (n : Nat) : Bool :=
  s.ldReady n || (s.get (PRT_LDCTL_LDMODE n) == 1 && !(s.flag (PRT_LDCTL_FLT_OFF n) && s.flag (PRT_LDCTL_FAULT n)))

/-- R156: port `n` is free for a frame of the MAC itself. -/
def State.lineFree (s : State) (n : Nat) : Bool :=
  (s.airOf n).isNone && (s.txPort n).win.isNone && !s.preempted n && s.faultFree n

/-- R168: DATA of the launch of a frame that is not a data frame. -/
def macLaunchData (m : PhyMap) : Nat := m.mode + 32 * b2n (m.tmap == 6) + 64 * m.tmap

/-- R202: the beacon of port `n` is sent in this tick, or skipped. -/
def State.sendBeacon (s : State) (n : Nat) : State :=
  let m := s.beaconMap n
  let b := s.beaconOf n m
  let len := 44 + 8 * b.table.length
  let can := m.swk != 0 || buildable (s.profile n) (s.openCarriers n false).length m
  let dur := s.durOf n false len m
  let r := s.rangeOf n false m
  if can && s.lineFree n && s.ldPlanned n && (s.dwellCheck n r.1 r.2 s.tick dur).1 == .pass then
    let a : Air := { kind := .beacon b, start := s.tick, stop := s.tick + dur, mode := m.mode, aw := 0, lo := r.1,
                     hi := r.2, full := s.tick + dur }
    ((s.airBegin n a (macLaunchData m)).bump MAC_BCNCNT_SENT).set TIM_TIMEQ_TIMEQ b.timeq
  else s.bump MAC_BCNCNT_SKIP

/-- BEACON_LAUNCH (R202): on a beacon port, in the launch tick. -/
def execBeaconLaunch (n : Fin 16) (s : State) : Host.Outcome State Fault Refusal :=
  .next (
    let p := s.profile n
    if s.beacons && decide (n.val < s.ports) && bitN (s.get MAC_BCNCFG_PORTS) n
        && (p == pfBB || p == pfHV || p == pfCen) && s.mac.start.isSome && s.beaconTick == s.tick then
      s.sendBeacon n
    else s)

/-! ## The receive window (R204, R205, R216) -/

/-- R204: the preamble of a beacon in ticks. -/
def State.beaconPre (s : State) (n : Nat) : Nat :=
  let m := s.get MAC_BCNCFG_BMODE
  if m = 0 then tPre (s.profile n) else 10 * sweepSymbol (s.profile n) (4 + m)

/-- R204: the window for the beacon of the period that starts in tick `p`: its edges. -/
def State.windowAt (s : State) (p : Nat) : Nat × Nat :=
  let n := s.get MAC_SFSTAT_PPORT
  let bidx := (match s.mac.beacon with
    | some b => b.bidx
    | none => 0)
  let tb := p + s.get MAC_SFCFG_BOFS * 500 + bidx * s.get MAC_BCNCFG2_BSPACE * tUs
  let k := (s.get MAC_BCNCFG_BMODE + 4) * b2n (s.get MAC_BCNCFG_BMODE != 0)
  let e := tb + s.beaconPre n + (s.delayOf n s.parentSes tb k).1
  let w := 500 * s.get MAC_BCNCFG_BWIN * 2 ^ min (s.get MAC_SFSTAT_MISS) 2
  (e - w, e + w)

/-- R204: the window that opens now: of this period's beacon or, where it is wide, of the next one's. -/
def State.windowDue (s : State) : Option (Nat × Nat) :=
  [s.mac.periodStart, s.mac.periodStart + s.periodTicks].findSome? (fun p =>
    let w := s.windowAt p
    if w.1 ≤ s.tick ∧ s.tick < w.2 ∧ s.mac.winEnd ≤ w.1 then some w else none)

/-- BEACON_WINDOW_OPEN (R204). -/
def execBeaconWindowOpen (s : State) : Host.Outcome State Fault Refusal :=
  .next (if s.isChild && s.sfState == sfATTACHED && s.mac.start.isSome && !s.mac.winOpen then
    match s.windowDue with
    | some w =>
      { s with
        mac.winOpen := true
        mac.winHit := false
        mac.winPend := false
        mac.winStart := w.1
        mac.winEnd := w.2 }.fire 184
    | none => s
  else s)

/-- R205: a frame detected inside the window is not over: in reception, in decoding, or not yet read. -/
def State.windowBusy (s : State) : Bool :=
  (List.range 16).any (fun n => bitN (s.get MAC_BCNCFG_PORTS) n &&
    ((s.rxPort n).frames.any (fun a => decide (s.mac.winStart ≤ a.tdet) && decide (a.tdet < s.mac.winEnd)) ||
     (s.arcOf (2 * n)).packets.any (fun p => match p.load with
       | .rx f => f.phy == 2 && decide (s.mac.winStart ≤ f.tdet) && decide (f.tdet < s.mac.winEnd)
       | .tx _ _ => false)))

/-- R216: at the third consecutive miss the device enters orphan scan, and TB1 holdover (R366). -/
def State.orphanScan (s : State) : State :=
  if s.get MAC_SFSTAT_MISS = 3 then (s.setSfState sfORPHAN).setHold 1 true else s

/-- R205: a window that is closed without the parent's beacon, once no frame of it is left, is a miss. -/
def State.decideMiss (s : State) : State :=
  if s.mac.winPend && s.sfState != sfORPHAN && !s.windowBusy then s.missBeacon.orphanScan else s

/-- BEACON_WINDOW_CLOSE (R204, R205): ES185; the miss, where one is decided. Sent again, it decides a miss that had
to wait for the last frame of the window, and in orphan scan the one due since the period began (R216). -/
def execBeaconWindowClose (s : State) : Host.Outcome State Fault Refusal :=
  .next (if s.mac.winOpen && decide (s.mac.winEnd ≤ s.tick) then
    { s with
      mac.winOpen := false
      mac.winPend := !s.mac.winHit && s.sfState == sfATTACHED }.fire 185 |>.decideMiss
  else s.decideMiss.orphanDecide)

/-! ## Received beacons (R201, R205, R206, R211, R217, R219, R363) -/

/-- Table 09-1: an allocation entry of a beacon. It holds for every port of its receiver. -/
def parseAlloc (b : List Byte) : Alloc :=
  let w := leNat (b.take 4)
  let v := leNat ((b.drop 4).take 4)
  { owner := w % 2 ^ 25, slots := w / 2 ^ 25 % 64, start := v % 2 ^ 10, stop := v / 2 ^ 10 % 2 ^ 10,
    classes := v / 2 ^ 20 % 256, ports := 0xFFFF }

/-- The allocation entries of a beacon. -/
def parseTable (n : Nat) (b : List Byte) : List Alloc :=
  match n with
  | 0 => []
  | k + 1 => parseAlloc b :: parseTable k (b.drop 8)

/-- Table 09-1: a beacon read from its payload. -/
def parseBeacon (p : List Byte) : Option Beacon :=
  let g := fun off n => leNat ((p.drop off).take n)
  let w0 := g 0 4
  let w1 := g 4 4
  let count := g 13 1 % 128
  if p.length < 40 + 8 * count ∨ 64 < count then none
  else some
    { domain := w0 % 2 ^ 24, island := bitN w0 24, joinOpen := bitN w0 25, hold := bitN w0 26,
      rejoin := w0 / 2 ^ 27 % 4, sender := w1 % 2 ^ 25, hop := w1 / 2 ^ 25 % 16, sfn := g 8 4, bp := g 12 1 % 16,
      bidx := g 12 1 / 16, tgen := g 14 1, cdown := g 15 1 % 4, sref := g 16 16, period := g 32 4, timeq := g 36 4,
      table := parseTable count (p.drop 40) }

/-- R206, R217: a table carried by a beacon: in force at once under CDOWN 0, else pending. A device that leaves orphan
scan uses it from the next beacon period on. -/
def State.takeTable (s : State) (b : Beacon) (orphan : Bool) : State :=
  let s1 := if b.cdown = 0 then s.tableNow b.table b.tgen else s.tableIn b.cdown b.table b.tgen
  if orphan then { s1 with
    mac.holdsTable := false
    mac.tableNext := b.cdown == 0 } else s1

/-- R363: the sender's pin instant of a beacon in TB1 at the receiver, and how long ago it was (2^-48 ns). -/
def State.beaconPin (s : State) (n : Nat) (f : RxFrame) (b : Beacon) : Nat × Int :=
  let ns : Nat := s.get MAC_SFCFG_BOFS * 4000 + b.bidx * s.get MAC_BCNCFG2_BSPACE * 1000 + 8
  (stampVal b.sref + ns * q48 + s.get TIM_HOP_HOPDLY * 2 ^ 44,
    ((s.tick : Int) - f.tdet + lambdaTicks (s.profile n) f.swk) * (8 * q48 : Nat) - f.det.sub * 2 ^ 32)

/-- R363: theta of a beacon. -/
def State.beaconTheta (s : State) (n : Nat) (f : RxFrame) (b : Beacon) : Int :=
  let (target, back) := s.beaconPin n f b
  (target : Int) - (if f.det.arrived = 0 then (s.tb 1).val - back else f.det.arrived)

/-- R363: PTOFS takes a value. -/
def State.setPt (s : State) (p : Int) : State := { s with time.ptofs := p }.setI TIM_PTOFS_PTOFS (p / 2 ^ 44)

/-- R363: TB1 is corrected by the beacon of a frame on port `n`. -/
def State.correctTb1 (s : State) (n : Nat) (f : RxFrame) (b : Beacon) : State :=
  let theta := s.beaconTheta n f b
  let was := s.tbValid 1
  let (ok, s1) := s.correct 1 theta (((s.beaconPin n f b).1 : Int) + (s.beaconPin n f b).2).toNat
  let per : Int := ((b.bp + 1) * Beacon.len b : Nat)
  let s2 := if was && ok && per != 0 then
      s1.setI (TIM_TBFREQ_FREQ 1)
        (clampFreq (s1.getI (TIM_TBFREQ_FREQ 1) + theta * 2 ^ 42 / (2 ^ s.get TIM_TB1CFG_FGAIN * per)))
    else s1
  let s3 := if ok then s2.setTb 1 { s2.tb 1 with acc := s.tick } else s2
  s3.setPt (if was then theta else 0)

/-- R206: what a beacon of the parent brings. -/
def State.takeBeacon (s : State) (n : Nat) (f : RxFrame) (b : Beacon) (orphan : Bool) : State :=
  let s1 := ({ s with mac.beacon := some b }.takeTable b orphan).correctTb1 n f b
  ((s1.takeDelta b).set MAC_SFSTAT_PPORT n).set MAC_PARENT_HOP b.hop

/-- R205: the parent's beacon is received for its window. -/
def State.parentBeacon (s : State) (n : Nat) (f : RxFrame) (b : Beacon) : State :=
  let s1 := (({ s with mac.winHit := true, mac.winPend := false }.fire 186 n).set MAC_SFSTAT_MISS 0).bump MAC_BCNRX_RX
  s1.takeBeacon n f b false

/-- R217: an orphan adopts the sender of a beacon; TB1 leaves holdover. -/
def State.orphanBeacon (s : State) (n : Nat) (f : RxFrame) (b : Beacon) : State :=
  if s.mode = mRepeater ∧ b.island then s
  else
    let s1 := (({ s with mac.winPend := false }.fire 186 n).bump MAC_BCNRX_RX).adopt b
    ((s1.setHold 1 false).takeBeacon n f b true).notifyParent b.sender b.hop

/-- R211: on the first joinable beacon of its domain, a device without an address knocks; one that has an address
attaches. -/
def State.scanBeacon (s : State) (n : Nat) (f : RxFrame) (b : Beacon) : State :=
  if sub (s.dirEnt 0) dADDR2 ≠ addrNone then
    if s.mode = mRepeater ∧ b.island then s
    else
      let s1 := ((s.fire 186 n).bump MAC_BCNRX_RX).adopt b
      (s1.takeBeacon n f b false).notifyParent b.sender b.hop
  else if b.joinOpen then
    let (id, s1) := s.takeFree (2 ^ 32)
    let s2 := { s1 with mac.knock := some ⟨id, 0, 0⟩ }.setSfState sfJOINING
    let s3 := (s2.set MAC_PARENT_ADDR b.sender).takeBeacon n f b false
    s3.sendKnock n b.sender id
  else s

/-- R219: an island hears a beacon of its domain that is no island's; PTOFS takes theta, so that the superframe can
follow that sender (log entry 79). -/
def State.islandBeacon (s : State) (n : Nat) (f : RxFrame) (b : Beacon) : State :=
  if b.island then s
  else if s.mac.rejoin = 0 then { s with
    mac.rejoin := 4
    mac.rejoinTo := some b }.setPt (if s.tbValid 1 then s.beaconTheta n f b else 0)
  else s

/-- R205, R211, R216, R217, R219: a good beacon received on port `n`. -/
def State.gotBeacon (s : State) (n : Nat) (f : RxFrame) (b : Beacon) : State :=
  let mine := bitN (s.get MAC_BCNCFG_PORTS) n && b.domain == s.get MAC_DOMAIN_DOMAIN
  if !mine then s
  else if s.mode = mIsland then s.islandBeacon n f b
  else if s.isChild then
    let st := s.sfState
    if st = sfSCAN then s.scanBeacon n f b
    else if st = sfJOINING then
      (if b.sender = s.parent then s.takeBeacon n f b false else s)
    else if st = sfORPHAN then s.orphanBeacon n f b
    else if st = sfATTACHED ∧ b.sender = s.parent ∧ s.mac.winStart ≤ f.tdet ∧ f.tdet < s.mac.winEnd
        ∧ (s.mac.winOpen ∨ s.mac.winPend) then s.parentBeacon n f b
    else s
  else s

/-- BEACON_RECEIVED (R205). A miss that waited for this frame is then decided. -/
def execBeaconReceived (n : Fin 16) (s : State) : Host.Outcome State Fault Refusal :=
  .next (s.takeRx n (fun f => f.phy == 2) (fun f t =>
    (match parseBeacon f.payload with
     | some b => t.gotBeacon n f b
     | none => t).decideMiss))

/-! ## Allocations and configuration (R207, R426) -/

/-- R207: a COMMIT that is refused. The entry is open where no entry causes the refusal. -/
def State.commitRefused (s : State) : State :=
  match s.badEntry with
  | some k => (s.raiseFlag MAC_ALLOCCTL_REFUSED).set MAC_ALLOCCTL_BADENTRY k
  | none =>
    let (k, s1) := s.takeFree 64
    (s1.raiseFlag MAC_ALLOCCTL_REFUSED).set MAC_ALLOCCTL_BADENTRY k

/-- R207: COMMIT. An accepted one is carried with CDOWN 3 from the next beacon period. -/
def State.allocCommit (s : State) : State :=
  if s.mac.coming.isSome || !(s.mode == mCoordinator || s.mode == mIsland) || s.badEntry.isSome then
    s.commitRefused
  else
    (s.tableIn 4 (s.shadowTable.map (fun x => x.2)) (s.mac.tgen + 1)).set MAC_ALLOCCTL_REFUSED 0

/-- ALLOC_COMMIT (R207). -/
def execAllocCommit (s : State) : Host.Outcome State Fault Refusal :=
  .next (s.hostWrite 0 a_MAC_ALLOCCTL State.allocCommit)

/-- The key of a STANDBY-only MAC register. -/
def macKey (r : MacReg) : Nat :=
  match r with
  | .sfcfg => a_MAC_SFCFG
  | .bcncfg => a_MAC_BCNCFG
  | .bcncfg2 => a_MAC_BCNCFG2
  | .domain => a_MAC_DOMAIN
  | .csma => a_MAC_CSMA
  | .join => a_MAC_JOIN
  | .presence => a_MAC_PRESENCE

/-- A field takes a written value, unless it is one that leaves it unchanged. -/
def State.keep (s : State) (f : Field) (w : Word) (bad : Nat → Bool) : State :=
  let v := bits w f.lo f.w
  if bad v then s else s.set f v

/-- A field that takes any value. -/
def anyValue (_ : Nat) : Bool := false
def isZero (v : Nat) : Bool := v == 0

/-- Tables 09-4 to 09-10: what a write stores, by register. -/
def State.macStore (s : State) (r : MacReg) (w : Word) : State :=
  match r with
  | .sfcfg =>
    ((((s.keep MAC_SFCFG_FOLLOW w anyValue).keep MAC_SFCFG_BP w anyValue).keep MAC_SFCFG_BOFS w anyValue).keep
      MAC_SFCFG_MAXSTEP w isZero).keep MAC_SFCFG_ISLAND_EN w anyValue
  | .bcncfg =>
    ((s.keep MAC_BCNCFG_PORTS w anyValue).keep MAC_BCNCFG_BMODE w (fun v => decide (9 ≤ v))).keep MAC_BCNCFG_BWIN w
      isZero
  | .bcncfg2 => (s.keep MAC_BCNCFG2_BSPACE w anyValue).keep MAC_BCNCFG2_BREG w isZero
  | .domain => (s.keep MAC_DOMAIN_DOMAIN w anyValue).keep MAC_DOMAIN_JOIN_OPEN w anyValue
  | .csma =>
    let big := fun (v : Nat) => decide (10 < v)
    let s1 := (((s.keep MAC_CSMA_CWMIN0 w big).keep MAC_CSMA_CWMAX0 w anyValue).keep MAC_CSMA_CWMIN1 w big).keep
      MAC_CSMA_CWMAX1 w anyValue
    (((s1.keep MAC_CSMA_CWMIN2 w big).keep MAC_CSMA_CWMAX2 w anyValue).keep MAC_CSMA_CWMIN3 w big).keep
      MAC_CSMA_CWMAX3 w anyValue
  | .join =>
    (((s.keep MAC_JOIN_KMODE w anyValue).keep MAC_JOIN_KRETRY w anyValue).keep MAC_JOIN_KTO w isZero).keep
      MAC_JOIN_JOINMAX w anyValue
  | .presence => (s.keep MAC_PRESENCE_KA_INT w isZero).keep MAC_PRESENCE_KA_MISS w isZero

/-- R426: in STANDBY the write is applied; otherwise it changes nothing and sets REFUSED, but JOIN_OPEN is
writable in any mode: there a write that leaves DOMAIN as it is is no refusal. -/
def State.macWrite (s : State) (r : MacReg) (w : Word) : State :=
  if s.standbyOk then s.macStore r w
  else if r = .domain then
    let s1 := s.keep MAC_DOMAIN_JOIN_OPEN w anyValue
    if bits w 0 24 = s.get MAC_DOMAIN_DOMAIN then s1 else s1.raiseFlag MAC_SFSTAT_REFUSED
  else s.raiseFlag MAC_SFSTAT_REFUSED

/-- MAC_CONFIG_WRITE (R426). -/
def execMacConfigWrite (r : MacReg) (data : Word) (s : State) : Host.Outcome State Fault Refusal :=
  .next (s.hostWrite 0 (macKey r) (fun t => t.macWrite r data))

end Sys2Proof.Machine
end

