-- ==== Sys2Proof/Machine/Transmit.lean ====
section
/-! DEFINITION. Chapter 07: the meanings of the transmitter's commands: launch, deferral, the end of a frame,
dwell and mask writes, and the line driver. -/

namespace Sys2Proof.Machine

/-! ## Launch (R156, R157, R161) -/

/-- R156, R39: the mode permits data frames. -/
def State.txMode (s : State) : Bool :=
  operating s.mode && s.mode != mMonitor && s.mode != mSurvey && !s.busy

/-- R156: the mode permits a frame: in SURVEY, a sounding frame alone. -/
def State.mayLaunch (s : State) (f : TxFrame) : Bool :=
  s.txMode || (s.mode == mSurvey && !s.busy && f.phy == 3)

/-- R156, R224: port `n` is free to launch: nothing on the line, no acknowledgement window, no ACK that is still
due, no PREEMPT burst, no fault. -/
def State.txFree (s : State) (n : Nat) : Bool :=
  let p := s.txPort n
  (s.airOf n).isNone && p.win.isNone && !s.preempted n && s.faultFree n &&
    (match p.ack with
     | some k => decide (k.er + ackDl (s.profile n) < s.tick)
     | none => true)

/-- The packet at the front of transmit instance 2n + 1 is read without being sent. -/
def State.dropFront (s : State) (n q id : Nat) : State :=
  let s1 := s.arcRead (2 * n + 1)
  let p := s1.txPort n
  s1.setTxPort n { p with ready := p.ready.filter (fun x => x != (q, id)) }

/-- A frame at the front completes without being sent. -/
def State.txRefuse (s : State) (n q : Nat) (f : TxFrame) (status : Nat) : State :=
  (s.dropFront n q f.id).completeTx q f status

/-- R157: LATE_MAX in ticks, and whether tick `t` is too late for a frame. -/
def State.tooLate (s : State) (n : Nat) (f : TxFrame) (t : Nat) : Bool :=
  match f.treq with
  | some r => f.timed && decide (r + s.get (PRT_TXCFG_LATE_MAX n) * tUs < t)
  | none => false

/-- R157: a TIMED frame is not sent: TX_LATE. -/
def State.txLate (s : State) (n q : Nat) (f : TxFrame) : State :=
  (s.txRefuse n q f 3).bump (PRT_TXLATE_COUNT n)

/-- R161: a frame is deferred to tick `t`: its first deferral is reported and counted. Its packet is read out, so
that other queues may be served. -/
def State.txDefer (s : State) (n q : Nat) (f : TxFrame) (t band rule : Nat) : State :=
  let s1 := if f.reported then s
    else (s.fire (esPort n 6) (dwData band 0 rule)).bump (PRT_DWDEF_COUNT n)
  if s.tooLate n f t then s1.txLate n q f
  else (s1.dropFront n q f.id).setFrame q { f with deferred := true, reported := true, notBefore := t, ready := false }

/-- Design of a knock (R231): a sweep frame of mode SW(5 + KMODE). -/
def State.knockMap (s : State) : PhyMap :=
  { mode := 4 + s.get MAC_JOIN_KMODE, rate := 0, blk := false, gi := 0, streams := 1, bps := 0, tmap := 6, gen := 0 }

/-- R118, R119, R231: the map of a frame, and whether a stored record was rejected. -/
def State.mapOf (s : State) (n q : Nat) (f : TxFrame) (grouped : Bool) : PhyMap × Bool × State :=
  if f.lfc.ftype = 3 then (s.knockMap, false, s) else s.chooseMap n (s.queueSes q) s.tick grouped

/-- R221, R222: the payload bytes of a frame on a map, beside the frame control that a sweep frame carries. -/
def State.lenOn (s : State) (n : Nat) (f : TxFrame) (m : PhyMap) : Nat :=
  if m.swk ≠ 0 then f.body.length + 4 + 16 * b2n f.lfc.sec else s.lineLen n f

/-- R224: the acknowledgement window of a frame, zero where it asks for none. -/
def State.windowOf (s : State) (n q : Nat) (f : TxFrame) (m : PhyMap) : Nat × State :=
  if f.g3 then ((if f.lfc.ackreq then Config.g9903AckWait else 0), s)
  else if f.lfc.ackreq then
    let (d, s1) := s.delayOf n (s.queueSes q) s.tick m.swk
    (s1.ackWindow n m.swk d, s1)
  else (0, s)

/-- R168: DATA of a transmit start. -/
def launchData (f : TxFrame) (m : PhyMap) (grouped : Bool) : Nat :=
  m.mode + 16 * b2n f.timed + 32 * b2n (m.tmap == 6) + 64 * m.tmap + 512 * b2n grouped

/-- R364: the TYPE of a sounding frame. -/
def soundType (f : TxFrame) : Nat := if f.phy = 3 then leNat (f.body.take 1) else 0

/-- The pin instant of a launch in this tick, in 2^-16 ns of TB2 (R158). -/
def State.pinNow (s : State) : Nat := (8 * s.tick + 12) * 65536

/-- R237, R364: what is filled in when T_L is fixed: MORE to a sleepy child, T_LAUNCH and TURN of a sounding
frame (an answer carries the arrival of its request until then). -/
def State.fillLaunch (s : State) (f : TxFrame) : TxFrame :=
  let g := if f.lfc.ftype = 0 ∧ f.phy = 0 ∧ sub (s.dirOf f.lfc.dst) dSLEEPY = 1 then
      { f with lfc := { f.lfc with more := s.heldFor f.lfc.dst (some f.id) } } else f
  if g.phy = 3 then
    let turn := if soundType g = 2 then s.pinNow - leNat ((g.body.drop 20).take 8) else 0
    { g with body := g.body.take 4 ++ leBytes 16 (s.stampNow 1 12) ++ leBytes 8 turn ++ g.body.drop 28 }
  else g

/-- R364: T1 of a ranging exchange. -/
def State.noteRange (s : State) (f : TxFrame) : State :=
  if soundType f = 1 then
    { s with time.rangeReq := some (leNat ((f.body.drop 1).take 1), s.pinNow) }
  else s

/-- R364: an answer that cannot leave within 2 ms of its request is not sent. -/
def State.staleAnswer (s : State) (f : TxFrame) : Bool :=
  soundType f == 2 && decide (leNat ((f.body.drop 20).take 8) + 2000000 * 65536 < s.pinNow)

/-- R156, R158: the frame launches now. -/
def State.txLaunch (s : State) (n q : Nat) (f : TxFrame) (m : PhyMap) (grouped : Bool) (dur : Nat) : State :=
  let (aw, s1) := s.windowOf n q f m
  let r := s.rangeOf n grouped m
  let a : Air := { kind := .data q f.id, start := s.tick, stop := s.tick + dur, mode := m.mode, aw := aw,
                   grouped := grouped, lo := r.1, hi := r.2, full := s.tick + dur }
  let s2 := ((s1.dropFront n q f.id).noteRange f).setFrame q { s.fillLaunch f with
    ready := false, awaiting := true, arriving := false, deferred := false, port := n,
    retry := s.retryAt n f, lastTl := s.tick,
    ts := s.stampNow (s.get (PRT_TXCFG_LTB n)) 12, mode := m.mode, bo := none }
  let s3 := { s2 with mac.sentTo := put f.lfc.dst s.tick s2.mac.sentTo }
  let s4 := s3.setCsma n { s3.csmaOf n with grant := none }
  s4.airBegin n a (launchData f m grouped)

/-- R156, R160: a frame whose map is chosen: placed, checked against the dwell table and the line driver, and
launched. -/
def State.txTry (s : State) (n q : Nat) (f : TxFrame) (m : PhyMap) (grouped : Bool) : State :=
  let ports := framePorts n grouped
  let dur := s.durOf n grouped (s.lenOn n f m) m
  let r := s.rangeOf n grouped m
  if !s.placed n f.cls s.tick (s.tick + dur) then s
  else match s.dwellAll ports r.1 r.2 s.tick dur with
    | (.refuse, band) => (s.fire (esPort n 6) (dwData band 0 2)).txRefuse n q f 4
    | (.defer t rule, band) => s.txDefer n q f t band rule
    | (.pass, _) =>
      if ports.all (fun p => s.ldReady p) then s.txLaunch n q f m grouped dur
      else forEach ports (fun p t => t.ldPlanLaunch p) s

/-- R156: the frame at the front of port `n` is considered for launch in this tick. -/
def State.txConsider (s : State) (n q : Nat) (f : TxFrame) : State :=
  let grouped := s.joint n && sub (s.ses (s.queueSes q)) sGROUPED == 1
  if !s.mayLaunch f || !(framePorts n grouped).all (fun p => s.txFree p) then s
  else if f.timed && (match f.treq with
    | some r => decide (s.tick < r)
    | none => false) then s
  else if s.tooLate n f s.tick then s.txLate n q f
  else if s.staleAnswer f then s.txRefuse n q f 0
  else
    let (m, rejected, s1) := s.mapOf n q f grouped
    let s2 := if rejected then s1.bump (PRT_RXFAIL_COUNT n fMAP) else s1
    match s2.fitMap n grouped (s2.lenOn n f m) m with
    | none => s2.txRefuse n q f 13
    | some x => s2.txTry n q f x grouped

/-- FRAME_LAUNCH (R156): the next whole packet of a handed bank of instance 2n + 1. A packet whose frame has
completed meanwhile is read and dropped. -/
def execFrameLaunch (n : Fin 16) (s : State) : Host.Outcome State Fault Refusal :=
  .next (match s.arcFront (2 * n + 1) with
  | some p =>
    match p.load with
    | .tx q id =>
      match s.frameOf q id with
      | some f => if f.ready then s.txConsider n q f else s.dropFront n q id
      | none => s.dropFront n q id
    | .rx _ => s.arcRead (2 * n + 1)
  | none => s)

/-- DWELL_DEFERRAL_EXPIRY (R161): the deferred frames of the port whose tick has come are considered again. -/
def execDwellDeferralExpiry (n : Fin 16) (s : State) : Host.Outcome State Fault Refusal :=
  .next (
    let due := s.blv.frames.filterMap (fun e => match e.2 with
      | f :: _ =>
        if f.deferred && !f.ready && !f.awaiting && decide (f.notBefore ≤ s.tick) && s.queuePort e.1 == n.val
        then some (e.1, f.id) else none
      | [] => none)
    let p := s.txPort n
    s.setTxPort n { p with again := p.again ++ due.filter (fun x => !p.again.contains x) })

/-! ## The end of a frame (R168, R224, Table 10-5) -/

/-- R162: a truncation is reported with the tick in which it fell. -/
def State.reportTrunc (s : State) (n : Nat) (a : Air) : State :=
  match a.trunc with
  | some (t, band) =>
    ({ ({ s with tick := t }.fire (esPort n 6) (dwData band 1 0)) with tick := s.tick }).bump (PRT_DWTRUNC_COUNT n)
  | none => s

/-- R224, R226: a data frame was sent to its end: its window opens, or it completes. -/
def State.sentWhole (s : State) (n q id : Nat) (a : Air) : State :=
  match s.frameOf q id with
  | some f =>
    let g := { f with attempts := f.attempts + 1, outcome := 0 }
    let s1 := s.setFrame q g
    if f.poison then s.dropRelay q f
    else if f.relayOf.isSome then (s.dropRelay q f).bump MAC_CTCNT_POISONED
    else if a.aw = 0 then s1.completeTx q g 0
    else s1.setTxPort n { s1.txPort n with win := some ⟨q, id, a.stop, a.stop + a.aw⟩ }
  | none => s

/-- The frame on the line of port `n` has ended. -/
def State.txEnd (s : State) (n : Nat) (a : Air) : State :=
  let s1 := (s.reportTrunc n a).airEnd n a a.outcome a.stop
  match a.kind with
  | .data q id => if a.outcome = 0 then s1.sentWhole n q id a else s1.attemptEnd q id a.outcome
  | _ => s1

/-- TRANSMIT_END (R168). -/
def execTransmitEnd (n : Fin 16) (s : State) : Host.Outcome State Fault Refusal :=
  .next (match (s.txPort n).air with
  | some a => if a.stop ≤ s.tick then s.txEnd n a else s
  | none => s)

/-! ## Dwell and mask writes (R152 to R154, R162, R164) -/

/-- Table 07-11: the key of register `k` of band `b`. -/
def dwKey (b k : Nat) : Nat :=
  if k = 0 then a_MAC_DWLO b else if k = 1 then a_MAC_DWHI b else if k = 2 then a_MAC_DWTIME b else a_MAC_DWDUTY b

/-- Table 07-11: what a dwell register stores. -/
def dwStored (k : Nat) (data : Word) : Word :=
  if k ≤ 1 then data &&& 0x3FFFF
  else if k = 2 then data &&& 0x1FFFFFFF
  else BitVec.ofNat 32 (bits data 0 12 + 4096 * min 1000 (bits data 12 10))

/-- A dwell register takes a value, which applies from the next tick (R162). -/
def State.dwWrite (s : State) (b k : Nat) (data : Word) : State :=
  let a := dwKey b k
  let former := (match find s.mac.dwell a with
    | some (t, w) => if t = s.tick then w else s.reg a
    | none => s.reg a)
  let s1 := { s with mac.dwell := put a (s.tick, former) s.mac.dwell }.setReg a (dwStored k data)
  forN 16 (fun n t => t.retrunc n) s1

/-- DWELL_WRITE (R162, R164). -/
def execDwellWrite (b : Fin 8) (k : Fin 4) (data : Word) (s : State) : Host.Outcome State Fault Refusal :=
  .next (s.hostWrite 0 (dwKey b k) (fun t => t.dwWrite b k data))

/-- Table 07-7: MASKSTAT shows the masked usable carriers and the active filtered entries: those with a filter, which
entries narrower than 3 carriers do not receive (R154; DEDUCED, log entry 32). -/
def State.showMask (s : State) (n : Nat) : State :=
  let prof := s.profile n
  let c := (List.range (carrierCount prof)).countP (fun i => s.maskedOne n (firstCarrier prof + i))
  let f := (List.range 32).countP (fun k => s.flag (PRT_MASK_EN n k) && s.flag (PRT_MASK_FILT n k)
    && decide (s.get (PRT_MASK_LO n k) + 2 ≤ s.get (PRT_MASK_HI n k)))
  (s.set (PRT_MASKSTAT_COUNT n) c).set (PRT_MASKSTAT_FILTN n) f

/-- R154: a mask entry is written; a seventeenth filtered entry is stored without FILT. -/
def State.maskSet (s : State) (n k : Nat) (data : Word) : State :=
  let others := (List.range 32).countP (fun j => j != k && s.flag (PRT_MASK_EN n j) && s.flag (PRT_MASK_FILT n j))
  let tooMany := data.getLsbD 22 && data.getLsbD 23 && decide (16 ≤ others)
  let s1 := s.setReg (a_PRT_MASK n k) (if tooMany then data &&& 0x7FFFFF else data &&& 0xFFFFFF)
  (if tooMany then s1.raiseFlag (PRT_MASKSTAT_REFUSED n) else s1).showMask n

/-- MASK_WRITE (R152, R154, R164). -/
def execMaskWrite (n : Fin 16) (k : Fin 32) (data : Word) (s : State) : Host.Outcome State Fault Refusal :=
  .next (s.hostWrite 0 (a_PRT_MASK n k) (fun t => t.maskSet n k data))

/-! ## The line driver (R165 to R167) -/

/-- R167: the frame that port `n` is sending ends with FAULT, its samples zero from the next tick. -/
def State.faultAir (s : State) (n : Nat) : State :=
  match s.airOf n with
  | some (m, a) =>
    let s1 := s.airEnd m a 3 (s.tick + 1)
    match a.kind with
    | .data q id => s1.attemptEnd q id 3
    | _ => s1
  | none => s

/-- R167: the fault of port `n` is asserted. -/
def State.ldFault (s : State) (n : Nat) : State :=
  if s.flag (PRT_LDCTL_FAULT n) then s
  else
    let s1 := ((s.set (PRT_LDCTL_FAULT n) 1).fire (esPort n 7) 1).bump (PRT_LDFLTCNT_COUNT n)
    (s1.faultAir n).refreshLd n

/-- LINE_DRIVER_FAULT (R167). -/
def execLineDriverFault (n : Fin 16) (s : State) : Host.Outcome State Fault Refusal :=
  .next (if s.domOn dProt && decide (n.val < s.ports) then s.ldFault n else s)

/-- LINE_DRIVER_FAULT_RELEASE (R167). -/
def execLineDriverFaultRelease (n : Fin 16) (s : State) : Host.Outcome State Fault Refusal :=
  .next (if s.flag (PRT_LDCTL_FAULT n) then
    let s1 := (s.set (PRT_LDCTL_FAULT n) 0).fire (esPort n 7) 0
    (s1.setTxPort n { s1.txPort n with
      holdEnd := s.tick + s.get (PRT_LDCTL_FLT_HOLD n) * tMs }).refreshLd n
  else s)

/-- FAULT_HOLD_END (R167): launches are permitted again. -/
def execFaultHoldEnd (n : Fin 16) (s : State) : Host.Outcome State Fault Refusal :=
  .next (if (s.txPort n).holdEnd ≤ s.tick then s.setTxPort n { s.txPort n with holdEnd := 0 } else s)

/-- R165: the tail of LDENn is over, and a launch it was asserted for is no longer to come. -/
def State.ldTailEnd (s : State) (n : Nat) : State :=
  let p := s.txPort n
  let plan := p.ldPlan && (s.arcFront (2 * n + 1)).isSome
  let tail := (match p.ldTail with
    | some t => if t ≤ s.tick then none else some t
    | none => none)
  (s.setTxPort n { p with
    ldTail := tail
    ldPlan := plan }).refreshLd n

/-- LDEN_TAIL_EXPIRY (R165). -/
def execLdenTailExpiry (n : Fin 16) (s : State) : Host.Outcome State Fault Refusal := .next (s.ldTailEnd n)

end Sys2Proof.Machine
end

