-- ==== Sys2Proof/Machine/Join.lean ====
section
/-! DEFINITION. Chapters 09 and 10: the meanings of the commands of contention, joining and presence. -/

namespace Sys2Proof.Machine

/-! ## Contention (R210) -/

/-- Table 09-2. -/
def slotLen (prof : Nat) : Nat := if prof = pfBB then 1280 else 20480
def ifsLen (prof : Nat) : Nat := if prof = pfBB then 2560 else 40960
def symbolLen (prof : Nat) : Nat := if prof = pfBB then 1024 else 16384

/-- The frame at the front of port `n`'s transmit instance that waits for its launch. -/
def State.contender (s : State) (n : Nat) : Option (Nat × TxFrame) :=
  match s.arcFront (2 * n + 1) with
  | some p =>
    match p.load with
    | .tx q id =>
      match s.frameOf q id with
      | some f => if f.ready then some (q, f) else none
      | none => none
    | .rx _ => none
  | none => none

/-- R210: the frame fits the remaining contention stretch. -/
def State.fits (s : State) (n q : Nat) (f : TxFrame) : Bool :=
  let grouped := s.joint n && sub (s.ses (s.queueSes q)) sGROUPED == 1
  let (m, _, _) := s.mapOf n q f grouped
  match s.fitMap n grouped (s.lenOn n f m) m with
  | some x => s.inContention n s.tick (s.tick + s.durOf n grouped (s.lenOn n f x) x)
  | none => false

/-- R210: the medium has been idle for ifs within the contention region. -/
def State.idleIfs (s : State) (n : Nat) : Bool :=
  let c := s.csmaOf n
  (s.rxPort n).cur.isNone && (s.airOf n).isNone && (s.txPort n).win.isNone &&
    decide (c.busyUntil + ifsLen (s.profile n) ≤ s.tick) &&
    s.inContention n (s.tick - ifsLen (s.profile n)) s.tick

/-- R210: deferred to the next opportunity: the medium has to be idle for ifs anew. -/
def State.deferSlot (s : State) (n : Nat) : State :=
  s.setCsma n { busyUntil := s.tick + slotLen (s.profile n) }

/-- R159, R210: a priority symbol is sent in this slot: it counts as on-time. -/
def State.prioritySymbol (s : State) (n : Nat) : State :=
  let r := s.rangeOf n false (defaultMap (s.get (PRT_WAVE_DEFMODE n)) 0)
  s.addOnTime n r.1 r.2 s.tick (s.tick + symbolLen (s.profile n))

/-- R210: bo is drawn when it is unset, and the backoff begins; with bo = 0 the launch is granted at once. -/
def State.beginBackoff (s : State) (n q : Nat) (f : TxFrame) : State :=
  let l := csmaLevel f.cls
  let (b, s1) := (match f.bo with
    | some b => (b, s)
    | none => s.takeFree (2 ^ f.cw.getD (s.get (cwMin l))))
  let s2 := s1.setFrame q { f with bo := some b }
  s2.setCsma n { s2.csmaOf n with
    prs := some 2
    grant := if b = 0 then some s.tick else none }

/-- R210: one priority slot: `k` is 0 for prs0, 1 for prs1. -/
def State.prioStep (s : State) (n k q : Nat) (f : TxFrame) (heard : Bool) : State :=
  let l := csmaLevel f.cls
  let sends := if k = 0 then decide (2 ≤ l) else l % 2 == 1
  if !sends && heard then s.deferSlot n
  else
    let s1 := if sends then s.prioritySymbol n else s
    if k = 0 then s1.setCsma n { s1.csmaOf n with prs := some 1 } else s1.beginBackoff n q f

/-- PRIORITY_SLOT (R210): prs0 after ifs, then prs1. -/
def execPrioritySlot (n : Fin 16) (heard : Bool) (s : State) : Host.Outcome State Fault Refusal :=
  .next (match s.contender n with
  | some (q, f) =>
    if !s.txMode || s.orphan || s.profile n == pfG3 then s
    else match (s.csmaOf n).prs with
      | none => if s.idleIfs n && s.fits n q f then s.prioStep n 0 q f heard else s
      | some 1 => s.prioStep n 1 q f heard
      | some _ => s
  | none => s)

/-- BACKOFF_SLOT (R210): an idle slot decrements bo, and at 0 the launch is granted at its end. A slot that is not
idle keeps bo and waits for the next opportunity. -/
def execBackoffSlot (n : Fin 16) (idle : Bool) (s : State) : Host.Outcome State Fault Refusal :=
  .next (match s.contender n, (s.csmaOf n).prs with
  | some (q, f), some 2 =>
    (match f.bo with
     | some b =>
       if !idle then s.setCsma n { s.csmaOf n with prs := none, grant := none }
       else
         let s1 := s.setFrame q { f with bo := some (b - 1) }
         if b ≤ 1 then s1.setCsma n { s1.csmaOf n with grant := some s.tick } else s1
     | none => s)
  | _, _ => s)

/-! ## Knocks (R211, R212) -/

/-- KNOCK_TIMEOUT (R211): no answer within KTO beacon periods. -/
def execKnockTimeout (s : State) : Host.Outcome State Fault Refusal :=
  .next (match s.mac.knock with
  | some k =>
    if s.sfState = sfJOINING ∧ s.get MAC_JOIN_KTO ≤ k.periods then
      if k.tries < s.get MAC_JOIN_KRETRY then
        ({ s with mac.knock := some ⟨k.knockId, k.tries + 1, 0⟩ }).sendKnock (s.get MAC_SFSTAT_PPORT) s.parent
          k.knockId
      else s.joinFail 0
    else s
  | none => s)

/-- The address under which the directory already holds an EUI-64. -/
def State.knownAddr (s : State) (eui : Nat) : Option Nat :=
  (s.blv.dir.find? (fun e => e.1 != 0 && sub e.2 dSTATE != 0 && sub e.2 dEUI == eui)).map
    (fun e => Nat.xor e.1 s.ownAddr)

/-- JOINMAX (Table 09-10). -/
def State.joinMax (s : State) : Nat :=
  let v := s.get MAC_JOIN_JOINMAX
  if v = 0 then 256 else v

/-- R212: the request of a knock is forwarded to the host (Table 13-9: JOIN_REQ). -/
def State.joinRequest (s : State) (r : JoinReq) : State :=
  let known := s.knownAddr r.eui
  let s1 := { s with hif.joins := s.hif.joins ++ [r] }
  s1.notify 1 (b2n known.isSome)
    [r.eui + r.cap * 2 ^ 64 + r.port * 2 ^ 72 + r.snr % 256 * 2 ^ 80, r.knockId + known.getD addrNone * 2 ^ 32]

/-- R212: a knock at the coordinator, through port `n`; relayed by `via` or direct (0). -/
def State.knockAt (s : State) (n : Nat) (r : JoinReq) (domain : Nat) : State :=
  if s.mode ≠ mCoordinator ∨ !s.flag MAC_DOMAIN_JOIN_OPEN ∨ domain ≠ s.get MAC_DOMAIN_DOMAIN then s
  else if s.hif.joins.any (fun j => j.eui == r.eui) then s.sendAnswer n 4 r.eui []
  else if s.joinMax ≤ s.hif.joins.length then { s with mac.ignored := s.mac.ignored + 1 }
  else s.joinRequest r

/-- R231: the fields of a knock payload: EUI-64, DOMAIN, capability, KNOCKID. -/
def knockFields (b : List Byte) : Nat × Nat × Nat × Nat :=
  (leNat (b.take 8), leNat ((b.drop 8).take 3), leNat ((b.drop 11).take 1), leNat ((b.drop 12).take 4))

/-- R212: a repeater relays a knock to its parent, and remembers the port on which the joining node is heard. -/
def State.relayKnock (s : State) (n : Nat) (f : RxFrame) : State :=
  let (eui, dom, cap, id) := knockFields f.payload
  let open_ : Bool := (match s.mac.beacon with
    | some b => b.joinOpen
    | none => false)
  if s.sfState == sfATTACHED && open_ && dom == s.get MAC_DOMAIN_DOMAIN then
    let r : JoinReq := { eui := eui, knockId := id, cap := cap, port := n, snr := f.snr.toNat, via := 0, hop := 0 }
    let s1 := { s with hif.joins := s.hif.joins.filter (fun (j : JoinReq) => j.eui != eui) ++ [r] }
    s1.sendCtrl (s.get MAC_SFSTAT_PPORT) s.parent true
      (6 :: f.payload.take 16 ++ [BitVec.ofNat 8 n, f.snr])
  else s

/-- R212, R231: a knock is received on port `n`. -/
def State.knockIn (s : State) (n : Nat) (f : RxFrame) : State :=
  let (eui, dom, cap, id) := knockFields f.payload
  if f.lfc.dst ≠ s.ownAddr ∨ f.payload.length < 16 then s
  else if s.mode = mRepeater then s.relayKnock n f
  else s.knockAt n { eui := eui, knockId := id, cap := cap, port := n, snr := f.snr.toNat, via := 0, hop := 1 } dom

/-- KNOCK_RECEIVED (R212). -/
def execKnockReceived (n : Fin 16) (s : State) : Host.Outcome State Fault Refusal :=
  .next (s.takeRx n (fun f => f.phy ≤ 1 && f.lfc.ftype == 3) (fun f t => t.knockIn n f))

/-- R294: an AUTH payload that a repeater takes out of a KNOCKFWD frame goes to the joining node. -/
def State.authDown (s : State) (body : List Byte) : State :=
  match s.hif.joins.find? (fun j => j.eui == leNat (body.take 8)) with
  | some j => s.sendMac j.port 0 { ftype := 4, src := s.ownAddr, dst := addrNone, esrc := s.ownAddr,
                                   edst := addrNone } body
  | none => s

/-- R212, R294: the content of a KNOCKFWD frame: a knock of 18 bytes, else an AUTH payload. -/
def State.knockFwd (s : State) (n : Nat) (f : RxFrame) : State :=
  let b := f.payload.drop 1
  if s.mode = mRepeater then
    if f.lfc.src = s.parent then s.authDown b
    else s.sendCtrl (s.get MAC_SFSTAT_PPORT) s.parent true f.payload
  else if b.length = 18 then
    let (eui, dom, cap, id) := knockFields b
    s.knockAt n { eui := eui, knockId := id, cap := cap, port := n, snr := leNat (b.drop 17), via := f.lfc.src,
                  hop := sub (s.dirOf f.lfc.src) dHOP + 1 } dom
  else s.tunnel { f with payload := b } 0

/-! ## Answers to a knock (R211, R213, R214, R231) -/

/-- The fields of ADMIT after the EUI-64, in the order of R213 (log entry 29): the address, the session, the
parent's address with HOP, BIDX, KA_INT. -/
structure Admission where
  addr : Nat
  session : Nat
  parent : Nat
  hop : Nat
  bidx : Nat
  kaInt : Nat
  deriving DecidableEq, Repr

def parseAdmit (b : List Byte) : Admission :=
  let g := fun off n => leNat ((b.drop off).take n)
  { addr := g 0 4 % 2 ^ 25, session := g 4 4 % 2 ^ 18, parent := g 8 4 % 2 ^ 25, hop := g 8 4 / 2 ^ 25 % 16,
    bidx := g 12 1 % 16, kaInt := g 13 1 }

def admitBytes (a : Admission) : List Byte :=
  leBytes 4 a.addr ++ leBytes 4 a.session ++ leBytes 4 (a.parent + a.hop * 2 ^ 25) ++ leBytes 1 a.bidx
    ++ leBytes 1 a.kaInt

/-- R229, R251: the directory entry of a neighbour as admission leaves it: present, direct, both control sequences
restarted. -/
def newEntry (eui cap ses nexthop port hop : Nat) (below : Bool) (lastrx : Nat) : BitVec 512 :=
  let v0 : BitVec 512 := BitVec.ofNat 512 (eui % 2 ^ 64)
  let v1 := withSub (withSub v0 dSTATE 1) dREPEATER (cap % 2)
  let v2 := withSub (withSub v1 dSLEEPY (cap / 2 % 2)) dGROUPED (cap / 4 % 2)
  let v3 := withSub (withSub v2 dBELOW (b2n below)) dSESSION ses
  let v4 := withSub (withSub v3 dNEXTHOP nexthop) dPORT port
  withSub (withSub (withSub v4 dCSEQS 0xFFFF) dLASTRX lastrx) dHOP hop

/-- R213, R214: ADMIT reaches the joining device on port `n`: its address, its parent, STATE, BIDX and KA_INT, and
a keep-alive at once. -/
def State.admitted (s : State) (n : Nat) (a : Admission) : State :=
  let s1 := s.setDirEnt 0 (withSub (withSub (s.dirEnt 0) dADDR2 a.addr) dHOP (a.hop + 1))
  let e := withSub (newEntry 0 1 a.session a.parent n a.hop false (s.mac.period % 2 ^ 32)) dDIRECT 1
  let s2 := s1.setDirOf a.parent e
  let s3 := ((s2.set MAC_PARENT_ADDR a.parent).set MAC_PARENT_HOP a.hop).setSfState sfATTACHED
  let s4 := if s.mode = mRepeater then { s3 with mac.bidx := a.bidx }.set MAC_SFSTAT_BIDX a.bidx else s3
  let s5 := if a.kaInt = 0 then s4 else s4.set MAC_PRESENCE_KA_INT a.kaInt
  { s5 with
    mac.knock := none
    time.rangeAt := 0 }.sendKeepalive

/-- R231: whose answer it is: the device's own, or that of a node whose knock it relayed. -/
def State.ownEui (s : State) (f : RxFrame) : Bool :=
  leNat ((f.payload.drop 1).take 8) == sub (s.dirEnt 0) dEUI

/-- A repeater passes an answer on to the node whose knock it relayed (log entry 30). -/
def State.answerDown (s : State) (f : RxFrame) : State :=
  let eui := leNat ((f.payload.drop 1).take 8)
  match s.hif.joins.find? (fun j => j.eui == eui) with
  | some j =>
    if s.mode = mRepeater then
      let s1 := s.sendCtrl j.port addrNone false f.payload
      if leNat (f.payload.take 1) = 4 then s1
      else { s1 with hif.joins := s1.hif.joins.filter (fun x => x.eui != eui) }
    else s
  | none => s

/-- R211, R214, R231: an answer to a knock: ADMIT 3, PENDING 4, REJECT 5. -/
def State.joinAnswer (s : State) (n : Nat) (f : RxFrame) : State :=
  let code := leNat (f.payload.take 1)
  if !s.ownEui f then s.answerDown f
  else match s.mac.knock with
    | some k =>
      if s.sfState ≠ sfJOINING then s
      else if code = 3 then s.admitted n (parseAdmit (f.payload.drop 9))
      else if code = 4 then { s with mac.knock := some { k with periods := 0 } }
      else s.joinFail 1
    | none => s

/-- A CTRL frame of a subtype (Table 10-4). -/
def isCtrl (subtype : Nat) (f : RxFrame) : Bool :=
  f.phy ≤ 1 && f.lfc.ftype == 2 && leNat (f.payload.take 1) == subtype

/-- ADMIT_RECEIVED (R214). -/
def execAdmitReceived (n : Fin 16) (s : State) : Host.Outcome State Fault Refusal :=
  .next (s.takeRx n (isCtrl 3) (fun f t => t.joinAnswer n f))

/-- PENDING_RECEIVED (R211): the wait begins anew. -/
def execPendingReceived (n : Fin 16) (s : State) : Host.Outcome State Fault Refusal :=
  .next (s.takeRx n (isCtrl 4) (fun f t => t.joinAnswer n f))

/-- REJECT_RECEIVED (R211). -/
def execRejectReceived (n : Fin 16) (s : State) : Host.Outcome State Fault Refusal :=
  .next (s.takeRx n (isCtrl 5) (fun f t => t.joinAnswer n f))

/-- R212, R231, R294: an AUTH frame is tunnelled to the host; at a repeater that of a joining node goes to the
parent as KNOCKFWD. -/
def State.authIn (s : State) (f : RxFrame) : State :=
  if s.mode = mRepeater ∧ s.sfState = sfATTACHED ∧ leNat (f.payload.take 8) ≠ sub (s.dirEnt 0) dEUI then
    s.sendCtrl (s.get MAC_SFSTAT_PPORT) s.parent true (6 :: f.payload)
  else s.tunnel f 0

/-- AUTH_FRAME_RECEIVED (R231). -/
def execAuthFrameReceived (n : Fin 16) (s : State) : Host.Outcome State Fault Refusal :=
  .next (s.takeRx n (fun f => f.phy ≤ 1 && f.lfc.ftype == 4) (fun f t => t.authIn f))

/-! ## Presence (R215, R238) -/

/-- KEEPALIVE_DUE (R215): KA_INT beacon periods without a frame to the parent. -/
def execKeepaliveDue (s : State) : Host.Outcome State Fault Refusal :=
  .next (
    let last := look s.mac.entry s.mac.sentTo s.parent
    if s.isChild && s.sfState == sfATTACHED
        && decide (last + s.get MAC_PRESENCE_KA_INT * s.periodTicks ≤ s.tick) then s.sendKeepalive
    else s)

/-- R215, R238: the beacon periods since the last good frame of a child reach its limit. -/
def State.lost (s : State) (addr : Nat) : Bool :=
  let v := s.dirOf addr
  let d := (s.mac.period + 2 ^ 32 - sub v dLASTRX) % 2 ^ 32
  if sub v dSLEEPY = 1 then decide (s.get MAC_SLEEPY_SLP_ABS * 60 * tS ≤ d * s.periodTicks)
  else decide (s.get MAC_PRESENCE_KA_MISS * s.get MAC_PRESENCE_KA_INT ≤ d)

/-- PARTNER_ABSENT (R215, R238). -/
def execPartnerAbsent (addr : BitVec 25) (s : State) : Host.Outcome State Fault Refusal :=
  .next (
    let a := addr.toNat
    let v := s.dirOf a
    if sub v dSTATE = 1 && sub v dDIRECT = 1 && s.dirIndex a != 0 && a != s.parent && s.dirUsable a && s.lost a then
      s.setPresence a 2
    else s)

end Sys2Proof.Machine
end

