-- ==== Sys2Proof/Machine/LinkOps.lean ====
section
/-! DEFINITION. Chapter 10: the operations behind received DATA frames: the replay window (R227, R228), relaying
(R232, R263) and what follows verification. -/

namespace Sys2Proof.Machine

/-! ## The replay window (R227, R228) -/

/-- What R227 decides of a DATA frame. -/
inductive Replay where
  | old
  | duplicate
  | inP
  | full
  | new
  deriving DecidableEq, Repr

/-- Counter `x` is in P (R249: by its low 16 bits). -/
def inPending (v : BitVec 2048) (x : Nat) : Bool :=
  (List.range 16).any (fun k => bitN (sub v sPMASK) k && sub v (sP k) == x % 65536)

/-- R227: the decision on counter `x` of a session. -/
def replay (v : BitVec 2048) (x : Nat) : Replay :=
  let h := sub v sH
  if x + 128 ≤ h then .old
  else if x ≤ h ∧ bitN (sub v sV) (h - x) then .duplicate
  else if inPending v x then .inP
  else if sub v sPMASK = 0xFFFF then .full
  else .new

/-- R227: counter `x` enters P, in its first unused place. -/
def addPending (v : BitVec 2048) (x : Nat) : BitVec 2048 :=
  match (List.range 16).find? (fun k => !bitN (sub v sPMASK) k) with
  | some k => withSub (withSub v (sP k) x) sPMASK (Nat.lor (sub v sPMASK) (2 ^ k))
  | none => v

/-- R228: counter `x` leaves P. -/
def dropPending (v : BitVec 2048) (x : Nat) : BitVec 2048 :=
  match (List.range 16).find? (fun k => bitN (sub v sPMASK) k && sub v (sP k) == x % 65536) with
  | some k => withSub v sPMASK (sub v sPMASK - 2 ^ k)
  | none => v

/-- R228: counter `x` is verified: whether it still lies in the window, and the session's new state. -/
def verifyCounter (v0 : BitVec 2048) (x : Nat) : Bool × BitVec 2048 :=
  let v := dropPending v0 x
  let h := sub v sH
  if h < x then
    let w := if x - h < 128 then sub v sV * 2 ^ (x - h) + 1 else 1
    (true, withSub (withSub v sV w) sH x)
  else if x + 128 ≤ h then (false, v)
  else (true, withSub v sV (Nat.lor (sub v sV) (2 ^ (h - x))))

/-! ## Frames without a usable source -/

/-- R266, Table 11-9: a frame of this source is dropped: its directory entry does not exist or is quarantined. -/
def State.dropSource (s : State) (src : Nat) : State :=
  if s.dirIndex src < s.dirCount then s.bump BLV_DROP_QUARDROP else s.bump BLV_DROP_DIRMISS

/-- The bytes of the body of a received frame, without its tag. -/
def RxFrame.bodyLen (f : RxFrame) : Nat := f.payload.length - 16 * b2n f.lfc.sec

/-- The outgoing frame of a cut-through relay of received frame `id`. -/
def State.relayOut (s : State) (id : Nat) : Option (Nat × TxFrame) :=
  s.blv.frames.findSome? (fun e => (e.2.find? (fun g => g.relayOf == some id && !g.poison)).map (fun g => (e.1, g)))

/-- A received DATA frame is refused: a cut-through relay of it fails with it (R235). -/
def State.refuseRx (s : State) (f : RxFrame) : State := s.poisonRelay f.id

/-- A received DATA frame is dropped: its cells return, those of a cut-through relay when that ends (R235). -/
def State.loseRx (s : State) (f : RxFrame) : State :=
  if (s.relayOut f.id).isSome then s.refuseRx f else s.returnRx (cellsOf f.bodyLen) none

/-! ## Encryption of a frame (R19, R319) -/

/-- The plaintext of a received frame under a key. -/
def decryptRx (key : Nat) (f : RxFrame) : List Byte :=
  fitTo f.bodyLen (Config.gcmDecrypt key (leNat f.lfc.nonce) f.lfc.aad f.payload)

/-- What the cells of a frame hold once it is encrypted: ciphertext and tag, or the body of an unsecured one. -/
def sealFrame (key : Nat) (f : TxFrame) : List Byte :=
  if f.lfc.sec then fitTo (f.body.length + 16) (Config.gcmEncrypt key (leNat f.lfc.nonce) f.lfc.aad f.body) else f.body

/-! ## Relaying (R232, R233, R263) -/

/-- R232: the device relays. -/
def State.relays (s : State) : Bool := (s.mode == mRepeater || s.mode == mIsland) && s.flag MAC_RELAY_SF_EN

/-- R232: the session of the next hop towards an end address: that of a directory entry below the device, else the
parent's. -/
def State.nextSes (s : State) (edst : Nat) : Nat :=
  let e := s.dirOf edst
  if sub e dSTATE ≠ 0 ∧ sub e dBELOW = 1 then sub e dSESSION else s.parentSes

/-- R263: the relay queue of a session, where it may be used. -/
def State.relayQueue (s : State) (k : Nat) : Option Nat :=
  let v := s.ses k
  let q := sub v sRELAYQ
  if k ≠ 0 ∧ sub v sRQEN = 1 ∧ sub (s.queue q) qBOUND = 1 ∧ !s.qQuar q then some q else none

/-- R232: a relayed frame as it is queued on queue `q` towards session `k`. -/
def State.relayFrame (s : State) (q k : Nat) (f : RxFrame) (body : List Byte) : TxFrame :=
  { id := 0, body := body, cls := sub (s.queue q) qCLASS,
    lfc := { f.lfc with ackreq := true, more := false, relay := true, dup := false, src := s.ownAddr,
                        dst := sub (s.ses k) sNEIGH, hopleft := f.lfc.hopleft - 1 } }

/-- R235: the verified frame of a cut-through relay in progress: its cells are RETAINED, its retransmissions and its
window are those of any frame. -/
def State.relayProven (s : State) (q : Nat) (g : TxFrame) (body : List Byte) : State :=
  let (k, s1) := s.obtainKey (s.queueSes q)
  let key := match k with
    | .key x => x
    | .fail _ => 0
  let g1 := { g with
    body := body
    relayOf := none
    arriving := false }
  let g2 := { g1 with wire := sealFrame key g1 }
  let s2 := { s1 with
    blv.led.rx := s1.blv.led.rx - g.cells
    blv.led.retained := s1.blv.led.retained + g.cells }
  s2.setFrame q g2

/-- R232, R233, R263: a verified frame for another end is enqueued for its next hop, or dropped. -/
def State.relay (s : State) (f : RxFrame) (body : List Byte) : State :=
  match s.relayOut f.id with
  | some (q, g) => s.relayProven q g body
  | none =>
    let drop := fun (t : State) => t.returnRx (cellsOf f.bodyLen) none
    if f.lfc.hopleft = 0 then drop (s.bump MAC_HOLDEXP_HOPDROP)
    else if !s.dirUsable f.lfc.edst then drop (s.dropSource f.lfc.edst)
    else
      let k := s.nextSes f.lfc.edst
      match s.relayQueue k with
      | some q => s.linkFrame q (s.relayFrame q k f body)
      | none => drop (s.bump BLV_DROP_QUARDROP)

/-- R263: one copy of a broadcast frame, admitted on its own, on the broadcast queue of port `n`. -/
def State.broadcastCopy (s : State) (n : Nat) (f : RxFrame) (body : List Byte) : State :=
  let q := s.get (BLV_BCQ_QUEUE n)
  if !s.flag (BLV_BCQ_EN n) || sub (s.queue q) qBOUND != 1 || s.qQuar q then s
  else
    let k := cellsOf body.length
    if s.admitsCells f.lfc.tclass k then
      (s.takeCells k).linkFrame q
        { id := 0, body := body, cls := sub (s.queue q) qCLASS,
          lfc := { f.lfc with more := false, relay := true, sec := false, fcnt := 0, seq := 0, src := s.ownAddr,
                              hopleft := f.lfc.hopleft - 1 } }
    else s.countNoCell false

/-- R232, R263: a broadcast frame from the parent is copied for every port but the parent's. -/
def State.broadcast (s : State) (f : RxFrame) (body : List Byte) : State :=
  if s.relays && f.lfc.src == s.parent then
    if f.lfc.hopleft = 0 then s.bump MAC_HOLDEXP_HOPDROP
    else forN s.ports (fun i t => if i = f.port then t else t.broadcastCopy i f body) s
  else s

/-- R22, R232: where a verified frame goes: to its next hop, or to the host. -/
def State.deliver (s : State) (f : RxFrame) (body : List Byte) (ses : Nat) : State :=
  if f.lfc.dst = addrAll then (s.broadcast f body).toHost f body f.lfc.tclass ses false
  else if f.lfc.edst ≠ s.ownAddr ∧ s.relays then s.relay f body
  else s.toHost f body f.lfc.tclass ses false

/-- R215: the sender of a verified secured frame is present. -/
def State.proven (s : State) (f : RxFrame) : State := if f.lfc.sec then s.proved f.lfc.src else s

/-- R228, R215: a dispatched frame is verified. A broadcast frame has no counter of the window (Table 10-2). -/
def State.verified (s : State) (f : RxFrame) (ses : Option Nat) (body : List Byte) : State :=
  match ses with
  | none => s.deliver f body 0
  | some k =>
    if f.lfc.dst = addrAll then (s.proven f).deliver f body k
    else
      let (ok, v) := verifyCounter (s.ses k) f.lfc.fcnt
      let s1 := s.setSes k v
      if ok then (s1.proven f).deliver f body k
      else (s1.bump MAC_OLDCNT_COUNT).loseRx f

/-- R227: the frame is dispatched: an unsecured one is verified in this tick, a secured one waits for its tag. -/
def State.dispatch (s : State) (f : RxFrame) (ses : Option Nat) : State :=
  match ses with
  | some k =>
    if f.lfc.sec then
      let d : Dispatch := { frame := f, session := k }
      { s with cph.dispatched := s.cph.dispatched ++ [d] }.cphRequest (.rx f.id) k 0 f.payload.length
    else s.verified f ses f.payload
  | none => s.verified f ses f.payload

/-- R227: a unicast frame of a session is judged, its cells taken. -/
def State.judge (s : State) (n : Nat) (f : RxFrame) (k : Nat) : State :=
  match replay (s.ses k) f.lfc.fcnt with
  | .old => ((s.bump MAC_OLDCNT_COUNT).fire 150 k).loseRx f
  | .duplicate => ((s.bump MAC_DUPCNT_COUNT).planAck n f true false).loseRx f
  | .inP => (s.bump MAC_DUPCNT_COUNT).loseRx f
  | .full => (s.bump MAC_PENDFULL_COUNT).loseRx f
  | .new => ((s.planAck n f false false).setSes k (addPending (s.ses k) f.lfc.fcnt)).dispatch f (some k)

/-- R256: the cells of a received frame are taken at its commit; a cut-through relay has taken them already. -/
def State.admitData (s : State) (f : RxFrame) : Bool × State :=
  if (s.relayOut f.id).isSome then (true, s) else s.admitRx f.lfc.tclass f.bodyLen

/-- R227, R256, R262, R320: a DATA frame whose frame check has passed, on port `n`. Its cells are judged first (R256),
and return where it is then dropped. -/
def State.dataIn (s : State) (n : Nat) (f : RxFrame) : State :=
  let src := f.lfc.src
  if f.lfc.dst ≠ s.ownAddr ∧ f.lfc.dst ≠ addrAll then s
  else
    let (ok, s1) := s.admitData f
    let ses := s.sesFrom src
    let quar := (match ses with
      | some k => s.sQuar k
      | none => false)
    if !ok then s1
    else if !s.dirUsable src then (s1.dropSource src).loseRx f
    else if quar then (s1.bump BLV_DROP_QUARDROP).loseRx f
    else if f.lfc.sec && (f.lfc.fcnt == 0 || ses.isNone || s.isT) then (s1.bump CPH_CNT0_AUTHFAIL).loseRx f
    else if f.lfc.dst = addrAll then s1.dispatch f ses
    else match ses with
      | some k => s1.judge n f k
      | none => (s1.planAck n f false false).dispatch f none

end Sys2Proof.Machine
end

