-- ==== Sys2Proof/Machine/Boulevard.lean ====
section
/-! DEFINITION. Chapter 11: the meanings of scheduling and fetching (R244 to R247, R321, R322), of cell returns
(R255), poisoned completions and sweeps (R262), the pool (R242, R264) and the ledger's latch (R257). -/

namespace Sys2Proof.Machine

/-! ## Choosing a candidate (R244 to R246) -/

/-- The candidate of port `n` still meets R244. -/
def State.candOk (s : State) (n q : Nat) : Bool :=
  s.eligible q n && (match s.framesOf q with
    | f :: _ => s.permits n f
    | [] => false)

/-- R246: a port asks for a candidate, when it has none that is eligible. -/
def State.nextCandidate (s : State) (n : Nat) : State :=
  let asks := (match (s.blvPort n).cand with
    | some q => !s.candOk n q
    | none => true)
  if asks then
    let (c, p) := s.choose n (fun f => s.permits n f)
    s.setBlvPort n { p with cand := c }
  else s

/-- SCHEDULER_DECISION (R245, R246). -/
def execSchedulerDecision (n : Fin 16) (s : State) : Host.Outcome State Fault Refusal :=
  .next (if s.domOn dFab && decide (n.val < s.ports) then s.nextCandidate n else s)

/-! ## Fetching a candidate (R246, R321) -/

/-- A frame that takes a session's counter at its first transmission: unicast DATA of the own link layer. -/
def State.counted (s : State) (q : Nat) (f : TxFrame) : Bool :=
  decide (q < 2 ^ 20) && sub (s.queue q) qBCAST == 0 && f.lfc.ftype == 0 && f.phy == 0 && !f.g3

/-- R247: 256 * LEN leaves the buckets of a queue and of its session, refilled. -/
def State.takeTokens (s : State) (q len : Nat) : State :=
  let s1 := s.refillQueue q
  let v := s1.queue q
  let s2 := if sub v qSHAPE = 0 then s1 else s1.setQueue q (withSub v qTOKENS (sub v qTOKENS - 256 * len))
  let k := s2.queueSes q
  if k = 0 then s2
  else
    let s3 := s2.refillSes k
    let e := s3.ses k
    if sub e sSHAPE = 0 then s3 else s3.setSes k (withSub e sTOKENS (sub e sTOKENS - 256 * len))

/-- R254, R257: a frame goes from QUEUED to RETAINED. -/
def State.retain (s : State) (q : Nat) (f : TxFrame) : State :=
  let k := f.cells
  let s1 := { s with
    blv.led.queued := s.blv.led.queued - k
    blv.led.retained := s.blv.led.retained + k }
  let s2 := s1.setFrame q { f with retained := true }
  if q < 2 ^ 20 then
    let v := s2.queue q
    s2.setQueue q (withSub v qCELLS (sub v qCELLS - k))
  else s2

/-- R221: the addresses of a frame's hop. -/
def State.address (s : State) (q : Nat) (f : TxFrame) : TxFrame :=
  if s.counted q f then
    let l := f.lfc
    let dst := sub (s.ses (s.queueSes q)) sNEIGH
    let esrc := if l.relay then l.esrc else s.ownAddr
    { f with lfc := { l with
        src := s.ownAddr
        dst := dst
        esrc := esrc
        edst := if l.relay then l.edst else dst } }
  else f

/-- R157: T_req of a TIMED frame; none where its base is not valid. -/
def State.timeReq (s : State) (n : Nat) (f : TxFrame) : Option Nat :=
  if f.timed then s.launchTick (s.get (PRT_TXCFG_LTB n)) (f.launchNs / 2 ^ 30) (f.launchNs % 2 ^ 30) else none

/-- R268, R273: the packet of a frame is written into the port's transmit instance. -/
def State.toPort (s : State) (n q : Nat) (f : TxFrame) : State :=
  let i := 2 * n + 1
  let s1 := (s.arcOpen i).arcCommit i (packetWords (s.lineLen n f)) (.tx q f.id)
  let s2 := s1.setFrame q { f with
    ready := true
    arriving := false
    treq := s.timeReq n f }
  let p := s2.txPort n
  s2.setTxPort n { p with
    ready := p.ready ++ [(q, f.id)]
    again := p.again.filter (fun x => x != (q, f.id)) }

/-- The candidate of port `n` is given up. -/
def State.dropCand (s : State) (n : Nat) : State := s.setBlvPort n { s.blvPort n with cand := none }

/-- R19, R321: a frame that has its key and counter is dequeued: its tokens are taken, it is encrypted, RETAINED and
written to the port. -/
def State.dequeue (s : State) (n q key : Nat) (f : TxFrame) : State :=
  let g0 := s.address q f
  let g := { g0 with
    wire := sealFrame key g0
    retained := true }
  let s1 := if q < 2 ^ 20 then s.takeTokens q (s.lineLen n f) else s
  let s2 := ((s1.retain q g).toPort n q g).dropCand n
  if g.lfc.sec && !g.g3 then s2.cphRequest (.tx q g.id) (s.queueSes q) 1 g.body.length else s2

/-- R323: a secured G9903 frame takes its port's counter. -/
def State.g3Counter (s : State) (n : Nat) (f : TxFrame) : TxFrame × State :=
  let c := s.get (PRT_G3FC_FC n)
  ({ f with lfc := { f.lfc with fcnt := c } }, s.set (PRT_G3FC_FC n) (c + 1))

/-- R321: the counter of a session is taken for a frame, or the frame stays QUEUED. -/
def State.fetchCounted (s : State) (n q key : Nat) (f : TxFrame) : State :=
  match s.takeCounter (s.queueSes q) with
  | (none, t) => t.dropCand n
  | (some c, t) => t.dequeue n q key { f with lfc := { f.lfc with fcnt := c, seq := c % 65536 } }

/-- R246, R316, R317, R321: the first fetch of a frame. -/
def State.fetchFirst (s : State) (n q : Nat) (f : TxFrame) : State :=
  if f.g3 && f.lfc.sec then
    (if s.get (PRT_G3FC_FC n) = 2 ^ 32 - 1 then (s.completeTx q f 9).dropCand n
     else
       let (g, t) := s.g3Counter n f
       t.dequeue n q 0 g)
  else if !s.counted q f then s.dequeue n q 0 f
  else if f.lfc.sec then
    let k := s.queueSes q
    match s.obtainKey k with
    | (.key x, t) => t.fetchCounted n q x f
    | (.fail p, t) => (t.keyFail k p).dropCand n
  else s.fetchCounted n q 0 f

/-- R157, R246: port `n` takes frame `f`: a first transmission, or a retransmission from its retained cells. -/
def State.fetch (s : State) (n q : Nat) (f : TxFrame) : State :=
  if f.poison then s.dropRelay q f
  else if f.timed && (s.timeReq n f).isNone then (s.completeTx q f 3).bump (PRT_TXLATE_COUNT n)
  else if f.retained then (s.toPort n q f).dropCand n
  else s.fetchFirst n q f

/-- R178, R279: the frames to be sent again come first, in their order; then the candidate. -/
def State.nextFetch (s : State) (n : Nat) : Option (Nat × TxFrame) :=
  match ((s.txPort n).again.filterMap (fun x => (s.frameOf x.1 x.2).map (fun f => (x.1, f)))).find?
      (fun x => x.2.poison || x.2.relayOf.isNone) with
  | some x => some x
  | none =>
    match (s.blvPort n).cand with
    | some q => (s.framesOf q).head?.map (fun f => (q, f))
    | none => none

/-- CANDIDATE_FETCH (R246): the candidate is checked again against R244; nothing is fetched while the transmit
instance takes no packet (R273). -/
def execCandidateFetch (n : Fin 16) (s : State) : Host.Outcome State Fault Refusal :=
  .next (match s.nextFetch n with
  | some (q, f) =>
    let again := (s.txPort n).again.contains (q, f.id)
    if !again && !s.candOk n q then s.dropCand n
    else
      let o := s.arcOpen (2 * n + 1)
      if o.arcIsOpen (2 * n + 1) then s.fetch n q f else o
  | none => s)

/-! ## Exhaustion and shaping (R322, R247) -/

/-- R322: the queues bound to a session. -/
def State.queuesOf (s : State) (k : Nat) : List Nat :=
  (s.blv.queues.filter (fun e => sub e.2 qBOUND == 1 && sub e.2 qBCAST == 0 && sub e.2 qSESSION == k
    && !s.qQuar e.1)).map (fun e => e.1)

/-- R322: the action at the end of the interval: the QUEUED frames of the session's queues complete. -/
def State.exhaust (s : State) (k : Nat) : State :=
  forEach (s.queuesOf k) (fun q t =>
    forEach ((t.framesOf q).filter (fun f => !f.retained && f.relayOf.isNone))
      (fun f u => u.completeTx q f 9) t)
    { s with blv.exh := put k s.tick s.blv.exh }

/-- EXH_TIMEOUT (R322). -/
def execExhTimeout (session : BitVec 18) (s : State) : Host.Outcome State Fault Refusal :=
  .next (
    let k := session.toNat
    let to_ := s.get CPH_CFG_EXH_TO
    match find s.blv.exh k with
    | some t => if to_ ≠ 0 ∧ sub (s.ses k) sEXH = 1 ∧ t + to_ * tS ≤ s.tick then s.exhaust k else s
    | none => s)

/-- SHAPER_REFILL_VISIT (R247). -/
def execShaperRefillVisit (session : Bool) (index : BitVec 20) (s : State) : Host.Outcome State Fault Refusal :=
  .next (
    if session then (if sub (s.ses index.toNat) sVALID = 1 then s.refillSes index.toNat else s)
    else if sub (s.queue index.toNat) qBOUND = 1 then s.refillQueue index.toNat
    else s)

/-! ## Cell returns (R20, R255) -/

/-- R20, R255: the oldest return ends: its cells are FREE and the completion it owes is posted. -/
def State.endReturn (s : State) (r : Return) (rest : List Return) : State :=
  ({ s with
    blv.returns := rest
    blv.led.free := s.blv.led.free + r.cells }).postComplO r.compl

/-- CELL_RETURN_COMPLETE (R255). -/
def execCellReturnComplete (s : State) : Host.Outcome State Fault Refusal :=
  .next (match s.blv.returns with
  | r :: rest => s.endReturn r rest
  | [] => s)

/-! ## Poisoned completions (R262, Table 11-9) -/

/-- The line of a DRAM address of a region. -/
def regionLine (base off : Nat) : Nat := (base * 65536 + off) / 64

/-- R30, R262, R266: the memory error behind a poisoned completion is reported with its requester: the line of a
DRAM table, or a word of tables on die (its place is free, log entry 1). -/
def State.tableError (s : State) (onDie : Bool) (line req : Nat) : State :=
  if onDie then
    let (v, t) := s.takeFree (2 ^ 32)
    t.fire 100 v
  else s.reportUe line req 0

/-- A free line of the cells or their records (log entry 1), which an NF9704-T without DRAM holds on die (R266). -/
def State.cellError (s : State) (base size req : Nat) : State :=
  let (c, t) := s.takeFree (2 ^ 24)
  t.tableError (s.isT && s.get MEM_CFG_CAP == 0) (regionLine base (size * c)) req

/-- Table 11-9: of `k` cells in the state a return takes them from, `m` go to QUAR instead of FREE. -/
def State.toQuar (s : State) (m : Nat) : State := { s with blv.led.quar := s.blv.led.quar + m }

/-- Table 11-9, Table 14-6: the transmit packet of a frame that is lost is rewound, its cipher request ends, and the
frame completes MEM_ERR. -/
def State.txLost (s : State) (n q : Nat) (f : TxFrame) : State :=
  let i := 2 * n + 1
  let a := s.arcOf i
  let keep := fun (l : List Packet) => l.filter (fun p => p.load != .tx q f.id)
  let words := sumBy (fun p => p.words) (a.handed.filter (fun p => p.load == .tx q f.id))
  let s1 := (s.setArc i { a with
    filling := keep a.filling
    handed := keep a.handed
    unread := a.unread - words }).bump (ARC_CNT_REWIND i)
  (s1.cphEnd (.tx q f.id)).completeTx q f 8

/-- Table 11-9: a transmit frame whose cells cannot be read completes MEM_ERR; its packet is gone, one cell goes to
QUAR. -/
def State.txMemErr (s : State) (n q : Nat) (f : TxFrame) : State :=
  let s2 := (s.txLost n q f).toQuar 1
  let fix := fun (r : Return) => { r with cells := r.cells - 1 }
  { s2 with blv.returns := s2.blv.returns.dropLast ++ (s2.blv.returns.getLast?.map fix).toList }

/-- Table 11-9, R22: a receive frame whose cells cannot be read is dropped; its counter leaves P and one cell goes to
QUAR. -/
def State.rxMemErr (s : State) (id : Nat) : State :=
  let lose := fun (t : State) (k : Nat) =>
    let u := (t.returnRx k none).toQuar 1
    { u with blv.returns := u.blv.returns.dropLast ++ [⟨k - 1, none, false⟩] }
  match s.cph.dispatched.find? (fun d => d.frame.id == id) with
  | some d =>
    let s1 := { s.cphEnd (.rx id) with
      cph.dispatched := s.cph.dispatched.filter (fun x => x.frame.id != id) }
    let s2 := s1.setSes d.session (dropPending (s1.ses d.session) d.frame.lfc.fcnt)
    if (s2.relayOut id).isSome then s2.poisonRelay id else lose s2 (cellsOf d.frame.bodyLen)
  | none =>
    match s.hif.deliveries.find? (fun d => d.frame.id == id) with
    | some d =>
      lose { s with hif.deliveries := s.hif.deliveries.filter (fun (x : Delivery) => x.frame.id != id) } d.frame.cells
    | none => s

/-- Table 11-9: a poisoned record line on a queue's chain: its two cells go to QUAR at once. -/
def State.recordPoisoned (s : State) (q : Nat) : State :=
  if s.qQuar q then s
  else
    let s1 := s.quarantineQueue q
    match s1.blv.sweeps.getLast? with
    | some w =>
      let k := min 2 w.cells
      { s1 with
        blv.sweeps := s1.blv.sweeps.dropLast ++ [{ w with cells := w.cells - k }]
        blv.led.queued := s1.blv.led.queued - k
        blv.led.quar := s1.blv.led.quar + k
        blv.quarCells := put q (look 0 s1.blv.quarCells q + k) s1.blv.quarCells }
    | none => s1

/-- Table 11-9: of the oldest return, the cells that its walk cannot reach go to QUAR. -/
def State.walkPoisoned (s : State) (lost : Nat) : State :=
  match s.blv.returns with
  | r :: rest =>
    let k := min lost r.cells
    { s with
      blv.returns := { r with cells := r.cells - k } :: rest
      blv.led.quar := s.blv.led.quar + k }
  | [] => s

/-- R262: a poisoned completion, with the report of its memory error. -/
def State.poisoned (s : State) (p : PoisonAt) : State :=
  match p with
  | .queue q =>
    let s1 := (s.tableError s.isT (regionLine (s.get BLV_QBASE_BASE) (32 * q.toNat)) 2).quarantineQueue q.toNat
    if s.isT then s1 else { s1 with blv.badLines := put (q.toNat / 2) true s1.blv.badLines }
  | .session k => (s.tableError s.isT (regionLine (s.get BLV_SBASE_BASE) (256 * k.toNat)) 3).quarantineSes k.toNat
  | .page k => (s.tableError s.isT (regionLine (s.get BLV_DBASE_BASE) (4096 * k.toNat)) 4).quarantinePage k.toNat
  | .txData n =>
    (match (s.txPort n).ready.getLast? with
     | some (q, id) =>
       (match s.frameOf q id with
        | some f => (s.cellError (s.get BLV_CBASE_BASE) 256 1).txMemErr n q f
        | none => s)
     | none => s)
  | .rxData id => (s.cellError (s.get BLV_CBASE_BASE) 256 0).rxMemErr id
  | .record q => (s.cellError (s.get BLV_RBASE_BASE) 32 5).recordPoisoned q.toNat
  | .walk lost => (s.cellError (s.get BLV_RBASE_BASE) 32 5).walkPoisoned lost

/-- POISONED_COMPLETION (R262). -/
def execPoisonedCompletion (p : PoisonAt) (s : State) : Host.Outcome State Fault Refusal := .next (s.poisoned p)

/-- R261, R262: the sweep of a queue ends: its cells are QUAR and QUEUE_QUAR is written. -/
def State.sweepDone (s : State) (w : Sweep) : State :=
  ({ s with
    blv.sweeps := s.blv.sweeps.filter (fun (x : Sweep) => x.queue != w.queue)
    blv.led.queued := s.blv.led.queued - w.cells
    blv.led.quar := s.blv.led.quar + w.cells
    blv.quarCells := put w.queue (look 0 s.blv.quarCells w.queue + w.cells) s.blv.quarCells }).notify 5 0
      [w.queue + w.frames * 2 ^ 32]

/-- The sweep of a queue, if one is in progress, ends. -/
def State.sweepEnd (s : State) (q : Nat) : State :=
  match s.blv.sweeps.find? (fun w => w.queue == q) with
  | some w => s.sweepDone w
  | none => s

/-- QUARANTINE_SWEEP_COMPLETE (R262). -/
def execQuarantineSweepComplete (q : BitVec 20) (s : State) : Host.Outcome State Fault Refusal :=
  .next (s.sweepEnd q.toNat)

/-! ## The pool and the ledger (R242, R257, R264) -/

/-- Table 11-2: the key of register `k`: the five bases, then BLV_POOLCFG. -/
def poolKey (k : Nat) : Nat := a_BLV_QBASE + 4 * k

/-- R242: a write of a base takes place in STANDBY. -/
def State.poolWrite (s : State) (k : Nat) (data : Word) : State :=
  if s.standbyOk then s.setReg (poolKey k) (data &&& 0x7FFFF) else s.raiseFlag BLV_POOLCFG_REFUSED

/-- R264: a rebuild may be requested. -/
def State.mayRebuild (s : State) : Bool :=
  let l := s.blv.led
  s.standbyOk && l.queued == 0 && l.rx == 0 && l.retained == 0 && s.blv.returns.isEmpty && s.blv.objFlush.isNone

/-- R264: a write of REBUILD. -/
def State.rebuildNow (s : State) : State :=
  if s.mayRebuild then s.startRebuild else s.raiseFlag BLV_POOLCFG_REFUSED

/-- R242: a write of BLV_POOLCFG changes nothing outside STANDBY or with a bad CELLS; else CELLS is taken first, and
REBUILD acts where it is 1. -/
def State.poolcfgWrite (s : State) (data : Word) : State :=
  let cells := bits data 0 25
  if !s.standbyOk || cells % 64 != 0 || decide (16777216 < cells) then s.raiseFlag BLV_POOLCFG_REFUSED
  else
    let s1 := ((s.clearW1c a_BLV_POOLCFG 0x8000000 data).set BLV_POOLCFG_CELLS cells).showAct
    if data.getLsbD 25 then s1.rebuildNow else s1

/-- POOL_CONFIG_WRITE (R242). -/
def execPoolConfigWrite (k : Fin 6) (data : Word) (s : State) : Host.Outcome State Fault Refusal :=
  .next (s.hostWrite 0 (poolKey k) (fun t => if k = 5 then t.poolcfgWrite data else t.poolWrite k data))

/-- REBUILD (R264): a write of BLV_POOLCFG with REBUILD 1 that leaves CELLS. -/
def execRebuild (s : State) : Host.Outcome State Fault Refusal :=
  .next (s.hostWrite 0 a_BLV_POOLCFG (fun t => t.rebuildNow))

/-- REBUILD_COMPLETE (R264). -/
def execRebuildComplete (s : State) : Host.Outcome State Fault Refusal := .next s.endRebuild

/-- R257, Table 11-11: the counts and LSTAT are latched, and FREE is read. -/
def State.latchLedger (s : State) : State :=
  let l := s.blv.led
  let s1 := (s.set BLV_LFREE_FREE l.free).set BLV_LQUEUED_QUEUED l.queued
  let s2 := ((s1.set BLV_LRX_RX l.rx).set BLV_LRET_RETAINED l.retained).set BLV_LQUAR_QUAR l.quar
  let flush := s.blv.objFlush.isSome || s.blv.returns.any (fun r => r.flush)
  let s3 := (s2.set BLV_LSTAT_RETURN (b2n (!s.blv.returns.isEmpty))).set BLV_LSTAT_FLUSH (b2n flush)
  let s4 := (s3.set BLV_LSTAT_REBUILD (b2n s.blv.rebuilding)).set BLV_LSTAT_SWEEP (b2n (!s.blv.sweeps.isEmpty))
  (s4.set BLV_LSTAT_LOST (b2n l.lost)).post (.readData l.free)

/-- LEDGER_READ_LATCH (R257): a read of BLV_LFREE. -/
def execLedgerReadLatch (s : State) : Host.Outcome State Fault Refusal :=
  .next (s.hostRead 0 a_BLV_LFREE (fun t => t.latchLedger))

end Sys2Proof.Machine
end

