-- ==== Sys2Proof/Machine/Cipher.lean ====
section
/-! DEFINITION. Chapter 14: the meanings of the key commands (R312, R313, R318), of the engines' queue and
pre-emption (R327 to R329), and of the random source and JTAG (R307, R310). -/

namespace Sys2Proof.Machine

/-! ## Key commands (Table 14-11) -/

/-- RESULT codes of Table 14-11. -/
def kOK : Nat := 0
def kREFUSED : Nat := 1
def kBADARG : Nat := 2
def kUNWRAP : Nat := 3
def kOTPFULL : Nat := 4

/-- Fields of a command word. -/
def kcSLOT (w : Word) : Nat := bits w 4 8
def kcKEK (w : Word) : Nat := bits w 12 8
def kcUSAGE (w : Word) : Nat := bits w 20 4
def kcSIZE (w : Word) : Nat := bits w 24 2

/-- KEY_DIN as bytes, `n` words from `w` on. -/
def State.keyDin (s : State) (w n : Nat) : List Byte :=
  match n with
  | 0 => []
  | k + 1 => leBytes 4 (s.get (KEY_DIN_DATA w)) ++ s.keyDin (w + 1) k

/-- Clears KEY_DIN. -/
def State.clearDin (s : State) : State := forN 18 (fun w t => t.set (KEY_DIN_DATA w) 0) s

/-- KEY_DOUT takes bytes. -/
def State.setDout (s : State) (b : List Byte) : State :=
  forN 10 (fun w t => t.set (KEY_DOUT_DATA w) (leNat ((b.drop (4 * w)).take 4))) s

/-- A command ends. -/
def State.keyEnd (s : State) (result : Nat) : State :=
  ((s.set KEY_CMDSTAT_BUSY 0).set KEY_CMDSTAT_RESULT result).clearDin

/-- A write of KEY_CMD: ignored while BUSY is 1; a command clears KEY_DOUT as it starts. -/
def State.keyWrite (s : State) (act : State → State) : State :=
  s.hostWrite 0 a_KEY_CMD (fun t => if t.flag KEY_CMDSTAT_BUSY then t else act (t.setDout []))

/-- R311: slots 2 and 3 are never named. -/
def unnamed (k : Nat) : Bool := k == 2 || k == 3

/-- R313: LOAD is refused. -/
def State.loadRefused (s : State) (w : Word) : Bool :=
  let k := kcSLOT w
  decide (k < 16) || s.get (KEY_SLOT_STATE k) == kOTP || s.get (KEY_SLOT_REFCNT k) != 0
    || !(unnamed (kcKEK w) || s.isKek (kcKEK w))

/-- R313: LOAD. -/
def State.keyLoad (s : State) (w : Word) : State :=
  if kcSIZE w = 3 then s.keyEnd kBADARG
  else if s.loadRefused w then s.keyEnd kREFUSED
  else
    let n := sizeBits (kcSIZE w) / 8 + 8
    let k := if unnamed (kcKEK w) then none else Config.kwUnwrap (s.keyOf (kcKEK w)) ((s.keyDin 0 18).take n)
    match k with
    | some key => (s.setSlot (kcSLOT w) kPROV (kcUSAGE w) (kcSIZE w) key).keyEnd kOK
    | none => (s.fire 148 (kcSLOT w)).keyEnd kUNWRAP

/-- R313, R314: a slot is EMPTY again, and the keys unwrapped under it leave the cache. -/
def State.eraseSlot (s : State) (k : Nat) : State :=
  let s1 := s.setSlot k kEMPTY 0 0 0
  let c := s1.cph.cache.filter (fun e => e.2.2 != k)
  { s1 with
    cph.cache := c
    cph.erasing := none }.set KEY_KCCNT_VALID c.length

/-- R313: ERASE: it waits while requests name the slot. -/
def State.keyErase (s : State) (w : Word) : State :=
  let k := kcSLOT w
  if unnamed k then s.keyEnd kUNWRAP
  else if s.get (KEY_SLOT_STATE k) != kPROV then s.keyEnd kREFUSED
  else if s.get (KEY_SLOT_REFCNT k) = 0 then (s.eraseSlot k).keyEnd kOK
  else { s with cph.erasing := some k }.set KEY_CMDSTAT_BUSY 1

/-- R318: WRAP. -/
def State.keyWrap (s : State) (w : Word) : State :=
  if 2 ≤ kcSIZE w then s.keyEnd kBADARG
  else if unnamed (kcKEK w) then s.keyEnd kUNWRAP
  else if !s.isKek (kcKEK w) then s.keyEnd kREFUSED
  else
    let n := sizeBits (kcSIZE w)
    let key := leNat ((s.keyDin 0 18).take (n / 8))
    (s.setDout (Config.kwWrap (s.keyOf (kcKEK w)) key n)).keyEnd kOK

/-- R312: OTP_PROG: the next of the 16 records is programmed. -/
def State.keyOtp (s : State) (w : Word) : State :=
  if s.otp.field then s.keyEnd kREFUSED
  else if kcSIZE w = 3 then s.keyEnd kBADARG
  else if unnamed (kcSLOT w) then s.keyEnd kUNWRAP
  else if 16 ≤ s.otp.keys.length then s.keyEnd kOTPFULL
  else
    let r : OtpKey := { slot := kcSLOT w, usage := kcUSAGE w, size := kcSIZE w,
                        key := leNat ((s.keyDin 0 18).take (sizeBits (kcSIZE w) / 8)) }
    ({ s with otp.keys := s.otp.keys ++ [r] }.fire 152 2).keyEnd kOK

/-- A write of KEY_CMD by its OP. -/
def State.keyCommand (s : State) (w : Word) : State :=
  let op := bits w 0 3
  if op = 1 then s.keyWrite (fun t => t.keyLoad w)
  else if op = 2 then s.keyWrite (fun t => t.keyErase w)
  else if op = 3 then s.keyWrite (fun t => t.keyWrap w)
  else if op = 4 then s.keyWrite (fun t => t.keyOtp w)
  else s.hostWrite 0 a_KEY_CMD id

/-- LOAD (R313). -/
def execLoad (cmd : Word) (s : State) : Host.Outcome State Fault Refusal := .next (s.keyWrite (fun t => t.keyLoad cmd))

/-- ERASE (R313). -/
def execErase (cmd : Word) (s : State) : Host.Outcome State Fault Refusal :=
  .next (s.keyWrite (fun t => t.keyErase cmd))

/-- ERASE_COMPLETE (R313): REFCNT of the slot is 0. -/
def execEraseComplete (s : State) : Host.Outcome State Fault Refusal :=
  .next (match s.cph.erasing with
  | some k => if s.get (KEY_SLOT_REFCNT k) = 0 then (s.eraseSlot k).keyEnd kOK else s
  | none => s)

/-- WRAP (R318). -/
def execWrap (cmd : Word) (s : State) : Host.Outcome State Fault Refusal := .next (s.keyWrite (fun t => t.keyWrap cmd))

/-- OTP_PROG (R312). -/
def execOtpProg (cmd : Word) (s : State) : Host.Outcome State Fault Refusal :=
  .next (s.keyWrite (fun t => t.keyOtp cmd))

/-! ## Engines (R316, R317, R327 to R329) -/

/-- R327: the request a free engine takes: the oldest of the most urgent priority among the 64 of the queue. -/
def nextReq (l : List CphReq) : Option CphReq := leastBy (fun r => r.prio * 2 ^ 64 + r.num) (l.take 64)

/-- R317, Table 14-6: a dispatched frame is dropped undelivered, and its counter leaves P. -/
def State.rxDropped (s : State) (id : Nat) : State :=
  match s.cph.dispatched.find? (fun d => d.frame.id == id) with
  | some d =>
    let s1 := { s with cph.dispatched := s.cph.dispatched.filter (fun x => x.frame.id != id) }
    (s1.setSes d.session (dropPending (s1.ses d.session) d.frame.lfc.fcnt)).loseRx d.frame
  | none => s

/-- R317: the key of a receive request was not obtained. -/
def State.rxKeyFail (s : State) (ses id path : Nat) : State := (s.keyFail ses path).rxDropped id

/-- Table 14-6: a stream that cannot be resumed ends: a transmit frame completes MEM_ERR, a receive frame is dropped. -/
def State.streamLost (s : State) (r : CphReq) : State :=
  match r.use with
  | .tx q id =>
    (match s.frameOf q id with
     | some f => s.txLost (s.queuePort q) q f
     | none => s.cphEnd r.use)
  | .rx id => (s.cphEnd r.use).rxDropped id

/-- R330, Table 14-6: the context record of a stream does not unwrap in engine `e`. -/
def State.ctxFail (s : State) (e : Nat) (r : CphReq) : State :=
  ((s.fire 147 e).bump CPH_CNT1_CTXFAIL).streamLost r

/-- R316, R327: a stream runs in engine `e`. -/
def State.engineRun (s : State) (e : Nat) (r : CphReq) : State :=
  { s with
    cph.waiting := s.cph.waiting.filter (fun x => x.num != r.num)
    cph.engines := put e { r with saved := false, start := s.tick } s.cph.engines }.showCph

/-- R316, R317, R329: engine `e` first obtains the key of a receive request, and of a transmit stream that it resumes;
a key that is not obtained ends the stream. -/
def State.engineKey (s : State) (e : Nat) (r : CphReq) : State :=
  match s.obtainKey r.session with
  | (.key _, t) => t.engineRun e r
  | (.fail p, t) =>
    match r.use with
    | .tx _ _ => (t.keyFail r.session p).streamLost r
    | .rx id => (t.cphEnd r.use).rxKeyFail r.session id p

/-- R327, R329: engine `e` takes a request. A transmit request that is new has its key; one that is resumed first
restores its context record. -/
def State.engineTake (s : State) (e : Nat) (r : CphReq) (unwraps : Bool) : State :=
  if r.saved && !unwraps then s.ctxFail e r
  else match r.use with
    | .tx _ _ => if r.saved then s.engineKey e r else s.engineRun e r
    | .rx _ => s.engineKey e r

/-- The transmit stream of an engine, whose output has left, ends. -/
def State.engineFree (s : State) (e : Nat) : State :=
  match find s.cph.engines e with
  | some r =>
    match r.use with
    | .tx _ _ => s.cphEnd r.use
    | .rx _ => s
  | none => s

/-- ENGINE_TAKE_REQUEST (R327): an engine whose receive stream awaits its tag takes none. -/
def execEngineTakeRequest (e : Fin 12) (unwraps : Bool) (s : State) : Host.Outcome State Fault Refusal :=
  .next (
    let s1 := s.engineFree e
    if s.domOn dCph && decide (e.val < s.engines) && (find s1.cph.engines e).isNone then
      (match nextReq s1.cph.waiting with
       | some r => s1.engineTake e r unwraps
       | none => s1)
    else s)

/-- R328: the engine that a waiting request of priority `p` pre-empts: the greatest priority number, then the stream
that started last, then the lowest engine. -/
def State.victim (s : State) (p : Nat) : Option (Nat × CphReq) :=
  leastBy (fun x => (3 - x.2.prio) * 2 ^ 128 + (2 ^ 100 - x.2.start) * 16 + x.1)
    (s.cph.engines.filter (fun x => decide (p < x.2.prio) && decide (256 ≤ x.2.bytes)))

/-- R328: the conditions of a pre-emption: its request and the engine it takes. -/
def State.mayPreempt (s : State) : Option (CphReq × Nat × CphReq) :=
  let wait := s.get CPH_CFG_PRE_WAIT
  match nextReq s.cph.waiting with
  | some r =>
    if wait ≠ 0 ∧ r.arrival + wait * tUs ≤ s.tick ∧ s.cph.engines.length = s.engines
        ∧ s.cph.waiting.countP (fun x => x.saved) < 32 then
      (s.victim r.prio).map (fun v => (r, v))
    else none
  | none => none

/-- R329: the stream of an engine goes to the context store, and waits in its arrival position. -/
def State.saveStream (s : State) (e : Nat) (v : CphReq) : State :=
  let w := { v with saved := true }
  { s with
    cph.engines := del e s.cph.engines
    cph.waiting := s.cph.waiting.filter (fun (x : CphReq) => decide (x.num < v.num)) ++ [w] ++
      s.cph.waiting.filter (fun (x : CphReq) => decide (v.num < x.num)) }.bump CPH_CNT1_PREEMPT

/-- PREEMPTION (R328): of the engine that the rule names. -/
def execPreemption (e : Fin 12) (unwraps : Bool) (s : State) : Host.Outcome State Fault Refusal :=
  .next (match s.mayPreempt with
  | some (r, k, v) => if k = e.val then (s.saveStream k v).engineTake k r unwraps else s
  | none => s)

/-! ## The random source and JTAG (R307, R310) -/

/-- RNG_RESEED (R310): not after a failed health test. -/
def execRngReseed (s : State) : Host.Outcome State Fault Refusal :=
  .next (if s.flag CPH_STAT_RNG_FAIL || !s.domOn dCph then s else { s with cph.reseed := s.tick })

/-- RNG_HEALTH_FAIL (R310). -/
def execRngHealthFail (s : State) : Host.Outcome State Fault Refusal :=
  .next (if s.domOn dCph then s.set CPH_STAT_RNG_FAIL 1 else s)

/-- JTAG_DEBUG_ACCESS (R307): in FIELD, ES153 and a silent violation; what the debug unit does in MANUFACTURE is not
in the spec. -/
def execJtagDebugAccess (addr : Word) (write : Bool) (s : State) : Host.Outcome State Fault Refusal :=
  if s.otp.field then .next ((s.fire 153).violate (.internal addr write) 4) else .refused .debugUnit

end Sys2Proof.Machine
end

