-- ==== Sys2Proof/Machine/Mem.lean ====
section
/-! DEFINITION. Chapter 15: the meanings of the memory's commands: bucket leaks (R344), the Sweeper (R345 to R347),
uncorrectable SRAM words (Table 15-5), the debug window (R351) and the diagnostic window (R352). -/

namespace Sys2Proof.Machine

/-! ## Buckets (R344) -/

/-- R344: a leak of bucket `k` is due: a multiple of LEAK seconds after the fill has come since the last one. -/
def State.leakDue (s : State) (k leak : Nat) : Bool :=
  let p := leak * tS
  let last := (find s.mem.leaks k).getD 0
  leak != 0 && decide ((max last s.mem.filled - s.mem.filled) / p < (s.tick - s.mem.filled) / p)

/-- R344: bucket `k`, with its count, leaks. -/
def State.leak (s : State) (k leak : Nat) (cnt : Field) : State :=
  if s.leakDue k leak then
    { s.set cnt (s.get cnt - 1) with mem.leaks := put k s.tick s.mem.leaks }
  else s

/-- BUCKET_LEAK (R344). -/
def execBucketLeak (sram : Bool) (i : Fin 92) (s : State) : Host.Outcome State Fault Refusal :=
  .next (if !s.domOn dMemc then s
    else if sram then s.leak (4 + i.val) (s.get MEM_BKTCFG2_LEAK) (MEM_SBKT_COUNT i.val)
    else if i.val < 4 then s.leak i.val (s.get MEM_BKTCFG_LEAK) (MEM_DBKT_COUNT i.val)
    else s)

/-! ## The Sweeper (R345 to R347) -/

/-- R347: the DRAM sweep runs. -/
def State.sweepsDram (s : State) : Bool :=
  s.domOn dMemc && s.flag MEM_SWPCFG_DRAM_EN && s.mode != mProof && s.mode != mSafe && decide (0 < s.lines)

/-- R347: the SRAM sweep runs. -/
def State.sweepsSram (s : State) : Bool := s.domOn dMemc && s.flag MEM_SWPCFG_SRAM_EN && s.mode != mProof

/-- R347: the modes in which the Sweeper skips the line or word named in MEM_DIAGADDR. -/
def State.skips (s : State) (whr : Nat) : Bool :=
  (s.mode == mStandby || s.mode == mFactory) && s.get MEM_DIAGADDR_WHERE == whr

/-- R345: a DRAM pass ends; LATE where PERIOD is too short for 5 M lines per second. -/
def State.endPass (s : State) : State :=
  let s1 := (s.count MEM_SWPSTAT_DPASS).fire 463 1
  let s2 := if s.get MEM_SWPCFG_PERIOD * 300000000 < s.lines then s1.raiseFlag MEM_SWPSTAT_LATE else s1
  { s2 with
    mem.line := 0
    mem.lineStart := s.tick
    mem.byRow := [] }

/-- R345: the Sweeper reads its next line and moves on. -/
def State.sweepLine (s : State) : State :=
  let l := s.mem.line
  let s1 := if s.skips l then s else (s.readLine l 9).2
  if l + 1 < s1.lines then { s1 with mem.line := l + 1 } else s1.endPass

/-- SWEEPER_LINE_READ (R345). -/
def execSweeperLineRead (s : State) : Host.Outcome State Fault Refusal :=
  .next (if s.sweepsDram then s.sweepLine else s)

/-- A group that is powered and has words. -/
def State.groupOn (s : State) (g : Nat) : Bool := decide (0 < groupWords g) && s.domOn (groupDomain g)

/-- R346: the first powered group from `g` on, in ascending order, of the 92. -/
def State.nextGroup (s : State) (g n : Nat) : Option Nat :=
  match n with
  | 0 => none
  | k + 1 => if g < 92 && s.groupOn g then some g else s.nextGroup (g + 1) k

/-- WHERE of an SRAM word (Table 15-10). -/
def sramWhere (g w : Nat) : Nat := g + 256 * w

/-- R342: an uncorrectable SRAM word is reported: ES100 and MEM_UELOG. -/
def State.reportSram (s : State) (g w req : Nat) : State :=
  (s.fire 100 (sramWhere g w)).logUe (sramWhere g w) req 2

/-- R339, R346: the Sweeper reads word `w` of group `g`, and writes back a correction. -/
def State.sweepWord (s : State) (g w : Nat) : State :=
  let v := s.sramWord g w
  match sramDecode v with
  | none => s.reportSram g w 9
  | some x => if x = v.toNat then s else (s.setSramWord g w (BitVec.ofNat 72 x)).countSram g

/-- R346: the Sweeper reads its next SRAM word and moves on; the pass ends after the last powered group. -/
def State.sweepSram (s : State) : State :=
  let g := s.mem.word / 2 ^ 20
  let w := s.mem.word % 2 ^ 20
  let s1 := if s.groupOn g && decide (w < groupWords g) && !s.skips (sramWhere g w) then s.sweepWord g w else s
  if s1.groupOn g && decide (w + 1 < groupWords g) then { s1 with mem.word := 2 ^ 20 * g + w + 1 }
  else match s1.nextGroup (g + 1) 92 with
    | some g' => { s1 with mem.word := 2 ^ 20 * g' }
    | none => { (s1.count MEM_SWPSTAT_SPASS).fire 463 2 with mem.word := 0 }

/-- SRAM_SWEEP_WORD (R346). -/
def execSramSweepWord (s : State) : Host.Outcome State Fault Refusal :=
  .next (if s.sweepsSram then s.sweepSram else s)

/-! ## Uncorrectable SRAM words (Table 15-5) -/

/-- Table 15-2: whether group `g` can hold what the command says; the on-die tables of R266 lie in groups 34
to 76. -/
def State.mayHold (s : State) (g : Nat) (h : SramHolds) : Bool :=
  let dieTables := s.isT && s.get MEM_CFG_CAP == 0
  match h with
  | .nothing => true
  | .object p =>
    if dieTables then decide (34 ≤ g) && decide (g ≤ 76)
    else decide (59 ≤ g) && decide (g ≤ 76) && (match p with
      | .queue _ => true
      | .session _ => true
      | .page _ => true
      | _ => false)
  | .arcade i => arcDomain i.val == groupDomain g && decide (78 ≤ g)
  | .block n => (g == 80 || g == 81) && decide (n.val < s.ports)
  | .buffer n => decide (84 ≤ g) && dPair n.val == groupDomain g
  | .cells => decide (34 ≤ g) && decide (g ≤ 58)
  | .pages _ => g == 77

/-- Table 15-4: the requester of the read, where the table has a code for it. -/
def reqOf (g : Nat) (h : SramHolds) : Option Nat :=
  match h with
  | .object (.queue _) => some 2
  | .object (.session _) => some 3
  | .object (.page _) => some 4
  | .object (.txData _) => some 1
  | .object (.rxData _) => some 0
  | .object (.record _) => some 5
  | .object (.walk _) => some 5
  | .pages _ => some 4
  | _ => if 2 ≤ g ∧ g ≤ 25 then some 10 else if g = 82 then some 7 else none

/-- Table 15-5: a cached object, or one of the tables on the die, is lost as for a poisoned DRAM read. -/
def State.objectLost (s : State) (p : PoisonAt) : State :=
  match p with
  | .queue q => s.quarantineQueue q.toNat
  | .session k => s.quarantineSes k.toNat
  | .page k => s.quarantinePage k.toNat
  | .txData n =>
    (match (s.txPort n).ready.getLast? with
     | some (q, id) =>
       (match s.frameOf q id with
        | some f => s.txMemErr n q f
        | none => s)
     | none => s)
  | .rxData id => s.rxMemErr id
  | .record q => s.recordPoisoned q.toNat
  | .walk lost => s.walkPoisoned lost

/-- Table 15-5: the frame of the oldest block of port `n` in the LDPC input buffer fails with DECODE. -/
def State.loseBlock (s : State) (n : Nat) : State :=
  match s.rx.waiting.find? (fun b => b.port == n) with
  | some b =>
    (match (s.rxPort n).frames.find? (fun a => a.id == b.frame) with
     | some a => s.rxFail n a fDECODE
     | none => s)
  | none => s

/-- Table 15-5: what the loss of the word does to what it held. -/
def State.sramLost (s : State) (h : SramHolds) : State :=
  match h with
  | .nothing => s
  | .object p => s.objectLost p
  | .arcade i => s.arcMismatch i.val
  | .block n => s.loseBlock n.val
  | .buffer n => (s.rxAbandonCur n.val fRESET).stopAir (2 * n.val + 1)
  | .cells => { s with blv.led.lost := true }
  | .pages k => forN 64 (fun j t => t.quarantinePage (64 * k.toNat + j)) s

/-- R339, R342, Table 15-5: a reader finds word `w` of group `g` uncorrectable. The requester of a reader
without a code of Table 15-4 is a free value (log entry 1). -/
def State.sramBad (s : State) (g w : Nat) (h : SramHolds) : State :=
  let s1 := match reqOf g h with
    | some r => s.reportSram g w r
    | none =>
      let (r, t) := s.takeFree 16
      t.reportSram g w r
  if s.mayHold g h then s1.sramLost h else s1

/-- SRAM_UNCORRECTABLE (R339, Table 15-5). -/
def execSramUncorrectable (g : Fin 92) (w : BitVec 20) (h : SramHolds) (s : State) :
    Host.Outcome State Fault Refusal :=
  .next (if s.groupOn g.val && decide (w.toNat < groupWords g.val) then s.sramBad g.val w.toNat h else s)

/-! ## The debug window (R351) -/

/-- The BAR0 address of the debug window. -/
def debugBase : Nat := 0x88000

/-- The DRAM byte address of a window offset. -/
def State.debugAddr (s : State) (off : Nat) : Nat := s.get MEM_DBGCTL_PAGE * 4096 + off

/-- R351, R75: the KIND of the violation that an access to the window is, none where the window answers. -/
def State.debugKind (s : State) (off : Nat) (write : Bool) : Option Nat :=
  match s.violationKind 0 0 (debugBase + off) write with
  | some k => some (if s.locked then 1 else k)
  | none =>
    if s.locked then some 1
    else if !s.flag MEM_DBGCTL_EN || !s.flag SYS_MODESTAT_READY then some 0
    else if s.lines * 64 ≤ s.debugAddr off then some 4
    else none

/-- An access to the window, as Table 13-11 answers it: `act` where the window answers, `zero` after a silent
violation. -/
def State.debugAccess (s : State) (off : Nat) (wide write : Bool) (zero act : State → State) : State :=
  if off % (if wide then 8 else 4) ≠ 0 then s.post .unsupported
  else match s.debugKind off write with
    | some k => zero ({ s with free := s.free + 1 }.violate
        (.host 0 0 (BitVec.ofNat 32 (debugBase + off)) write) k)
    | none => act s

/-- R351: a read of the window: corrected data, or Completer Abort. -/
def State.debugRead (s : State) (off n : Nat) : State :=
  let a := s.debugAddr off
  match s.readLine (a / 64) 8 with
  | (some b, t) => t.post (.readData (leNat ((b.drop (a % 64)).take n)))
  | (none, t) => t.post .completerAbort

/-- R351: a narrow write through the window; one to a poisoned line is dropped and sets WERR. -/
def State.debugWrite (s : State) (off n data : Nat) : State :=
  let a := s.debugAddr off
  match s.narrowWrite (a / 64) (a % 64) (leBytes n data) 8 with
  | (true, t) => t
  | (false, t) => t.raiseFlag MEM_DBGSTAT_WERR

/-- The bytes of an access. -/
def accessBytes (wide : Bool) : Nat := if wide then 8 else 4

/-- DEBUG_WINDOW_READ (R351). -/
def execDebugWindowRead (offset : BitVec 12) (wide : Bool) (s : State) : Host.Outcome State Fault Refusal :=
  .next (s.debugAccess offset.toNat wide false (fun t => t.post (.readData 0))
    (fun t => t.debugRead offset.toNat (accessBytes wide)))

/-- DEBUG_WINDOW_WRITE (R351). -/
def execDebugWindowWrite (offset : BitVec 12) (wide : Bool) (data : BitVec 64) (s : State) :
    Host.Outcome State Fault Refusal :=
  .next (s.debugAccess offset.toNat wide true (fun t => t)
    (fun t => t.debugWrite offset.toNat (accessBytes wide) data.toNat))

/-! ## The diagnostic window (R352) -/

/-- Table 15-11: RESULT of a diagnostic command that does not run: 1 MODE, 2 RANGE. -/
def State.diagRefused (s : State) (sram : Bool) : Nat :=
  let whr := s.get MEM_DIAGADDR_WHERE
  if s.mode ≠ mStandby ∧ s.mode ≠ mFactory then 1
  else if sram then (if whr / 256 % 2 ^ 20 < groupWords (whr % 256) then 0 else 2)
  else if whr < s.lines then 0 else 2

/-- A diagnostic command: it runs in STANDBY and FACTORY on an address that exists. -/
def State.diag (s : State) (sram : Bool) (act : State → State) : State :=
  let r := s.diagRefused sram
  (if r = 0 then act s else s).set MEM_DIAGSTAT_RESULT r

/-- R352: the check symbols of codeword `w` of a line, as MEM_DIAGCHK holds them. -/
def State.lineChk (s : State) (l w : Nat) : Nat := s.symbol l w 8 + 65536 * s.symbol l w 9

/-- R352: the check symbols of a line go into MEM_DIAGCHK. -/
def State.showChk (s : State) (t : State) (l : Nat) : State :=
  forN 4 (fun w u => u.setReg (a_MEM_DIAGCHK w) (BitVec.ofNat 32 (t.lineChk l w))) s

/-- R16: a request into a group without power reads as zero and is a silent violation; its address is free. -/
def State.groupSilent (s : State) (write : Bool) : State :=
  let (a, t) := s.takeFree (2 ^ 32)
  t.violate (.internal (BitVec.ofNat 32 a) write) 4

/-- READ_RAW of an SRAM word. -/
def State.readRawSram (s : State) (g w : Nat) : State :=
  let v := if s.groupOn g then s.sramWord g w else 0
  let s1 := if s.groupOn g then s else s.groupSilent false
  ((s1.setReg (a_MEM_DIAGDATA 0) (v.setWidth 32)).setReg (a_MEM_DIAGDATA 1) ((v >>> 32).setWidth 32)).setReg
    (a_MEM_DIAGCHK 0) (BitVec.ofNat 32 (v.toNat / 2 ^ 64))

/-- READ_RAW of a DRAM line. -/
def State.readRawLine (s : State) (l : Nat) : State :=
  let b := s.lineBytes l
  (forN 16 (fun w u => u.setReg (a_MEM_DIAGDATA w) (BitVec.ofNat 32 (leNat ((b.drop (4 * w)).take 4)))) s).showChk s l

/-- READ_RAW (R352): the stored bits, without decoding or counting. -/
def State.readRaw (s : State) (sram : Bool) : State :=
  s.diag sram (fun t =>
    let whr := t.get MEM_DIAGADDR_WHERE
    if sram then t.readRawSram (whr % 256) (whr / 256 % 2 ^ 20) else t.readRawLine whr)

/-- The 64 bytes of MEM_DIAGDATA. -/
def State.diagBytes (s : State) : List Byte :=
  (List.range 16).flatMap (fun w => leBytes 4 (s.reg (a_MEM_DIAGDATA w)).toNat)

/-- The 64 bits of MEM_DIAGDATA[0] and [1]. -/
def State.diagWord (s : State) : Nat := (s.reg (a_MEM_DIAGDATA 0)).toNat + 2 ^ 32 * (s.reg (a_MEM_DIAGDATA 1)).toNat

/-- WRITE_RAW of an SRAM word. -/
def State.writeRawSram (s : State) (g w : Nat) : State :=
  if s.groupOn g then
    s.setSramWord g w (BitVec.ofNat 72 (s.diagWord + 2 ^ 64 * bits (s.reg (a_MEM_DIAGCHK 0)) 0 8))
  else s.groupSilent true

/-- WRITE_RAW of a DRAM line. -/
def State.writeRawLine (s : State) (l : Nat) : State :=
  forN 4 (fun w t =>
    let c := (s.reg (a_MEM_DIAGCHK w)).toNat
    (t.setSymbol l w 8 (c % 65536)).setSymbol l w 9 (c / 65536)) (s.storeBytes (80 * l) s.diagBytes)

/-- WRITE_RAW (R352): the bits exactly as given. -/
def State.writeRaw (s : State) (sram : Bool) : State :=
  s.diag sram (fun t =>
    let whr := t.get MEM_DIAGADDR_WHERE
    if sram then t.writeRawSram (whr % 256) (whr / 256 % 2 ^ 20) else t.writeRawLine whr)

/-- ENCODE (R352): the check bits of MEM_DIAGDATA; MEM_DIAGADDR plays no part. -/
def State.encodeDiag (s : State) (sram : Bool) : State :=
  if s.mode ≠ mStandby ∧ s.mode ≠ mFactory then s.set MEM_DIAGSTAT_RESULT 1
  else
    (if sram then s.setReg (a_MEM_DIAGCHK 0) (BitVec.ofNat 32 (sramCheck s.diagWord))
     else s.showChk (s.writeLine 0 s.diagBytes) 0).set MEM_DIAGSTAT_RESULT 0

/-- Table 15-11: a write of MEM_DIAGCMD. -/
def State.diagCommand (s : State) (data : Word) : State :=
  let sram := data.getLsbD 2
  match bits data 0 2 with
  | 1 => s.readRaw sram
  | 2 => s.writeRaw sram
  | 3 => s.encodeDiag sram
  | _ => s

/-- READ_RAW (R352). -/
def execReadRaw (sram : Bool) (s : State) : Host.Outcome State Fault Refusal :=
  .next (s.hostWrite 0 a_MEM_DIAGCMD (fun t => t.readRaw sram))

/-- WRITE_RAW (R352). -/
def execWriteRaw (sram : Bool) (s : State) : Host.Outcome State Fault Refusal :=
  .next (s.hostWrite 0 a_MEM_DIAGCMD (fun t => t.writeRaw sram))

/-- ENCODE (R352). -/
def execEncode (sram : Bool) (s : State) : Host.Outcome State Fault Refusal :=
  .next (s.hostWrite 0 a_MEM_DIAGCMD (fun t => t.encodeDiag sram))

end Sys2Proof.Machine
end

