-- ==== Sys2Proof/Machine/Objects.lean ====
section
/-! DEFINITION. Chapter 11: the meanings of the object commands (R259, R260, Table 11-8). A command that ends within
2 us (20 us for a page) ends in the tick of its write; a flush ends when its last cell has returned. -/

namespace Sys2Proof.Machine

/-- The `n` words of BLV_OBJDATA from word `w` on, as a number. -/
def State.objData (s : State) (w n : Nat) : Nat :=
  match n with
  | 0 => 0
  | k + 1 => s.get (BLV_OBJDATA_DATA w) + 2 ^ 32 * s.objData (w + 1) k

/-- The first `n` words of BLV_OBJDATA take a number. -/
def State.setObjData (s : State) (n v : Nat) : State :=
  forN n (fun w t => t.set (BLV_OBJDATA_DATA w) (v / 2 ^ (32 * w) % 2 ^ 32)) s

/-- Table 11-16: RESULT codes. -/
def oOK : Nat := 0
def oREFUSED : Nat := 1
def oPOISONED : Nat := 2
def oRANGE : Nat := 3

/-- An object command ends with a result; `quar`: its object is quarantined. -/
def State.objEnd (s : State) (result : Nat) (quar : Bool) : State :=
  ((s.set BLV_OBJSTAT_BUSY 0).set BLV_OBJSTAT_RESULT result).set BLV_OBJSTAT_QUAR (b2n quar)

/-- R259: a command on an object of a range of indices. -/
def State.objOn (s : State) (index first count : Nat) (act : State → State) : State :=
  if first ≤ index ∧ index < count then act s else s.objEnd oRANGE false

/-- R259: a read of `n` words: those of the object, or arbitrary ones (free, log entry 1) with POISONED. -/
def State.objRead (s : State) (n v : Nat) (quar : Bool) : State :=
  if quar then
    ({ s with free := s.free + 1 }.setObjData n (Config.freeObject s.free)).objEnd oPOISONED true
  else (s.setObjData n v).objEnd oOK false

/-- R259: an object command is written: it is ignored while BUSY is 1. -/
def State.objWrite (s : State) (act : State → State) : State :=
  s.hostWrite 0 a_BLV_OBJCMD (fun t => if t.flag BLV_OBJSTAT_BUSY then t else act t)

/-! ## Queues -/

/-- Table 11-8: READ of a queue. -/
def State.queueRead (s : State) (q : Nat) : State :=
  s.objOn q 0 s.queueCount (fun t => t.objRead 8 (t.queue q).toNat (t.qQuar q))

/-- Table 11-8: the fields of a queue that the driver writes. -/
def driverBits (v : BitVec 256) : List Nat :=
  [sub v qBOUND, sub v qBCAST, sub v qCLASS, sub v qSESSION]

/-- Table 11-8, R247: a queue's state after a WRITE: the driver's fields are taken, the device's kept, and a new
binding fills the bucket. -/
def State.queueTaken (s : State) (q : Nat) (d : BitVec 256) : BitVec 256 :=
  let old := s.queue q
  let ses := if sub d qBCAST = 1 then sub d qPORT else sub d qSESSION
  let v1 := withSub (withSub (withSub old qBOUND (sub d qBOUND)) qBCAST (sub d qBCAST)) qCLASS (sub d qCLASS)
  let v2 := withSub (withSub (withSub v1 qHOLD (sub d qHOLD)) qSESSION ses) qSHAPE (sub d qSHAPE)
  let v3 := withSub v2 qTAG (sub d qTAG)
  let bound := sub v3 qBOUND == 1 && (sub old qBOUND == 0 || sub old qBCAST != sub v3 qBCAST
    || sub old qSESSION != sub v3 qSESSION)
  if bound then withSub (withSub v3 qTOKENS (s.newTokens (sub v3 qSHAPE))) qLAST s.bucketNow else v3

/-- R341: a write of queue `q` into a poisoned line heals it; the other queue of the line is quarantined, its state
zero. -/
def State.healLine (s : State) (q : Nat) : State :=
  let l := q / 2
  let o := if q % 2 = 0 then q + 1 else q - 1
  if look false s.blv.badLines l then
    let s1 := { s with blv.badLines := del l s.blv.badLines }
    if s1.qQuar o then s1 else (s1.quarantineQueue o).setQueue o 0
  else s

/-- Table 11-8: WRITE of a queue. -/
def State.queueWrite (s : State) (q : Nat) : State :=
  s.objOn q 0 s.queueCount (fun t =>
    let d := BitVec.ofNat 256 (t.objData 0 8)
    let v := t.queueTaken q d
    if t.qQuar q then t.objEnd oREFUSED true
    else if !(t.framesOf q).isEmpty && driverBits v != driverBits (t.queue q) then t.objEnd oREFUSED false
    else ((t.setQueue q v).healLine q).objEnd oOK false)

/-- R260: a flush begins: every frame linked before it completes FLUSHED. -/
def State.queueFlush (s : State) (q : Nat) : State :=
  s.objOn q 0 s.queueCount (fun t =>
    if sub (t.queue q) qBOUND = 0 ∨ t.qQuar q then t.objEnd oREFUSED (t.qQuar q)
    else
      let t1 := t.completeAll q ((t.framesOf q).filter (fun f => f.relayOf.isNone)) 6
      { t1 with blv.objFlush := some q }.set BLV_OBJSTAT_BUSY 1)

/-- Table 11-8: RELEASE of a queue: its QUAR cells are FREE and its state zero. -/
def State.queueRelease (s : State) (q : Nat) : State :=
  s.objOn q 0 s.queueCount (fun t =>
    if t.qQuar q then
      let t1 := t.sweepEnd q
      let k := look 0 t1.blv.quarCells q
      let t2 := { t1 with
        blv.quarCells := del q t1.blv.quarCells
        blv.led.quar := t1.blv.led.quar - k
        blv.led.free := t1.blv.led.free + k
        blv.quarQ := del q t1.blv.quarQ }
      ((t2.setQueue q 0).healLine q).objEnd oOK false
    else t.objEnd oREFUSED false)

/-! ## Sessions -/

/-- R266: the words of a session: 64, or 32 on the NF9704-T. -/
def State.sesWords (s : State) : Nat := if s.isT then 32 else 64

/-- Table 11-8: READ of a session. -/
def State.sesRead (s : State) (k : Nat) : State :=
  s.objOn k 1 s.sessionCount (fun t => t.objRead t.sesWords (t.ses k).toNat (t.sQuar k))

/-- A frame in reception on a port, or its packet, comes over session `k`. -/
def State.sesReceiving (s : State) (k : Nat) : Bool :=
  let from_ := fun (phy : Nat) (l : Lfc) => phy == 0 && l.ftype == 0 && s.sesFrom l.src == some k
  s.rx.port.any (fun e => e.2.frames.any (fun a => match a.hdr with
    | some h => from_ h.cls (Lfc.ofBits h.macFc)
    | none => false)) ||
  s.arc.any (fun e => e.2.packets.any (fun p => match p.load with
    | .rx f => from_ f.phy f.lfc
    | .tx _ _ => false))

/-- Table 11-8: a frame of the session is RETAINED, in reception, or in a cut-through relay. -/
def State.sesInUse (s : State) (k : Nat) : Bool :=
  s.sesReceiving k || s.cph.dispatched.any (fun d => d.session == k) ||
    s.blv.frames.any (fun e => decide (e.1 < 2 ^ 20) && s.queueSes e.1 == k && e.2.any (fun f => f.retained))

/-- R316, R262: a session is written whole: its cached key and its quarantine go. -/
def State.sesStore (s : State) (k : Nat) (v : BitVec 2048) : State :=
  { (s.setSes k v).uncache k with blv.quarS := del k s.blv.quarS }

/-- R322: the tick of exhaustion follows EXH of a written session. -/
def State.sesExh (s : State) (k : Nat) (was : Bool) : State :=
  if sub (s.ses k) sEXH = 0 then { s with blv.exh := del k s.blv.exh }
  else if was then s
  else { s with blv.exh := put k s.tick s.blv.exh }

/-- Table 11-8, R247: WRITE of a session, with a full bucket. -/
def State.sesWrite (s : State) (k : Nat) : State :=
  s.objOn k 1 s.sessionCount (fun t =>
    if t.sesInUse k then t.objEnd oREFUSED (t.sQuar k)
    else
      let d : BitVec 2048 := BitVec.ofNat 2048 (t.objData 0 t.sesWords)
      let v := withSub (withSub d sTOKENS (t.newTokens (sub d sSHAPE))) sLAST t.bucketNow
      let was := sub (t.ses k) sEXH == 1
      ((t.sesStore k v).sesExh k was).objEnd oOK false)

/-- Table 11-8: RELEASE of a session. -/
def State.sesRelease (s : State) (k : Nat) : State :=
  s.objOn k 1 s.sessionCount (fun t => ((t.sesStore k 0).sesExh k false).objEnd oOK false)

/-! ## The directory -/

/-- Table 11-8: READ of a directory entry. -/
def State.entRead (s : State) (i : Nat) : State :=
  s.objOn i 0 s.dirCount (fun t => t.objRead 16 (t.dirEnt i).toNat (t.pQuar i))

/-- Table 11-8: WRITE of a directory entry; entry 0 is the supervisor's (R251). -/
def State.entWrite (s : State) (i : Nat) : State :=
  s.objOn i 0 s.dirCount (fun t =>
    if i = 0 ∨ t.pQuar i then t.objEnd oREFUSED (t.pQuar i)
    else (t.setDirEnt i (BitVec.ofNat 512 (t.objData 0 16))).objEnd oOK false)

/-- Table 11-8, R325: RELEASE of a directory page: its entries are zero, but for entry 0, and the page is written. -/
def State.pageRelease (s : State) (p : Nat) : State :=
  s.objOn p 0 (s.dirCount / 64) (fun t =>
    let keep := fun (e : Nat × BitVec 512) => e.1 == 0 || e.1 / 64 != p
    ({ t with
      blv.dir := t.blv.dir.filter keep
      blv.quarP := del p t.blv.quarP
      cph.pages := put p true t.cph.pages }).objEnd oOK false)

/-! ## The command word (Table 11-16) -/

/-- R259: an OP that Table 11-8 does not list for the TYPE. -/
def State.objBadOp (s : State) (type i : Nat) : State :=
  if type = 1 then s.objOn i 1 s.sessionCount (fun t => t.objEnd oREFUSED (t.sQuar i))
  else if type = 2 then s.objOn i 0 s.dirCount (fun t => t.objEnd oREFUSED (t.pQuar i))
  else s.objOn i 0 (s.dirCount / 64) (fun t => t.objEnd oREFUSED (t.pQuar (64 * i)))

/-- R259, Table 11-8: an object command by its word. An OP outside Table 11-16 starts nothing; one that Table 11-8
does not list for the TYPE is REFUSED. -/
def State.objectCommand (s : State) (cmd : Word) : State :=
  let op := bits cmd 0 3
  let type := bits cmd 3 2
  let i := bits cmd 5 25
  match type, op with
  | 0, 1 => s.queueRead i
  | 0, 2 => s.queueWrite i
  | 0, 3 => s.queueFlush i
  | 0, 4 => s.queueRelease i
  | 1, 1 => s.sesRead i
  | 1, 2 => s.sesWrite i
  | 1, 4 => s.sesRelease i
  | 2, 1 => s.entRead i
  | 2, 2 => s.entWrite i
  | 3, 4 => s.pageRelease i
  | _, _ => if 1 ≤ op ∧ op ≤ 4 then s.objBadOp type i else s

/-- QUEUE_READ (R259). -/
def execQueueRead (index : BitVec 25) (s : State) : Host.Outcome State Fault Refusal :=
  .next (s.objWrite (fun t => t.queueRead index.toNat))

/-- QUEUE_WRITE (R259). -/
def execQueueWrite (index : BitVec 25) (s : State) : Host.Outcome State Fault Refusal :=
  .next (s.objWrite (fun t => t.queueWrite index.toNat))

/-- QUEUE_FLUSH (R260). -/
def execQueueFlush (index : BitVec 25) (s : State) : Host.Outcome State Fault Refusal :=
  .next (s.objWrite (fun t => t.queueFlush index.toNat))

/-- FLUSH_COMPLETE (R260): the last cell of the flush has returned. -/
def execFlushComplete (s : State) : Host.Outcome State Fault Refusal :=
  .next (match s.blv.objFlush with
  | some _ =>
    if s.blv.returns.any (fun r => r.flush) then s
    else { s with blv.objFlush := none }.objEnd oOK false
  | none => s)

/-- QUEUE_RELEASE (R259). -/
def execQueueRelease (index : BitVec 25) (s : State) : Host.Outcome State Fault Refusal :=
  .next (s.objWrite (fun t => t.queueRelease index.toNat))

/-- SESSION_READ (R259). -/
def execSessionRead (index : BitVec 25) (s : State) : Host.Outcome State Fault Refusal :=
  .next (s.objWrite (fun t => t.sesRead index.toNat))

/-- SESSION_WRITE (R259). -/
def execSessionWrite (index : BitVec 25) (s : State) : Host.Outcome State Fault Refusal :=
  .next (s.objWrite (fun t => t.sesWrite index.toNat))

/-- SESSION_RELEASE (R259). -/
def execSessionRelease (index : BitVec 25) (s : State) : Host.Outcome State Fault Refusal :=
  .next (s.objWrite (fun t => t.sesRelease index.toNat))

/-- DIRECTORY_ENTRY_READ (R259). -/
def execDirectoryEntryRead (index : BitVec 25) (s : State) : Host.Outcome State Fault Refusal :=
  .next (s.objWrite (fun t => t.entRead index.toNat))

/-- DIRECTORY_ENTRY_WRITE (R259). -/
def execDirectoryEntryWrite (index : BitVec 25) (s : State) : Host.Outcome State Fault Refusal :=
  .next (s.objWrite (fun t => t.entWrite index.toNat))

/-- DIRECTORY_PAGE_RELEASE (R259). -/
def execDirectoryPageRelease (index : BitVec 25) (s : State) : Host.Outcome State Fault Refusal :=
  .next (s.objWrite (fun t => t.pageRelease index.toNat))

/-- OBJECT_COMMAND_BAD_OP (R259): a command word whose OP Table 11-8 does not list for its TYPE. -/
def execObjectCommandBadOp (cmd : Word) (s : State) : Host.Outcome State Fault Refusal :=
  .next (s.objWrite (fun t => t.objectCommand cmd))

end Sys2Proof.Machine
end

