-- ==== Sys2Proof/Machine/FrontEnd.lean ====
section
/-! DEFINITION. Chapter 04: background calibration, the decimation chains and their resets, the port
detectors, and mains sensing. -/

namespace Sys2Proof.Machine

/-! ## Calibration (R83, R84) -/

/-- R84: a pass of port `n` may start: the port is present and PD_PROT on, the device is not in PROOF, no
pass runs, and CAL_INT (not 0) times 100 ms have passed since the previous one began. -/
def State.calDue (s : State) (n : Nat) : Bool :=
  let p := s.fePort n
  decide (n < s.ports) && s.domOn dProt && s.mode != mProof && !p.calActive
    && s.get (PRT_AFE_CAL_INT n) != 0
    && decide (p.calStart + s.get (PRT_AFE_CAL_INT n) * (100 * tMs) ≤ s.tick)

/-- CALIBRATION_PASS_START (R84). -/
def execCalibrationPassStart (n : Fin 16) (s : State) : Host.Outcome State Fault Refusal :=
  .next (if s.calDue n then
    s.setFePort n { s.fePort n with calActive := true, calStart := s.tick }
  else s)

/-- CALIBRATION_PASS_END (R84): ES487 fires with the port, and CAL_LIMIT is set when a coefficient reached
the end of its range. -/
def execCalibrationPassEnd (n : Fin 16) (limit : Bool) (s : State) : Host.Outcome State Fault Refusal :=
  .next (if (s.fePort n).calActive then
    let s1 := (s.setFePort n { s.fePort n with calActive := false }).fire 487 n
    if limit then s1.raiseFlag (PRT_AFE_CAL_LIMIT n) else s1
  else s)

/-! ## Resets of the decimators (R88 to R94) -/

/-- R93: SYNC_IN edges and CMD writes reset chains. -/
def State.decSyncOn (s : State) : Bool := s.mode != mProof && s.mode != mSafe

/-- SYNC_IN_EDGE (R91): ES190 fires; with PIN_EN, and outside PROOF and SAFE, reset edge E is scheduled. -/
def execSyncInEdge (e : Fin 8) (s : State) : Host.Outcome State Fault Refusal :=
  let s1 := s.fire 190
  .next (if s.flag SYS_DECSYNC_PIN_EN && s.decSyncOn then s1.addEdge (2 * s.tick + e) .all else s1)

/-- The effect of a write of CMD (R90 b, R91, R93): E is the first SCLK edge of tick T + 2. -/
def State.decsyncCmd (s : State) : State :=
  let e := 2 * (s.tick + 2)
  if s.decSyncOn then { s.addEdge e .all with time.syncEdges := s.time.syncEdges.filter (fun x => x != e) ++ [e] }
  else s

/-- DECSYNC_CMD (R90). -/
def execDecsyncCmd (s : State) : Host.Outcome State Fault Refusal :=
  .next (s.hostWrite 0 a_SYS_DECSYNC State.decsyncCmd)

/-- R92: the data chain of port `n` restarts at edge `e`: L outputs carry SETTLING. A bypassed BB chain
holds nothing to restart. A frame in reception on a chain that restarts is abandoned with reason RESET
(Table 04-8). -/
def State.resetChain (s : State) (e : Nat) (n : Nat) : State :=
  if s.domOn (dPair n) && decide (n < s.ports) then
    let k := s.effK n
    let l := if k = 0 then 0 else if k = 1 then 22 else if k = 2 then 25 else 26
    let s1 := s.setFePort n { s.fePort n with chainEdge := e, chainL := l }
    let s2 := s1.set (PRT_DEC_SETTLE n) l
    if k = 0 then s2 else s2.rxAbandonCur n fRESET
  else s

/-- R89: the Burin front decimator of port `n` restarts at edge `e`, and its hops count from there. -/
def State.resetBurDec (s : State) (e : Nat) (n : Nat) : State :=
  if s.domOn dProt then s.setFePort n { s.fePort n with burEdge := e } else s

/-- R91, R92: the mains chain `i` restarts at the first modulator edge at or after `e`. -/
def State.resetMains (s : State) (e : Nat) (i : Nat) : State :=
  if s.domOn dMsn && bitN (s.get TIM_MSCTL_EN) i then
    (s.setMs i { s.ms i with edge := (e + 15) / 16 * 16 }).set (TIM_MSSTAT_SETTLING i) 1
  else s

/-- What one due reset edge reaches (R90). -/
def State.applyTarget (s : State) (e : Nat) (t : DecTarget) : State :=
  match t with
  | .all =>
    let s1 := forN 16 (fun n t => t.resetChain e n) s
    let s2 := forN 16 (fun n t => t.resetBurDec e n) s1
    forN 4 (fun i t => t.resetMains e i) s2
  | .port n => s.resetChain e n
  | .burin n => s.resetBurDec e n
  | .mains i => s.resetMains e i

/-- DECIMATOR_RESET (R92): the earliest reset edge that the present tick has reached takes effect. Several
causes on one edge are one reset (Table 04-8). Cases (a) and (b) count in SYS_DECSYNC.COUNT and leave
the tick that holds E in SYS_DECSYNCT; SYNC_OUT may follow case (b) (R370). -/
def execDecimatorReset (s : State) : Host.Outcome State Fault Refusal :=
  .next (match leastBy (fun p => p.1) s.fe.edges with
  | none => s
  | some (e, _) =>
    if e / 2 ≤ s.tick then
      let due := s.fe.edges.filter (fun p => p.1 == e)
      let s1 := { s with fe.edges := s.fe.edges.filter (fun p => p.1 != e) }
      let s2 := forEach due (fun p t => t.applyTarget e p.2) s1
      if due.any (fun p => p.2 == .all) then
        let s3 := (s2.count SYS_DECSYNC_COUNT).set SYS_DECSYNCT_TICK (e / 2)
        if e ∈ s.time.syncEdges then
          { s3 with time.syncEdges := s3.time.syncEdges.filter (fun x => x != e) }.syncOut 1
        else s3
      else s2
    else s)

/-! ## Port detectors (R95, R96) -/

/-- R95: the envelope after one counted output of magnitude `m` (16 bits), held to 24 bits. -/
def envStep (attack decay : Nat) (e : BitVec 24) (m : BitVec 16) : BitVec 24 :=
  let x : Int := 256 * (m.toNat : Int)
  let c : Int := e.toNat
  if c < x then BitVec.ofInt 24 (c + (x - c) / 2 ^ attack)
  else BitVec.ofInt 24 (c + (x - c) / 2 ^ decay)

/-- DETECTOR_WINDOW_END (R95, R96): PEAK, RMS and COUNT of the counted outputs latch, SEQ rises by 1, the
envelope has followed every counted output, and WIN and SLOT as written apply from the next window. -/
def execDetectorWindowEnd (n : Fin 16) (mags : List (BitVec 16)) (s : State) :
    Host.Outcome State Fault Refusal :=
  .next (if s.domOn (dPair n) && decide (n.val < s.ports) then
    let count := mags.length
    let peak := mags.foldl (fun a m => max a m.toNat) 0
    let sq := mags.foldl (fun a m => a + m.toNat * m.toNat) 0
    let env := mags.foldl (envStep (s.get (PRT_DETCFG_ATTACK n)) (s.get (PRT_DETCFG_DECAY n)))
      (s.fePort n).env
    let s1 := s.set (PRT_DETPK_PEAK n) peak
    let s2 := s1.set (PRT_DETRMS_RMS n) (if count = 0 then 0 else isqrt (sq / count))
    let s3 := (s2.set (PRT_DETSTAT_COUNT n) count).set (PRT_DETSTAT_INVALID n) (b2n (count == 0))
    let s4 := (s3.count (PRT_DETSTAT_SEQ n)).set (PRT_DETENV_ENV n) (env.toNat / 256)
    s4.setFePort n { s4.fePort n with
      env := env
      win := s.get (PRT_DETCFG_WIN n)
      slotWin := s.flag (PRT_DETCFG_SLOT n) }
  else s)

/-! ## Mains sensing (R97 to R102) -/

/-- R97: the group delay of the mains chain in ticks: (35 * 2^(k-1) - 5) / 2 modulator periods of 64 ns. -/
def mainsGd (k : Nat) : Nat := (35 * 2 ^ (k - 1) - 5) * 4

/-- R97: the tick at which chain `i` delivers its last SETTLING output: 17 outputs after its reset. -/
def State.settleEnd (s : State) (i : Nat) : Nat :=
  (s.ms i).edge / 2 + 17 * 2 ^ s.get (TIM_MSCFG_K i) * 8

/-- R101: a period (in 2^-16 tick) lies in the tracked range. -/
def State.periodOk (s : State) (p : Nat) : Bool :=
  let one := tS * 65536
  let lo := if s.flag TIM_MSCTL_NOM then 55 else 45
  decide (0 < p) && decide (lo * p ≤ one) && decide (one ≤ (lo + 10) * p)

/-- R100: the cycle of input `i` from time `t0` to time `t` (in 2^-16 tick) is valid. A crossing time is compensated for
the group delay and for DELAY (R99), so an output was taken that much later. -/
def State.cycleOk (s : State) (i : Nat) (t0 t : Nat) : Bool :=
  s.periodOk (t - t0) && (s.ms i).ovl == 0
    && decide ((s.settleEnd i * 65536 : Nat) ≤
      ((t0 + mainsGd (s.get (TIM_MSCFG_K i)) * 65536 : Nat) : Int) + s.getI (TIM_MSCFG_DELAY i) * 8192)

/-- R101: FREQ_OOR is set, and ES192 fires when it was 0. -/
def State.setOor (s : State) (i : Nat) : State :=
  if s.flag (TIM_MSSTAT_FREQ_OOR i) then s else (s.set (TIM_MSSTAT_FREQ_OOR i) 1).fire 192 i

/-- R100: a positive crossing closes the cycle that began at `t0`. -/
def State.closeCycle (s : State) (i t0 t rms peak : Nat) : State :=
  let ok := s.cycleOk i t0 t
  let s1 := if ok then
      ((((s.set (TIM_MSFREQ_FREQ i) (tS * 65536 * 65536 / (t - t0))).set (TIM_MSRMS_RMS i) rms).set
        (TIM_MSPEAK_PEAK i) peak).set (TIM_MSSTAT_VALID i) 1).set (TIM_MSSTAT_FREQ_OOR i) 0
    else s.set (TIM_MSSTAT_VALID i) 0
  let s2 := if s.periodOk (t - t0) then s1 else s1.setOor i
  let m := s2.ms i
  s2.setMs i { m with
    ovl := m.ovl - 1
    cycles := if ok then m.cycles + 1 else 0
    valid := ok
    validAt := if ok then some s.tick else m.validAt
    periods := if ok then (m.periods ++ [t - t0]).drop (m.periods.length - 7) else m.periods }

/-- R98, R99: input `i` is sensed: PD_MSN is on and the input enabled. -/
def State.msOn (s : State) (i : Nat) : Bool := s.domOn dMsn && bitN (s.get TIM_MSCTL_EN) i

/-- R88, R92: SETTLE of port `n`: the SETTLING outputs that chain has not delivered by the start of the tick. -/
def State.showSettle (s : State) (n : Nat) : State :=
  if s.domOn (dPair n) && decide (n < s.ports) then
    let p := s.fePort n
    s.set (PRT_DEC_SETTLE n) (p.chainL - (2 * s.tick - p.chainEdge) / 2 ^ s.effK n)
  else s

/-- R97: SETTLING of mains-sense input `i`. -/
def State.showMsSettle (s : State) (i : Nat) : State :=
  if s.msOn i then s.set (TIM_MSSTAT_SETTLING i) (b2n (decide (s.tick < s.settleEnd i))) else s

/-- SETTLE and SETTLING of every chain. -/
def State.showSettles (s : State) : State :=
  forN 4 (fun i t => t.showMsSettle i) (forN 16 (fun n t => t.showSettle n) s)

/-- ZERO_CROSSING (R99, R100): a positive crossing writes its time, closes a cycle and fires ES178 + i
with the cycle count of TB3; either polarity refreshes ENV when the full cycle that ends there is
valid. A crossing of the reference input drives TB3 (R367). -/
def execZeroCrossing (i : Fin 4) (positive : Bool) (t : Nat) (frac : BitVec 16) (rms peak env : BitVec 24)
    (s : State) : Host.Outcome State Fault Refusal :=
  .next (if s.msOn i then
    let at_ := t * 65536 + frac.toNat
    let prev := if positive then (s.ms i).lastPos else (s.ms i).lastNeg
    let fullOk := match prev with
      | some t0 => s.cycleOk i t0 at_
      | none => false
    let s1 := if fullOk then s.set (TIM_MSENV_ENV i) env.toNat else s
    if positive then
      let s2 := (s1.set (TIM_MSZCT_TICK i) t).set (TIM_MSZCF_FRAC i) frac.toNat
      let s3 := match (s.ms i).lastPos with
        | some t0 => s2.closeCycle i t0 at_ rms.toNat peak.toNat
        | none => s2
      let s4 := s3.setMs i { s3.ms i with lastPos := some at_, decided := s.tick }
      let s5 := if s.get TIM_MSCTL_REF = i.val then (s4.tb3Crossing at_ fullOk).sfCrossing at_ fullOk else s4
      s5.fire (178 + i) (s5.time.cyc % 65536)
    else s1.setMs i { s1.ms i with lastNeg := some at_ }
  else s)

/-- MAINS_CROSSING_TIMEOUT (R101): no positive crossing has followed the last one within
1 / (nominal - 5 Hz): FREQ_OOR is set. -/
def execMainsCrossingTimeout (i : Fin 4) (s : State) : Host.Outcome State Fault Refusal :=
  .next (match (s.ms i).lastPos with
  | some t0 =>
    let f := if s.flag TIM_MSCTL_NOM then 55 else 45
    if s.msOn i && decide (tS * 65536 ≤ (s.tick * 65536 - t0) * f) then s.setOor i else s
  | none => s)

/-- MODULATOR_OVERLOAD (R98): OVERLOAD is set; the cycle in progress and the next one are invalid. -/
def execModulatorOverload (i : Fin 4) (s : State) : Host.Outcome State Fault Refusal :=
  .next (if s.msOn i then
    (s.setMs i { s.ms i with ovl := 2 }).raiseFlag (TIM_MSSTAT_OVERLOAD i)
  else s)

/-- R102: HCOUNT of the cycle frequency FREQ (Hz * 2^16): min(HMAX, floor(0.39 fs_out / f)). -/
def State.hcount (s : State) (i : Nat) : Nat :=
  let f := s.get (TIM_MSFREQ_FREQ i)
  if f = 0 then s.get TIM_MSCTL_HMAX
  else min (s.get TIM_MSCTL_HMAX) (39 * 15625000 * 65536 / (100 * 2 ^ s.get (TIM_MSCFG_K i) * f))

/-- HARMONIC_AVERAGE_END (R102): after HAVG valid cycles (0 means 64) TIM_MSHARM is written, bins above
HCOUNT as zero, and a harmonics telemetry record is pushed (R300). -/
def execHarmonicAverageEnd (i : Fin 4) (h : List (BitVec 16 × BitVec 16)) (s : State) :
    Host.Outcome State Fault Refusal :=
  let need := if s.get TIM_MSCTL_HAVG = 0 then 64 else s.get TIM_MSCTL_HAVG
  .next (if s.msOn i && decide (need ≤ (s.ms i).cycles) then
    let hc := s.hcount i
    let s1 := forN 50 (fun j t =>
      let v := if j < hc then h.getD j (0, 0) else (0, 0)
      (t.set (TIM_MSHARM_MAG i j) v.1.toNat).set (TIM_MSHARM_PHASE i j) v.2.toNat) s
    let s2 := s1.set (TIM_MSSTAT_HCOUNT i) hc
    let pairs := (List.range hc).map (fun j => h.getD j (0, 0))
    let bytes := (pairs.map (fun v => leBytes 4 (v.1.toNat + v.2.toNat * 2 ^ 16))).flatten
    (s2.setMs i { s2.ms i with cycles := 0 }).telemetry 2 (i + 16 * hc) i (chunk12 bytes (ceilDiv (4 * hc) 12))
  else s)

end Sys2Proof.Machine
end

