-- ==== Sys2Proof/Machine/PerOps.lean ====
section
/-! DEFINITION. Chapter 17: the operations of the flash store: erases and writes, boot records, encrypted units,
the event log and repair records (R383 to R390), and the order in which flash operations are served. -/

namespace Sys2Proof.Machine

/-! ## Bytes of the flash (R384, R389) -/

/-- Writes bytes at a flash address. -/
def State.flashPut (s : State) (a : Nat) (b : List Byte) : State :=
  match b with
  | [] => s
  | x :: r => ({ s with fsp.mem := store 0xFF a x s.fsp.mem }).flashPut (a + 1) r

/-- R389: erases `len` bytes at `a`; the erase count of that sector or block rises, and at FSP_WEAR.TH ES469
fires. -/
def State.flashErase (s : State) (a len : Nat) : State :=
  let c := look 0 s.fsp.erases a + 1
  let s1 := { s with
    fsp.mem := s.fsp.mem.filter (fun e => decide (e.1 < a) || decide (a + len ≤ e.1))
    fsp.erases := put a c s.fsp.erases }
  let s2 := s1.set FSP_WEAR2_MAX (max c (s.get FSP_WEAR2_MAX))
  if c = s.get FSP_WEAR_TH then s2.fire 469 a else s2

/-! ## Boot records (R386) -/

/-- Table 17-3: slot `k`. -/
def bootSlot (k : Nat) : Nat := 4096 * k

/-- R386: the record in slot `k` is valid: its MAGIC and CRC check. -/
def State.bootValid (s : State) (k : Nat) : Bool :=
  let b := s.flashBytes (bootSlot k) 64
  leNat (b.take 4) == 0x42545253 && leNat (b.drop 60) == crc32 (b.take 60)

/-- SEQ of the record in slot `k`. -/
def State.bootSeq (s : State) (k : Nat) : Nat := leNat (s.flashBytes (bootSlot k + 4) 4)

/-- R386: the slot of the record in force: the valid one of highest SEQ. -/
def State.bootInForce (s : State) : Option Nat :=
  ((List.range 16).filter (fun k => s.bootValid k)).foldl (fun a k => match a with
    | some j => if s.bootSeq j < s.bootSeq k then some k else a
    | none => some k) none

/-- R45, R386: PREFER of the record in force: [0] the pair, [1] TRIAL; pair A where none is valid. -/
def State.bootPrefer (s : State) : Nat :=
  match s.bootInForce with
  | some k => (s.flashByte (bootSlot k + 8)).toNat
  | none => 0

/-- R386: writes a new boot record of 60 B, whose SEQ, ECNT and CRC the device sets. -/
def State.writeBoot (s : State) (b : List Byte) : State :=
  let (k, seq) := (match s.bootInForce with
    | some k => ((k + 1) % 16, s.bootSeq k + 1)
    | none => (0, 1))
  let s1 := s.flashErase (bootSlot k) 4096
  let ecnt := look 0 s1.fsp.erases (bootSlot k)
  let r := b.take 4 ++ leBytes 4 seq ++ (b.take 12).drop 8 ++ leBytes 4 ecnt ++ (b.take 60).drop 16
  s1.flashPut (bootSlot k) (r ++ leBytes 4 (crc32 r))

/-- Table 17-2: the first address and the size of mailbox region `r`. -/
def regionBase (r : Nat) : Nat :=
  if r = 0 then 0x100000 else if r = 1 then 0x700000 else if r = 2 then 0x900000 else if r = 3 then 0xF00000 else 0
def regionSize (r : Nat) : Nat :=
  if r = 0 ∨ r = 2 then 0x600000 else if r = 1 ∨ r = 3 then 0x200000 else 0x10000

/-- Table 17-3: the 60 B of a boot record with PREFER; RECNT are the erases of sector 0 of each image region. -/
def State.bootRecord (s : State) (prefer : Nat) : List Byte :=
  leBytes 4 0x42545253 ++ leBytes 4 0 ++ leBytes 4 (prefer % 4) ++ leBytes 4 0
    ++ ((List.range 4).map (fun r => leBytes 4 (look 0 s.fsp.erases (regionBase r)))).flatten
    ++ List.replicate 28 0

/-! ## Encrypted units (R385) -/

/-- R385: slot 0 holds a key. -/
def State.xtsReady (s : State) : Bool := s.get (KEY_SLOT_STATE 0) != kEMPTY

/-- R385: writes the 4 KiB unit at `a`, after an erase of its sector. -/
def State.writeUnit (s : State) (a : Nat) (b : List Byte) : State :=
  (s.flashErase a 4096).flashPut a (fitTo b.length (Config.xtsEncrypt (s.keyOf 0) (a / 4096) b))

/-- R385: the plaintext of the unit that holds address `a`. -/
def State.readUnit (s : State) (a : Nat) : List Byte :=
  fitTo 4096 (Config.xtsDecrypt (s.keyOf 0) (a / 4096) (s.flashBytes (a / 4096 * 4096) 4096))

/-- R385: `n` bytes at `a` of an XTS region, in the clear. -/
def State.readXts (s : State) (a n : Nat) : List Byte :=
  ((s.readUnit a ++ s.readUnit (a + 4096)).drop (a % 4096)).take n

/-! ## The event log (R387) -/

/-- Table 13-8: the 16 B of a Square record, without LOST and PHASE. -/
def EvRec.word (r : EvRec) : Nat :=
  r.tick % 2 ^ 64 + r.data % 2 ^ 32 * 2 ^ 64 + (r.source % 512 + r.rep % 256 * 2 ^ 16) * 2 ^ 96

/-- R387: the flash address of log unit `k`. -/
def unitAddr (k : Nat) : Nat := 0x1100000 + 4096 * k

/-- R387: the 64 B header of a log unit (its CRC in the last four bytes, log entry 26). -/
def unitHeader (seq ecnt : Nat) : List Byte :=
  let h := leBytes 4 0x4C4F4731 ++ leBytes 4 seq ++ leBytes 4 ecnt ++ List.replicate 48 0
  h ++ leBytes 4 (crc32 h)

/-- R387: a unit's header is valid. -/
def unitOk (b : List Byte) : Bool :=
  leNat (b.take 4) == 0x4C4F4731 && leNat ((b.take 64).drop 60) == crc32 (b.take 60)

/-- R387: writes a unit in the next place; a block is erased before it is first used again, not
before its first use. -/
def State.writeLog (s : State) (l : List Nat) : State :=
  let k := s.fsp.unitPos % 3840
  let a := unitAddr k
  let s1 := if k % 16 = 0 ∧ 3840 ≤ s.fsp.unitPos then s.flashErase a 65536 else s
  let b := unitHeader s.fsp.unitSeq (look 0 s1.fsp.erases (a / 65536 * 65536))
    ++ (l.map (fun x => leBytes 16 x)).flatten
  let pad := (b ++ List.replicate 4096 0xFF).take 4096
  let s2 := s1.flashPut a (fitTo 4096 (Config.xtsEncrypt (s.keyOf 0) (a / 4096) pad))
  { s2 with
    fsp.unitSeq := s.fsp.unitSeq + 1
    fsp.unitPos := s.fsp.unitPos + 1 }

/-- R387: the supervisor logs a record of class P0 to P3 or of ES457, outside PROOF and SAFE. A full unit is
closed, and the next record opens a new one. -/
def State.logRecord (s : State) (r : EvRec) : State :=
  if (r.source < 176 ∨ r.source = 457) ∧ s.mode ≠ mProof ∧ s.mode ≠ mSafe then
    let u := s.fsp.unit ++ [r.word]
    let t := if s.fsp.unit.isEmpty then s.tick else s.fsp.unitTick
    if u.length = 252 then { s with
      fsp.unit := []
      fsp.full := s.fsp.full ++ [u] }
    else { s with
      fsp.unit := u
      fsp.unitTick := t }
  else s

/-! ## Repair records (R388) -/

/-- R388: a 16 B repair record; its fields as the registers hold them (log entry 26), and its CRC-16, most significant
byte first (R427). -/
def repairRecord (kind index w0 w1 : Nat) : List Byte :=
  let b := [BitVec.ofNat 8 kind, BitVec.ofNat 8 index] ++ leBytes 4 w0 ++ leBytes 4 w1 ++ List.replicate 4 0
  b ++ (leBytes 2 (crc16 b)).reverse

/-- R388: the first address of the two blocks. -/
def repairBlock (b : Nat) : Nat := 0x20000 + 65536 * b

/-- A repair record as the flash holds it: KIND, index, the words of MEM_REPLOG, or MEM_MARK in `w0`. -/
structure Repair where
  kind : Nat
  index : Nat
  w0 : Nat
  w1 : Nat
  deriving DecidableEq, Repr

/-- Record `k` of the active block. -/
def State.repairAt (s : State) (k : Nat) : Repair :=
  let b := s.flashBytes (repairBlock s.fsp.block + 16 * k) 16
  ⟨leNat (b.take 1), leNat ((b.drop 1).take 1), leNat ((b.drop 2).take 4), leNat ((b.drop 6).take 4)⟩

/-- A later record replaces an earlier one of the same candidate or the same rank's marks. -/
def Repair.same (a b : Repair) : Bool := a.kind == b.kind && (if a.kind = 1 then a.w0 == b.w0 else a.index == b.index)

/-- R388: the live records, oldest first. -/
def State.liveRepairs (s : State) : List Repair :=
  ((List.range s.fsp.records).map (fun k => s.repairAt k)).foldl (fun l r => l.filter (fun x => !x.same r) ++ [r]) []

/-- R388: appends a record to the active block; a full block's live records are copied to the other block,
which is erased first, and the full one is erased after. -/
def State.appendRepair (s : State) (rec : List Byte) : State :=
  if s.fsp.records < 4096 then
    { s.flashPut (repairBlock s.fsp.block + 16 * s.fsp.records) rec with fsp.records := s.fsp.records + 1 }
  else
    let other := 1 - s.fsp.block
    let live := s.liveRepairs.map (fun r => repairRecord r.kind r.index r.w0 r.w1)
    let s1 := (s.flashErase (repairBlock other) 65536).flashPut (repairBlock other) (live.flatten ++ rec)
    let s2 := s1.flashErase (repairBlock s.fsp.block) 65536
    { s2 with
      fsp.block := other
      fsp.records := live.length + 1 }

/-! ## The order of flash operations (R390) -/

/-- R390: precedence. -/
def FlashOp.rank (o : FlashOp) : Nat :=
  match o with
  | .repair _ _ _ => 2
  | .mailbox _ _ _ _ => 3
  | .logRead _ => 4
  | .logWrite _ => 5

/-- R390: an operation begins, or waits behind the one in progress. -/
def State.flashStart (s : State) (o : FlashOp) : State :=
  match s.fsp.op with
  | none => { s with fsp.op := some o }.set FSP_STAT_BUSY 1
  | some _ => { s with fsp.waiting := s.fsp.waiting ++ [o] }

/-- R390: the next operation by precedence. -/
def State.flashNext (s : State) : State :=
  match leastBy (fun o => FlashOp.rank o) s.fsp.waiting with
  | none => { s with fsp.op := none }.set FSP_STAT_BUSY 0
  | some o => { s with
      fsp.op := some o
      fsp.waiting := dropFirst (fun x => x == o) s.fsp.waiting }

end Sys2Proof.Machine
end

