-- ==== Sys2Proof/Machine/Periph.lean ====
section
/-! DEFINITION. Chapter 17: the meanings of the UART, flash-store and GPIO commands. -/

namespace Sys2Proof.Machine

/-! ## UARTs (R373 to R382) -/

/-- UART `u`. -/
def State.uartOf (s : State) (u : Nat) : Uart := look {} s.uart u
def State.setUart (s : State) (u : Nat) (x : Uart) : State := { s with uart := store {} u x s.uart }

/-- R381: the UART runs: PD_PER is on, the device is not in PROOF or SAFE, and EN is 1. -/
def State.uartOn (s : State) (u : Nat) : Bool :=
  s.domOn dPer && s.mode != mProof && s.mode != mSafe && s.flag (UAR_CFG_EN u)

/-- R381: status bit `b` of UAR[u]_ISR is set. When an enabled bit goes from 0 to 1, ES464 + u fires with the
bits set in the tick. -/
def State.uartSet (s : State) (u b : Nat) : State :=
  let f : Field := ⟨a_UAR_ISR u, b, 1⟩
  let s1 := s.raiseFlag f
  if s.flag f || !(s.reg (a_UAR_IEN u)).getLsbD b then s1
  else
    let x : Nat := 2 ^ b
    match find s1.sq.staged (464 + u) with
    | some r =>
      if r.tick = s.tick then { s1 with sq.staged := put (464 + u) { r with data := Nat.lor r.data x } s1.sq.staged }
      else s1.fire (464 + u) x
    | none => s1.fire (464 + u) x

/-- R377: the level of a trigger code. -/
def trigLevel (c : Nat) : Nat :=
  if c = 0 then 1 else if c = 1 then 4 else if c = 2 then 8 else if c = 3 then 16 else if c = 4 then 32
  else if c = 5 then 64 else if c = 6 then 96 else 120

/-- R378: RTS_N follows the receive fill: high from FLOW on, until the fill has fallen below FLOW − 8. -/
def State.uartRts (s : State) (u : Nat) : State :=
  let x := s.uartOf u
  let flow := s.get (UAR_QCFG_FLOW u)
  let n := x.rxq.length
  s.setUart u { x with rts := s.flag (UAR_CFG_RTSEN u) && (decide (flow ≤ n) || (x.rts && decide (flow ≤ n + 8))) }

/-- R377: the receive queue takes a new content: RXFILL, RXT and RTS_N follow. -/
def State.uartRx (s : State) (u : Nat) (q : List Nat) : State :=
  let x := s.uartOf u
  let t := trigLevel (s.get (UAR_QCFG_RXTRIG u))
  let s1 := (s.setUart u { x with rxq := q }).set (UAR_STAT_RXFILL u) q.length
  let s2 := if x.rxq.length < t ∧ t ≤ q.length then s1.uartSet u 0 else s1
  s2.uartRts u

/-- R377: the transmit queue takes a new content: TXFILL and TXT follow. -/
def State.uartTx (s : State) (u : Nat) (q : List Byte) : State :=
  let x := s.uartOf u
  let t := trigLevel (s.get (UAR_QCFG_TXTRIG u))
  let s1 := (s.setUart u { x with txq := q }).set (UAR_STAT_TXFILL u) q.length
  if q.length ≤ t ∧ t < x.txq.length then s1.uartSet u 1 else s1

/-- R378, R379: the next character starts, when flow control lets it. -/
def State.uartGo (s : State) (u : Nat) : State :=
  let x := s.uartOf u
  if s.uartOn u && !s.flag (UAR_CFG_TXHALT u) && x.sending.isNone
      && (!s.flag (UAR_CFG_CTSEN u) || !x.cts) then
    match x.txq with
    | b :: _ => s.setUart u { x with sending := some (b, true) }
    | [] => s
  else s

/-- R373, R374: the bits of a character after its start bit. -/
def State.uartBits (s : State) (u : Nat) : Nat :=
  if s.flag (UAR_SC_SC u) then 8 else 5 + s.get (UAR_CFG_DBITS u)
def State.uartParity (s : State) (u : Nat) : Nat := if s.flag (UAR_SC_SC u) then 1 else s.get (UAR_CFG_PAR u)

/-- Whether a number of `n` bits has an odd number of ones. -/
def oddOnes (n v : Nat) : Bool :=
  match n with
  | 0 => false
  | k + 1 => bitN v k != oddOnes k v

/-- The lowest `n` bits of a number in reverse order. -/
def reverseBits (n v : Nat) : Nat :=
  match n with
  | 0 => 0
  | k + 1 => v % 2 * 2 ^ k + reverseBits k (v / 2)

/-- R380: the inverse convention: low is logical 1, and the most significant bit comes first. -/
def State.uartInverse (s : State) (u : Nat) : Bool := s.flag (UAR_SC_SC u) && s.flag (UAR_SC_INV u)

/-- The data of a character by its convention, from the line levels in the order of reception. -/
def State.uartData (s : State) (u : Nat) (c : UartBits) : Nat :=
  if s.uartInverse u then reverseBits 8 (255 - c.data.toNat) else c.data.toNat % 2 ^ s.uartBits u

/-- R374: PE: the parity bit mismatches. -/
def State.uartPe (s : State) (u : Nat) (c : UartBits) : Bool :=
  let p := s.uartParity u
  let par := c.parity != s.uartInverse u
  let odd := oddOnes (s.uartBits u) (s.uartData u c) != par
  (p == 1 && odd) || (p == 2 && !odd)

/-- R376: BREAK: every data bit, the parity bit and the stop bit are sampled 0. -/
def State.uartBreak (s : State) (u : Nat) (c : UartBits) : Bool :=
  c.data.toNat % 2 ^ s.uartBits u == 0 && !c.stop && (s.uartParity u == 0 || !c.parity)

/-- R377: stores a character, or discards it with OVR when the queue is full. -/
def State.uartStore (s : State) (u : Nat) (entry : Nat) : State :=
  let x := s.uartOf u
  if 128 ≤ x.rxq.length then s.uartSet u 7
  else
    let s1 := s.uartRx u (x.rxq ++ [entry])
    let s2 := s1.setUart u { s1.uartOf u with
      stored := some s.tick
      active := s.tick
      timedOut := false }
    let s3 := if entry / 256 % 8 ≠ 0 then s2.uartSet u 3 else s2
    if bitN entry 11 then s3.uartSet u 4 else s3

/-- R374, R376, R380: what the receiver does with a character at its stop bit: nothing while a BREAK holds it
back; in the 7816 mode a parity error is not stored. -/
def State.uartTake (s : State) (u : Nat) (c : UartBits) : State :=
  let x := s.uartOf u
  let brk := s.uartBreak u c
  let flags := 256 * b2n (!c.stop) + 512 * b2n (s.uartPe u c) + 1024 * b2n c.noise
  if x.broken.isSome then s
  else if brk then
    (s.setUart u { x with broken := some s.tick }).uartStore u (2048 + flags)
  else if s.flag (UAR_SC_SC u) && s.uartPe u c then s
  else s.uartStore u (s.uartData u c + flags)

/-- UART_CHARACTER_RECEIVED (R374 to R377). On a half-duplex line the own character is not stored (R379). -/
def execUartCharacterReceived (u : Fin 4) (c : UartBits) (s : State) : Host.Outcome State Fault Refusal :=
  .next (
    let own := (s.flag (UAR_CFG_HDX u) || s.flag (UAR_SC_SC u)) && (s.uartOf u).sending.isSome
    if s.uartOn u && !own then s.uartTake u c else s)

/-- R373: 256 times the cycles of a bit. -/
def State.uartBit256 (s : State) (u : Nat) : Nat := 16 * (256 * s.get (UAR_DIV_I u) + s.get (UAR_DIV_F u))

/-- R373, R380: the bits of a whole character: with its start, parity and stop bits, or 12 ETU. -/
def State.uartLength (s : State) (u : Nat) : Nat :=
  if s.flag (UAR_SC_SC u) then 12
  else 1 + s.uartBits u + (if s.uartParity u = 0 then 0 else 1) + 1 + s.get (UAR_CFG_STOP2 u)

/-- UART_LINE_STUCK (R376): the line has been low for STUCK_TO bit times from the start of the BREAK. -/
def execUartLineStuck (u : Fin 4) (s : State) : Host.Outcome State Fault Refusal :=
  let x := s.uartOf u
  .next (if s.uartOn u && x.broken.isSome && s.get (UAR_CFG_STUCK_TO u) != 0 && !s.flag (UAR_STAT_STUCK u) then
    ((s.set (UAR_STAT_STUCK u) 1).set (UAR_STAT_LINE u) 0).uartSet u 5
  else s)

/-- UART_LINE_CLEAR (R376): one bit time of high line: reception resumes. -/
def execUartLineClear (u : Fin 4) (s : State) : Host.Outcome State Fault Refusal :=
  let x := s.uartOf u
  .next (if s.uartOn u && x.broken.isSome then
    let s1 := (s.setUart u { x with broken := none }).set (UAR_STAT_LINE u) 1
    if s.flag (UAR_STAT_STUCK u) then (s1.set (UAR_STAT_STUCK u) 0).uartSet u 6 else s1
  else s)

/-- UART_RECEIVE_TIMEOUT (R377): four character times without activity on a queue that is not empty. -/
def execUartReceiveTimeout (u : Fin 4) (s : State) : Host.Outcome State Fault Refusal :=
  let x := s.uartOf u
  .next (if s.uartOn u && !x.rxq.isEmpty && !x.timedOut
      && decide (4 * s.uartLength u * s.uartBit256 u ≤ 256 * (s.tick - x.active)) then
    (s.setUart u { x with timedOut := true }).uartSet u 2
  else s)

/-- R377, R382: a read of DATA: the oldest character, or EMPTY; a character stored into the empty queue in
this same tick is not read. -/
def State.uartRead (s : State) (u : Nat) : State :=
  let x := s.uartOf u
  match x.rxq with
  | [] => s.post (.readData 4096)
  | e :: r =>
    if r.isEmpty ∧ x.stored = some s.tick then s.post (.readData 4096)
    else
      let s1 := s.uartRx u r
      (s1.setUart u { s1.uartOf u with
        active := s.tick
        timedOut := false }).post (.readData e)

/-- UART_DATA_READ (R377). -/
def execUartDataRead (u : Fin 4) (s : State) : Host.Outcome State Fault Refusal :=
  .next (s.hostRead 0 (a_UAR_DATA u) (fun t => t.uartRead u))

/-- R377: a write of DATA: queued, or ignored with TXOVR. -/
def State.uartWrite (s : State) (u : Nat) (b : Byte) : State :=
  let x := s.uartOf u
  if 128 ≤ x.txq.length then s.uartSet u 8 else (s.uartTx u (x.txq ++ [b])).uartGo u

/-- UART_DATA_WRITE (R377). -/
def execUartDataWrite (u : Fin 4) (data : Byte) (s : State) : Host.Outcome State Fault Refusal :=
  .next (s.hostWrite 0 (a_UAR_DATA u) (fun t => t.uartWrite u data))

/-- R377: the character on the line is complete; the next may start. -/
def State.uartDone (s : State) (u : Nat) (inQueue : Bool) : State :=
  let x := s.uartOf u
  let s1 := s.setUart u { x with
    sending := none
    tries := 0 }
  (if inQueue then s1.uartTx u x.txq.tail else s1).uartGo u

/-- R379, R380: transmission halts with the character at the head of the queue. -/
def State.uartHalt (s : State) (u bit : Nat) : State :=
  ((s.setUart u { s.uartOf u with
    sending := none
    tries := 0 }).set (UAR_CFG_TXHALT u) 1).uartSet u bit

/-- R379, R380: a collision halts transmission; an error signal repeats the character up to RETRY times. -/
def State.uartClash (s : State) (u : Nat) : State :=
  if s.flag (UAR_SC_SC u) then
    if (s.uartOf u).tries < s.get (UAR_SC_RETRY u) then
      s.setUart u { s.uartOf u with tries := (s.uartOf u).tries + 1 }
    else s.uartHalt u 10
  else s.uartHalt u 9

/-- UART_CHARACTER_SENT (R377 to R381). A clash is seen only where the line is read back. -/
def execUartCharacterSent (u : Fin 4) (clash : Bool) (s : State) : Host.Outcome State Fault Refusal :=
  .next (match (s.uartOf u).sending with
  | some (_, inQueue) =>
    if !s.domOn dPer || s.mode == mProof || s.mode == mSafe then s
    else if clash && (s.flag (UAR_CFG_HDX u) || s.flag (UAR_SC_SC u)) then s.uartClash u
    else s.uartDone u inQueue
  | none => s)

/-- R377, R382: RXFLUSH: the receive queue is emptied; a character stored in this tick stays. -/
def State.uartRxFlush (s : State) (u : Nat) : State :=
  let x := s.uartOf u
  s.uartRx u (if x.stored = some s.tick then x.rxq.drop (x.rxq.length - 1) else [])

/-- R377: TXFLUSH: the transmit queue is emptied; a character on the line completes. -/
def State.uartTxFlush (s : State) (u : Nat) : State :=
  let x := s.uartOf u
  (s.setUart u { x with sending := x.sending.map (fun e => (e.1, false)) }).uartTx u []

/-- R377, R378: a write of UAR[u]_QCFG. A FLOW below 9 stores 9. -/
def State.uartQcfg (s : State) (u : Nat) (data : Word) : State :=
  let flow := max 9 (bits data 6 8)
  let s1 := s.setReg (a_UAR_QCFG u) (withBits (data &&& 0x3F) 6 8 flow)
  let s2 := if data.getLsbD 14 then s1.uartRxFlush u else s1
  (if data.getLsbD 15 then s2.uartTxFlush u else s2).uartRts u

/-- RXFLUSH (R377). -/
def execRxflush (u : Fin 4) (data : Word) (s : State) : Host.Outcome State Fault Refusal :=
  .next (s.hostWrite 0 (a_UAR_QCFG u) (fun t => t.uartQcfg u (data ||| 0x4000)))

/-- TXFLUSH (R377). -/
def execTxflush (u : Fin 4) (data : Word) (s : State) : Host.Outcome State Fault Refusal :=
  .next (s.hostWrite 0 (a_UAR_QCFG u) (fun t => t.uartQcfg u (data ||| 0x8000)))

/-- UART_CTS_CHANGE (R378). -/
def execUartCtsChange (u : Fin 4) (high : Bool) (s : State) : Host.Outcome State Fault Refusal :=
  let x := s.uartOf u
  .next (if x.cts = high then s
    else
      let s1 := s.setUart u { x with cts := high }
      if s.domOn dPer && s.mode != mProof && s.mode != mSafe && s.flag (UAR_CFG_CTSEN u) then
        (s1.uartSet u 11).uartGo u
      else s1)

/-! ## The flash store (R387 to R390) -/

/-- R387: a write of FSP_LOGCMD: the read is queued, or ends at once with RANGE. -/
def State.logCmd (s : State) (unit : Nat) : State :=
  if 3840 ≤ unit then (s.set FSP_LOGCMD_RESULT 2).fire 468 1 else s.flashStart (.logRead unit)

/-- LOG_READ (R387). -/
def execLogRead (unit : BitVec 12) (s : State) : Host.Outcome State Fault Refusal :=
  .next (s.hostWrite 0 a_FSP_LOGCMD (fun t => t.logCmd unit.toNat))

/-- R387: whether the supervisor runs and the log may be written. -/
def State.logging (s : State) : Bool :=
  s.flag SYS_MODESTAT_READY && s.mode != mProof && s.mode != mSafe && s.domOn dPer

/-- LOG_UNIT_WRITE (R387): a full unit, or one whose first record is 10 s old. -/
def execLogUnitWrite (s : State) : Host.Outcome State Fault Refusal :=
  .next (if s.logging then
    match s.fsp.full with
    | u :: r => { s with fsp.full := r }.flashStart (.logWrite u)
    | [] =>
      if !s.fsp.unit.isEmpty && decide (s.fsp.unitTick + 10 * tS ≤ s.tick) then
        { s with fsp.unit := [] }.flashStart (.logWrite s.fsp.unit)
      else s
  else s)

/-- R388: the repair candidates and marks not yet copied: key (marks from 8) and word. -/
def State.repairDue (s : State) : Option (Nat × Word) :=
  let cand := (List.range 8).map (fun k => (k, if s.flag (MEM_REPLOG1_VALID k) then s.reg (a_MEM_REPLOG1 k) else 0))
  let marks := (List.range 4).map (fun r => (8 + r, s.reg (a_MEM_MARK r) &&& 0xFFFF))
  (cand ++ marks).find? (fun e => e.2 != 0 && look 0 s.fsp.copied e.1 != e.2)

/-- REPAIR_RECORD_COPY (R388). -/
def execRepairRecordCopy (s : State) : Host.Outcome State Fault Refusal :=
  .next (if s.logging then
    match s.repairDue with
    | some (k, w) =>
      let r := if k < 8 then repairRecord 1 k (s.reg (a_MEM_REPLOG0 k)).toNat w.toNat
        else repairRecord 2 (k - 8) w.toNat 0
      { s with fsp.copied := put k w s.fsp.copied }.flashStart (.repair r k (decide (8 ≤ k)))
    | none => s
  else s)

/-- R387: a log read ends: RESULT and the buffer. -/
def State.endLogRead (s : State) (k : Nat) (failed : Bool) : State :=
  if failed || !s.xtsReady then (s.set FSP_LOGCMD_RESULT 3).fire 468 1
  else
    let b := s.readUnit (unitAddr k)
    let s1 := forN 1024 (fun w t => t.set (FSP_BUF_DATA w) (leNat ((b.drop (4 * w)).take 4))) s
    if unitOk b then (s1.set FSP_LOGCMD_RESULT 0).fire 468 0 else (s1.set FSP_LOGCMD_RESULT 1).fire 468 1

/-- The 4 KiB of the mailbox data buffer. -/
def State.mbxBytes (s : State) : List Byte :=
  ((List.range 1024).map (fun w => leBytes 4 (s.get (HIF_MBXBUF_DATA w)))).flatten

/-- The first words of the mailbox data buffer take bytes. -/
def State.putMbx (s : State) (b : List Byte) : State :=
  forN (ceilDiv b.length 4) (fun w t => t.set (HIF_MBXBUF_DATA w) (leNat ((b.drop (4 * w)).take 4))) s

/-- R385, R386, R195, R48: the effect of a mailbox flash command (Table 13-10) and its RESULT. -/
def State.mbxFlash (s : State) (op region offset len : Nat) : Nat × State :=
  let a := regionBase region + offset
  if op = 2 then
    (0, (s.writeBoot (s.bootRecord (s.bootPrefer % 2))).set SYS_BOOTSTAT_TRIAL 0)
  else if op = 5 then
    if region = 4 then (0, s.writeBoot s.mbxBytes)
    else if s.xtsReady then (0, s.writeUnit a s.mbxBytes) else (3, s)
  else if op = 6 then
    if region = 4 then (0, s.putMbx (s.flashBytes a len))
    else if s.xtsReady then (0, s.putMbx (s.readXts a len)) else (3, s)
  else if op = 7 then (0, s.writeBoot (s.bootRecord region))
  else
    let rec_ := s.mbxBytes.take 240
    let tag := (s.mbxBytes.drop 240).take 16
    if s.successorOk rec_ tag then
      let old := s.successorAt
      let new := match old with
        | some x => if x = 0x1F000 then 0x10000 else x + 4096
        | none => 0x10000
      let s1 := (s.flashErase new 4096).flashPut new (rec_ ++ tag)
      let s2 := match old with
        | some x => s1.flashErase x 4096
        | none => s1
      (0, s2.loadSafe (bytesWords rec_ 60) 2)
    else (4, s)

/-- R303, R389: the flash operation of the mailbox command in progress is over: its RESULT, and ES468. -/
def State.endMbxFlash (s : State) (op region offset len : Nat) (failed : Bool) : State :=
  let (r, s1) := if failed then (3, s) else s.mbxFlash op region offset len
  let s2 := match s1.hif.mbx with
    | some j => { s1 with hif.mbx := some { j with result := r, waits := false } }
    | none => s1
  s2.fire 468 (if r = 0 then 0 else 1)

/-- R349, R388: a repair record is in flash: a copied candidate leaves MEM_REPLOG. One whose write failed is due again. -/
def State.endRepair (s : State) (rec : List Byte) (k : Nat) (mark failed : Bool) : State :=
  if failed then { s with fsp.copied := del k s.fsp.copied }
  else
    let s1 := s.appendRepair rec
    if mark then s1
    else
      { (s1.setReg (a_MEM_REPLOG0 k) 0).setReg (a_MEM_REPLOG1 k) 0 with fsp.copied := del k s1.fsp.copied }

/-- R390: the effect of a flash operation as it ends. -/
def State.endFlash (s : State) (o : FlashOp) (failed : Bool) : State :=
  match o with
  | .repair r k mark => s.endRepair r k mark failed
  | .mailbox op region offset len => s.endMbxFlash op region offset len failed
  | .logRead k => s.endLogRead k failed
  | .logWrite u => if failed || !s.xtsReady then s else s.writeLog u

/-- FLASH_OPERATION_COMPLETE (R389, R390). -/
def execFlashOperationComplete (failed : Bool) (s : State) : Host.Outcome State Fault Refusal :=
  .next (match s.fsp.op with
  | some o => (s.endFlash o failed).flashNext
  | none => s)

/-! ## GPIO (R391) -/

/-- R391: pin `i` takes a level; the selected edge fires ES470 + i. -/
def State.gpioEdge (s : State) (i : Nat) (high : Bool) : State :=
  let old := bitN (s.get GPI_IN_IN) i
  let s1 := s.setBit GPI_IN_IN i high
  let sel := s.get ⟨a_GPI_EDGE, 2 * i, 2⟩
  if old = high then s
  else if (sel = 1 ∧ high) ∨ (sel = 2 ∧ !high) ∨ sel = 3 then s1.fire (470 + i) (b2n high) else s1

/-- GPIO_EDGE (R391). -/
def execGpioEdge (i : Fin 16) (high : Bool) (s : State) : Host.Outcome State Fault Refusal :=
  .next (if s.domOn dPer then s.gpioEdge i high else s)

end Sys2Proof.Machine
end

