-- ==== Sys2Proof/Machine/Mailbox.lean ====
section
/-! DEFINITION. Chapter 13: the meanings of the mailbox commands (R303, R304, R429). -/

namespace Sys2Proof.Machine

/-- R303: the command ends at once with a RESULT. -/
def State.mbxNow (s : State) (seq result : Nat) : State :=
  (s.set HIF_MBXSTAT_RESULT result).set HIF_MBXSTAT_DONESEQ seq

/-- R303: a mailbox command is in progress. -/
def State.mbxJob (s : State) (j : MbxJob) : State :=
  { s with hif.mbx := some j }.set HIF_MBXSTAT_BUSY 1

/-- R303: a write of HIF_MBXCMD: ignored while BUSY; else ES448, and what the command does. In a mode that its
row excludes it ends at once with MODE. -/
def State.mbxWrite (s : State) (op seq : Nat) (excluded : State → Bool) (f : State → State) : State :=
  if s.flag HIF_MBXSTAT_BUSY then s
  else
    let s1 := ((s.set HIF_MBXCMD_OP op).set HIF_MBXCMD_SEQ seq).fire 448
    if excluded s1 then s1.mbxNow seq 5 else f s1

/-- A mailbox command of function 1. -/
def State.mbxCmd (s : State) (op : Nat) (seq : BitVec 8) (excluded : State → Bool) (f : State → State) : State :=
  s.hostWrite 1 0x8000 (fun t => t.mbxWrite op seq.toNat excluded f)

/-- Modes that a row of Table 13-10 excludes: none, SAFE, or all but STANDBY. -/
def anyMode (_ : State) : Bool := false
def notSafe (s : State) : Bool := s.mode == mSafe
def notStandby (s : State) : Bool := !s.standbyOk

/-- R303: the words of HIF_MBXARG. -/
def State.mbxArg (s : State) (i : Nat) : Nat := s.get (HIF_MBXARG_ARG i)

/-- R390: a mailbox command whose effect is a flash operation. -/
def State.mbxViaFlash (s : State) (seq op region offset len : Nat) : State :=
  (s.mbxJob { seq := seq, result := 0, waits := true }).flashStart (.mailbox op region offset len)

/-- R303: STATUS. -/
def State.mbxStatus (s : State) (seq : Nat) : State :=
  s.mbxJob { seq := seq, result := 0, arg0 := some (s.reg a_SYS_BOOTSTAT).toNat,
             arg1 := some (s.reg a_SYS_MODESTAT).toNat }

/-- STATUS (Table 13-10, R304): in PROOF the sideband path alone answers, from step 5 of the boot. -/
def execStatus (seq : BitVec 8) (s : State) : Host.Outcome State Fault Refusal :=
  .next (if s.mode == mProof && decide (5 ≤ s.boot.step) then
    s.mbxWrite 1 seq.toNat anyMode (fun t => t.mbxStatus seq.toNat)
  else s.mbxCmd 1 seq anyMode (fun t => t.mbxStatus seq.toNat))

/-- R48: CONFIRM. -/
def State.mbxConfirm (s : State) (seq : Nat) : State :=
  if s.flag SYS_BOOTSTAT_TRIAL then s.mbxViaFlash seq 2 0 0 0
  else s.mbxJob { seq := seq, result := 1 }

/-- CONFIRM (R48). -/
def execConfirm (seq : BitVec 8) (s : State) : Host.Outcome State Fault Refusal :=
  .next (s.mbxCmd 2 seq notSafe (fun t => t.mbxConfirm seq.toNat))

/-- R47: COMMIT: the counter takes the lower SEC_VER of the running images, and never decreases. -/
def State.mbxCommit (s : State) (seq : Nat) : State :=
  if s.flag SYS_BOOTSTAT_TRIAL then s.mbxJob { seq := seq, result := 1 }
  else
    let s1 := s.mbxJob { seq := seq, result := 0 }
    if s.otp.counter < s.boot.secVer then
      (({ s1 with otp.counter := s.boot.secVer }).set SYS_BOOTSTAT_OTP_CTR s.boot.secVer).fire 152 0
    else s1

/-- COMMIT (R47). -/
def execCommit (seq : BitVec 8) (s : State) : Host.Outcome State Fault Refusal :=
  .next (s.mbxCmd 3 seq notSafe (fun t => t.mbxCommit seq.toNat))

/-- An event that fires in the next tick. -/
def State.fireNext (s : State) (src data : Nat) : State :=
  { ({ s with tick := s.tick + 1 }.fire src data) with tick := s.tick }

/-- R52, R429: RESTART: ES008 in the next tick, in which the warm boot begins; no RESULT is posted. -/
def State.mbxRestart (s : State) : State := { s.set HIF_MBXSTAT_BUSY 1 with boot.warmRestart := true }.fireNext 8 0

/-- RESTART (R52, R429). -/
def execRestart (seq : BitVec 8) (s : State) : Host.Outcome State Fault Refusal :=
  .next (s.mbxCmd 4 seq anyMode State.mbxRestart)

/-- The pair of an image region (Table 17-2). -/
def State.runningRegion (s : State) (region : Nat) : Bool :=
  decide (region < 4) && s.get SYS_BOOTSTAT_PAIR == region / 2

/-- R303, R385: FLASH_WRITE. -/
def State.mbxFlashWrite (s : State) (seq : Nat) : State :=
  let r := s.mbxArg 0
  let o := s.mbxArg 1
  let n := s.mbxArg 2
  if 4 < r ∨ 4096 < n ∨ (r < 4 ∧ (o % 4096 ≠ 0 ∨ n ≠ 4096 ∨ regionSize r < o + n)) then
    s.mbxJob { seq := seq, result := 2 }
  else if s.runningRegion r && s.mode != mSafe then s.mbxJob { seq := seq, result := 1 }
  else s.mbxViaFlash seq 5 r o n

/-- FLASH_WRITE (R385, R386). -/
def execFlashWrite (seq : BitVec 8) (s : State) : Host.Outcome State Fault Refusal :=
  .next (s.mbxCmd 5 seq anyMode (fun t => t.mbxFlashWrite seq.toNat))

/-- R303, R385: FLASH_READ. -/
def State.mbxFlashRead (s : State) (seq : Nat) : State :=
  let r := s.mbxArg 0
  let o := s.mbxArg 1
  let n := s.mbxArg 2
  if 4 < r ∨ 4096 < n ∨ regionSize r < o + n then s.mbxJob { seq := seq, result := 2 }
  else s.mbxViaFlash seq 6 r o n

/-- FLASH_READ (R385). -/
def execFlashRead (seq : BitVec 8) (s : State) : Host.Outcome State Fault Refusal :=
  .next (s.mbxCmd 6 seq anyMode (fun t => t.mbxFlashRead seq.toNat))

/-- SET_BOOT (R386). -/
def execSetBoot (seq : BitVec 8) (s : State) : Host.Outcome State Fault Refusal :=
  .next (s.mbxCmd 7 seq anyMode (fun t => t.mbxViaFlash seq.toNat 7 (t.mbxArg 0 % 4) 0 0))

/-- SAFEPROF (R195). -/
def execSafeprof (seq : BitVec 8) (s : State) : Host.Outcome State Fault Refusal :=
  .next (s.mbxCmd 8 seq anyMode (fun t => t.mbxViaFlash seq.toNat 8 0 0 256))

/-- R74: HISTORY: the records held, oldest first, and zero beyond them. -/
def State.mbxHistory (s : State) (seq : Nat) : State :=
  let b := (s.sq.history.map (fun r => leBytes 16 r.word)).flatten
  (s.putMbx ((b ++ List.replicate 1024 0).take 1024)).mbxJob
    { seq := seq, result := 0, arg0 := some s.sq.history.length }

/-- HISTORY (R74). -/
def execHistory (seq : BitVec 8) (s : State) : Host.Outcome State Fault Refusal :=
  .next (s.mbxCmd 9 seq anyMode (fun t => t.mbxHistory seq.toNat))

/-- R303: LIFECYCLE. In FIELD there is nothing to advance: REFUSED (log entry 28). -/
def State.mbxLifecycle (s : State) (seq : Nat) : State :=
  if s.mbxArg 0 ≠ 0x4649454C then s.mbxJob { seq := seq, result := 2 }
  else if s.otp.field then s.mbxJob { seq := seq, result := 1 }
  else ({ s with otp.field := true }.fire 152 1).mbxJob { seq := seq, result := 0 }

/-- LIFECYCLE (Table 13-10). -/
def execLifecycle (seq : BitVec 8) (s : State) : Host.Outcome State Fault Refusal :=
  .next (s.mbxCmd 10 seq notStandby (fun t => t.mbxLifecycle seq.toNat))

/-- MAILBOX_BAD_OP (R303): an OP that Table 13-10 does not define ends at once with BAD_ARG. -/
def execMailboxBadOp (op seq : BitVec 8) (s : State) : Host.Outcome State Fault Refusal :=
  .next (if 1 ≤ op.toNat ∧ op.toNat ≤ 10 then s
  else s.mbxCmd op.toNat seq anyMode (fun t => t.mbxNow seq.toNat 2))

/-- An argument word that a command leaves. -/
def State.putArg (s : State) (i : Nat) (v : Option Nat) : State :=
  match v with
  | some x => s.set (HIF_MBXARG_ARG i) x
  | none => s

/-- MAILBOX_COMMAND_END (R303): RESULT, DONESEQ, and BUSY clears. -/
def execMailboxCommandEnd (s : State) : Host.Outcome State Fault Refusal :=
  .next (match s.hif.mbx with
  | some j =>
    if j.waits then s
    else
      let s1 := (s.putArg 0 j.arg0).putArg 1 j.arg1
      ({ s1 with hif.mbx := none }.mbxNow j.seq j.result).set HIF_MBXSTAT_BUSY 0
  | none => s)

/-- R303: a write of HIF_MBXCMD that carries any OP. -/
def State.mailbox (s : State) (op : Nat) (seq : BitVec 8) : State :=
  let n := seq.toNat
  match op with
  | 1 => s.mbxCmd 1 seq anyMode (fun t => t.mbxStatus n)
  | 2 => s.mbxCmd 2 seq notSafe (fun t => t.mbxConfirm n)
  | 3 => s.mbxCmd 3 seq notSafe (fun t => t.mbxCommit n)
  | 4 => s.mbxCmd 4 seq anyMode State.mbxRestart
  | 5 => s.mbxCmd 5 seq anyMode (fun t => t.mbxFlashWrite n)
  | 6 => s.mbxCmd 6 seq anyMode (fun t => t.mbxFlashRead n)
  | 7 => s.mbxCmd 7 seq anyMode (fun t => t.mbxViaFlash n 7 (t.mbxArg 0 % 4) 0 0)
  | 8 => s.mbxCmd 8 seq anyMode (fun t => t.mbxViaFlash n 8 0 0 256)
  | 9 => s.mbxCmd 9 seq anyMode (fun t => t.mbxHistory n)
  | 10 => s.mbxCmd 10 seq notStandby (fun t => t.mbxLifecycle n)
  | _ => s.mbxCmd op seq anyMode (fun t => t.mbxNow n 2)

end Sys2Proof.Machine
end

