-- ==== Sys2Proof/Machine/StoreCfg.lean ====
section
/-! DEFINITION. Chapters 05 and 06: the groups' configuration (R116, Table 05-6) and the places of the tone-map and SNR
stores (R123, R124, R144). -/

namespace Sys2Proof.Machine

/-- Table 05-6: a write of EN and PRECG may apply. -/
def State.grpMay (s : State) (g : Nat) (en precg : Nat) : Bool :=
  s.standbyOk && precg != 3 &&
    (en == 0 || (List.range 4).all (fun k => s.profile (4 * g + k) == pfBB))

/-- Table 06-11: JOINT of port `n`. -/
def State.showJoint (s : State) (n : Nat) : State := s.set (PRT_RXSTAT_JOINT n) (s.get (GRP_CFG_ACT (n / 4)))

/-- R116, R135: ACT of a group, which its ports show as JOINT. -/
def State.setGrpAct (s : State) (g act : Nat) : State :=
  forN 4 (fun k t => t.showJoint (4 * g + k)) (s.set (GRP_CFG_ACT g) act)

/-- Table 05-6: a write of GRP[g]_CFG. -/
def State.grpWrite (s : State) (g : Nat) (data : Word) : State :=
  let en := bits data 0 1
  let precg := bits data 1 2
  let s1 := (s.clearW1c (a_GRP_CFG g) 0x40 data).set (GRP_CFG_NSS_MAX g) (bits data 3 2)
  let same := en == s.get (GRP_CFG_EN g) && precg == s.get (GRP_CFG_PRECG g)
  if same then s1
  else if s.grpMay g en precg then
    ((s1.set (GRP_CFG_EN g) en).set (GRP_CFG_PRECG g) precg).setGrpAct g en
  else s1.raiseFlag (GRP_CFG_REFUSED g)

/-- GROUP_CFG_WRITE (Table 05-6). -/
def execGroupCfgWrite (g : Fin 4) (data : Word) (s : State) : Host.Outcome State Fault Refusal :=
  .next (s.hostWrite 0 (a_GRP_CFG g.val) (fun t => t.grpWrite g.val data))

/-- R124, Table 05-9: whether the link areas of a write are possible; those of the NF9704-T are fixed. -/
def State.areasOk (s : State) (data : Word) : Bool :=
  let links := bits data 0 17
  let glinks := bits data 17 11
  if s.isT then links == 4 && glinks == 0 else decide (links ≤ 65536) && decide (glinks ≤ 1024)

/-- Tables 05-8 and 05-9: a write of MAC_TMSBASE or MAC_TMSCFG. -/
def State.tmsWrite (s : State) (cfg : Bool) (data : Word) : State :=
  let s1 := if cfg then s.clearW1c a_MAC_TMSCFG 0x20000000 data else s
  if !s.standbyOk || (cfg && !s.areasOk data) then s1.raiseFlag MAC_TMSCFG_REFUSED
  else if cfg then (s1.set MAC_TMSCFG_LINKS (bits data 0 17)).set MAC_TMSCFG_GLINKS (bits data 17 11)
  else s1.set MAC_TMSBASE_BASE (bits data 0 19)

/-- TONE_MAP_STORE_CFG_WRITE (Tables 05-8, 05-9). -/
def execToneMapStoreCfgWrite (cfg : Bool) (data : Word) (s : State) : Host.Outcome State Fault Refusal :=
  .next (s.hostWrite 0 (if cfg then a_MAC_TMSCFG else a_MAC_TMSBASE) (fun t => t.tmsWrite cfg data))

/-- Table 06-16: a write of MAC_SNRBASE. -/
def State.snrBaseWrite (s : State) (data : Word) : State :=
  if s.standbyOk then s.set MAC_SNRBASE_BASE (bits data 0 19) else s.raiseFlag MAC_TMSCFG_REFUSED

/-- SNR_STORE_BASE_WRITE (Table 06-16). -/
def execSnrStoreBaseWrite (data : Word) (s : State) : Host.Outcome State Fault Refusal :=
  .next (s.hostWrite 0 a_MAC_SNRBASE (fun t => t.snrBaseWrite data))

end Sys2Proof.Machine
end

