-- ==== Sys2Proof/Machine/Reset.lean ====
section
/-! DEFINITION. Chapters 02 and 18: what the resets reach (Table 02-12), domains that go off and come on (R394, R395),
entry into SAFE (R50, R51), the function-level resets (R54, R55) and the state a warm boot starts from (R53). -/

namespace Sys2Proof.Machine

/-! ## Registers -/

/-- One listed register after a reset that reaches the registers of `p`: its RWL fields are kept (Table 02-12), the
rest return to their reset values. -/
def resetEntry (p : Nat → Row → Nat → Bool) (e : Nat × Word) : Option (Nat × Word) :=
  match rowOf regMap e.1 with
  | none => some e
  | some (r, i, _) =>
    if p e.1 r i then
      let keep := BitVec.ofNat 32 r.rwl
      let v := (e.2 &&& keep) ||| (BitVec.ofNat 32 r.reset &&& ~~~keep)
      if v = BitVec.ofNat 32 r.reset then none else some (e.1, v)
    else some e

/-- The registers that `p` names are reset. -/
def State.resetWhere (s : State) (p : Nat → Row → Nat → Bool) : State :=
  { s with regs := s.regs.filterMap (resetEntry p) }

/-- R281, R391, R377: a reset leaves what the pins show: the GPIO levels, CTS, and which domains are on. -/
def State.resetRegs (s : State) (p : Nat → Row → Nat → Bool) : State :=
  ((s.resetWhere p).setReg a_GPI_IN (s.reg a_GPI_IN)).set FSP_STAT_BUSY (b2n s.fsp.op.isSome)

/-- Table 02-12: what PWR_STAT and CLK_STAT log is reset with the registers of function 0; what they show of the domains
and of the PLL is not. -/
def State.logsReset (s : State) : State :=
  ((s.set PWR_STAT_REFUSED 0).set CLK_STAT_LOCKLOSS 0).set CLK_STAT_REFLOSS 0

/-- R304: PROG and MODE of HIF_MBXSTAT. -/
def State.showProg (s : State) : State :=
  (s.set HIF_MBXSTAT_PROG (if s.mode = mSafe then 0x80 + s.get SYS_BOOTSTAT_SAFE_REASON else s.boot.step)).set
    HIF_MBXSTAT_MODE s.mode

/-- The device is in mode `m`; no transition is in progress. -/
def State.setMode (s : State) (m : Nat) : State :=
  (((s.set SYS_MODESTAT_MODE m).set SYS_MODESTAT_TARGET m).set SYS_MODESTAT_BUSY 0).showProg

/-- R124, R266: the link areas of the NF9704-T are fixed. -/
def State.fixAreas (s : State) : State := if s.isT then s.set MAC_TMSCFG_LINKS 4 else s

/-! ## What blocks lose -/

/-- R281: instances `i` and `i + 1` are empty. -/
def State.arcClear (s : State) (i : Nat) : State := { s with arc := del (i + 1) (del i s.arc) }

/-- What a port keeps of its transmitter: its dwell accounts (R159) and its fault window. -/
def TxPort.kept (p : TxPort) : TxPort := { runs := p.runs, onTime := p.onTime, holdEnd := p.holdEnd }

/-- What a port keeps of its front end: calibration and the Burin front decimator, which lie in PD_PROT. -/
def FePort.kept (p : FePort) : FePort := { calActive := p.calActive, calStart := p.calStart, burEdge := p.burEdge }

/-- The data part of port `n` is lost: its frames, packets and contention. The frames to be sent again are the
Boulevard's, which keeps their cells. -/
def State.portLost (s : State) (n : Nat) : State :=
  let s1 := (s.setTxPort n { (s.txPort n).kept with again := (s.txPort n).again }).setFePort n (s.fePort n).kept
  { s1.arcClear (2 * n) with
    rx.port := del n s1.rx.port
    rx.waiting := s1.rx.waiting.filter (fun (b : CodeBlock) => b.port != n)
    rx.decoders := s1.rx.decoders.filter (fun (e : Nat × CodeBlock) => e.2.port != n)
    mac.csma := del n s1.mac.csma
    blv.ports := del n s1.blv.ports }

/-- R357: TB0 and TB1 are invalid and read zero. -/
def State.basesLost (s : State) : State :=
  let clear := fun (t : State) (b : Nat) =>
    ((t.setTb b {}).set (TIM_TBSTAT_VALID b) 0).set (TIM_TBSTAT_HOLD b) 0
  { clear (clear s 0) 1 with time.ptofs := 0 }.set TIM_PTOFS_PTOFS 0

/-- R314: no request names a slot any more. -/
def State.cphIdle (s : State) : State :=
  let s1 := forN 256 (fun k t => if t.get (KEY_SLOT_REFCNT k) = 0 then t else t.set (KEY_SLOT_REFCNT k) 0) s
  ({ s1 with
    cph.waiting := []
    cph.engines := []
    cph.dispatched := []
    cph.cache := []
    cph.erasing := none }.set KEY_KCCNT_VALID 0).showCph

/-- R311: slots in one of two states become EMPTY. -/
def State.slotsLost (s : State) (a b : Nat) : State :=
  forN 256 (fun k t =>
    let st := t.get (KEY_SLOT_STATE k)
    if st != kEMPTY && (st == a || st == b) then t.setSlot k kEMPTY 0 0 0 else t) s

/-- R312, Table 14-2: at step 2 of the cold boot and at a power-up of PD_CPH the OTP records are loaded in order, one
whose CRC fails is reported, and slot 3 is drawn. -/
def State.loadVault (s : State) : State :=
  let s1 := forEach s.otp.keys (fun (r : OtpKey) t =>
    if r.ok then t.setSlot r.slot kOTP r.usage r.size r.key else t.fire 148 r.slot) s
  let (k, s2) := s1.takeFree (2 ^ 256)
  s2.setSlot 3 kEPH (2 ^ uKEK) 1 k

/-- R367: PD_MSN goes off: CYC is saved with the tick. -/
def State.msnLost (s : State) : State :=
  { s with
    fe.ms := []
    time.cycStart := none
    time.cycHit := false
    time.extrap := 0
    time.msnOff := some s.tick }

/-- R395: what a domain holds is lost: its registers, its SRAM groups and its state. The TIM, BUR and KEY registers
that PORST_N alone resets are kept (R191, R361). -/
def State.domainLost (s : State) (d : Nat) : State :=
  let s1 := s.resetWhere (fun _ r i => decide (2 ≤ r.reach) && rowDomain r i == d)
  let s2 := { s1 with
    mem.sram := s1.mem.sram.filter (fun (e : Nat × BitVec 72) => groupDomain (e.1 / 2 ^ 20) != d) }
  if d = dProt then
    let s3 := { s2 with
      bur.safe := []
      bur.outs := []
      bur.port := []
      fe.port := s2.fe.port.map (fun (e : Nat × FePort) => (e.1, { e.2 with calActive := false, env := 0 })) }
    ((s3.set BUR_SAFEINFO_VER 0).set BUR_SAFEINFO_SRC 0).set BUR_STAT_TOUT 0
  else if d = dFab then
    { s2.basesLost with
      blv := { nextId := s2.blv.nextId }
      cph.pages := [] }
  else if d = dMac then { s2 with mac := {} }.fixAreas
  else if d = dCph then ((s2.cphIdle.slotsLost kOTP kPROV).slotsLost kEPH kEPH)
  else if d = dMemc ∨ d = 7 then { s2 with mem.dram := [] }
  else if d = dDec then { s2 with
    rx.waiting := []
    rx.decoders := [] }
  else if d = dMsn then s2.msnLost
  else if 12 ≤ d then (s2.portLost (2 * (d - 12))).portLost (2 * (d - 12) + 1)
  else s2

/-- Bit `d` of PWR_STAT.ON. -/
def State.setOn (s : State) (d : Nat) (b : Bool) : State := s.set ⟨a_PWR_STAT, d, 1⟩ (b2n b)

/-- PWR_STAT.BUSY: a domain is switching. -/
def State.showPower (s : State) : State :=
  s.set PWR_STAT_BUSY (b2n (s.pw.rising != 0 || s.pw.resetting != 0))

/-- Domain `d` is no longer ramping up or being reset. -/
def State.settle (s : State) (d : Nat) : State :=
  { s with
    pw.rising := withBits s.pw.rising d 1 0
    pw.resetting := withBits s.pw.resetting d 1 0 }.showPower

/-- R394: a domain goes off. -/
def State.domainDown (s : State) (d : Nat) : State := (((s.settle d).domainLost d).setOn d false).fire 18 d

/-- R367: TB3 resumes at the saved count plus the whole nominal cycles since. -/
def State.msnBack (s : State) : State :=
  match s.time.msnOff with
  | some t => { s with
      time.cyc := s.time.cyc + (s.tick - t) * 65536 / s.nominal
      time.msnOff := none }
  | none => s

/-- R395 step 3, R90 case d, R191, R195, R312, R343, R367: the reset of a powered domain is released. -/
def State.domainStart (s : State) (d : Nat) : State :=
  if d = dProt then (s.loadSafe s.otpProfile 1).burStart
  else if d = dCph then s.loadVault
  else if d = dMemc then s.fillDram
  else if d = dMsn then forN 4 (fun i t => t.addEdge (2 * (t.tick + 1)) (.mains i)) s.msnBack
  else if 12 ≤ d then
    let s1 := (s.showJoint (2 * (d - 12))).showJoint (2 * (d - 12) + 1)
    (s1.addEdge (2 * (s.tick + 1)) (.port (2 * (d - 12)))).addEdge (2 * (s.tick + 1)) (.port (2 * (d - 12) + 1))
  else s

/-- R395: a domain reports on. -/
def State.domainUp (s : State) (d : Nat) : State := ((s.setOn d true).domainStart d).fire 18 (32 + d)

/-! ## The line stops -/

/-- The frame of port `n` leaves the line now: its on-time ends here (R159). -/
def State.cutOnTime (s : State) (n : Nat) : State :=
  match (s.txPort n).air with
  | some a => forEach (framePorts n a.grouped) (fun p t => t.trimOnTime p a.start a.full s.tick) s
  | none => s

/-- R51 step 2: the frame that port `n` sends ends STOPPED at the next sample. -/
def State.stopLine (s : State) (n : Nat) : State :=
  match (s.txPort n).air with
  | some a => s.airEnd n a 4 s.tick
  | none => s

/-- LDENn and BURHOLD of every port follow what they depend on. -/
def State.refreshLds (s : State) : State := forN s.ports (fun n t => t.refreshLd n) s

/-! ## Entry into SAFE (R50, R51) -/

/-- R51 step 1: host DMA stops: nothing that waits for the host is kept. -/
def State.dmaStop (s : State) : State :=
  { s with
    hif.bufs := []
    hif.taken := []
    hif.deliveries := []
    hif.joins := []
    hif.timers := [] }

/-- R50: every domain that SAFE does not keep goes off, and none of them comes up. -/
def State.gateSafe (s : State) : State :=
  forN 20 (fun d t =>
    if bitN safeDomains d then t else if t.domOn d then t.domainDown d else t.settle d) s

/-- R387: on an orderly entry into SAFE the open log unit is written. -/
def State.closeLog (s : State) : State :=
  let l := s.fsp.full ++ (if s.fsp.unit.isEmpty then [] else [s.fsp.unit])
  let s1 := { s with
    fsp.unit := []
    fsp.full := [] }
  if s.xtsReady then forEach l (fun u t => t.writeLog u) s1 else s1

/-- R50, R51: SAFE is entered with a reason: frames in reception fail with RESET (Table 06-7), and Burin switches as R193
lays down. -/
def State.safeNow (s : State) (reason : Nat) : State :=
  let s1 := (forN 16 (fun n t => (t.stopLine n).rxAbandon n fRESET) s).dmaStop
  let s2 := ((s1.set SYS_BOOTSTAT_SAFE_REASON reason).setMode mSafe).fire 457 mSafe
  (s2.gateSafe.burChange).refreshLds

/-- Table 02-11: SAFE reasons. -/
def sfNO_IMAGE : Nat := 1
def sfPROOF : Nat := 2
def sfREQUEST : Nat := 3
def sfWATCHDOG : Nat := 4
def sfTHERMAL : Nat := 5

/-- R38: an automatic transition arises in this tick. -/
def State.automatic (s : State) (safe : Bool) : State :=
  { s with
    boot.autoTick := some s.tick
    boot.autoSafe := safe }

/-- Table 02-11: an automatic entry into SAFE. -/
def State.enterSafe (s : State) (reason : Nat) : State :=
  if s.mode = mSafe then s else (s.safeNow reason).automatic true

/-! ## Resets (Table 02-12) -/

/-- R63: the events of this tick whose targets a reset reaches are discarded. -/
def State.discardEvents (s : State) (reach : Nat → Bool) : State :=
  { s with sq.staged := s.sq.staged.filter (fun (e : Nat × EvRec) => !(e.2.tick == s.tick && reach e.1)) }

/-- The events that a warm boot reaches: all but P0, P1 and those of the time bases, which keep running (R357). -/
def warmReach (src : Nat) : Bool :=
  decide (96 ≤ src) && src != 176 && src != 177 && src != 188 && src != 189

/-- The blocks of function 0 hold nothing: their queues, frames, requests and tables. -/
def State.blocksReset (s : State) : State :=
  { s with
    rx := { nextId := s.rx.nextId }
    arc := []
    blv := { nextId := s.blv.nextId }
    mac := {}
    time.rangeReq := none
    uart := s.uart.map (fun (e : Nat × Uart) => (e.1, { cts := e.2.cts })) }

/-- R264, R325: the pool is rebuilt with every configured cell free, and the directory region is filled. -/
def State.freshTables (s : State) : State := s.startRebuild.endRebuild.redrawDirKey

/-- R53: what a warm boot starts from: everything but PD_AON and PD_PROT is reset, the registers but their RWL fields,
and every present domain is on, for Proof; a domain that is switching comes on first (Table 18-5). `cause`: 1 WARM_N, 2 mailbox restart. -/
def State.warmReset (s : State) (cause : Nat) : State :=
  let s0 := (forN 16 (fun n t => t.cutOnTime n) s).discardEvents warmReach
  let fail := s.get SYS_BOOTSTAT_PROOF_FAIL / 128 * 128
  let s1 := ((s0.dmaStop.cphIdle.slotsLost kPROV kPROV).blocksReset.resetRegs (fun _ r _ => decide (2 ≤ r.reach))).logsReset
  let s2 := { s1 with
    tx := s1.tx.map (fun (e : Nat × TxPort) => (e.1, e.2.kept))
    fe.port := s1.fe.port.map (fun (e : Nat × FePort) => (e.1, e.2.kept))
    fe.ms := []
    hif := { linkUp := s1.hif.linkUp }
    sq.lost := []
    fsp.waiting := s1.fsp.waiting.filter (fun (o : FlashOp) => o.rank != 3)
    boot.step := 6
    boot.running := 3
    boot.warmRestart := false }
  let s3 := ((s2.setReg a_PWR_REQ 0xFFFFF).setReg a_SYS_MODESTAT (resetWord a_SYS_MODESTAT)).setReg a_SYS_BOOTSTAT
    (BitVec.ofNat 32 (3 + fail * 2 ^ 13 + cause * 2 ^ 21 + s.otp.counter % 256 * 2 ^ 24))
  let s4 := forN 20 (fun d t => 
    if bitN t.present d && (!t.domOn d || t.pw.resetting.getLsbD d) then (t.settle d).domainUp d else t) s3
  (s4.fixAreas.burChange.refreshLds).showProg

/-- Of a table keyed by function and number, the entries of function 0 or of function 1. -/
def keepFunc {α : Type} (f : Nat) (t : Tab α) : Tab α := t.filter (fun e => decide (e.1 / 4096 = f))

/-- R54 step 2: the frame that port `n` sends runs to its end, and no acknowledgement wait is kept. -/
def TxPort.afterFlr (p : TxPort) : TxPort :=
  { p.kept with
    air := p.air.map (fun a => { a with aw := 0 })
    ldSince := p.ldSince
    ldTail := p.ldTail }

/-- R54 steps 1 and 3: function 0's host-facing state: its rings, buffers and vectors. -/
def State.hostReset0 (s : State) : State :=
  let s1 := (s.resetRegs (fun k r _ => decide (k < f1 0) && decide (3 ≤ r.reach))).logsReset
  { s1 with
    hif := { linkUp := s.hif.linkUp, mbx := s.hif.mbx, timers := keepFunc 1 s.hif.timers }
    sq.lost := keepFunc 1 s.sq.lost }

/-- The events that a function-level reset of function 0 reaches: doorbells and mode requests. -/
def flr0Reach (src : Nat) : Bool := decide (384 ≤ src) && decide (src < 448) || src == 456

/-- R54: a function-level reset of function 0. In SAFE and PROOF the mode and the tables stay. -/
def State.flr0 (s : State) : State :=
  let s1 := s.discardEvents flr0Reach
  if s.mode = mSafe ∨ s.mode = mProof then s1.hostReset0
  else
    let s2 := ((forN 16 (fun n t => t.rxAbandon n fRESET) s1).cphIdle.blocksReset.hostReset0)
    let s3 := { s2 with
      tx := s2.tx.map (fun (e : Nat × TxPort) => (e.1, e.2.afterFlr))
      fe.port := s2.fe.port.map (fun (e : Nat × FePort) => (e.1, e.2.kept)) }
    ((s3.freshTables.setMode mStandby).fixAreas).refreshLds

/-- R55: a function-level reset of function 1: its event rings, vectors and mailbox. -/
def State.flr1 (s : State) : State :=
  let s1 := (s.discardEvents (fun src => src == 448)).resetRegs (fun k r _ => decide (f1 0 ≤ k) && decide (3 ≤ r.reach))
  { s1 with
    hif.mbx := none
    hif.timers := keepFunc 0 s.hif.timers
    sq.lost := keepFunc 0 s.sq.lost
    fsp.waiting := s.fsp.waiting.filter (fun (o : FlashOp) => o.rank != 3) }.showProg

end Sys2Proof.Machine
end

