-- ==== Sys2Proof/Machine/Modes.lean ====
section
/-! DEFINITION. Chapter 02: the meanings of mode requests, mode entries and port profiles. -/

namespace Sys2Proof.Machine

/-! ## Mode requests (R36 to R38) -/

/-- Table 02-6: the requested transitions. -/
def listedMove (cur want : Nat) : Bool :=
  if cur = mStandby then
    [mCoordinator, mRepeater, mMember, mTerminal, mMonitor, mSurvey, mFactory, mSafe].contains want
  else operating cur && (want == mStandby || want == mSafe)

/-- R36: every present port's active profile is admitted in the mode. -/
def State.profilesFit (s : State) (m : Nat) : Bool := (List.range s.ports).all (fun n => admits m (s.profile n))

/-- R38: an automatic transition arises in this tick. -/
def State.autoNow (s : State) : Bool := s.boot.autoTick == some s.tick

/-- R38: REASON of a request, 0 where it is accepted. -/
def State.modeReason (s : State) (code : Nat) : Nat :=
  if s.safeThisTick then 6
  else if s.busy || s.autoNow then 3
  else if decide (1 ≤ code) && decide (code ≤ 11) && !s.offersMode code then 1
  else if s.mode == code && code != mProof then 0
  else if !listedMove s.mode code then 2
  else if code == mFactory && s.otp.field then 5
  else if !s.profilesFit code then 4
  else 0

/-- R425: an accepted request begins its transition. -/
def State.beginMode (s : State) (code : Nat) : State := (s.set SYS_MODESTAT_TARGET code).set SYS_MODESTAT_BUSY 1

/-- R37, R38, R425: a request of a code other than 0 is judged. -/
def State.modeRequest (s : State) (code : Nat) : State :=
  let s1 := s.fire 456 code
  let r := s.modeReason code
  if r ≠ 0 then ((s1.raiseFlag SYS_MODESTAT_REFUSED).set SYS_MODESTAT_REASON r).fire 457 (s.mode + 16)
  else if s.mode = code then s1.fire 457 code
  else s1.beginMode code

/-- A write of SYS_MODE; a write of 0 is ignored (Table 02-4). -/
def State.modeWrite (s : State) (code : Nat) : State := if code = 0 then s else s.modeRequest code

/-- MODE_REQUEST (R38). -/
def execModeRequest (code : Fin 16) (s : State) : Host.Outcome State Fault Refusal :=
  .next (s.hostWrite 0 a_SYS_MODE (fun t => t.modeWrite code.val))

/-! ## Completion of a transition (R39, R425) -/

/-- R362: TB1 starts on the first entry into COORDINATOR or TERMINAL. -/
def State.startTb1 (s : State) : State :=
  if s.tbValid 1 then s
  else if s.tbValid 0 then s.startTb 1 (s.tb 0).val
  else s.startTb 1 (s.baseVal 0)

/-- Table 09-7: STATE on entry into a mode. -/
def entryState (m : Nat) : Nat := if m = mMember ∨ m = mRepeater then sfSCAN else sfOWN

/-- R207: a coordinator starts on its shadow table, if that table is possible. -/
def State.entryTable (s : State) : State :=
  let t := s.shadowTable.map (fun x => x.2)
  if s.badEntry.isSome then s.tableNow [] s.mac.tgen else s.tableNow t s.mac.tgen

/-- R90 case c, R126: every port's chain and receiver follow the mode. -/
def State.portsFollow (s : State) : State := forN s.ports (fun n t => (t.refreshK n).toSearch n) s

/-- R425: the device is in its new mode: MODE takes TARGET and ES457 fires. -/
def State.arrive (s : State) (m : Nat) : State := ((s.setMode m).fire 457 m).portsFollow

/-- R425: entry into an operating mode is complete. -/
def State.enterMode (s : State) (m : Nat) : State :=
  let s1 := (s.arrive m).sfEnter (entryState m)
  let s2 := if m = mCoordinator ∨ m = mTerminal then s1.startTb1 else s1
  let s3 := if m = mCoordinator then s2.entryTable else s2
  if s.get MAC_TMSCFG_LINKS + s.get MAC_TMSCFG_GLINKS = 0 then s3 else s3.set MAC_TMSCFG_ACT 1

/-- MODE_ENTRY_COMPLETE (R425, R51): an entry into SAFE by request carries out its steps. -/
def execModeEntryComplete (s : State) : Host.Outcome State Fault Refusal :=
  .next (
    let m := s.get SYS_MODESTAT_TARGET
    if s.busy && m != mStandby && s.mode != mProof then
      (if m = mSafe then s.closeLog.safeNow sfREQUEST else s.enterMode m)
    else s)

/-- R39 step 5: port `n` has no frame on the line, awaits no acknowledgement and receives nothing. -/
def State.quiet (s : State) (n : Nat) : Bool :=
  (s.txPort n).air.isNone && (s.txPort n).win.isNone && (s.rxPort n).frames.isEmpty

/-- R39: the device is in STANDBY: no acknowledgement is to be sent, and a coordinator's join requests are over. -/
def State.enterStandby (s : State) : State :=
  let joins := if s.mode = mCoordinator ∨ s.mode = mIsland then [] else s.hif.joins
  let s1 := { s with
    tx := s.tx.map (fun (e : Nat × TxPort) => (e.1, { e.2 with ack := none }))
    hif.joins := joins }
  (s1.arrive mStandby).sfEnter sfOWN

/-- STANDBY_TRANSITION_COMPLETE (R39). -/
def execStandbyTransitionComplete (s : State) : Host.Outcome State Fault Refusal :=
  .next (if s.leaving && (List.range s.ports).all s.quiet then s.enterStandby else s)

/-! ## Port profiles (R34, R35) -/

/-- R4: the profiles of the variant. -/
def State.offersProfile (s : State) (p : Nat) : Bool :=
  if s.isT then p == pfOff || p == pfHV || p == pfBurin else decide (p ≤ 5)

/-- R35: a change of port `n` to profile `p` is admitted. -/
def State.profileOk (s : State) (n p : Nat) : Bool :=
  s.mode != mProof && s.mode != mSafe && s.offersProfile p &&
    (p == pfBB || !s.flag (GRP_CFG_ACT (n / 4))) &&
    (dataless p || (s.standbyOk && s.domOn (dPair n)))

/-- R35: port `n` sends or receives no frame. -/
def State.portIdle (s : State) (n : Nat) : Bool :=
  let st := s.rxState n
  (s.airOf n).isNone && !(st == rCHEST || st == rHEADER || st == rPAYLOAD)

/-- Table 05-3: the sweep base that a change to a profile loads. -/
def swBaseOf (p : Nat) : Option Nat :=
  if p = pfBB then some 30 else if p = pfHV then some 7 else if p = pfCen then some 1 else none

/-- R35, R90, R126: port `n` runs profile `p`. -/
def State.profileNow (s : State) (n p : Nat) : State :=
  let s1 := (s.set (PRT_PROFILE_ACT n) p).set (PRT_PROFILE_PENDING n) 0
  if p = s.profile n then s1
  else
    let s2 := (match swBaseOf p with
      | some b => s1.set (PRT_WAVE_SW_BASE n) b
      | none => s1)
    ((((s2.addEdge (2 * (s.tick + 1)) (.port n)).refreshK n).showMask n).toSearch n)

/-- R35: a write of PRT[n]_PROFILE. -/
def State.profileWrite (s : State) (n : Nat) (data : Word) : State :=
  let p := bits data 0 3
  let s1 := (s.clearW1c (a_PRT_PROFILE n) 0x80 data).set (PRT_PROFILE_REQ n) p
  if !s.profileOk n p then s1.raiseFlag (PRT_PROFILE_REFUSED n)
  else if dataless p && !s.portIdle n then
    (s1.set (PRT_PROFILE_PENDING n) 1).setFePort n { s1.fePort n with wish := p }
  else s1.profileNow n p

/-- PROFILE_WRITE (R35). -/
def execProfileWrite (n : Fin 16) (data : Word) (s : State) : Host.Outcome State Fault Refusal :=
  .next (s.hostWrite 0 (a_PRT_PROFILE n.val) (fun t => t.profileWrite n.val data))

/-- PROFILE_CHANGE_APPLY (R35). -/
def execProfileChangeApply (n : Fin 16) (s : State) : Host.Outcome State Fault Refusal :=
  .next (if s.flag (PRT_PROFILE_PENDING n.val) && s.portIdle n.val then
      s.profileNow n.val (s.fePort n.val).wish
    else s)

end Sys2Proof.Machine
end

