-- ==== Sys2Proof/Machine/Boot.lean ====
section
/-! DEFINITION. Chapters 02 and 17: cold and warm boots (Table 02-7), image selection (R45 to R49), and the meanings of
the resets. -/

namespace Sys2Proof.Machine

/-! ## Images (R45, R46, Table 02-8) -/

/-- R385: `n` bytes at `a` of an XTS region, over as many units as they take. -/
def State.readImage (s : State) (a n : Nat) : List Byte :=
  ((((List.range (n / 4096 + 2)).map (fun k => s.readUnit (a / 4096 * 4096 + 4096 * k))).flatten).drop (a % 4096)).take n

/-- What the boot ROM reads of an image: its header fields, whether its length fits its region, and whether its
signature verifies. -/
structure Image where
  stepMin : Nat
  stepMax : Nat
  ifMajor : Nat
  ifMinor : Nat
  reqMinor : Nat
  secVer : Nat
  fits : Bool
  signed : Bool
  deriving DecidableEq, Repr

/-- R46: verify_p384 of an image of `len` bytes with its signature block. -/
def State.verifyImage (s : State) (image block : List Byte) : Bool :=
  let k := ((block.drop 97).take 1).head?.getD 0
  decide (k.toNat ≤ 3) && find s.otp.keyHash k.toNat == some (Config.sha384 (block.take 97)) &&
    !s.otp.revoked.getLsbD k.toNat && Config.p384Verify image block

/-- The image in mailbox region `r`. -/
def State.image (s : State) (r : Nat) : Image :=
  let a := regionBase r
  let head := s.readUnit a
  let len := Config.headerField 6 head
  let fits := decide (len + 512 ≤ regionSize r)
  { stepMin := Config.headerField 0 head % 256
    stepMax := Config.headerField 1 head % 256
    ifMajor := Config.headerField 2 head % 256
    ifMinor := Config.headerField 3 head % 256
    reqMinor := Config.headerField 4 head % 256
    secVer := Config.headerField 5 head % 256
    fits := fits
    signed := fits && s.verifyImage (s.readImage a len) (s.readImage (a + len) 512) }

/-- SYS_ID.STEPPING runs an image. -/
def State.steps (s : State) (i : Image) : Bool :=
  decide (i.stepMin ≤ s.otp.stepping.toNat) && decide (s.otp.stepping.toNat ≤ i.stepMax)

/-- R45: the result of a supervisor and a microcode image. -/
def State.judgePair (s : State) (i m : Image) : Nat :=
  if !i.fits || !m.fits then 6
  else if !i.signed || !m.signed then 2
  else if !s.steps i || !s.steps m then 3
  else if i.ifMajor ≠ m.ifMajor ∨ m.ifMinor < i.reqMinor then 4
  else if i.secVer < s.otp.counter ∨ m.secVer < s.otp.counter then 5
  else 1

/-- What a boot finds of pair `p`: a QSPI read error, and a watchdog expiry while it was checked (R49). -/
def pairRead (f : BootFindings) (p : Nat) : Bool := if p = 0 then f.readErrA else f.readErrB
def pairDog (f : BootFindings) (p : Nat) : Bool := if p = 0 then f.dogA else f.dogB

/-- R45, R49: the result of pair `p` (Table 02-9). Without a key in slot 0 its regions cannot be read (R385). -/
def State.pairResult (s : State) (f : BootFindings) (p : Nat) : Nat :=
  if pairDog f p then 7
  else if pairRead f p || !s.xtsReady then 6
  else s.judgePair (s.image (2 * p)) (s.image (2 * p + 1))

/-- The result field of pair `p`. -/
def resultOf (p : Nat) : Field := if p = 0 then SYS_BOOTSTAT_A_RESULT else SYS_BOOTSTAT_B_RESULT

/-- R47: the lower SEC_VER of a pair. -/
def State.pairSec (s : State) (p : Nat) : Nat := min (s.image (2 * p)).secVer (s.image (2 * p + 1)).secVer

/-- R45: a pair is read and checked; where it passes it is the running pair. -/
def State.tryPair (s : State) (f : BootFindings) (p : Nat) : State :=
  let r := s.pairResult f p
  let s1 := s.set (resultOf p) r
  if r = 1 then
    { s1 with
      boot.running := p
      boot.secVer := s.pairSec p }.set SYS_BOOTSTAT_PAIR p
  else s1

/-- R45, R49: no pair remains. -/
def State.noPair (s : State) : State :=
  if s.get SYS_BOOTSTAT_A_RESULT = 7 ∨ s.get SYS_BOOTSTAT_B_RESULT = 7 then s.enterSafe sfWATCHDOG
  else s.enterSafe sfNO_IMAGE

/-- R48: a TRIAL pair that was booted once and not confirmed: TRIAL is cleared and the other pair preferred. -/
def State.endTrial (s : State) : State :=
  let p := s.bootPrefer
  match s.bootInForce with
  | some k => if bitN p 1 && s.boot.trialSeq == some (s.bootSeq k) then s.writeBoot (s.bootRecord (1 - p % 2)) else s
  | none => s

/-- R48: the TRIAL pair of the record in force is booted now. -/
def State.markTrial (s : State) : State :=
  if bitN s.bootPrefer 1 then { s with boot.trialSeq := s.bootInForce.map s.bootSeq } else s

/-- Step 11: where the preferred pair does not pass, the other is read and checked. -/
def State.secondPair (s : State) (f : BootFindings) (p : Nat) (trial : Bool) : State :=
  if s.boot.running = p then s.set SYS_BOOTSTAT_TRIAL (b2n trial) else s.tryPair f (1 - p)

/-- Steps 10 and 11: the pairs in their order (R45, R48). -/
def State.selectPair (s : State) (f : BootFindings) : State :=
  let s1 := s.endTrial
  let p := s1.bootPrefer % 2
  let trial := bitN s1.bootPrefer 1
  (s1.markTrial.tryPair f p).secondPair f p trial

/-! ## DRAM at boot (R334, R335, R349) -/

/-- R334: the channels trained and the channels with two ranks that OTP names; none where training finds them. -/
def State.namedDram (s : State) : Option (Nat × Nat) :=
  let c := s.otp.dramCfg.toNat % 8
  if c = 1 then some (1, 0)
  else if c = 2 then some (1, 1)
  else if c = 3 then some (3, 0)
  else if c = 4 then some (3, 3)
  else if c = 5 then some (0, 0)
  else none

/-- The channels of the variant (Table 00-1). -/
def State.channels (s : State) : Nat := if s.otp.variant = 0 then 3 else 1

/-- Channels trained and channels with two ranks, as MEM_CFG shows them. -/
def dramRanks (ch rk : Nat) : Nat := (ch % 2 + ch / 2 % 2) + (ch % 2 * (rk % 2) + ch / 2 % 2 * (rk / 2 % 2))

/-- R334: the PROOF_FAIL bits of training, [1] channel 0 and [2] channel 1. -/
def State.dramFault (s : State) (ch rk : Nat) : Nat :=
  match s.namedDram with
  | some (c, r) =>
    let bad := fun (k : Nat) => bitN c k && !(bitN ch k && (!bitN r k || bitN rk k))
    2 * b2n (bad 0) + 4 * b2n (bad 1)
  | none =>
    if ch = 0 ∧ !s.isT then 2
    else if ch = 3 ∧ (rk = 1 ∨ rk = 2) then 4
    else 0

/-- PROOF_FAIL bits are set. -/
def State.failProof (s : State) (bits_ : Nat) : State :=
  s.set SYS_BOOTSTAT_PROOF_FAIL (Nat.lor (s.get SYS_BOOTSTAT_PROOF_FAIL) bits_)

/-- Step 7: training gives MEM_CFG; a configuration once trained is kept (Table 02-12). -/
def State.train (s : State) (f : BootFindings) : State :=
  let kept := decide (s.get MEM_CFG_CH ≠ 0)
  let fit := (match s.namedDram with
    | some (c, _) => c
    | none => s.channels)
  let ch := if kept then s.get MEM_CFG_CH else Nat.land f.trained.toNat fit
  let two := (match s.namedDram with
    | some (_, r) => r
    | none => s.channels)
  let rk := if kept then s.get MEM_CFG_RANKS else Nat.land (Nat.land f.ranks.toNat two) ch
  (((s.set MEM_CFG_CH ch).set MEM_CFG_RANKS rk).set MEM_CFG_CAP (8 * dramRanks ch rk)).failProof (s.dramFault ch rk)

/-- R349: hard repair of one recorded row, with or without a spare; the outcome is recorded and shown (log entry 31). -/
def State.repairRow (s : State) (j : Nat) (r : Repair) (spare : Bool) : State :=
  let w := if spare then 2 else 4
  let s1 := s.appendRepair (repairRecord 1 r.index r.w0 (w + 1))
  if j < 8 then (s1.setReg (a_MEM_REPLOG0 j) (BitVec.ofNat 32 r.w0)).setReg (a_MEM_REPLOG1 j) (BitVec.ofNat 32 w) else s1

/-- R349: at step 7 of a cold boot every recorded row that was neither repaired nor found without a spare. -/
def State.postPackage (s : State) (f : BootFindings) : State :=
  let due := s.liveRepairs.filter (fun r => r.kind == 1 && r.w1 / 2 % 4 == 0)
  forEach (List.range due.length) (fun j t =>
    match due[j]? with
    | some r => t.repairRow j r (f.spare.getD j false)
    | none => t) s

/-- R338, R388: the recorded marks are written back. -/
def State.restoreMarks (s : State) : State :=
  forEach (s.liveRepairs.filter (fun r => r.kind == 2 && decide (r.index < 4))) (fun r t =>
    t.setReg (a_MEM_MARK r.index) (BitVec.ofNat 32 (Nat.land r.w0 0x1F1F))) s

/-! ## The boot (R40 to R43, R53, R56) -/

/-- What a cold reset keeps: fuses and OTP, the flash, the levels at the pins, and the model's own fields. -/
def State.coldState (s : State) : State :=
  { State.reset with
    otp := s.otp
    fsp := { mem := s.fsp.mem, erases := s.fsp.erases, unitSeq := s.fsp.unitSeq, unitPos := s.fsp.unitPos,
             records := s.fsp.records, block := s.fsp.block,
             copied := s.fsp.copied.filter (fun (e : Nat × Word) => decide (8 ≤ e.1)) }
    boot := { trialSeq := s.boot.trialSeq, warmLow := s.boot.warmLow }
    pw := { supplyLow := s.pw.supplyLow }
    bur := { ins := s.bur.ins.map (fun (e : Nat × TripIn) => (e.1, { high := e.2.high })) }
    uart := s.uart.map (fun (e : Nat × Uart) => (e.1, { cts := e.2.cts }))
    free := s.free
    posted := s.posted
    pending := s.pending }.setReg a_GPI_IN (s.reg a_GPI_IN)

/-- SYS_ID and SYS_CAP (Tables 00-3, 00-4). -/
def State.showFuses (s : State) : State :=
  let part := if s.otp.variant = 0 then 0x9716 else if s.otp.variant = 1 then 0x9708 else 0x9704
  let s1 := ((s.set SYS_ID_PART part).set SYS_ID_SUFFIX (b2n s.isT)).set SYS_ID_STEPPING s.otp.stepping.toNat
  let s2 := ((s1.set SYS_CAP_PORTS s.ports).set SYS_CAP_GROUPS s.groups).set SYS_CAP_AES s.engines
  ((s2.set SYS_CAP_DRAM_CH (if s.otp.variant = 0 then 2 else 1)).set SYS_CAP_DRAM_OPT (b2n s.isT)).set
    SYS_BOOTSTAT_OTP_CTR s.otp.counter

/-- The boot has completed step `k` of Table 02-7. -/
def State.bootStep (s : State) (k : Nat) : State := { s with boot.step := k }.showProg

/-- R401: the PLL is locked on its reference. -/
def State.pllUp (s : State) : State := (s.set CLK_STAT_LOCK 1).set CLK_STAT_REF 1

/-- Steps 1 to 6 of a cold boot; PD_PROT is proven at step 3, and Burin starts at step 4 (R41, R43). -/
def State.bootEarly (s : State) (f : BootFindings) : State :=
  let s1 := ((s.coldState.pllUp.showFuses.set PWR_STAT_ON s.present).loadVault).fixAreas
  let s2 := forN 8 (fun j t => if bitN t.present (12 + j) then t.domainStart (12 + j) else t) s1
  let s3 := if f.protFault then (s2.set BUR_CTL_PROT_FAULT 1).failProof 128 else s2
  let s4 := { s3 with boot.step := 4 }
  ((s4.loadSafe s4.otpProfile 1).burStart.refreshLds).bootStep 6

/-- Steps 7 and 8: training and repair, and the fill of every memory outside PD_AON and PD_PROT. -/
def State.bootMemory (s : State) (f : BootFindings) : State :=
  let fresh := decide (s.get MEM_CFG_CH = 0)
  let s1 := (if fresh then s.postPackage f else s).train f
  { s1.fillDram with mem.sram := s1.mem.sram.filter (fun (e : Nat × BitVec 72) => decide (e.1 < 2 ^ 21)) }

/-- Step 12: the images run, and the tables are initialised. -/
def State.bootTables (s : State) : State := (s.freshTables.restoreMarks).bootStep 12

/-- A pair runs, or none remains. -/
def State.bootChosen (s : State) : State := if s.boot.running = 3 then s.noPair else s.bootTables

/-- Steps 10 to 12: a pair is selected and loaded. -/
def State.bootImages (s : State) (f : BootFindings) : State :=
  (({ s with boot.running := 3 }.bootStep 9).selectPair f).bootChosen

/-- R43: the end of Proof: a fault ends in SAFE. -/
def State.bootProven (s : State) (f : BootFindings) : State :=
  if s.get SYS_BOOTSTAT_PROOF_FAIL ≠ 0 then (s.bootStep 9).enterSafe sfPROOF else s.bootImages f

/-- Steps 7 to 12 (R43): Proof finds faults, and a fault ends in SAFE. -/
def State.bootLate (s : State) (f : BootFindings) : State :=
  ((s.bootMemory f).failProof f.proofFail.toNat).bootProven f

/-- COLD_BOOT (R40): PORST_N rises, VDD_CORE and VDD_AFE being within their limits (R398). A low WARM_N holds the boot
after step 6 (R56). -/
def execColdBoot (f : BootFindings) (s : State) : Host.Outcome State Fault Refusal :=
  .next (if (s.boot.step = 0 ∨ s.pw.porstLow) ∧ s.pw.supplyLow.getLsbD 0 = false ∧ s.pw.supplyLow.getLsbD 1 = false then
      (if s.boot.warmLow then s.bootEarly f else (s.bootEarly f).bootLate f)
    else s)

/-- R43, R40 step 13: start-up is complete. -/
def State.ready (s : State) : State :=
  let s1 := { s with boot.step := 13 }.setMode mStandby
  ((s1.set SYS_MODESTAT_READY 1).fire 457 mStandby).sfEnter sfOWN

/-- START_UP_COMPLETE (Table 02-7, step 13). -/
def execStartUpComplete (s : State) : Host.Outcome State Fault Refusal :=
  .next (if s.mode = mProof ∧ s.boot.step = 12 then (s.ready.automatic false).portsFollow else s)

/-- WARM_N_ASSERT (R53, R56): ES005; the device is reset and waits for the pin to rise. Steps 1 to 6 of a cold boot
are not abandoned. -/
def execWarmNAssert (s : State) : Host.Outcome State Fault Refusal :=
  .next (if s.pw.porstLow then s
    else
      let s1 := { s with boot.warmLow := true }
      if 6 ≤ s.boot.step then (s1.warmReset 1).fire 5 else s1.fire 5)

/-- WARM_BOOT (R53, R56): WARM_N rises, or the mailbox has asked for a restart. -/
def execWarmBoot (f : BootFindings) (s : State) : Host.Outcome State Fault Refusal :=
  .next (if 6 ≤ s.boot.step ∧ (s.boot.warmLow ∨ s.boot.warmRestart) then
      let s1 := if s.boot.warmLow then s.set SYS_BOOTSTAT_CAUSE 1 else s.warmReset 2
      { s1 with
        boot.warmLow := false
        boot.warmRestart := false }.bootLate f
    else { s with boot.warmLow := false })

/-- R402, Table 02-12: PORST_N is low: everything but fuses, OTP and flash is reset, and no domain is on. -/
def State.powerOff (s : State) : State :=
  let s1 := s.coldState
  { s1 with
    boot.warmLow := false
    pw.porstLow := true }.setReg a_PWR_STAT 0

/-- PORST_N_ASSERT (R402, Table 20-3). -/
def execPorstNAssert (s : State) : Host.Outcome State Fault Refusal := .next s.powerOff

/-- FLR_FUNCTION0 (R54). -/
def execFlrFunction0 (s : State) : Host.Outcome State Fault Refusal :=
  .next (if s.domOn dHif then s.flr0.fire 6 else s)

/-- FLR_FUNCTION1 (R55). -/
def execFlrFunction1 (s : State) : Host.Outcome State Fault Refusal :=
  .next (if s.domOn dHif then s.flr1.fire 7 else s)

/-- R285: the link is lost: both functions are reset. -/
def State.linkLoss (s : State) : State := { s.flr0.flr1 with hif.linkUp := false }

/-- LINK_DOWN (R285). -/
def execLinkDown (s : State) : Host.Outcome State Fault Refusal := .next (if s.hif.linkUp then s.linkLoss else s)

/-- R49: the retried pair runs, with CAUSE 3, or none remains. -/
def State.retryChosen (s : State) : State :=
  if s.boot.running = 3 then s.noPair else (s.set SYS_BOOTSTAT_CAUSE 3).bootTables

/-- R49: between step 12 and READY: the running pair is recorded, and the other one tried once. -/
def State.retryPair (s : State) (f : BootFindings) : State :=
  let p := s.boot.running
  let q := 1 - p
  let s1 := (({ s with boot.running := 3 }.set (resultOf p) 7).set SYS_BOOTSTAT_PAIR 3).set SYS_BOOTSTAT_TRIAL 0
  if s.get (resultOf q) ≠ 0 then s1.noPair
  else (s1.tryPair f q).retryChosen

/-- WATCHDOG_EXPIRY (R49): the watchdog runs from step 10. -/
def execWatchdogExpiry (core : Fin 2) (f : BootFindings) (s : State) : Host.Outcome State Fault Refusal :=
  .next (if s.boot.step < 10 ∨ s.mode = mSafe ∨ s.pw.porstLow then s
    else
      let s1 := s.fire 9 core.val
      if s.flag SYS_MODESTAT_READY then s1.enterSafe sfWATCHDOG else s1.retryPair f)

end Sys2Proof.Machine
end

