-- ==== Sys2Proof/Machine/Power.lean ====
section
/-! DEFINITION. Chapter 18: the meanings of power requests, domain resets, supply, clock and temperature events. -/

namespace Sys2Proof.Machine

/-! ## Domains (R392 to R396) -/

/-- Table 18-1: the domains with a request case. -/
def requestable (d : Nat) : Bool := d == dProt || d == dDec || d == dMsn || decide (12 ≤ d)

/-- Table 18-1: the condition under which a domain may go off by request; conditions judge ACT (Table 18-5). -/
def State.mayGoOff (s : State) (d : Nat) : Bool :=
  if d = dProt then
    s.standbyOk && s.get BUR_CTL_ACT == 0 && (List.range s.ports).all (fun n => s.profile n == pfOff)
  else if d = dDec then
    (List.range s.ports).all (fun n => let p := s.profile n; !(p == pfBB || p == pfHV || p == pfCen))
  else if 12 ≤ d then dataless (s.profile (2 * (d - 12))) && dataless (s.profile (2 * (d - 12) + 1))
  else requestable d

/-- Bit `d` of PWR_REQ. -/
def State.setReq (s : State) (d : Nat) (b : Bool) : State := s.set ⟨a_PWR_REQ, d, 1⟩ (b2n b)

/-- R178, R281, R90 case d: the data part of port `n` stops: what it sends is sent again, what it receives fails. -/
def State.portStop (s : State) (n : Nat) : State :=
  let s1 := (match (s.txPort n).air with
    | some a => s.cutAir n a 4
    | none => s)
  let s2 := (match (s1.txPort n).win with
    | some w =>
      let t := s1.setTxPort n { s1.txPort n with win := none }
      (match t.frameOf w.queue w.id with
       | some f => t.failAttempt w.queue f
       | none => t)
    | none => s1)
  (s2.flushTx n).rxAbandon n fRESET

/-- The ports of a pair domain stop. -/
def State.pairStop (s : State) (d : Nat) : State :=
  if 12 ≤ d then (s.portStop (2 * (d - 12))).portStop (2 * (d - 12) + 1) else s

/-- R393, R394: a request to switch a domain off. -/
def State.offRequest (s : State) (d : Nat) : State :=
  if !requestable d || (s.domOn d && !s.mayGoOff d) then s.raiseFlag PWR_STAT_REFUSED
  else if s.domOn d then (((s.setReq d false).pairStop d).domainDown d).refreshLds
  else s

/-- DOMAIN_POWER_OFF (R393, R394). -/
def execDomainPowerOff (d : Fin 20) (s : State) : Host.Outcome State Fault Refusal :=
  .next (s.hostWrite 0 a_PWR_REQ (fun t => t.offRequest d.val))

/-- R393, R395: a write of 1: a present domain that is off begins to power up. -/
def State.onRequest (s : State) (d : Nat) : State :=
  if requestable d then
    let s1 := s.setReq d true
    if s.domOn d || !bitN s.present d then s1
    else { s1 with pw.rising := withBits s.pw.rising d 1 1 }.showPower
  else s

/-- DOMAIN_POWER_UP (R395). -/
def execDomainPowerUp (d : Fin 20) (s : State) : Host.Outcome State Fault Refusal :=
  .next (s.hostWrite 0 a_PWR_REQ (fun t => t.onRequest d.val))

/-- DOMAIN_POWER_UP_COMPLETE (R395). -/
def execDomainPowerUpComplete (d : Fin 20) (s : State) : Host.Outcome State Fault Refusal :=
  .next (if s.pw.rising.getLsbD d.val then
    ({ s with pw.rising := withBits s.pw.rising d.val 1 0 }.showPower.domainUp d.val).refreshLds
  else s)

/-- R396: a write of 1 to a bit of PWR_RST. -/
def State.resetRequest (s : State) (d : Nat) : State :=
  if !requestable d || (d == dProt && s.get BUR_CTL_ACT != 0) then s.raiseFlag PWR_STAT_REFUSED
  else if s.domOn d then
    let s1 := (s.pairStop d).domainLost d
    ({ s1 with pw.resetting := withBits s1.pw.resetting d 1 1 }.showPower).refreshLds
  else s

/-- DOMAIN_RESET (R396). -/
def execDomainReset (d : Fin 20) (s : State) : Host.Outcome State Fault Refusal :=
  .next (s.hostWrite 0 a_PWR_RST (fun t => t.resetRequest d.val))

/-- DOMAIN_RESET_COMPLETE (R396). -/
def execDomainResetComplete (d : Fin 20) (s : State) : Host.Outcome State Fault Refusal :=
  .next (if s.pw.resetting.getLsbD d.val then
    (({ s with pw.resetting := withBits s.pw.resetting d.val 1 0 }.showPower.domainStart d.val).fire 18
      (32 + d.val)).refreshLds
  else s)

/-! ## Supplies and clocks (R398, R401) -/

/-- Table 03-4: the supplies in the order of ES000 to ES004. -/
def suCORE : Nat := 0
def suAFE : Nat := 1
def suUCI : Nat := 4

/-- R398: what the device does at a supply that stays low. -/
def State.supplyAct (s : State) (i : Nat) : State :=
  if i = suCORE ∨ i = suAFE then s.powerOff
  else if i = suUCI then (if s.hif.linkUp then s.linkLoss else s)
  else s

/-- SUPPLY_LOW (R398). -/
def execSupplyLow (i : Fin 5) (s : State) : Host.Outcome State Fault Refusal :=
  .next (if s.pw.supplyLow.getLsbD i.val then s
    else ({ s with pw.supplyLow := withBits s.pw.supplyLow i.val 1 1 }.fire i.val 1).supplyAct i.val)

/-- SUPPLY_RESTORED (R398). -/
def execSupplyRestored (i : Fin 5) (s : State) : Host.Outcome State Fault Refusal :=
  .next (if s.pw.supplyLow.getLsbD i.val then
    { s with pw.supplyLow := withBits s.pw.supplyLow i.val 1 0 }.fire i.val 0
  else s)

/-- REFERENCE_LOSS (R401). -/
def execReferenceLoss (s : State) : Host.Outcome State Fault Refusal :=
  .next (if s.flag CLK_STAT_REF then
    (((s.set CLK_STAT_REF 0).set CLK_STAT_LOCK 0).bump CLK_STAT_REFLOSS).fire 19 2
  else s)

/-- PLL_LOCK_LOSS (R401). -/
def execPllLockLoss (s : State) : Host.Outcome State Fault Refusal :=
  .next (if s.flag CLK_STAT_LOCK then ((s.set CLK_STAT_LOCK 0).bump CLK_STAT_LOCKLOSS).fire 19 1 else s)

/-- PLL_RELOCK (R401): the reference is back, and the PLL has relocked on it. -/
def execPllRelock (s : State) : Host.Outcome State Fault Refusal :=
  .next (if s.boot.step = 0 then s else s.pllUp)

/-! ## Temperature (R403, R404, R423) -/

/-- R403: the threshold of a level, in 0.0625 °C. -/
def State.threshold (s : State) (level : Nat) : Int :=
  16 * (if level = 1 then s.getI PWR_THCFG_WARN else if level = 2 then s.getI PWR_THCFG_THROT
    else s.getI PWR_THCFG_CRIT)

/-- R403: the level of a sensor that read `t` with level `old` before: a reading above a threshold raises it; it falls
back once the reading is at or below that threshold less HYST. -/
def State.levelOf (s : State) (old : Nat) (t : Int) : Nat :=
  let h : Int := 16 * s.get PWR_THCFG_HYST
  let holds := fun (k : Nat) =>
    decide (s.threshold k < t) || (decide (k ≤ old) && decide (s.threshold k - h < t))
  if holds 3 then 3 else if holds 2 then 2 else if holds 1 then 1 else 0

/-- R403, R404: a reading of sensor `k`. -/
def State.temperature (s : State) (k : Nat) (reading : BitVec 12) : State :=
  let old := s.get (PWR_TSENS_LEVEL k)
  let new := s.levelOf old (signed 12 reading.toNat)
  let s1 := (s.set (PWR_TSENS_TEMP k) reading.toNat).set (PWR_TSENS_LEVEL k) new
  if new = old then s1
  else
    let s2 := s1.fire (10 + k) (new + reading.toNat * 2 ^ 16)
    if new = 3 then s2.enterSafe sfTHERMAL else s2

/-- TEMPERATURE_SAMPLE (R403): in every mode but OFF. -/
def execTemperatureSample (sensor : Fin 8) (reading : BitVec 12) (s : State) : Host.Outcome State Fault Refusal :=
  .next (if s.pw.porstLow then s else s.temperature sensor.val reading)

/-- R423, Table 18-8: the CRIT that a write would leave: RWL, and at most 0x7D. -/
def State.critOf (s : State) (w : Word) : Nat :=
  let c := bits w 16 8
  if s.locked then s.get PWR_THCFG_CRIT
  else if 0x7D < signed 8 c then 0x7D else c

/-- Table 18-8: a write of PWR_THCFG. -/
def State.thermalWrite (s : State) (w : Word) : State :=
  let warn := bits w 0 8
  let throt := bits w 8 8
  let crit := s.critOf w
  let s1 := (s.keep PWR_THCFG_HYST w isZero).keep PWR_THCFG_DUTY w isZero
  if signed 8 warn < signed 8 throt ∧ signed 8 throt < signed 8 crit then
    ((s1.set PWR_THCFG_WARN warn).set PWR_THCFG_THROT throt).set PWR_THCFG_CRIT crit
  else s1.raiseFlag PWR_STAT_REFUSED

/-- THERMAL_CONFIG_WRITE (R423). -/
def execThermalConfigWrite (data : Word) (s : State) : Host.Outcome State Fault Refusal :=
  .next (s.hostWrite 0 a_PWR_THCFG (fun t => t.thermalWrite data))

end Sys2Proof.Machine
end

