-- ==== Sys2Proof/Machine/Submit.lean ====
section
/-! DEFINITION. Chapter 13: taking transmit submissions and receive posts (R292 to R295, R299), and delivering
received frames (R296, R297, R331). -/

namespace Sys2Proof.Machine

/-! ## Taking a descriptor (R288, R290, R299) -/

/-- The PEER of a ring of function 0. -/
def State.peer (s : State) (r : Nat) : Nat := s.get (HIF_RCFG_PEER r)

/-- R288, R290, R299: the next descriptor of a ring may be taken; in SAFE host DMA has stopped (R51). -/
def State.mayTake (s : State) (r type : Nat) : Bool :=
  s.mode != mSafe && s.rLive 0 r type && s.rFill 0 r != 0 && s.credit (s.peer r)

/-- R299: the next descriptor of a ring is taken. -/
def State.take1 (s : State) (r : Nat) : State :=
  let k := s.peer r
  let s1 := (s.set (HIF_RCONS_C r) (s.get (HIF_RCONS_C r) + 1)).set (HIF_RSTAT_RESV k) (s.get (HIF_RSTAT_RESV k) + 1)
  { s1 with hif.taken := put r (look 0 s1.hif.taken r + 1) s1.hif.taken }

/-! ## Transmit submissions (R292 to R295) -/

/-- Table 13-3. -/
structure TxDesc where
  len : Nat
  secure : Bool
  cut : Bool
  timed : Bool
  auth : Bool
  cls : Nat
  queue : Nat
  launch : Nat
  ns : Nat
  token : Nat
  rsvdOk : Bool
  deriving DecidableEq, Repr

def TxDesc.ofBits (d : BitVec 256) : TxDesc :=
  { len := bits d 64 14, secure := bits d 78 1 == 1, cut := bits d 79 1 == 1, timed := bits d 80 1 == 1,
    auth := bits d 81 1 == 1, cls := bits d 82 3, queue := bits d 96 20, launch := bits d 128 62,
    ns := bits d 128 30, token := bits d 192 32,
    rsvdOk := bits d 85 11 == 0 && bits d 116 12 == 0 && bits d 190 2 == 0 && bits d 224 32 == 0 }

/-- The completion of a descriptor that ends without a frame. -/
def State.descCompl (s : State) (r : Nat) (d : TxDesc) (status : Nat) : Compl :=
  { ring := s.peer r, token := d.token, status := status, sec := d.secure, ct := d.cut, cls := d.cls, len := d.len,
    queue := d.queue, src := r }

/-- R294: the fields that an AUTH descriptor leaves zero, a port of the device, and room for the EUI-64 and
KNOCKID. -/
def State.authOk (s : State) (d : TxDesc) : Bool :=
  decide (d.queue < 16) && decide (d.queue < s.ports) && d.cls == 0 && !d.secure && !d.cut && !d.timed
    && decide (12 ≤ d.len)

/-- R292, checks 1 to 4, with R294, R266 and the form of R295 that needs no body: the status of the first that
fails. -/
def State.descCheck (s : State) (d : TxDesc) : Option Nat :=
  if !d.rsvdOk || d.len == 0 || decide (9184 < d.len) || decide (999999999 < d.ns) then some 10
  else if d.auth then (if s.authOk d then none else some 10)
  else
    let v := s.queue d.queue
    if s.queueCount ≤ d.queue ∨ sub v qBOUND = 0 then some 11
    else if s.qQuar d.queue then some 7
    else if d.cls ≠ sub v qCLASS ∨ (d.secure && (sub v qBCAST == 1 || s.isT)) then some 10
    else if s.profile (s.queuePort d.queue) = pfG3 ∧ (sub v qBCAST = 0 ∨ d.len < 16) then some 10
    else none

/-- Table 13-4. -/
structure G3Prefix where
  daddr : Nat
  dmode : Nat
  ackreq : Bool
  seclvl : Nat
  keyidx : Nat
  deriving DecidableEq, Repr

def g3Prefix (b : List Byte) : G3Prefix :=
  let c := leNat ((b.drop 8).take 1)
  { daddr := if c % 4 = 2 then leNat (b.take 2) else leNat (b.take 8), dmode := c % 4, ackreq := bitN c 2,
    seclvl := c / 8 % 8, keyidx := leNat ((b.drop 9).take 1) }

/-- R323: a key entry of port `n` may serve a secured submission. -/
def State.g3Entry (s : State) (n i : Nat) : Bool := decide (i ≤ 3) && s.flag (PRT_G3KEY_EN n i)

/-- R295, R323: the status with which a prefix ends a submission of port `n`. -/
def State.g3Check (s : State) (n : Nat) (p : G3Prefix) : Option Nat :=
  if p.dmode < 2 then some 10
  else if p.seclvl ≠ 0 ∧ !s.g3Entry n p.keyidx then some 10
  else if p.seclvl ≠ 0 ∧ s.get (PRT_G3FC_FC n) = 2 ^ 32 - 1 then some 9
  else none

/-- The frame that a submission of ring `r` makes. -/
def State.submitFrame (s : State) (r : Nat) (d : TxDesc) (body : List Byte) : TxFrame :=
  { id := 0, compl := some (s.peer r, d.token, r), cls := d.cls, cut := d.cut, timed := d.timed,
    launchNs := d.launch, arriving := d.cut, body := body }

/-- R221, R292: a frame for a queue of the device's own link layer. -/
def State.ownFrame (s : State) (d : TxDesc) (f : TxFrame) : TxFrame :=
  let l : Lfc := { sec := d.secure, tclass := d.cls, hopleft := s.get MAC_RELAY_HOPLIM }
  { f with lfc := if sub (s.queue d.queue) qBCAST = 1 then
      { l with
        src := s.ownAddr
        dst := addrAll
        esrc := s.ownAddr
        edst := addrAll }
    else { l with ackreq := true } }

/-- R295: a frame of the G.9903 MAC. Its data sequence number is the model's choice. -/
def State.g3Frame (s : State) (n : Nat) (p : G3Prefix) (f : TxFrame) : TxFrame :=
  { f with
    g3 := true
    lfc := { ackreq := p.ackreq, sec := p.seclvl != 0, src := s.get (PRT_G3CFG_SADDR n), dst := p.daddr,
             seq := s.blv.nextId % 256, esrc := s.get (PRT_G3CFG_SADDR n), edst := p.daddr } }

/-- R294: an AUTH frame on a port's internal control queue; to a node that knocked through a repeater it travels as
KNOCKFWD. -/
def State.authFrame (s : State) (d : TxDesc) (f : TxFrame) : TxFrame × State :=
  match s.hif.joins.find? (fun j => j.eui == leNat (f.body.take 8) && j.via != 0) with
  | some j =>
    let (q, t) := s.nextCseq j.via
    ({ f with
       auth := true
       body := 6 :: f.body
       lfc := { ftype := 2, ackreq := true, src := s.ownAddr, dst := j.via, seq := q, esrc := s.ownAddr,
                edst := j.via } }, t)
  | none =>
    ({ f with
       auth := true
       port := d.queue
       lfc := { ftype := 4, src := s.ownAddr, dst := addrNone, esrc := s.ownAddr, edst := addrNone } }, s)

/-- R254, R256: the frame takes its cells and is linked, or is refused with NO_CELL. -/
def State.submitLink (s : State) (r q : Nat) (d : TxDesc) (f : TxFrame) : State :=
  if s.admitsCells d.cls f.cells then ((s.takeCells f.cells).arcPass (32 + r % 4)).linkFrame q f
  else (s.countNoCell false).postCompl (s.descCompl r d 2)

/-- R292: a descriptor that was taken, with its body. -/
def State.submit (s : State) (r : Nat) (d : TxDesc) (body : List Byte) : State :=
  let f := s.submitFrame r d body
  match s.descCheck d with
  | some st => s.postCompl (s.descCompl r d st)
  | none =>
    if d.auth then
      let (g, t) := s.authFrame d f
      t.submitLink r (ctrlQueue d.queue) d g
    else
      let n := s.queuePort d.queue
      if s.profile n = pfG3 then
        match s.g3Check n (g3Prefix body) with
        | some st => s.postCompl (s.descCompl r d st)
        | none => s.submitLink r d.queue d (s.g3Frame n (g3Prefix body) f)
      else s.submitLink r d.queue d (s.ownFrame d f)

/-- R273: an instance of the host interface is being flushed. -/
def State.hostHeld (s : State) (i : Nat) : Bool := s.flag (ARC_CFG_FLUSH i)

/-- TX_SUBMIT_DESCRIPTOR (R292): `body` is what host memory holds at BUFADDR. -/
def execTxSubmitDescriptor (r : BitVec 12) (d : BitVec 256) (body : List Byte) (s : State) :
    Host.Outcome State Fault Refusal :=
  .next (
    let x := TxDesc.ofBits d
    let b := (body ++ List.replicate x.len 0).take x.len
    if s.mayTake r.toNat tTxSub && !s.hostHeld (32 + r.toNat % 4) then (s.take1 r.toNat).submit r.toNat x b
    else s)

/-- DESCRIPTOR_READ_ERROR (R290). -/
def execDescriptorReadError (r : BitVec 12) (s : State) : Host.Outcome State Fault Refusal :=
  .next (
    let k := r.toNat
    if s.mode != mSafe && (s.rLive 0 k tTxSub || s.rLive 0 k tRxPost) && s.rFill 0 k != 0 then s.stopRing 0 k 2
    else s)

/-- R292, check 6: the body of a descriptor could not be read: the cells taken return and it completes HOST_ERR. -/
def State.submitError (s : State) (r : Nat) (d : TxDesc) : State :=
  match s.descCheck d with
  | some st => s.postCompl (s.descCompl r d st)
  | none =>
    let k := cellsOf d.len
    if s.admitsCells d.cls k then (s.takeCells k).returnRx k (some (s.descCompl r d 12))
    else (s.countNoCell false).postCompl (s.descCompl r d 2)

/-- HOST_BODY_READ_ERROR (R292, R293). -/
def execHostBodyReadError (e : BodyError) (s : State) : Host.Outcome State Fault Refusal :=
  .next (match e with
  | .taken r d => if s.mayTake r.toNat tTxSub then (s.take1 r.toNat).submitError r.toNat (TxDesc.ofBits d) else s
  | .linked q =>
    (match (s.framesOf q.toNat).find? (fun f => f.arriving && f.relayOf.isNone) with
     | some f => s.completeTx q.toNat f 12
     | none => s))

/-! ## Receive posts (R296) -/

/-- The completion of a receive buffer. -/
def State.rxCompl (s : State) (r token status : Nat) : Compl :=
  { ring := s.peer r, token := token, status := status, kind := 1, src := r }

/-- A posted buffer that was taken waits for a frame; one of no bytes ends BAD_DESC. -/
def State.takeBuf (s : State) (r : Nat) (d : BitVec 128) : State :=
  let b : RxBuf := ⟨bits d 0 64, bits d 64 16, bits d 96 32⟩
  if b.len = 0 then s.postCompl (s.rxCompl r b.token 10)
  else { s with hif.bufs := put r (look [] s.hif.bufs r ++ [b]) s.hif.bufs }

/-- RX_POST_DESCRIPTOR (R296). -/
def execRxPostDescriptor (r : BitVec 12) (d : BitVec 128) (s : State) : Host.Outcome State Fault Refusal :=
  .next (if s.mayTake r.toNat tRxPost then (s.take1 r.toNat).takeBuf r.toNat d else s)

/-! ## Delivery (R296, R297, R331) -/

/-- Table 13-6: FOFS9: 64 Hz (BB) or 1 Hz, saturating, of a frequency in 2^-8 Hz. -/
def fofs9 (prof : Nat) (f : BitVec 32) : Nat :=
  unsigned 9 (clampI (-256) 255 (f.toInt / (if prof = pfBB then 16384 else 256)))

/-- Table 13-5: the 32 B receive header. -/
def rxHeader (f : RxFrame) (cls pan : Nat) : List Byte :=
  let l := f.lfc
  let word0 := (if f.g3 then 7 else l.ftype) + 8 * b2n l.sec + 16 * b2n l.relay + 32 * (cls % 8) + 256 * f.slot
    + 2048 * (f.tmap % 8) + 16384 * (f.mode % 16)
  if f.g3 then leBytes 4 word0 ++ leBytes 4 pan ++ leBytes 8 l.src ++ leBytes 4 (l.seq % 256)
    ++ leBytes 4 f.fofs.toNat ++ leBytes 4 f.sofs.toNat ++ leBytes 4 0
  else leBytes 4 word0 ++ leBytes 4 l.src ++ leBytes 4 l.esrc ++ leBytes 4 l.edst ++ leBytes 4 l.fcnt
    ++ leBytes 4 f.fofs.toNat ++ leBytes 4 f.sofs.toNat ++ leBytes 4 0

/-- R298, Table 13-6: the completion of a delivered frame. -/
def State.deliverCompl (s : State) (d : Delivery) (r : Nat) (b : RxBuf) (status : Nat) : Compl :=
  let f := d.frame
  { s.rxCompl r b.token status with
    sec := f.lfc.sec
    ct := s.flag (HIF_RXMAP_CT d.cls)
    cls := d.cls
    tsv := f.det.ts != 0
    len := d.body.length
    queue := d.session
    port := f.port
    quality := f.snr.toNat + 2 ^ 8 * f.psnr.toNat + 2 ^ 16 * (f.gain % 128) + 2 ^ 23 * fofs9 (s.profile f.port) f.fofs
    ts := f.det.ts }

/-- The delivery at the head of its class. -/
def State.headOf (s : State) (c : Nat) : Option Delivery := s.hif.deliveries.find? (fun d => d.cls == c)

/-- A delivery leaves the list. -/
def State.undeliver (s : State) (c : Nat) : State :=
  { s with hif.deliveries := dropFirst (fun (d : Delivery) => d.cls == c) s.hif.deliveries }

/-- R296, R331: a frame and the buffer it takes from ring `r`. -/
def State.intoBuf (s : State) (d : Delivery) (r : Nat) (b : RxBuf) : State :=
  let k := d.frame.cells
  let room := 32 + d.body.length
  let pan := s.get (PRT_G3CFG_PANID d.frame.port)
  if b.len < room then s.returnRx k (some (s.deliverCompl d r b 0x21))
  else if d.failed then
    (s.post (.hostWrite b.addr (List.replicate room 0))).returnRx k (some (s.deliverCompl d r b 0x20))
  else
    ((s.post (.hostWrite b.addr (rxHeader d.frame d.cls pan ++ d.body))).arcPass (36 + r % 4)).returnRx k
      (some (s.deliverCompl d r b 0))

/-- R296: the oldest frame of class `c` is delivered, where a buffer is there for it. -/
def State.deliverHead (s : State) (c : Nat) (d : Delivery) : State :=
  let r := s.get (HIF_RXMAP_RING c)
  if !s.flag (HIF_RXMAP_EN c) then ((s.undeliver c).bump HIF_RXDROP_NOMAP).returnRx d.frame.cells none
  else match look [] s.hif.bufs r with
    | [] => s
    | b :: rest =>
      if s.hostHeld (36 + r % 4) then s
      else ({ s.undeliver c with hif.bufs := store [] r rest s.hif.bufs }).intoBuf d r b

/-- RX_DELIVERY (R296). -/
def execRxDelivery (c : Fin 8) (s : State) : Host.Outcome State Fault Refusal :=
  .next (if s.mode = mSafe then s
  else match s.headOf c with
    | some d => s.deliverHead c d
    | none => s)

/-- RX_BUFFER_WAIT_EXPIRY (R296): a frame that waited WAIT without a buffer is dropped. -/
def execRxBufferWaitExpiry (c : Fin 8) (s : State) : Host.Outcome State Fault Refusal :=
  .next (match s.headOf c with
  | some d =>
    let free := (look [] s.hif.bufs (s.get (HIF_RXMAP_RING c))).isEmpty
    if free && decide (d.since + s.get (HIF_RXMAP_WAIT c) * tUs ≤ s.tick) then
      ((s.undeliver c).bump HIF_RXDROP_NOBUF).returnRx d.frame.cells none
    else s
  | none => s)

end Sys2Proof.Machine
end

