-- ==== Sys2Proof/Machine/HostIf.lean ====
section
/-! DEFINITION. Chapter 13: the meanings of the commands on the link, rings, doorbells and vectors (R283 to R290,
R301), and of admission and rejection (R302). -/

namespace Sys2Proof.Machine

/-- The BAR0 offset of a register key of a function. -/
def offsetOf (f key : Nat) : Nat := if f = 0 then key else key - f1 0

/-- LINK_TRAINED (R283): the rate is capped by MAXRATE. -/
def execLinkTrained (rate : Fin 4) (x8 : Bool) (s : State) : Host.Outcome State Fault Refusal :=
  .next (if s.domOn dHif && !s.pw.supplyLow.getLsbD 4 then
    ({ s with hif.linkUp := true }.set HIF_LINKSTAT_RATE (min rate (s.get HIF_LINKCTL_MAXRATE))).set HIF_LINKSTAT_X8
      (b2n x8)
  else s)

/-! ## Rings (R288) -/

/-- R288: BASE, TYPE, LOGSZ and PEER may change. -/
def State.ringIdle (s : State) (f r : Nat) : Bool := !s.flag (rEn f r) && s.flag (rIdle f r)

/-- The keys of a ring's registers. -/
def ringKey (f r k : Nat) : Nat :=
  (if k = 0 then (rLo f r).addr else if k = 1 then (rHi f r).addr else (rType f r).addr)

/-- R288: a write of a BASE register; one that changes nothing is no change. -/
def State.baseWrite (s : State) (f r k : Nat) (v : Word) : State :=
  let a := ringKey f r k
  let w := if k = 0 then v &&& 0xFFFFF000 else v
  if w = s.reg a then s
  else if s.ringIdle f r then s.setReg a w
  else s.raiseFlag (rRefused f r)

/-- R288: why ring `r` cannot be enabled with a configuration word. -/
def State.enableBad (s : State) (f r : Nat) (v : Word) : Bool :=
  let type := if f = 0 then bits v 0 3 else tEvent
  let log := bits v 3 5
  decide (log < 4) || decide (16 < log) || type == 0 || decide (5 ≤ type) ||
    ((type == tTxSub || type == tRxPost) && (bits v 8 12 == r || s.get (HIF_RCFG_TYPE (bits v 8 12)) != tCompl))

/-- R288: why a COMPL ring cannot be disabled: an enabled ring names it, or RESV is above 0. -/
def State.disableBad (s : State) (f r : Nat) : Bool :=
  f == 0 && s.get (HIF_RCFG_TYPE r) == tCompl && (s.get (HIF_RSTAT_RESV r) != 0 ||
    (List.range 4096).any (fun k => s.flag (HIF_RCFG_EN k) && s.get (HIF_RCFG_PEER k) == r
      && (s.get (HIF_RCFG_TYPE k) == tTxSub || s.get (HIF_RCFG_TYPE k) == tRxPost)))

/-- R288: the ring is enabled: its indices are zero, and it is not stopped (R290). -/
def State.ringOn (s : State) (f r : Nat) : State :=
  ((((s.set (rEn f r) 1).set (rP f r) 0).set (rC f r) 0).set (rStopped f r) 0).set (rErr f r) 0

/-- R288: the buffers of a disabled RXPOST ring complete RX_FLUSHED. -/
def State.flushBufs (s : State) (r : Nat) : State :=
  let l := look [] s.hif.bufs r
  forEach l (fun b t => t.postCompl (t.rxCompl r b.token 0x22)) { s with hif.bufs := del r s.hif.bufs }

/-- R288: the ring is disabled. -/
def State.ringOff (s : State) (f r : Nat) : State :=
  let s1 := s.set (rEn f r) 0
  (if f = 0 ∧ s.get (HIF_RCFG_TYPE r) = tRxPost then s1.flushBufs r else s1).refreshIdle f r

/-- The fields of RCFG that a write takes beside EN, and those whose change needs an idle ring. -/
def cfgMask (f : Nat) : Word := if f = 0 then 0x1FFFFFFF else 0x11F000F8
def shapeMask (f : Nat) : Word := if f = 0 then 0x000FFFFF else 0x000000F8

/-- R288, R13: a write of RCFG: refused as a whole, or taken, with EN. -/
def State.rcfgWrite (s : State) (f r : Nat) (v : Word) : State :=
  let a := ringKey f r 2
  let s0 := s.clearW1c a 0x40000000 v
  let old := s.reg a
  let en := s.flag (rEn f r)
  let to_ := v.getLsbD 29
  if ((old ^^^ v) &&& shapeMask f) ≠ 0 ∧ !s.ringIdle f r then s0.raiseFlag (rRefused f r)
  else if !en && to_ && s.enableBad f r v then s0.raiseFlag (rRefused f r)
  else if en && !to_ && s.disableBad f r then s0.raiseFlag (rRefused f r)
  else
    let s1 := s0.setReg a ((s0.reg a &&& ~~~(cfgMask f)) ||| (v &&& cfgMask f))
    if !en && to_ then (s1.ringOn f r).refreshIdle f r else if en && !to_ then s1.ringOff f r else s1

/-- A write of register `k` of ring `r`: 0 BASELO, 1 BASEHI, 2 CFG. -/
def State.ringWrite (s : State) (f r k : Nat) (v : Word) : State :=
  if ringCount f ≤ r then s
  else s.hostWrite f (offsetOf f (ringKey f r k)) (fun t => if k = 2 then t.rcfgWrite f r v else t.baseWrite f r k v)

/-- RING_CONFIG_WRITE (R288). -/
def execRingConfigWrite (func : Fin 2) (r : BitVec 12) (k : Fin 3) (data : Word) (s : State) :
    Host.Outcome State Fault Refusal :=
  .next (s.ringWrite func r.toNat k data)

/-- RING_ENABLE (R288): a write of RCFG with EN 1. -/
def execRingEnable (func : Fin 2) (r : BitVec 12) (data : Word) (s : State) : Host.Outcome State Fault Refusal :=
  .next (s.ringWrite func r.toNat 2 (data ||| 0x20000000))

/-- RING_DISABLE (R288): a write of RCFG with EN 0. -/
def execRingDisable (func : Fin 2) (r : BitVec 12) (data : Word) (s : State) : Host.Outcome State Fault Refusal :=
  .next (s.ringWrite func r.toNat 2 (data &&& ~~~(0x20000000#32)))

/-! ## Doorbells (R289, R290) -/

/-- R290: a new index for ring `r`: the producer's of a TXSUB or RXPOST ring, the consumer's of a COMPL or EVENT
ring; an invalid one stops the ring. A disabled ring ignores it (R288). -/
def State.ringBell (s : State) (f r n : Nat) : State :=
  let type := s.get (rType f r)
  if !s.flag (rEn f r) then s
  else if type = tTxSub ∨ type = tRxPost then
    (if (n + 2 ^ 32 - s.get (rP f r)) % 2 ^ 32 ≤ s.rSize f r - s.rFill f r then s.set (rP f r) n
     else s.stopRing f r 1)
  else if (n + 2 ^ 32 - s.get (rC f r)) % 2 ^ 32 ≤ s.rFill f r then s.set (rC f r) n
  else s.stopRing f r 1

/-- R289: a 4 B write at offset 0 of the doorbell page of a ring of function 0; a write of RCONS of function 1. -/
def State.doorbell (s : State) (f r : Nat) (v : Word) : State :=
  if f = 0 then
    (match s.violationKind 0 1 (4096 * r) true with
     | some k => { s with free := s.free + 1 }.violate (.host 0 1 (BitVec.ofNat 32 (4096 * r)) true) k
     | none => (s.fire (384 + r / 64) (r % 64)).ringBell 0 r v.toNat)
  else if r < 16 then s.hostWrite 1 (offsetOf 1 (a_F1_RCONS r)) (fun t => t.ringBell 1 r v.toNat)
  else s

/-- DOORBELL_WRITE (R289, R290). -/
def execDoorbellWrite (func : Fin 2) (r : BitVec 12) (v : Word) (s : State) : Host.Outcome State Fault Refusal :=
  .next (s.doorbell func r.toNat v)

/-! ## Vectors (R301) -/

/-- R301: the timer of a vector expires. -/
def State.holdoffEnd (s : State) (f v : Nat) : State :=
  match find s.hif.timers (vecKey f v) with
  | some t =>
    if t.expiry ≤ s.tick then
      (if 0 < t.n ∧ s.mode ≠ mSafe then s.sendVector f v
       else { s with hif.timers := del (vecKey f v) s.hif.timers })
    else s
  | none => s

/-- VECTOR_HOLDOFF_EXPIRY (R301). -/
def execVectorHoldoffExpiry (func : Fin 2) (v : Fin 256) (s : State) : Host.Outcome State Fault Refusal :=
  .next (s.holdoffEnd func v)

/-- R301: a vector is unmasked; a pending one is requested. -/
def State.unmask (s : State) (f v : Nat) : State :=
  let s1 := s.set (vMask f v) 0
  if s.flag (vMask f v) && s1.flag (vPend f v) then (s1.set (vPend f v) 0).requestVector f v else s1

/-- VECTOR_UNMASK (R301): a write of the vector's MSI-X control word with MASK 0. -/
def execVectorUnmask (func : Fin 2) (v : Fin 256) (s : State) : Host.Outcome State Fault Refusal :=
  .next (s.hostWrite func (offsetOf func (vMask func v).addr) (fun t => t.unmask func v))

/-! ## Admission (R213, R302) -/

/-- HIF_MACARG0 and 1: the EUI-64 of a command. -/
def State.macEui (s : State) : Nat := s.get (HIF_MACARG01_EUI 0) + 2 ^ 32 * s.get (HIF_MACARG01_EUI 1)

/-- R302: a MAC command is taken: BUSY is 0 and the mode is COORDINATOR or ISLAND. -/
def State.macTakes (s : State) : Bool := !s.flag HIF_MACRES_BUSY && (s.mode == mCoordinator || s.mode == mIsland)

/-- A MAC command ends with a RESULT. -/
def State.macEnd (s : State) (result : Nat) : State := s.set HIF_MACRES_RESULT result

/-- An address that a partner may have (R213). -/
def State.partnerAddr (s : State) (a : Nat) : Bool :=
  a != addrAll && a != addrNone && a != s.ownAddr && decide (s.dirIndex a < s.dirCount) && !s.pQuar (s.dirIndex a)

/-- R213: the lowest free directory index from 1 upwards, as an address. -/
def State.freeAddr (s : State) : Option Nat :=
  let n := s.blv.dir.length + 64 * s.blv.quarP.length + 4
  ((List.range n).map (fun i => Nat.xor (i + 1) s.ownAddr)).find?
    (fun a => s.partnerAddr a && sub (s.dirOf a) dSTATE == 0)

/-- R302: the address of an admission: the named one, the known one, or the lowest free; 2 or 4 where there is
none. -/
def State.admitAddr (s : State) (eui : Nat) : Nat ⊕ Nat :=
  let a := s.get HIF_MACARG2_ADDR
  if a ≠ 0 then
    (if !s.partnerAddr a || (sub (s.dirOf a) dSTATE != 0 && sub (s.dirOf a) dEUI != eui) then .inr 2 else .inl a)
  else match s.knownAddr eui with
    | some k => .inl k
    | none =>
      match s.freeAddr with
      | some k => .inl k
      | none => .inr 4

/-- R302: the session of an admission: the named one, or the lowest whose VALID is 0; 3 or 4 where there is none. -/
def State.admitSes (s : State) : Nat ⊕ Nat :=
  let k := s.get HIF_MACARG3_SESSION
  if k ≠ 0 then (if s.sessionCount ≤ k ∨ s.sesInUse k then .inr 3 else .inl k)
  else
    match (List.range (s.blv.sessions.length + 1)).find?
        (fun i => decide (i + 1 < s.sessionCount) && sub (s.ses (i + 1)) sVALID == 0) with
    | some i => .inl (i + 1)
    | none => .inr 4

/-- R302: what an admission writes into the session. -/
def State.admitSession (s : State) (k neigh : Nat) (j : JoinReq) : State :=
  let v := withSub (withSub (withSub (s.ses k) sNEIGH neigh) sPORT j.port) sGROUPED (j.cap / 4 % 2)
  s.setSes k (withSub (withSub v sNABSENT 0) sNSLEEPY (j.cap / 2 % 2))

/-- R213, R302: a joining node is admitted with an address and a session. -/
def State.admitJoin (s : State) (j : JoinReq) (addr k : Nat) : State :=
  let direct := j.via == 0
  let hopTo := if direct then addr else sub (s.dirOf j.via) dNEXTHOP
  let parent := if direct then s.ownAddr else j.via
  let was := sub (s.dirOf addr) dSTATE
  let e := newEntry j.eui j.cap k hopTo j.port j.hop true (s.mac.period % 2 ^ 32)
  let s1 := (s.setDirOf addr (withSub (withSub e dDIRECT (b2n direct)) dADDR2 parent)).admitSession k hopTo j
  let s2 := if was = 2 then s1.notifyPresence 1 addr else s1
  let a : Admission := { addr := addr, session := k, parent := parent, hop := j.hop - 1,
                         bidx := s.get HIF_MACARG3_BIDX, kaInt := s.get MAC_PRESENCE_KA_INT }
  let s3 := s2.sendAnswer j.port 3 j.eui (admitBytes a)
  let s4 := { s3 with hif.joins := s3.hif.joins.filter (fun (x : JoinReq) => x.eui != j.eui) }
  ((s4.set HIF_MACRES_ADDR addr).set HIF_MACRES2_SESSION k).macEnd 0

/-- R302: ADMIT. -/
def State.admitCmd (s : State) : State :=
  match s.hif.joins.find? (fun j => j.eui == s.macEui) with
  | none => s.macEnd 1
  | some j =>
    match s.admitAddr j.eui with
    | .inr e => s.macEnd e
    | .inl a =>
      match s.admitSes with
      | .inr e => s.macEnd e
      | .inl k => s.admitJoin j a k

/-- R302: REJECT. -/
def State.rejectCmd (s : State) : State :=
  match s.hif.joins.find? (fun j => j.eui == s.macEui) with
  | none => s.macEnd 1
  | some j =>
    let s1 := s.sendAnswer j.port 5 j.eui []
    { s1 with hif.joins := s1.hif.joins.filter (fun (x : JoinReq) => x.eui != j.eui) }.macEnd 0

/-- R302: a write of HIF_MACCMD. -/
def State.macCommand (s : State) (op : Nat) : State :=
  if !s.macTakes then s
  else if op = 1 then s.admitCmd
  else if op = 2 then s.rejectCmd
  else s

/-- ADMIT_COMMAND (R302). -/
def execAdmitCommand (s : State) : Host.Outcome State Fault Refusal :=
  .next (s.hostWrite 0 a_HIF_MACCMD (fun t => t.macCommand 1))

/-- REJECT_COMMAND (R302). -/
def execRejectCommand (s : State) : Host.Outcome State Fault Refusal :=
  .next (s.hostWrite 0 a_HIF_MACCMD (fun t => t.macCommand 2))

end Sys2Proof.Machine
end

