-- ==== Sys2Proof/Machine/Square.lean ====
section
/-! DEFINITION. Chapter 03: the meanings of the Square's commands: records are drained (R69 to R74), the tick is read,
software events, silent violations (R75 to R77), unsupported requests and poisoned TLPs (R286, R305), SYS_LOCK. -/

namespace Sys2Proof.Machine

/-! ## Draining (R69 to R74) -/

/-- Where a record goes (Tables 03-6 and 03-7): REC, IRQ, the function, its ring and its vector. -/
structure Target where
  toRing : Bool
  irq : Bool
  func : Nat
  ring : Nat
  vec : Nat
  deriving DecidableEq, Repr

/-- The route of a source that is in force now; a route to function 1 uses its low ring and vector bits alone. -/
def State.routeOf (s : State) (src : Nat) : Target :=
  if 32 ≤ src ∧ src < 96 then
    let k := src - 32
    ⟨s.flag (BUR_ROUTE_REC k), s.flag (BUR_ROUTE_IRQ k), 1, s.get (BUR_ROUTE_RING k), s.get (BUR_ROUTE_VECTOR k)⟩
  else
    let f := s.get (SQR_ROUTE_FUNC src)
    let ring := s.get (SQR_ROUTE_RING src)
    let vec := s.get (SQR_ROUTE_VECTOR src)
    ⟨s.flag (SQR_ROUTE_REC src), s.flag (SQR_ROUTE_IRQ src), f, if f = 1 then ring % 16 else ring,
      if f = 1 then vec % 32 else vec⟩

/-- R69: whether record `a` drains before record `b`. -/
def EvRec.before (a b : EvRec) : Bool :=
  decide (a.tick < b.tick) || (a.tick == b.tick && decide (a.source < b.source))

/-- R69: the staged record that drains next: of those of past ticks, the first in order of tick and source. -/
def State.nextRecord (s : State) : Option EvRec :=
  (s.sq.staged.map (fun e => e.2)).foldl (fun a r =>
    if s.tick ≤ r.tick then a
    else match a with
      | none => some r
      | some x => if r.before x then some r else some x) none

/-- R74: the history keeps the 64 most recent records of classes P0 and P1. -/
def keepHistory (h : List EvRec) (r : EvRec) : List EvRec :=
  if r.source < 96 then (h ++ [r]).drop (h.length + 1 - 64) else h

/-- R70: a record is written to its event ring, or dropped and counted. -/
def State.recordOut (s : State) (t : Target) (r : EvRec) : State :=
  if s.eventRoom t.func t.ring 1 then
    (s.putEvent t.func t.ring r.tick r.data (r.source % 512 + r.rep % 256 * 2 ^ 16)
      (s.ringLost t.func t.ring)).setLost t.func t.ring false
  else (s.bump SQR_DROPCNT_COUNT).setLost t.func t.ring true

/-- R71: another record of the same event tick that is routed to the same vector is still to drain. -/
def State.moreForVector (s : State) (t : Target) (tick : Nat) : Bool :=
  s.sq.staged.any (fun e => e.2.tick == tick && (
    let u := s.routeOf e.1
    u.irq && u.func == t.func && u.vec == t.vec))

/-- R69 to R74: a record drains. In SAFE it reaches no ring and requests no vector. -/
def State.drain (s : State) (r : EvRec) : State :=
  let t := s.routeOf r.source
  let s1 := { s with
    sq.staged := del r.source s.sq.staged
    sq.history := keepHistory s.sq.history r }.logRecord r
  if s.mode = mSafe then s1
  else
    let s2 := if t.toRing then s1.recordOut t r else s1
    if t.irq && !s2.moreForVector t r.tick then s2.requestVector t.func t.vec else s2

/-- RECORD_DRAIN (R69 to R74). -/
def execRecordDrain (s : State) : Host.Outcome State Fault Refusal :=
  .next (match s.nextRecord with
  | some r => s.drain r
  | none => s)

/-! ## Reads and writes of the Square (Tables 03-1, 03-9) -/

/-- Table 03-1: a read of SQR_TICK_LO latches the high half of the same tick. -/
def State.latchTick (s : State) : State :=
  ((s.set SQR_TICK_LO_TICK_LO s.tick).set SQR_TICK_HI_TICK_HI (s.tick / 2 ^ 32)).post (.readData (s.tick % 2 ^ 32))

/-- TICK_READ_LATCH (Table 03-1). -/
def execTickReadLatch (s : State) : Host.Outcome State Fault Refusal :=
  .next (s.hostRead 0 a_SQR_TICK_LO State.latchTick)

/-- Table 03-9: a software event. -/
def State.swEvent (s : State) (num data : Nat) : State := s.fire (488 + num) data

/-- SOFTWARE_EVENT (Table 03-9). -/
def execSoftwareEvent (num : Fin 8) (data : BitVec 29) (s : State) : Host.Outcome State Fault Refusal :=
  .next (s.hostWrite 0 a_SQR_SWEVT (fun t => t.swEvent num.val data.toNat))

/-! ## Violations and refused requests (R75 to R77, R286, R305) -/

/-- Table 13-2: an offset that lies in a BAR. -/
def inBar (func bar : Nat) (offset : Nat) : Bool :=
  if func = 0 then decide (offset < (if bar = 0 then 0x200000 else 0x1000000))
  else bar == 0 && decide (offset < 0x10000)

/-- Table 13-11: how a 4 B host access is answered when it reaches no register: Unsupported Request outside every BAR
or misaligned in BAR0, or a silent violation, whose read returns zero. An access that is neither does `act`. -/
def State.hostAccess (s : State) (func bar : Fin 2) (offset : Word) (write : Bool) (act : State → State) : State :=
  if !inBar func bar offset.toNat || (bar == 0 && offset.toNat % 4 != 0) then s.post .unsupported
  else match s.violationKind func bar offset.toNat write with
    | some k =>
      let s1 := { s with free := s.free + 1 }.violate (.host func bar offset write) k
      if write then s1 else s1.post (.readData 0)
    | none => act s

/-- SILENT_VIOLATION (R75, R76, R16): an access that is a silent violation is recorded; one that is none leaves the
state. -/
def execSilentViolation (a : Access) (s : State) : Host.Outcome State Fault Refusal :=
  .next (match a with
  | .host f b o w => s.hostAccess f b o w id
  | .internal _ _ => s.violate a 4)

/-- VIOLATION_CLEAR (R77): a write of CLR. -/
def execViolationClear (s : State) : Host.Outcome State Fault Refusal :=
  .next (s.hostWrite 0 a_SYS_VIOLCNT State.clearViolations)

/-- R286, Table 13-11: the request is answered with Unsupported Request. -/
def badRequest (r : BadRequest) : Bool :=
  match r with
  | .access f o n => (n != 4 && n != 8) || o.toNat % n != 0 || !inBar f 0 o.toNat
  | .config f => decide (2 ≤ f)

/-- UNSUPPORTED_REQUEST (R286, Table 13-11). -/
def execUnsupportedRequest (r : BadRequest) (s : State) : Host.Outcome State Fault Refusal :=
  .next (if badRequest r then s.post .unsupported else s)

/-- POISONED_TLP (Table 13-11): a poisoned write is dropped and logged through AER. -/
def execPoisonedTlp (_func _bar : Fin 2) (_offset : Word) (s : State) : Host.Outcome State Fault Refusal :=
  .next (s.post .aer)

/-- SYS_LOCK_WRITE (Table 02-13): every RWL field is locked until PORST_N. -/
def execSysLockWrite (s : State) : Host.Outcome State Fault Refusal :=
  .next (s.hostWrite 0 a_SYS_LOCK (fun t => t.set SYS_LOCK_LOCK 1))

end Sys2Proof.Machine
end

