-- ==== Sys2Proof/Machine/Time.lean ====
section
/-! DEFINITION. Chapter 16: the meanings of the time commands. -/

namespace Sys2Proof.Machine

/-- The offset of a TIM register in function 1's mirror (R361). -/
def mirror (key : Nat) : Nat := 0x4000 + (key - 0xA0000)

/-- R360: SET: the timestamp of TIM_TB0ARG, extended from the tick of TIM_TB0REF at TB0's rate. -/
def State.tb0Set (s : State) : State :=
  if s.tbValid 0 then s.set TIM_TB0CMD_RESULT 1
  else
    let w := fun i => s.get (TIM_TB0ARG_ARG i)
    let v := stampVal (w 0 + w 1 * 2 ^ 32 + w 2 * 2 ^ 64 + w 3 * 2 ^ 96)
    let ref : Nat := s.get (TIM_TB0REF_TICK 0) + s.get (TIM_TB0REF_TICK 1) * 2 ^ 32
    let n : Int := Int.ofNat s.tick - Int.ofNat ref
    (s.startTb 0 ((v : Int) + n * s.tbRate 0).toNat).set TIM_TB0CMD_RESULT 0

/-- TB0_SET (R360). -/
def execTb0Set (s : State) : Host.Outcome State Fault Refusal :=
  .next (s.hostWrite 1 (mirror a_TIM_TB0CMD) State.tb0Set)

/-- R360: a new FREQ that differs by more than 20 ppm is a jump. -/
def freqJump (old new : Int) : Bool := decide (20 * 2 ^ 42 < |new - old| * 1000000)

/-- R360: ADJ: every part it carries must be accepted, and it takes effect whole. One that carries an offset starts an
invalid base, which reads zero, at that offset (R358). -/
def State.tb0Adj (s : State) (ofs freq : Bool) : State :=
  let raw : Nat := s.get (TIM_TB0ARG_ARG 0) + s.get (TIM_TB0ARG_ARG 1) * 2 ^ 32
  let theta : Int := signed 64 raw * 2 ^ 32
  let f := signed 32 (s.get (TIM_TB0ARG_ARG 2))
  let badO := ofs && s.tbValid 0 && s.isJump theta
  let badF := freq && freqJump (s.getI (TIM_TBFREQ_FREQ 0)) f
  if badO || badF then
    let s1 := if badO then s.jump 0 (if theta < 0 then 1 else 0) else s
    let s2 := if badF then s1.jump 0 0 else s1
    s2.set TIM_TB0CMD_RESULT 2
  else
    let s1 := if !ofs then s else if s.tbValid 0 then s.setTb 0 { s.tb 0 with pend := theta }
      else s.startTb 0 theta.toNat
    let s2 := if freq then s1.setI (TIM_TBFREQ_FREQ 0) (clampFreq f) else s1
    let s3 := s2.setTb 0 { s2.tb 0 with acc := s.tick }
    (s3.setHold 0 false).set TIM_TB0CMD_RESULT 0

/-- TB0_ADJ (R360). -/
def execTb0Adj (ofs freq : Bool) (s : State) : Host.Outcome State Fault Refusal :=
  .next (s.hostWrite 1 (mirror a_TIM_TB0CMD) (fun t => t.tb0Adj ofs freq))

/-- TB0_HOLDOVER_TIMEOUT (R360): no ADJ accepted within TB0_TO s. -/
def execTb0HoldoverTimeout (s : State) : Host.Outcome State Fault Refusal :=
  .next (if s.tbValid 0 && s.get TIM_CFG_TB0_TO != 0
      && decide ((s.tb 0).acc + s.get TIM_CFG_TB0_TO * tS ≤ s.tick) then s.setHold 0 true else s)

/-- R357: REBASE in STANDBY: the base becomes invalid and its EPOCH rises. A write of TIM_TBSTAT clears
JUMPCNT. PPS_OUT of that base goes low (Table 16-5). -/
def State.rebase (s : State) (b : Nat) : State :=
  let s0 := s.set (TIM_TBSTAT_JUMPCNT b) 0
  if s.standbyOk then
    let s1 := ((s0.setTb b {}).set (TIM_TBSTAT_VALID b) 0).count (TIM_TBSTAT_EPOCH b)
    if selBase (s.get TIM_PPSCFG_BASE) = some b then { s1 with time.ppsFall := none } else s1
  else s0

/-- REBASE (R357). -/
def execRebase (b : Fin 2) (s : State) : Host.Outcome State Fault Refusal :=
  .next (s.hostWrite 1 (mirror (a_TIM_TBSTAT b)) (fun t => t.rebase b))

/-- TB1_DISCIPLINE (R362): once per TB2 second in which TB0 is valid and not in holdover. -/
def execTb1Discipline (s : State) : Host.Outcome State Fault Refusal :=
  .next (
    let sec := s.tick / tS
    let role := s.mode == mCoordinator || s.mode == mTerminal || (s.mode == mIsland && !s.tbHold 1)
    if role && s.flag TIM_TB1CFG_SRC && s.tbValid 0 && !s.tbHold 0 && decide (s.time.disc < sec) then
      let s1 := { s with time.disc := sec }.set (TIM_TBFREQ_FREQ 1) (s.get (TIM_TBFREQ_FREQ 0))
      (s1.correct 1 (((s.tb 0).val : Int) - (s.tb 1).val) (s.tb 0).val).2
    else s)

/-- TB3_CYCLE_BOUNDARY (R367): CYC increments at the cycle's predicted end; the next end is p_hat later until
a crossing moves it. Four cycles extrapolated without a valid crossing are a holdover. -/
def execTb3CycleBoundary (s : State) : Host.Outcome State Fault Refusal :=
  .next (match s.time.cycStart with
  | some _ =>
    if s.domOn dMsn && decide (s.time.cycEnd / 65536 ≤ s.tick) then
      let x := if s.time.cycHit then 0 else s.time.extrap + 1
      let e := s.time.cycEnd
      let s1 := { s with
        time.cyc := (s.time.cyc + 1) % 2 ^ 64
        time.cycStart := some e
        time.cycEnd := e + s.pHat
        time.phTick := e / 65536
        time.phBase := 0
        time.cycHit := false
        time.extrap := x }
      let s2 := s1.showCyc
      if 4 ≤ x ∧ !s2.flag TIM_TB3STAT_HOLD then (s2.set TIM_TB3STAT_HOLD 1).fire 189 (1 + 2 * 3) else s2
    else s
  | none => s)

/-- R368: FREQ of TB0 and TB1 gives up what TRIM took (in 2^-10 ppm). -/
def State.compensate (s : State) (moved : Int) : State :=
  let d := moved * 2 ^ 32 / 1000000
  let s1 := s.setI (TIM_TBFREQ_FREQ 0) (clampFreq (s.getI (TIM_TBFREQ_FREQ 0) - d))
  s1.setI (TIM_TBFREQ_FREQ 1) (clampFreq (s1.getI (TIM_TBFREQ_FREQ 1) - d))

/-- PLL_TRIM_STEP (R368): once per TB2 second, TRIM moves by at most 0.1 ppm towards TRIM + FREQ of its source,
or back to 0 when there is none, within 25 ppm; not while the PLL is out of lock (R401). -/
def execPllTrimStep (s : State) : Host.Outcome State Fault Refusal :=
  .next (
    let sec := s.tick / tS
    if s.time.trimSec < sec ∧ s.flag CLK_STAT_LOCK then
      let trim := s.getI TIM_PLL_TRIM
      let src := s.get TIM_PLL_SRC
      let want : Int :=
        if src = 0 then -trim
        else if s.tbValid (src - 1) && !s.tbHold (src - 1) then
          s.getI (TIM_TBFREQ_FREQ (src - 1)) * 1000000 / 2 ^ 32
        else 0
      let new := clampI (-25600) 25600 (trim + clampI (-102) 102 want)
      ({ s with time.trimSec := sec }.setI TIM_PLL_TRIM new).compensate (new - trim)
    else s)

/-- PPSCFG.BASE selects a base (Table 16-10). -/
def State.ppsSel (s : State) : Nat := s.get TIM_PPSCFG_BASE

/-- R369: the whole second of the base, DLY ahead, at so many 2^-48 ns before now. -/
def State.ppsSecond (s : State) (before : Int) : Nat :=
  (((s.baseVal s.ppsSel : Int) + s.getI TIM_PPSCFG_DLY * q48 - before) / (1000000000 * q48 : Nat)).toNat

/-- PPS_OUT_EDGE (R369): in the tick in which the base passes a whole second less DLY, the pin rises and
ES177 fires. -/
def execPpsOutEdge (s : State) : Host.Outcome State Fault Refusal :=
  .next (
    let rate : Int := match selBase s.ppsSel with
      | none => 2 ^ 51
      | some b => s.tbRate b + s.slewStep
    if s.flag TIM_PPSCFG_EN && s.baseOk s.ppsSel && decide (s.ppsSecond rate < s.ppsSecond 0)
        && s.time.ppsSec != s.ppsSecond 0 then
      let s1 := { s with
        time.ppsSec := s.ppsSecond 0
        time.ppsFall := some (s.tick + s.get TIM_PPSCFG_WIDTH * tMs) }
      s1.fire 177
    else s)

/-- PPS_OUT_FALL (R369): the pin falls after WIDTH ms. -/
def execPpsOutFall (s : State) : Host.Outcome State Fault Refusal :=
  .next (match s.time.ppsFall with
  | some t => if t ≤ s.tick then { s with time.ppsFall := none } else s
  | none => s)

/-- PPS_IN_EDGE (R369): the edge time in TB2 and, when it is valid, in TB0; ES176 fires. -/
def execPpsInEdge (ns : Fin 8) (s : State) : Host.Outcome State Fault Refusal :=
  .next ({ s with time.ppsIn := (s.stampNow 0 ns, s.stampNow 2 ns) }.fire 176)

/-- The four words of a timestamp in a register array. -/
def State.putStamp (s : State) (f : Nat → Field) (v : Nat) : State :=
  (((s.set (f 0) (v % 2 ^ 32)).set (f 1) (v / 2 ^ 32 % 2 ^ 32)).set (f 2) (v / 2 ^ 64 % 2 ^ 32)).set (f 3)
    (v / 2 ^ 96 % 2 ^ 32)

/-- PPS_IN_READ_LATCH (R369): a read of word 0 of TIM_PPSIN2 latches both timestamps of one edge. -/
def execPpsInReadLatch (s : State) : Host.Outcome State Fault Refusal :=
  .next (s.hostRead 0 (a_TIM_PPSIN2 0) (fun t =>
    let u := (t.putStamp TIM_PPSIN2_TS t.time.ppsIn.1).putStamp TIM_PPSIN0_TS t.time.ppsIn.2
    u.post (.readData (t.time.ppsIn.1 % 2 ^ 32))))

/-- The whole seconds of a value in 2^-48 ns. -/
def secondsOf (v : Nat) : Nat := v / q48 / 1000000000

/-- R370: an instant between `s` and the present tick at which SYNC_OUT rises. -/
def State.syncAt (s : State) (tick : Nat) : State :=
  if s.tick ≤ tick then s.syncOut 3
  else { ({ s with tick := tick }.syncOut 3) with
    tick := s.tick
    sq.fresh := s.sq.fresh }

/-- R370: the whole seconds of TB1 between `s` and its later state. -/
def State.syncSeconds (s later : State) : State :=
  let a := secondsOf s.time.tb1.val
  if s.tbValid 1 then
    forN (secondsOf later.time.tb1.val - a)
      (fun j t => t.syncAt (s.tickOf 1 ((a + 1 + j) * 1000000000 * q48))) later
  else later

/-- R356: `n` ticks pass: TB0, TB1 and PTOFS advance. A miss due in this tick is decided at its end (R220). In the
first of them a Burin change takes effect (R193), and the flags set in a past tick may be cleared (R13); the chains
deliver their outputs (R92). -/
def State.advance (s : State) (n : Nat) : State :=
  if n = 0 then s
  else
    let s1 := ((s.orphanDecide.advancePt n).advanceTb 0 n).advanceTb 1 n
    let s2 := { s1 with
      tick := s.tick + 1
      sq.fresh := [] }.burSettle
    s.syncSeconds { s2 with
      tick := s.tick + n
      sq.fresh := if n = 1 then s2.sq.fresh else [] }.showSettles

/-- R79, R81: the clipped samples of the ports are counted, in PD_PROT (R82), each count saturating. -/
def State.countClips (s : State) (clips : List Clip) : State :=
  forEach clips (fun c t =>
    if c.port.val < t.ports ∧ t.domOn dProt then
      (t.bump (PRT_CLIP_ADC c.port.val) c.adc).bump (PRT_CLIP_DAC c.port.val) c.dac
    else t) s

/-- TIME_BASE_ADVANCE (R356). -/
def execTimeBaseAdvance (n : Nat) (clips : List Clip) (s : State) : Host.Outcome State Fault Refusal :=
  .next ((if n = 0 then s else s.countClips clips).advance n)

end Sys2Proof.Machine
end

