-- ==== Sys2Proof/Machine/Access.lean ====
section
/-! DEFINITION. A host write of any register (R11, R12, R407): what its fields store, what it clears, and the effect of
a register whose write is a command of its own. -/

namespace Sys2Proof.Machine

/-! ## Values that a write leaves or replaces -/

/-- The written word, where the field of `n` bits at `lo` keeps its old value if the written one is `bad`. -/
def keepIf (lo n : Nat) (bad : Nat → Bool) (old w : Word) : Word :=
  if bad (bits w lo n) then withBits w lo n (bits old lo n) else w

/-- A field that stores at least, or at most, a limit. -/
def atLeast (lo n m : Nat) (w : Word) : Word := withBits w lo n (max m (bits w lo n))
def atMost (lo n m : Nat) (w : Word) : Word := withBits w lo n (min m (bits w lo n))

/-- The code 3 of a two-bit field is reserved. -/
def isThree (v : Nat) : Bool := v == 3

/-- R114: a sweep base outside the range of a profile; a profile without sweep modes has no range. -/
def badBase (prof v : Nat) : Bool :=
  if prof = pfBB then decide (v < 30) || decide (897 < v)
  else if prof = pfHV then decide (v < 7) || decide (67 < v)
  else if prof = pfCen then decide (v < 1) || decide (22 < v)
  else false

/-- What a written word stores in a register of a port or a group, by the base of its row. -/
def storedPort (b prof : Nat) (old w : Word) : Word :=
  if b = a_PRT_AFE 0 then atMost 0 7 96 w
  else if b = a_PRT_DEC 0 then keepIf 0 4 (fun v => decide (10 < v)) old w
  else if b = a_PRT_DETCFG 0 then keepIf 0 5 (fun v => decide (v < 4) || decide (20 < v)) old w
  else if b = a_PRT_WAVE 0 then
    keepIf 0 2 isZero old (keepIf 8 4 (fun v => decide (9 ≤ v)) old (keepIf 16 11 (badBase prof) old w))
  else if b = a_PRT_RXCFG 0 then keepIf 12 2 isThree old w
  else if b = a_PRT_TMGEN 0 then keepIf 24 4 (fun v => decide (9 ≤ v)) old w
  else if b = a_PRT_TXCFG 0 then keepIf 8 2 isThree old w
  else if b = a_PRT_LDCTL 0 then keepIf 0 2 isThree old w
  else if b = a_GRP_DECCFG then keepIf 0 6 isZero old (keepIf 6 6 isZero old (keepIf 12 6 isZero old w))
  else w

/-- What a written word stores in any other register, by the base of its row. -/
def storedOther (b : Nat) (old w : Word) : Word :=
  if b = a_BLV_DRR0 then atLeast 0 8 144 (atLeast 8 8 144 (atLeast 16 8 144 (atLeast 24 8 144 w)))
  else if b = a_BLV_DRR1 then atLeast 0 8 144 w
  else if b = a_BLV_SHAPE1 0 then atLeast 0 24 9216 w
  else if b = a_MEM_SWPCFG ∨ b = a_MEM_BKTCFG ∨ b = a_MEM_BKTCFG2 then keepIf 0 16 isZero old w
  else if b = a_MEM_MARK 0 then
    keepIf 0 4 (fun v => decide (9 < v)) old (keepIf 8 4 (fun v => decide (9 < v)) old w)
  else if b = a_TIM_CFG then keepIf 0 16 isZero old (keepIf 16 7 isZero old (atMost 16 7 100 w))
  else if b = a_TIM_PLL then keepIf 0 2 isThree old w
  else if b = a_TIM_PPSCFG then keepIf 1 2 isThree old (keepIf 3 8 isZero old w)
  else if b = a_TIM_MSCTL then keepIf 8 6 (fun v => v == 0 || decide (50 < v)) old w
  else if b = a_TIM_MSCFG 0 then keepIf 0 4 (fun v => decide (v < 6) || decide (12 < v)) old w
  else if b = a_MAC_SLEEPY then keepIf 0 12 isZero old (keepIf 12 8 isZero old (keepIf 20 8 isZero old w))
  else if b = a_UAR_CFG 0 then keepIf 3 2 isThree old w
  else if b = a_UAR_DIV 0 then (if bits w 8 16 < 2 then old else w)
  else if b = a_UAR_SC 0 then keepIf 14 10 isZero old w
  else if b = a_FSP_CFG then keepIf 0 2 isThree old w
  else w

/-! ## What a write clears -/

/-- The bits of a counter or log register that any write clears, by the base of its row. -/
def clearedAll : List Nat :=
  [a_SQR_DROPCNT, a_BLV_NOCELL, a_BLV_QUARCNT, a_BLV_DROP, a_ARC_CNT 0, a_ARC_ERR 0, a_CPH_CNT0, a_CPH_CNT1,
   a_MAC_BCNCNT, a_MAC_BCNRX, a_MAC_DUPCNT, a_MAC_OLDCNT, a_MAC_PENDFULL, a_MAC_NOACKCNT, a_MAC_LATEACK, a_MAC_CTCNT,
   a_MAC_HOLDEXP, a_PRT_CLIP 0, a_PRT_RXDET 0, a_PRT_RXGOOD 0, a_PRT_RXIGN 0, a_PRT_RXFAIL 0 0, a_PRT_TXCNT 0,
   a_PRT_DWDEF 0, a_PRT_DWTRUNC 0, a_PRT_TXLATE 0, a_PRT_LDFLTCNT 0, a_HIF_RXDROP, a_HIF_EVDROP, a_BUR_PCNT 0,
   a_BUR_TXCNT 0]

/-- Counters that are a part of their register. -/
def clearedPart (b : Nat) : Nat :=
  if b = a_CLK_STAT then 0xFFFF00
  else if b = a_MEM_DBKT 0 ∨ b = a_MEM_SBKT 0 ∨ b = a_MEM_MARK 0 ∨ b = a_HIF_LINKSTAT then 0xFFFF0000
  else if b = a_GRP_DECSTAT then 0xFFFF7F00
  else if b = a_TIM_TBSTAT 0 then 0xFF00
  else 0

/-- The bits that any write of a register clears. -/
def clearedBits (b : Nat) : Word := if clearedAll.contains b then 0xFFFFFFFF else BitVec.ofNat 32 (clearedPart b)

/-- Table 15-10: a write of MEM_UESTAT clears the log of uncorrectable words. -/
def State.clearUeLog (s : State) : State :=
  (forN 16 (fun k t => (t.setReg (a_MEM_UELOG0 k) 0).setReg (a_MEM_UELOG1 k) 0) s).setReg a_MEM_UESTAT 0

/-! ## What follows a write -/

/-- R80, R180: in MANUAL a written gain is in effect, or will be once a burst's own gain ends. -/
def State.gainFollows (s : State) (n : Nat) : State :=
  if s.flag (PRT_AFE_GMODE n) then s
  else match (s.burPort n).gain with
    | some _ => s.setBurPort n { s.burPort n with gain := some (s.get (PRT_AFE_GAIN n)) }
    | none => s.set (PRT_AFE_ACT_GAIN n) (s.get (PRT_AFE_GAIN n))

/-- R90 case c: a change of a mains-sense chain's k resets it in the tick after. -/
def State.mainsFollows (s : State) (i : Nat) (old : Word) : State :=
  if bits old 0 4 = s.get (TIM_MSCFG_K i) then s else s.addEdge (2 * (s.tick + 1)) (.mains i)

/-- What depends on a register that was written, by the base of its row and the index in it. -/
def State.follow (s : State) (b i : Nat) (old : Word) : State :=
  if b = a_PRT_AFE 0 then s.gainFollows i
  else if b = a_PRT_DEC 0 then s.refreshK i
  else if b = a_PRT_LDCTL 0 then s.refreshLd i
  else if b = a_TIM_MSCFG 0 then s.mainsFollows i old
  else if b = a_UAR_CFG 0 ∨ b = a_UAR_SC 0 then (s.uartRts i).uartGo i
  else s

/-- R11 to R13: a write of a register that is no command: its fields store, and counters clear. -/
def State.plainWrite (s : State) (r : Row) (i key : Nat) (w : Word) : State :=
  let old := s.reg key
  let s1 := s.storeFields r key (storedOther r.base old (storedPort r.base (s.profile i) old w))
  let s2 := if r.base = a_MEM_UESTAT then s1.clearUeLog else s1.setReg key (s1.reg key &&& ~~~(clearedBits r.base))
  s2.follow r.base i old

/-! ## Registers whose write is a command -/

/-- R393: a write of PWR_REQ: each bit that is 0 where the register holds 1 is a request to switch off, each 1 a
request to switch on. -/
def State.reqWrite (s : State) (w : Word) : State :=
  forN 20 (fun d t =>
    if w.getLsbD d then t.onRequest d else if (s.reg a_PWR_REQ).getLsbD d then t.offRequest d else t) s

/-- R396: a write of PWR_RST. -/
def State.rstWrite (s : State) (w : Word) : State := forN 20 (fun d t => if w.getLsbD d then t.resetRequest d else t) s

/-- SYS, SQR and PWR registers whose write is a command. -/
def State.sysWrite (s : State) (b : Nat) (w : Word) : Option State :=
  if b = a_SYS_MODE then some (s.modeWrite (bits w 0 4))
  else if b = a_SYS_VIOLCNT then some (if w.getLsbD 16 then s.clearViolations else s)
  else if b = a_SQR_SWEVT then some (s.swEvent (bits w 0 3) (bits w 3 29))
  else if b = a_PWR_REQ then some (s.reqWrite w)
  else if b = a_PWR_RST then some (s.rstWrite w)
  else if b = a_PWR_THCFG then some (s.thermalWrite w)
  else none

/-- A write of SYS_DECSYNC: PIN_EN stores, and CMD resets the decimators (R90). -/
def State.decWrite (s : State) (r : Row) (key : Nat) (w : Word) : State :=
  let s1 := (s.storeFields r key w).set SYS_DECSYNC_CMD 0
  if w.getLsbD 1 then s1.decsyncCmd else s1

/-- Registers of the host interface, Arcade, the Boulevard, memory and keys whose write is a command. -/
def State.hostRegWrite (s : State) (b i : Nat) (w : Word) : Option State :=
  if b = a_HIF_RBASELO 0 then some (s.ringWrite 0 i 0 w)
  else if b = a_HIF_RBASEHI 0 then some (s.ringWrite 0 i 1 w)
  else if b = a_HIF_RCFG 0 then some (s.ringWrite 0 i 2 w)
  else if b = a_F1_RBASELO 0 then some (s.ringWrite 1 i 0 w)
  else if b = a_F1_RBASEHI 0 then some (s.ringWrite 1 i 1 w)
  else if b = a_F1_RCFG 0 then some (s.ringWrite 1 i 2 w)
  else if b = a_F1_RCONS 0 then some (s.ringBell 1 i w.toNat)
  else if b = a_MSIX_CTRL 0 then some (if w.getLsbD 0 then s.set (vMask 0 i) 1 else s.unmask 0 i)
  else if b = a_F1_MSIX_CTRL 0 then some (if w.getLsbD 0 then s.set (vMask 1 i) 1 else s.unmask 1 i)
  else if b = a_HIF_MACCMD then some (s.macCommand (bits w 0 2))
  else if b = a_HIF_MBXCMD then some (s.mailbox (bits w 0 8) (w.extractLsb' 8 8))
  else if b = a_BLV_OBJCMD then some (if s.flag BLV_OBJSTAT_BUSY then s else s.objectCommand w)
  else if a_BLV_QBASE ≤ b ∧ b < a_BLV_POOLCFG then some (s.poolWrite ((b - a_BLV_QBASE) / 4) w)
  else if b = a_BLV_POOLCFG then some (s.poolcfgWrite w)
  else if b = a_ARC_CFG 0 then some (s.arcCfgWrite i w)
  else if b = a_MEM_DIAGCMD then some (s.diagCommand w)
  else if b = a_KEY_CMD then some (s.keyCommand w)
  else none

/-- A write of MAC_ALLOCCTL: REFUSED clears where written 1, then COMMIT (R207). -/
def State.allocWrite (s : State) (w : Word) : State :=
  let s1 := s.clearW1c a_MAC_ALLOCCTL 0x40000 w
  if w.getLsbD 0 then s1.allocCommit else s1

/-- A write of TIM_TB0CMD (R360). -/
def State.tb0Write (s : State) (w : Word) : State :=
  if bits w 0 2 = 1 then s.tb0Set
  else if bits w 0 2 = 2 then s.tb0Adj (w.getLsbD 2) (w.getLsbD 3)
  else s

/-- Registers of the time bases, the MAC, the ports and groups whose write is a command. -/
def State.macRegWrite (s : State) (b i j : Nat) (w : Word) : Option State :=
  if b = a_TIM_TBSTAT 0 then (if w.getLsbD 16 then some (s.rebase i) else none)
  else if b = a_TIM_TB0CMD then some (s.tb0Write w)
  else if b = a_MAC_SFCFG then some (s.macWrite .sfcfg w)
  else if b = a_MAC_BCNCFG then some (s.macWrite .bcncfg w)
  else if b = a_MAC_BCNCFG2 then some (s.macWrite .bcncfg2 w)
  else if b = a_MAC_DOMAIN then some (s.macWrite .domain w)
  else if b = a_MAC_CSMA then some (s.macWrite .csma w)
  else if b = a_MAC_JOIN then some (s.macWrite .join w)
  else if b = a_MAC_PRESENCE then some (s.macWrite .presence w)
  else if b = a_MAC_ALLOCCTL then some (s.allocWrite w)
  else if b = a_MAC_TMSBASE then some (s.tmsWrite false w)
  else if b = a_MAC_TMSCFG then some (s.tmsWrite true w)
  else if b = a_MAC_SNRBASE then some (s.snrBaseWrite w)
  else if a_MAC_DWLO 0 ≤ b ∧ b ≤ a_MAC_DWDUTY 0 then some (s.dwWrite i ((b - a_MAC_DWLO 0) / 4) w)
  else if b = a_PRT_PROFILE 0 then some (s.profileWrite i w)
  else if b = a_PRT_MASK 0 0 then some (s.maskSet i j w)
  else if b = a_GRP_CFG 0 then some (s.grpWrite i w)
  else none

/-- Registers of the UARTs, the flash store and Burin whose write is a command. -/
def State.perRegWrite (s : State) (b i : Nat) (w : Word) : Option State :=
  if b = a_UAR_DATA 0 then some (s.uartWrite i (w.extractLsb' 0 8))
  else if b = a_UAR_QCFG 0 then some (s.uartQcfg i w)
  else if b = a_FSP_LOGCMD then some (s.logCmd (bits w 0 12))
  else if b = a_BUR_CTL then some (s.burCtl (w.getLsbD 0) (w.getLsbD 1))
  else if b = a_BUR_TIMING then some (s.burRegWrite .timing w)
  else if b = a_BUR_DETCFG then some (s.burRegWrite .detcfg w)
  else if b = a_BUR_TRIPCFG 0 then some (s.burRegWrite (.trip (Fin.ofNat 8 i)) w)
  else if b = a_BUR_CMDCFG 0 then some (s.burRegWrite (.cmd (Fin.ofNat 16 i)) w)
  else if b = a_BUR_PORTCFG 0 then some (s.burRegWrite (.portCfg (Fin.ofNat 16 i)) w)
  else if b = a_BUR_PORTLVL 0 then some (s.burRegWrite (.portLvl (Fin.ofNat 16 i)) w)
  else none

/-- A host write that reaches the register at a key. -/
def State.regWrite (s : State) (key : Nat) (w : Word) : State :=
  match rowOf regMap key with
  | none => s
  | some (r, i, j) =>
    if r.base = a_SYS_DECSYNC then s.decWrite r key w
    else
      ((s.sysWrite r.base w).orElse fun _ => (s.hostRegWrite r.base i w).orElse fun _ =>
        (s.macRegWrite r.base i j w).orElse fun _ => s.perRegWrite r.base i w).getD (s.plainWrite r i key w)

/-- A 4 B host write in BAR0, or of a doorbell page in BAR2 (R11, R75, R286, R289); the memory debug window and the
violations of a write are as laid down there. -/
def State.busWrite (s : State) (func : Fin 2) (offset data : Word) : State :=
  s.hostAccess func 0 offset true (fun t =>
    if func.val = 0 ∧ debugWindow offset.toNat then
      t.debugAccess (offset.toNat - debugBase) false true (fun u => u)
        (fun u => u.debugWrite (offset.toNat - debugBase) 4 data.toNat)
    else t.regWrite (regKey func.val offset.toNat) data)

/-- REGISTER_WRITE (R11). -/
def execRegisterWrite (func : Fin 2) (offset data : Word) (s : State) : Host.Outcome State Fault Refusal :=
  .next (s.busWrite func offset data)

/-- COUNTER_CLEAR_WRITE (R11): the side effects of the counter and log registers. -/
def execCounterClearWrite (func : Fin 2) (offset data : Word) (s : State) : Host.Outcome State Fault Refusal :=
  .next (s.busWrite func offset data)

end Sys2Proof.Machine
end

