-- ==== Sys2Proof/Machine/Link.lean ====
section
/-! DEFINITION. Chapter 10: the meanings of the link-layer commands: DATA frames and their tags, acknowledgements,
MAC control frames, sleepy partners, and cut-through relaying. -/

namespace Sys2Proof.Machine

/-! ## DATA frames (R227, R228) -/

/-- A DATA frame of the device's own link layer. -/
def isData (f : RxFrame) : Bool := decide (f.phy ≤ 1) && f.lfc.ftype == 0

/-- DATA_FRAME_RECEIVED (R227). -/
def execDataFrameReceived (n : Fin 16) (s : State) : Host.Outcome State Fault Refusal :=
  .next (s.takeRx n isData (fun f t => t.dataIn n f))

/-- The dispatched frame whose stream an engine serves, and the state without that request. -/
def State.takeStream (s : State) (e : Nat) : Option (Dispatch × State) :=
  match find s.cph.engines e with
  | some r =>
    match r.use with
    | .rx id =>
      (s.cph.dispatched.find? (fun d => d.frame.id == id)).map (fun d =>
        (d, { s.cphEnd (.rx id) with
          cph.dispatched := s.cph.dispatched.filter (fun x => x.frame.id != id) }))
    | .tx _ _ => none
  | none => none

/-- R228: the tag of a dispatched frame verifies. -/
def State.tagGood (s : State) (d : Dispatch) : State :=
  let (k, s1) := s.obtainKey d.session
  match k with
  | .key x => s1.verified d.frame (some d.session) (decryptRx x d.frame)
  | .fail p => (s1.keyFail d.session p).loseRx d.frame

/-- TAG_VERIFIED (R228). -/
def execTagVerified (e : Fin 12) (s : State) : Host.Outcome State Fault Refusal :=
  .next (match s.takeStream e with
  | some (d, t) => t.tagGood d
  | none => s)

/-- The frame leaves P undelivered (R228). -/
def State.leaveP (s : State) (d : Dispatch) : State :=
  s.setSes d.session (dropPending (s.ses d.session) d.frame.lfc.fcnt)

/-- R228, R331, Table 14-6: a tag fails. Under CT = 1 its buffer is zeroed and completed. -/
def State.tagBad (s : State) (d : Dispatch) : State :=
  let s1 := ((s.leaveP d).fire 149 d.session).bump CPH_CNT0_AUTHFAIL
  let f := d.frame
  let forHost := !(f.lfc.dst != addrAll && f.lfc.edst != s.ownAddr && s.relays)
  if forHost && s.flag (HIF_RXMAP_CT f.lfc.tclass) then
    s1.toHost f (List.replicate f.bodyLen 0) f.lfc.tclass d.session true
  else s1.loseRx f

/-- AUTH_FAIL (R228, R331). -/
def execAuthFail (e : Fin 12) (s : State) : Host.Outcome State Fault Refusal :=
  .next (match s.takeStream e with
  | some (d, t) => t.tagBad d
  | none => s)

/-! ## Acknowledgements (R223 to R226, R237) -/

/-- R223: the map of an ACK: that of the sweep frame it answers, or the default map. -/
def State.ackMap (s : State) (n : Nat) (k : AckPlan) : PhyMap :=
  if k.sweepK ≠ 0 then
    { mode := k.sweepK - 1, rate := 0, blk := false, gi := 0, streams := 1, bps := 0, tmap := 6, gen := 0 }
  else s.defMap n

/-- R223: the duration of a planned ACK. -/
def State.ackLen (s : State) (n : Nat) (k : AckPlan) : Nat :=
  if s.profile n = pfG3 then Config.g9903Dur 0 else s.ackDur n k.sweepK

/-- R223: how long after E_r an ACK may launch. -/
def State.ackLimit (s : State) (n : Nat) : Nat :=
  if s.profile n = pfG3 then Config.g9903AckWait else ackDl (s.profile n)

/-- R237: the service period of a child opens in the tick after the on-time of the ACK to its POLL. -/
def State.openService (s : State) (addr stop : Nat) : State :=
  { s with mac.service := put addr (stop, stop + s.get MAC_SLEEPY_SP * 10 * tMs) s.mac.service }

/-- R223: the planned ACK of port `n` launches in this tick. -/
def State.launchAck (s : State) (n : Nat) (k : AckPlan) : State :=
  let m := s.ackMap n k
  let dur := s.ackLen n k
  let r := s.rangeOf n false m
  let stop := s.tick + dur
  let l := { k.lfc with more := k.poll && s.heldFor k.lfc.dst none }
  let a : Air := { kind := .ack l, start := s.tick, stop := stop, mode := m.mode, aw := 0, lo := r.1, hi := r.2,
                   full := stop }
  let s1 := s.setTxPort n { s.txPort n with ack := none }
  let s2 := s1.airBegin n a (macLaunchData m)
  let s3 := { s2 with mac.sentTo := put l.dst s.tick s2.mac.sentTo }
  if k.poll then s3.openService l.dst stop else s3

/-- R223, R428: in a tick at or after E_r + RIFS and no later than E_r + ACKDL the ACK launches when R156 holds
beside the rules of allocation and contention; after that tick it is not sent. -/
def State.tryAck (s : State) (n : Nat) (k : AckPlan) : State :=
  let m := s.ackMap n k
  let prof := s.profile n
  let can := prof == pfG3 || m.swk != 0 || buildable prof (s.openCarriers n false).length m
  let r := s.rangeOf n false m
  if k.er + s.ackLimit n < s.tick ∨ !can then s.setTxPort n { s.txPort n with ack := none }
  else if s.tick < k.er + rifs prof ∨ !s.txMode ∨ !s.lineFree n then s
  else if (s.dwellCheck n r.1 r.2 s.tick (s.ackLen n k)).1 ≠ .pass then s
  else if s.ldReady n then s.launchAck n k
  else s.ldPlanLaunch n

/-- ACK_LAUNCH (R223). -/
def execAckLaunch (n : Fin 16) (s : State) : Host.Outcome State Fault Refusal :=
  .next (match (s.txPort n).ack with
  | some k => s.tryAck n k
  | none => s)

/-- R225: an ACK answers a frame, beside its window. -/
def State.answers (s : State) (l : Lfc) (f : TxFrame) : Bool :=
  f.lfc.ackreq && l.src == f.lfc.dst && l.dst == s.ownAddr && l.seq == f.lfc.seq

/-- R225: a frame that port `n` has sent and that is not complete. -/
def State.sentBy (s : State) (n : Nat) (l : Lfc) : Bool :=
  s.blv.frames.any (fun e => e.2.any (fun f => f.retained && decide (0 < f.attempts) && f.port == n && s.answers l f))

/-- R237: a child's ACK of a frame that carried MORE = 0 ends its service period. -/
def State.endService (s : State) (f : TxFrame) : State :=
  if f.lfc.more then s else { s with mac.service := del f.lfc.dst s.mac.service }

/-- R225: an ACK received on port `n`. -/
def State.ackIn (s : State) (n : Nat) (f : RxFrame) : State :=
  let hit : Option (AckWin × TxFrame) := (match (s.txPort n).win with
    | some w =>
      (match s.frameOf w.queue w.id with
       | some g => if s.answers f.lfc g then some (w, g) else none
       | none => none)
    | none => none)
  match hit with
  | some (w, g) =>
    if w.opening ≤ f.tdet ∧ f.tdet < w.closing then
      (s.endService g).completeTx w.queue g 0
    else s.bump MAC_LATEACK_COUNT
  | none => if s.sentBy n f.lfc then s.bump MAC_LATEACK_COUNT else s

/-- ACK_RECEIVED (R225). -/
def execAckReceived (n : Fin 16) (s : State) : Host.Outcome State Fault Refusal :=
  .next (s.takeRx n (fun f => f.phy ≤ 1 && f.lfc.ftype == 1) (fun f t => t.ackIn n f))

/-- R225: a frame detected in a window is still in reception, or waits in its instance: the window's outcome waits
for it. -/
def State.windowOpen (s : State) (n : Nat) (w : AckWin) : Bool :=
  let inside := fun (t : Nat) => decide (w.opening ≤ t) && decide (t < w.closing)
  let held := fun (p : Packet) => (match p.load with
    | .rx f => inside f.tdet && f.lfc.ftype == 1
    | .tx _ _ => false)
  (s.rxPort n).frames.any (fun a => inside a.tdet) || (s.arcOf (2 * n)).packets.any held

/-- ACK_WINDOW_CLOSE (R226). -/
def execAckWindowClose (n : Fin 16) (s : State) : Host.Outcome State Fault Refusal :=
  .next (match (s.txPort n).win with
  | some w =>
    if s.tick < w.closing ∨ s.windowOpen n w then s
    else
      let s1 := s.setTxPort n { s.txPort n with win := none }
      (match s1.frameOf w.queue w.id with
       | some f => s1.failAttempt w.queue f
       | none => s1)
  | none => s)

/-! ## MAC control frames (R229, R230, R237, R238) -/

/-- R229, R223: a CTRL or POLL frame is judged; a fresh one is acknowledged and acted upon. -/
def State.judged (s : State) (n : Nat) (f : RxFrame) (poll : Bool) (act : State → State) : State :=
  if f.lfc.dst ≠ s.ownAddr then s
  else if !s.dirUsable f.lfc.src then s.dropSource f.lfc.src
  else
    match s.judgeSeq f.lfc.src f.lfc.seq with
    | (.outside, t) => t
    | (.duplicate, t) => t.planAck n f true poll
    | (.fresh, t) => act (t.planAck n f false poll)

/-- CTRL subtypes that have a command of their own: TMFB, ADMIT, PENDING, REJECT, KNOCKFWD. -/
def ownCommand (f : RxFrame) : Bool :=
  let c := leNat (f.payload.take 1)
  decide (2 ≤ c) && decide (c ≤ 6)

/-- CTRL_FRAME_RECEIVED (R229): a keep-alive, or a subtype without an effect of its own. -/
def execCtrlFrameReceived (n : Fin 16) (s : State) : Host.Outcome State Fault Refusal :=
  .next (s.takeRx n (fun f => f.phy ≤ 1 && f.lfc.ftype == 2 && !ownCommand f) (fun f t => t.judged n f false id))

/-- R230, R122: the record of a TMFB is written into the transmit record of its slot, with DELAY; one that loads a
masked carrier is stored as not valid. -/
def State.tmfb (s : State) (n : Nat) (f : RxFrame) : State :=
  let p := f.payload
  let slot := leNat ((p.drop 1).take 1) % 8
  match s.sesFrom f.lfc.src with
  | some k =>
    if slot ≤ 5 ∧ s.hasArea k ∧ !s.sQuar k then
      let r := p.drop 6
      let first := leNat (r.take 1)
      let head := BitVec.ofNat 8 (first % 2 + 2 * slot + 16 * (leNat ((p.drop 1).take 1) / 16))
      let rec_ := (head :: (r.drop 1).take 3) ++ (p.drop 2).take 4 ++ r.drop 8
      let g := sub (s.ses k) sGROUPED == 1
      let port := sub (s.ses k) sPORT
      let usable := recUsable (s.profile port)
        (fun i => s.masked port g (firstCarrier (s.profile port) + i)) rec_
      if usable then s.writeRec k slot rec_
      else (s.writeRec k slot ((head &&& 0xFE) :: rec_.drop 1)).bump (PRT_RXFAIL_COUNT n fMAP)
    else s
  | none => s

/-- TMFB_RECEIVED (R230). -/
def execTmfbReceived (n : Fin 16) (s : State) : Host.Outcome State Fault Refusal :=
  .next (s.takeRx n (isCtrl 2) (fun f t => t.judged n f false (fun u => u.tmfb n f)))

/-- KNOCKFWD_RECEIVED (R212). -/
def execKnockfwdReceived (n : Fin 16) (s : State) : Host.Outcome State Fault Refusal :=
  .next (s.takeRx n (isCtrl 6) (fun f t => t.judged n f false (fun u => u.knockFwd n f)))

/-- POLL_RECEIVED (R237, R238). -/
def execPollReceived (n : Fin 16) (s : State) : Host.Outcome State Fault Refusal :=
  .next (s.takeRx n (fun f => f.phy ≤ 1 && f.lfc.ftype == 5) (fun f t => t.judged n f true id))

/-- SERVICE_PERIOD_END (R237). -/
def execServicePeriodEnd (addr : BitVec 25) (s : State) : Host.Outcome State Fault Refusal :=
  .next (
    if (look (0, 0) s.mac.service addr.toNat).2 ≤ s.tick then
      { s with mac.service := del addr.toNat s.mac.service }
    else s)

/-- HOLD_EXPIRY (R236): the frames of a sleepy child's queue that are still QUEUED at the end of their hold
window. -/
def execHoldExpiry (q : BitVec 20) (s : State) : Host.Outcome State Fault Refusal :=
  .next (
    let v := s.queue q.toNat
    if sub v qBOUND = 1 ∧ sub v qBCAST = 0 ∧ sub (s.ses (sub v qSESSION)) sNSLEEPY = 1 ∧ !s.qQuar q.toNat then
      let due := (s.framesOf q.toNat).filter (fun f => !f.retained && !f.awaiting && decide (f.expire ≤ s.tick))
      forEach due (fun f t => (t.completeTx q.toNat f 5).bump MAC_HOLDEXP_EXPIRED) s
    else s)

/-! ## Cut-through relaying (R234) -/

/-- Information bits per payload symbol of a map, times six, and the ticks of a symbol. -/
def mapRate (open_ : Nat) (m : PhyMap) : Nat × Nat :=
  ((if m.mode = 0 then (if m.rate = 0 then 3 else if m.rate = 1 then 4 else 5) * m.bps
    else 3 * orBitsPerSym open_ (2 ^ m.mode)),
   sampleTicks pfBB (fftSize pfBB + guardLen pfBB m.gi))

/-- The map that the header of an incoming frame names, its bits per symbol from the receive record. -/
def State.inMap (s : State) (k : Nat) (a : Acq) (h : PhyHeader) (n : Nat) : PhyMap :=
  let d := s.defMap n
  if h.tmap = 6 then { d with mode := h.mode }
  else recMap (s.readRec k (6 + 2 * a.slot + h.gen % 2)).1 4

/-- R234: the predicted end of an incoming BB frame, from NSYM. -/
def State.predictEnd (s : State) (n : Nat) (a : Acq) (h : PhyHeader) : Nat :=
  let c := (s.openCarriers n false).length
  a.tdet - lambdaTicks pfBB 0 + sampleTicks pfBB (chestSamples pfBB (h.nss + 1)
    + headerSyms pfBB c * (fftSize pfBB + guardLen pfBB 3) + h.nsym * (fftSize pfBB + guardLen pfBB h.gi))

/-- R232, R234: an incoming frame that would be relayed on port `out`: its link frame control, session, next hop's
session and relay queue. -/
def State.cutCandidate (s : State) (n out : Nat) (a : Acq) (h : PhyHeader) : Option (Lfc × Nat × Nat × Nat) :=
  let l := Lfc.ofBits h.macFc
  if !(s.flag MAC_RELAY_CT_EN && s.relays && h.cls == 0 && a.sweepK == 0 && l.ftype == 0 && l.dst == s.ownAddr
      && l.edst != s.ownAddr && l.hopleft != 0 && s.dirUsable l.src && s.dirUsable l.edst) then none
  else match s.sesFrom l.src with
    | some k =>
      let o := s.nextSes l.edst
      (match s.relayQueue o with
       | some q =>
         if s.sQuar k || s.sQuar o || replay (s.ses k) l.fcnt != .new || (l.sec && l.fcnt == 0)
             || sub (s.ses o) sPORT != out || sub (s.ses o) sGROUPED == 1 || sub (s.ses o) sVALID == 0
             || sub (s.ses o) sEXH == 1 || sub (s.ses o) sNABSENT == 1 || sub (s.ses o) sNSLEEPY == 1
             || !(s.framesOf q).isEmpty || n == out then none
         else some (l, k, o, q)
       | none => none)
    | none => none

/-- R234: the outgoing frame launches now: its counter is taken, its cells are in RX as in any reception, and it
stands RETAINED at the head of the relay queue. -/
def State.cutLaunch (s : State) (n out o q : Nat) (a : Acq) (f : TxFrame) (m : PhyMap) (dur : Nat) : State :=
  match s.takeCounter o with
  | (none, t) => t
  | (some c, t) =>
    let id := t.blv.nextId
    let r := t.rangeOf out false m
    let g : TxFrame := { f with
      id := id
      lfc := { f.lfc with fcnt := c, seq := c % 65536 }
      retained := true
      arriving := true
      awaiting := true
      relayOf := some a.id
      port := out
      retry := t.retryAt out f
      enq := t.tick
      lastTl := t.tick
      mode := m.mode
      ts := t.stampNow (t.get (PRT_TXCFG_LTB out)) 12 }
    let t1 := { (t.takeCells g.cells).setFrames q [g] with blv.nextId := id + 1 }
    let v := t1.queue q
    let t2 := (t1.setQueue q (withSub v qFRAMES (sub v qFRAMES + 1))).bump MAC_CTCNT_RELAYED
    let (aw, t3) := t2.windowOf out q g m
    let air : Air := { kind := .data q id, start := t.tick, stop := t.tick + dur, mode := m.mode, aw := aw,
                       lo := r.1, hi := r.2, full := t.tick + dur }
    let t4 := { t3 with mac.sentTo := put g.lfc.dst t.tick t3.mac.sentTo }
    (t4.setCsma out { t4.csmaOf out with grant := none }).airBegin out air (launchData g m false)
      |>.busyNow n

/-- R234: a cut-through relay of the frame in reception on port `n` starts on port `out`, where its conditions hold;
otherwise the frame is relayed store-and-forward. -/
def State.cutStart (s : State) (n out : Nat) (a : Acq) (h : PhyHeader) : State :=
  match s.cutCandidate n out a h with
  | none => s
  | some (l, k, o, q) =>
    let body := List.replicate (h.len - 4 - 16 * b2n l.sec) (0 : Byte)
    let inc : RxFrame := { id := a.id, port := n, tdet := a.tdet, endTick := 0, slot := a.slot, tmap := h.tmap,
                           mode := h.mode, sweep := false, phy := h.cls, len := h.len, lfc := l, payload := [],
                           snr := a.snr, psnr := 0, gain := a.gain, fofs := a.fofs, sofs := a.sofs, det := a.det }
    let f := s.relayFrame q o inc body
    let (m0, _, s1) := s.mapOf out q f false
    match s1.fitMap out false (s1.lenOn out f m0) m0 with
    | none => s
    | some m =>
      let dur := s1.durOf out false (s1.lenOn out f m) m
      let r := s1.rangeOf out false m
      let i := mapRate (s.openCarriers n false).length (s.inMap k a h n)
      let x := mapRate (s.openCarriers out false).length m
      let tin := s.predictEnd n a h
      let earliest := tin + s.get MAC_RELAY_CT_MARGIN * tUs + x.2 - dur
      let ready := m.swk == 0 && decide (i.1 * x.2 ≤ x.1 * i.2) && decide (earliest ≤ s.tick)
        && decide (s.tick < tin) && s.txMode && s.txFree out && s.placed out f.cls s.tick (s.tick + dur)
        && (s.dwellCheck out r.1 r.2 s.tick dur).1 == .pass && s.ldReady out
        && s.admitsCells l.tclass f.cells
      if ready then s1.cutLaunch n out o q a f m dur else s

/-- CUT_THROUGH_RELAY_START (R234): the header and the first payload block of the incoming frame are decoded; the
ports are distinct ports of one group that does not act jointly, both on BB. -/
def execCutThroughRelayStart (n out : Fin 16) (s : State) : Host.Outcome State Fault Refusal :=
  .next (
    let pair := n != out && decide (n.val / 4 = out.val / 4) && !s.joint n && s.profile n == pfBB
      && s.profile out == pfBB
    match (s.rxPort n).cur with
    | some a =>
      (match a.hdr with
       | some h => if pair && !a.parts.isEmpty then s.cutStart n out a h else s
       | none => s)
    | none => s)

end Sys2Proof.Machine
end

