-- ==== Sys2Proof/Machine/Ranging.lean ====
section
/-! DEFINITION. Chapters 06, 10 and 16: the meanings of sounding frames and the ranging exchange (R130, R364), and
of the frames of the G.9903 MAC (R240, R323). -/

namespace Sys2Proof.Machine

/-! ## Sounding frames (R130, Table 16-3) -/

/-- A sounding frame of a TYPE. -/
def isSounding (p : Nat → Bool) (f : RxFrame) : Bool := f.phy == 3 && p (leNat (f.payload.take 1))

/-- R130: DELAY of a sounding frame in whole ticks, rounded: the TB1 time from its launch to its detection, less
T_pre; none while TB1 is not valid here or was not at its sender. -/
def State.soundDelay (s : State) (n : Nat) (f : RxFrame) : Option Nat :=
  let launch := stampVal (leNat ((f.payload.drop 4).take 16))
  if f.det.tb1 == 0 || launch == 0 then none
  else
    let d : Int := (f.det.tb1 : Int) - ((launch : Int) - 12 * q48)
    let t := (2 * d + 8 * q48) / (16 * q48) - (tPre (s.profile n) : Nat)
    if t < 0 then none else some t.toNat

/-- R130: the DELAY measured of a link, to be returned in its next tone-map feedback. -/
def State.noteDelay (s : State) (n : Nat) (f : RxFrame) : State :=
  match s.sesFrom f.lfc.src, s.soundDelay n f with
  | some k, some d => { s with mac.pendingDelay := put k d s.mac.pendingDelay }
  | _, _ => s

/-- Table 13-9: IMPEDANCE of a BB port, from a sounding frame. Its values are free (log entry 1). -/
def State.impedance (s : State) (n : Nat) (f : RxFrame) : State :=
  if s.profile n = pfBB then
    let (v, s1) := s.takeFree (2 ^ (32 * 173))
    s1.telemetry 3 (n + 16 * f.slot + 128) n (chunk12 (leBytes 692 v) 58)
  else s

/-- R130: what every sounding frame addressed to this device does. -/
def State.sounded (s : State) (n : Nat) (f : RxFrame) : State := (s.noteDelay n f).impedance n f

/-- R262, R266: the source of a sounding frame is usable and the frame is for this device. -/
def State.soundIn (s : State) (n : Nat) (f : RxFrame) (act : State → State) : State :=
  if f.lfc.dst ≠ s.ownAddr ∧ f.lfc.dst ≠ addrAll then s
  else if !s.dirUsable f.lfc.src then s.dropSource f.lfc.src
  else act (s.sounded n f)

/-- SOUNDING_FRAME_RECEIVED (R130): a sounding frame that takes no part in ranging. -/
def execSoundingFrameReceived (n : Fin 16) (s : State) : Host.Outcome State Fault Refusal :=
  .next (s.takeRx n (isSounding (fun t => t != 1 && t != 2)) (fun f t => t.soundIn n f id))

/-! ## The ranging exchange (R364) -/

/-- R364: the instant in which a frame's reference sample reached the pins, in 2^-16 ns of TB2. -/
def State.arrival (s : State) (n : Nat) (f : RxFrame) : Nat :=
  8 * (f.tdet - lambdaTicks (s.profile n) f.swk) * 65536 + f.det.sub

/-- R364: a sounding frame of a TYPE to an address, on the internal control queue of port `n`. -/
def State.sendSounding (s : State) (n to_ type rseq turn : Nat) : State :=
  s.sendMac n 3 { src := s.ownAddr, dst := to_, esrc := s.ownAddr, edst := to_ }
    ([BitVec.ofNat 8 type, BitVec.ofNat 8 rseq, 0, 0] ++ List.replicate 16 0 ++ leBytes 8 turn)

/-- R364: an exchange is due: none was made since ADMIT, or RNG_INT beacon periods ago. -/
def State.rangeDue (s : State) : Bool :=
  let every := s.get TIM_TB1CFG_RNG_INT
  s.isChild && s.sfState == sfATTACHED && every != 0 &&
    (s.time.rangeAt == 0 || decide (s.time.rangeAt + every ≤ s.mac.period + 1))

/-- RANGING_DUE (R364). -/
def execRangingDue (s : State) : Host.Outcome State Fault Refusal :=
  .next (if s.rangeDue then
    let s1 := { s with
      time.rangeAt := s.mac.period + 1
      time.rseq := (s.time.rseq + 1) % 256 }
    s1.sendSounding (s.get MAC_SFSTAT_PPORT) s.parent 1 s1.time.rseq 0
  else s)

/-- RANGE_REQ_RECEIVED (R364): the answer leaves on the same port; until its launch TURN holds the arrival of the
request. -/
def execRangeReqReceived (n : Fin 16) (s : State) : Host.Outcome State Fault Refusal :=
  .next (s.takeRx n (isSounding (fun t => t == 1)) (fun f t => t.soundIn n f (fun u =>
    if f.lfc.dst = u.ownAddr then
      u.sendSounding n f.lfc.src 2 (leNat ((f.payload.drop 1).take 1)) (u.arrival n f)
    else u)))

/-- R364: one value d (2^-16 ns) enters the running mean. -/
def State.noteHop (s : State) (d : Nat) : State :=
  let l := (d :: s.time.hops).take (2 ^ s.get TIM_TB1CFG_RNG_AVG)
  ({ s with time.hops := l }.set TIM_HOP_HOPDLY (l.sum / l.length / 4096)).set TIM_HOP_VALID 1

/-- R364: the parent's answer to the exchange in progress. -/
def State.rangeAnswer (s : State) (n : Nat) (f : RxFrame) : State :=
  match s.time.rangeReq with
  | some (r, t1) =>
    if f.lfc.src = s.parent ∧ r = leNat ((f.payload.drop 1).take 1) then
      let turn := leNat ((f.payload.drop 20).take 8)
      let d : Int := ((s.arrival n f : Int) - t1 - turn) / 2
      let s1 := { s with time.rangeReq := none }
      if 0 ≤ d ∧ d ≤ 2000000 * 65536 then s1.noteHop d.toNat else s1
    else s
  | none => s

/-- RANGE_RSP_RECEIVED (R364). -/
def execRangeRspReceived (n : Fin 16) (s : State) : Host.Outcome State Fault Refusal :=
  .next (s.takeRx n (isSounding (fun t => t == 2)) (fun f t => t.soundIn n f (fun u => u.rangeAnswer n f)))

/-! ## The G.9903 MAC (R240, R323) -/

/-- R240: a frame is for this port: its PAN and its short or extended address, or broadcast. -/
def State.g3Mine (s : State) (n : Nat) (f : G3Frame) : Bool :=
  (f.pan == s.get (PRT_G3CFG_PANID n) || f.pan == 0xFFFF) &&
    (if f.dmode = 3 then f.dst == sub (s.dirEnt 0) dEUI
     else f.dst == s.get (PRT_G3CFG_SADDR n) || f.dst == 0xFFFF)

/-- R323: a key entry of port `n` serves: it is enabled and its slot holds a 128-bit LINK key. -/
def State.g3Key (s : State) (n i : Nat) : Bool :=
  let k := s.get (PRT_G3KEY_SLOT n i)
  decide (i ≤ 3) && s.flag (PRT_G3KEY_EN n i) && bitN (s.get (KEY_SLOT_USAGE k)) uLINK
    && sizeBits (s.get (KEY_SLOT_SIZE k)) == 128 && s.get (KEY_SLOT_STATE k) != kEMPTY

/-- A source address and port as a key. -/
def g3Src (n src : Nat) : Nat := src * 16 + n

/-- R240, R323: security of a frame: 0 accepted, 1 failed (AUTHFAIL), 2 replayed. -/
def State.g3Judge (s : State) (n : Nat) (f : G3Frame) : Nat :=
  if f.seclvl = 0 then 0
  else if !s.g3Key n f.keyidx || !f.mic then 1
  else if f.fcnt + 1 ≤ look 0 s.mac.g3fc (g3Src n f.src) then 2
  else 0

/-- R240, R226: an acknowledgement of the G.9903 MAC on port `n`, detected in tick `t`. -/
def State.g3Ack (s : State) (n t : Nat) (f : G3Frame) : State :=
  match (s.txPort n).win with
  | some w =>
    (match s.frameOf w.queue w.id with
     | some g =>
       if g.g3 && g.lfc.seq % 256 == f.seq && decide (w.opening ≤ t) && decide (t < w.closing) then
         s.completeTx w.queue g 0
       else s
     | none => s)
  | none => s

/-- R240, R323: an accepted data or command frame: the marks of its source are kept and the host receives it. -/
def State.g3Accept (s : State) (n : Nat) (f : G3Frame) (r : RxFrame) : State :=
  let k := g3Src n f.src
  let s1 := { s with mac.g3last := put k (f.seq, 1) s.mac.g3last }
  let s2 := if f.seclvl = 0 then s1 else { s1 with mac.g3fc := put k (f.fcnt + 1) s1.mac.g3fc }
  if f.kind = 3 then s2 else s2.tunnel r 0

/-- R240: a good frame of the G.9903 MAC: acknowledged where it asks for it, then judged. -/
def State.g3In (s : State) (n : Nat) (f : G3Frame) (r : RxFrame) : State :=
  if f.kind = 2 then s.g3Ack n r.tdet f
  else if !s.g3Mine n f then s
  else
    let l : Lfc := { ftype := 1, src := f.dst, dst := f.src, seq := f.seq, esrc := f.dst, edst := f.src }
    let s1 := if f.ackreq then s.setTxPort n { s.txPort n with ack := some ⟨l, r.endTick, 0, false⟩ } else s
    match s1.g3Judge n f with
    | 0 => if find s1.mac.g3last (g3Src n f.src) = some (f.seq, 1) then s1 else s1.g3Accept n f r
    | 1 => s1.bump CPH_CNT0_AUTHFAIL
    | _ => s1

/-- The received G9903 frame as the host sees it. -/
def g3Rx (n : Nat) (a : Acq) (er : Nat) (f : G3Frame) : RxFrame :=
  { id := a.id, port := n, tdet := a.tdet, endTick := er, slot := a.slot, tmap := 6, mode := 0, sweep := false,
    phy := 0, len := f.msdu.length, lfc := { src := f.src, dst := f.dst, seq := f.seq, esrc := f.src, edst := f.dst },
    payload := f.msdu, snr := a.snr, psnr := (match a.meas with
      | some m => m.psnr
      | none => 0), gain := a.gain, fofs := a.fofs, sofs := a.sofs, g3 := true, det := a.det }

/-- R141: the G9903 frame is good: its packet is committed, counted and read at once. -/
def State.g3Good (s : State) (n : Nat) (a : Acq) (f : G3Frame) : State :=
  let i := 2 * n
  let s1 := if s.arcIsOpen i then (s.setArc i { s.arcOf i with opened := none }).bump (ARC_CNT_COMMIT i)
    else s.arcPass i
  let s2 := ((s1.bump (PRT_RXGOOD_COUNT n)).fire (esPort n 1) (f.msdu.length + a.slot * 2 ^ 14 + 6 * 2 ^ 17)).dropAcq
    n a.id
  s2.rxOpenNext n

/-- G9903_FRAME_RECEIVED (R240): the frame is the last one whose samples have ended; older ones, of which no frame
came, have failed. -/
def execG9903FrameReceived (n : Fin 16) (f : G3Frame) (s : State) : Host.Outcome State Fault Refusal :=
  .next (
    let l := (s.rxPort n).tails.filter (fun a => a.g3)
    match l.getLast? with
    | some a =>
      let s1 := forEach l.dropLast (fun b t => t.rxFail n b fCHECK) s
      let er := a.ended.getD s.tick
      (s1.g3Good n a f).g3In n f (g3Rx n a er f)
    | none => s)

end Sys2Proof.Machine
end

