-- ==== Sys2Proof/Machine/Receiver.lean ====
section
/-! DEFINITION. Chapters 05 and 06: the meanings of the receiver's commands: gain control, detection and capture,
tracking, decoding, noise telemetry, and the retirement of receive records. -/

namespace Sys2Proof.Machine

/-- AGC_WINDOW (R127, R128): in SEARCH the noise floor is shown, and in AUTO the gain steps by a difference of
more than 3 dB. -/
def execAgcWindow (n : Fin 16) (level floor : BitVec 8) (s : State) : Host.Outcome State Fault Refusal :=
  .next (if s.rxOn n && s.rxState n == rSEARCH then
    let s1 := s.set (PRT_RXSTAT_NOISE n) floor.toNat
    let d : Int := 2 * (s.rxCfg n PRT_RXCFG_AGC_T : Int) - level.toNat
    if s.flag (PRT_AFE_GMODE n) && decide (6 < |d|) then s1.stepGain n (-d) else s1
  else s)

/-! ## Detection and capture (R130, R140, R142) -/

/-- R210: a detected preamble ends the contention opportunity. -/
def State.endOpportunity (s : State) (n : Nat) : State :=
  s.setCsma n { s.csmaOf n with
    prs := none
    grant := none }

/-- Table 06-8: DATA of a detection. -/
def detData (snr : BitVec 8) (sweepK : Nat) (capt : Bool) : Nat :=
  snr.toNat + 256 * (if sweepK = 0 then 0 else 1) + 512 * b2n capt

/-- R131, R359: the detection `at_` (2^-16 ns) after the start of the present tick: its timestamp in the base that TSB
selects, and TB1 at it and at the pin arrival. -/
def State.detect (s : State) (n sweepK at_ : Nat) : Detect :=
  let sel := s.rxCfg n PRT_RXCFG_TSB
  let frac := at_ * 2 ^ 32
  let back := lambdaTicks (s.profile n) sweepK
  let was : Int := ((s.tb 1).val : Int) - back * s.tbRate 1 - s.slewOf back (s.tb 1).pend
  { sub := at_
    ts := if s.baseOk sel then s.stamp sel (s.baseVal sel + frac) else 0
    tb1 := if s.tbValid 1 then (s.tb 1).val + frac else 0
    arrived := if s.tbValid 1 then was.toNat + frac else 0 }

/-- R130, R269: port `n` acquires a new frame: its event fires and its packet opens when the instance is free. -/
def State.acquire (s : State) (n : Nat) (snr : BitVec 8) (sweepK at_ : Nat) (capt : Bool) : State :=
  let a : Acq := { id := s.rx.nextId, tdet := s.tick, snr := snr, slot := (s.slotAt s.tick).1, sweepK := sweepK,
                   g3 := s.profile n == pfG3, gain := s.get (PRT_AFE_ACT_GAIN n), det := s.detect n sweepK at_ }
  let free := (s.rxPort n).frames.isEmpty
  let s1 := { s with rx.nextId := s.rx.nextId + 1 }.setRxPort n { s.rxPort n with cur := some a }
  let s2 := ((s1.setRxState n rCHEST).set (PRT_RXSTAT_SNR n) snr.toNat).bump (PRT_RXDET_COUNT n)
  let s3 := (s2.fire (esPort n 0) (detData snr sweepK capt)).endOpportunity n
  if free then s3.arcOpen (2 * n) else s3

/-- R140: the new preamble captures the receiver from the frame `a`. -/
def State.capture (s : State) (n : Nat) (a : Acq) (snr : BitVec 8) (sweepK at_ : Nat) : State :=
  let d : Int := snr.toInt - a.snr.toInt
  let s1 := s.rxEnd n a fCAPTURED
  let s2 := if s.flag (PRT_AFE_GMODE n) then s1.stepGain n (-d) else s1
  (s2.acquire n snr sweepK at_ true).fire (esPort n 3) (unsigned 8 d)

/-- The staged record of event `e` of the present tick with its DATA replaced (R62). -/
def State.restage (s : State) (e : Nat) (f : Nat → Nat) : State :=
  match find s.sq.staged e with
  | some r => { s with sq.staged := put e { r with data := f r.data } s.sq.staged }
  | none => s

/-- Table 06-6: of two preambles in one tick, the one with the higher SNR is acquired; where the first of them captured
the receiver, the capture is by the higher one. -/
def State.rival (s : State) (n : Nat) (a : Acq) (snr : BitVec 8) (sweepK at_ : Nat) : State :=
  if a.snr.toInt < snr.toInt then
    let d : Int := snr.toInt - a.snr.toInt
    let capt := match find s.sq.staged (esPort n 0) with
      | some r => bitN r.data 9
      | none => false
    let s1 := (s.setAcq n { a with
      snr := snr
      sweepK := sweepK
      det := s.detect n sweepK at_ }).set (PRT_RXSTAT_SNR n) snr.toNat
    let s2 := s1.restage (esPort n 0) (fun _ => detData snr sweepK capt)
    if capt then
      (if s.flag (PRT_AFE_GMODE n) then s2.stepGain n (-d) else s2).restage (esPort n 3)
        (fun x => unsigned 8 (x + d))
    else s2
  else s

/-- R128: the kinds of preamble that port `n` searches for: OFDM, and SWk from SWMIN to SWMAX; a G9903 port its own. -/
def State.searches (s : State) (n sweepK : Nat) : Bool :=
  sweepK == 0 || (s.profile n != pfG3 && decide (s.rxCfg n PRT_RXCFG_SWMIN + 5 ≤ sweepK)
    && decide (sweepK ≤ s.rxCfg n PRT_RXCFG_SWMAX + 5))

/-- A preamble is detected on the port that reports it. -/
def State.preamble (s : State) (n : Nat) (snr : BitVec 8) (sweepK at_ : Nat) : State :=
  match (s.rxPort n).cur with
  | none => if s.rxState n = rSEARCH then s.acquire n snr sweepK at_ false else s
  | some a =>
    let margin := s.rxCfg n PRT_RXCFG_CAPT
    if a.tdet = s.tick then s.rival n a snr sweepK at_
    else if margin ≠ 63 ∧ a.snr.toInt + margin ≤ snr.toInt then s.capture n a snr sweepK at_
    else s.bump (PRT_RXIGN_COUNT n)

/-- PREAMBLE_DETECTED (R130, R135, R140): t_det lies `at_` (2^-16 ns) after the start of the tick; in a joint group, on
port 4g alone. -/
def execPreambleDetected (n : Fin 16) (snr : BitVec 8) (sweepK : Nat) (at_ : BitVec 19) (s : State) :
    Host.Outcome State Fault Refusal :=
  .next (if s.rxOn n && s.rxHome n == n.val && s.searches n sweepK then s.preamble n snr sweepK at_.toNat else s)

/-! ## Tracking and the end of samples (R133, R134) -/

/-- R133: the tracking loops at a symbol boundary; the third large phase error in a row fails the frame. -/
def State.track (s : State) (n : Nat) (a : Acq) (large : Bool) (phase slope : BitVec 32) : State :=
  let k := if large then a.large + 1 else 0
  let s1 := if s.rxState n = rCHEST then s.setRxState n rHEADER else s
  if 3 ≤ k then s1.rxFail n { a with large := k } fSYNC
  else s1.setAcq n { a with
    large := k
    fofs := a.fofs + BitVec.ofInt 32 (phase.toInt / 16)
    sofs := a.sofs + BitVec.ofInt 32 (slope.toInt / 64) }

/-- SYMBOL_TRACKING_UPDATE (R133). -/
def execSymbolTrackingUpdate (n : Fin 16) (large : Bool) (phase slope : BitVec 32) (s : State) :
    Host.Outcome State Fault Refusal :=
  .next (match (s.rxPort n).cur with
  | some a => s.track n a large phase slope
  | none => s)

/-- R210: after a frame that asks for an ACK the medium stays busy for it. -/
def State.busyAfter (s : State) (n : Nat) (h : PhyHeader) (sweepK : Nat) : State :=
  let ackreq := sweepK = 0 ∧ bitN h.macFc 3
  if ackreq then
    let stop := s.tick + ackDl (s.profile n) + s.ackDur n sweepK + s.get MAC_ACKCFG_ACK_SLACK * tUs
    s.setCsma n { s.csmaOf n with busyUntil := stop }
  else s.busyNow n

/-- R126, R134: the last sample of frame `a` is taken: the receiver returns to SEARCH and decoding goes on. -/
def State.samplesEnd (s : State) (n : Nat) (a : Acq) (m : RxMeas) : State :=
  let b := { a with
    ended := some s.tick
    meas := some m }
  let p := s.rxPort n
  let s1 := ((s.latchOffsets n b).setRxPort n { p with
    cur := none
    tails := p.tails ++ [b] }).setRxState n rSEARCH
  let s2 := match b.hdr with
    | some h => s1.busyAfter n h b.sweepK
    | none => s1
  s2.rxProgress n 64

/-- RECEIVE_SAMPLES_END (R126). A G9903 frame is judged as a whole by its own command. -/
def execReceiveSamplesEnd (n : Fin 16) (m : RxMeas) (s : State) : Host.Outcome State Fault Refusal :=
  .next (match (s.rxPort n).cur with
  | some a => s.samplesEnd n a m
  | none => s)

/-! ## Decoding (R120, R137 to R139) -/

/-- R120: the receiver has the map that a header names: the default map, or the receive record of the
detection slot with its generation. -/
def State.mapKnown (s : State) (a : Acq) (h : PhyHeader) : Bool × State :=
  if a.sweepK ≠ 0 ∨ h.tmap = 6 then (true, s)
  else if h.tmap ≠ a.slot then (false, s)
  else match s.sesFrom (h.macFc / 2 ^ 11 % 2 ^ 25) with
    | some k =>
      let (r, s1) := s.readRec k (6 + 2 * a.slot + h.gen % 2)
      (!r.isEmpty && recValid r && recGen r == h.gen, s1)
    | none => (false, s)

/-- R108, R113, R115: the code blocks of a payload. -/
def payloadBlocks (prof : Nat) (h : PhyHeader) (sweep : Bool) : Nat :=
  let b := 8 * h.len
  let rate := if sweep ∨ h.mode ≠ 0 then 0 else h.rate
  blockCount (!sweep && h.mode == 0 && longCode prof h.blk rate b) rate b

/-- R210: after a failed header the medium is busy for one backoff slot at least. -/
def State.busyHeader (s : State) (n : Nat) : State :=
  s.setCsma n { s.csmaOf n with busyUntil := s.tick + (if s.profile n = pfBB then 1280 else 20480) }

/-- R137: a header that checks: the frame fails with OVERSIZE or TMAP_MISMATCH, or its payload is decoded. -/
def State.headerGood (s : State) (n : Nat) (a : Acq) (h : PhyHeader) : State :=
  let (known, s1) := s.mapKnown a h
  if s.get (ARC_CFG_MAXPKT (2 * n)) < packetWords h.len then s.rxFail n a fOVERSIZE
  else if !known then s1.rxFail n a fTMAP
  else
    let s2 := s1.setAcq n { a with
      hdr := some h
      blocks := payloadBlocks (s.profile n) h (a.sweepK != 0) }
    let current := (match (s2.rxPort n).cur with
      | some c => c.id == a.id
      | none => false)
    (if current then s2.setRxState n rPAYLOAD else s2).rxProgress n 64

/-- A decoder is free again. -/
def State.freeDecoder (s : State) (d : Nat) : State := { s with rx.decoders := del d s.rx.decoders }

/-- HEADER_DECODE_COMPLETE (R112, R137). -/
def execHeaderDecodeComplete (d : Fin 8) (bits : BitVec 256) (s : State) : Host.Outcome State Fault Refusal :=
  .next (match find s.rx.decoders d with
  | some b =>
    if b.header then
      let s1 := s.freeDecoder d
      match s1.acqOf b.port b.frame with
      | some a =>
        let h := if a.sweepK ≠ 0 then parseSweepHeader (bits.toNat % 2 ^ 64)
          else parseHeader (s.profile b.port) bits.toNat
        match h with
        | some x => s1.headerGood b.port a x
        | none => (s1.rxFail b.port a fHEADER).busyHeader b.port
      | none => s1
    else s
  | none => s)

/-- R137: the frame of a port whose next block is complete, oldest first: its header block until the header is
decoded, then its payload blocks in order. -/
def Acq.due (a : Acq) : Bool :=
  !a.g3 && (match a.hdr with
    | none => a.sent == 0
    | some _ => decide (a.sent ≤ a.blocks))

/-- BLOCK_ENQUEUE (R138). -/
def execBlockEnqueue (n : Fin 16) (s : State) : Host.Outcome State Fault Refusal :=
  .next (match (s.rxPort n).frames.find? Acq.due with
  | some a =>
    if 64 ≤ s.rx.waiting.length then (s.bump GRP_DECSTAT_OVERRUN).rxFail n a fOVERRUN
    else
      let blk : CodeBlock := { port := n, frame := a.id, idx := a.sent - 1, header := a.hdr.isNone,
                               arrival := s.tick }
      let s1 := s.setAcq n { a with sent := a.sent + 1 }
      let s2 := { s1 with rx.waiting := s1.rx.waiting ++ [blk] }.showPool
      if a.hdr.isNone && s.rxState n == rCHEST then s2.setRxState n rHEADER else s2
  | none => s)

/-- R139: the block a free decoder takes: header blocks first, then the smallest arrival tick, then the lowest
port. -/
def pickBlock (l : List CodeBlock) : Option CodeBlock :=
  let h := l.filter (fun b => b.header)
  leastBy (fun b => b.arrival * 16 + b.port) (if h.isEmpty then l else h)

/-- DECODER_TAKE_BLOCK (R139). -/
def execDecoderTakeBlock (d : Fin 8) (s : State) : Host.Outcome State Fault Refusal :=
  .next (if s.domOn dDec && (find s.rx.decoders d).isNone then
    match pickBlock s.rx.waiting with
    | some b =>
      let cap := if s.rx.waiting.length < s.get GRP_DECCFG_CAPQ then s.get GRP_DECCFG_MAXIT
        else s.get GRP_DECCFG_CAPIT
      { s with
        rx.waiting := dropFirst (fun x => x == b) s.rx.waiting
        rx.decoders := put d { b with cap := cap } s.rx.decoders }.showPool
    | none => s
  else s)

/-- BLOCK_DECODE_COMPLETE (R137, R138): `data` are the payload bytes whose first bit lies in the block. -/
def execBlockDecodeComplete (d : Fin 8) (ok : Bool) (data : List Byte) (s : State) :
    Host.Outcome State Fault Refusal :=
  .next (match find s.rx.decoders d with
  | some b =>
    if b.header then s
    else
      let s1 := s.freeDecoder d
      match s1.acqOf b.port b.frame with
      | some a =>
        if ok then (s1.setAcq b.port { a with parts := put b.idx data a.parts }).rxProgress b.port 64
        else s1.rxFail b.port a fDECODE
      | none => s1
  | none => s)

/-- BLANK_END (R136): BLANK after the last transmission or burst, the receiver leaves BLANKED. -/
def execBlankEnd (n : Fin 16) (s : State) : Host.Outcome State Fault Refusal :=
  .next (if s.rxState n == rBLANKED && (s.airOf n).isNone && !s.bursting n
      && decide ((s.rxPort n).blank ≤ s.tick) then
    s.setRxState n (if s.rxOn n then rSEARCH else rIDLE)
  else s)

/-! ## Noise telemetry (R143, R300) -/

/-- R143: the record of slot `k`: its bytes, or zeros with the valid bit clear. -/
def State.noiseSlot (s : State) (n k : Nat) (b : List Byte) : State :=
  let len := if s.profile n = pfBB then 173 else carrierCount (s.profile n)
  let valid := !b.isEmpty
  let bytes := (b ++ List.replicate len 0).take len
  s.telemetry 1 (n + 16 * k + 128 * b2n valid) n (chunk12 bytes (ceilDiv len 12))

/-- NOISE_TELEMETRY (R143). -/
def execNoiseTelemetry (n : Fin 16) (spectra : List (List Byte)) (s : State) :
    Host.Outcome State Fault Refusal :=
  .next (
    let every := s.get (PRT_NOISECFG_NOISE_AVG n)
    let sfn := s.get MAC_SFN_SFN
    if s.rxOn n && every != 0 && decide (every ≤ (sfn + 2 ^ 32 - look 0 s.rx.lastNoise n) % 2 ^ 32) then
      let s1 := { s with rx.lastNoise := put n sfn s.rx.lastNoise }
      forEach [0, 1, 2, 3, 4, 5] (fun k t => t.noiseSlot n k (spectra.getD k [])) s1
    else s)

/-! ## Receive records (R121) -/

/-- RECEIVE_RECORD_RETIRE (R121): 16 superframes after the new record was written, the former one stops being
valid. -/
def execReceiveRecordRetire (grouped : Bool) (link : Nat) (slot : Fin 6) (s : State) :
    Host.Outcome State Fault Refusal :=
  .next (match s.findSes (fun v => sub v sGROUPED == b2n grouped && sub v sLINK == link) with
  | some k =>
    if s.hasArea k then
      let (b, s1) := s.readSnr k slot 0
      let age := (s.get MAC_SFN_SFN + 2 ^ 32 - snrLast b) % 2 ^ 32
      let (ra, s2) := s1.readRec k (6 + 2 * slot)
      let (rb, s3) := s2.readRec k (7 + 2 * slot)
      let r := newerRec ra rb
      if r.isEmpty || decide (age < 16) then s3 else s3.retireRec k slot (recGen r)
    else s
  | none => s)

end Sys2Proof.Machine
end

