-- ==== Sys2Proof/Machine/Dispatch.lean ====
section
/-! DEFINITION. The effect of a command: one arm per command, each a call of its meaning. -/

namespace Sys2Proof.Machine

/-- The effect of a command on everything but the queue. -/
def exec (i : Instr) (s : State) : Host.Outcome State Fault Refusal :=
  match i with
  | .registerWrite func offset data => Sys2Proof.Machine.execRegisterWrite func offset data s
  | .counterClearWrite func offset data => Sys2Proof.Machine.execCounterClearWrite func offset data s
  | .silentViolation a => Sys2Proof.Machine.execSilentViolation a s
  | .violationClear => Sys2Proof.Machine.execViolationClear s
  | .unsupportedRequest r => Sys2Proof.Machine.execUnsupportedRequest r s
  | .poisonedTlp func bar offset => Sys2Proof.Machine.execPoisonedTlp func bar offset s
  | .sysLockWrite => Sys2Proof.Machine.execSysLockWrite s
  | .modeRequest code => Sys2Proof.Machine.execModeRequest code s
  | .modeEntryComplete => Sys2Proof.Machine.execModeEntryComplete s
  | .standbyTransitionComplete => Sys2Proof.Machine.execStandbyTransitionComplete s
  | .profileWrite n data => Sys2Proof.Machine.execProfileWrite n data s
  | .profileChangeApply n => Sys2Proof.Machine.execProfileChangeApply n s
  | .coldBoot f => Sys2Proof.Machine.execColdBoot f s
  | .warmNAssert => Sys2Proof.Machine.execWarmNAssert s
  | .warmBoot f => Sys2Proof.Machine.execWarmBoot f s
  | .flrFunction0 => Sys2Proof.Machine.execFlrFunction0 s
  | .flrFunction1 => Sys2Proof.Machine.execFlrFunction1 s
  | .watchdogExpiry core f => Sys2Proof.Machine.execWatchdogExpiry core f s
  | .recordDrain => Sys2Proof.Machine.execRecordDrain s
  | .tickReadLatch => Sys2Proof.Machine.execTickReadLatch s
  | .softwareEvent num data => Sys2Proof.Machine.execSoftwareEvent num data s
  | .calibrationPassStart n => Sys2Proof.Machine.execCalibrationPassStart n s
  | .calibrationPassEnd n limit => Sys2Proof.Machine.execCalibrationPassEnd n limit s
  | .syncInEdge e => Sys2Proof.Machine.execSyncInEdge e s
  | .decsyncCmd => Sys2Proof.Machine.execDecsyncCmd s
  | .decimatorReset => Sys2Proof.Machine.execDecimatorReset s
  | .detectorWindowEnd n mags => Sys2Proof.Machine.execDetectorWindowEnd n mags s
  | .zeroCrossing k positive t frac rms peak env => Sys2Proof.Machine.execZeroCrossing k positive t frac rms peak env s
  | .mainsCrossingTimeout k => Sys2Proof.Machine.execMainsCrossingTimeout k s
  | .modulatorOverload k => Sys2Proof.Machine.execModulatorOverload k s
  | .harmonicAverageEnd k h => Sys2Proof.Machine.execHarmonicAverageEnd k h s
  | .groupCfgWrite g data => Sys2Proof.Machine.execGroupCfgWrite g data s
  | .toneMapStoreCfgWrite cfg data => Sys2Proof.Machine.execToneMapStoreCfgWrite cfg data s
  | .snrStoreBaseWrite data => Sys2Proof.Machine.execSnrStoreBaseWrite data s
  | .receiveRecordRetire grouped link slot => Sys2Proof.Machine.execReceiveRecordRetire grouped link slot s
  | .agcWindow n level floor => Sys2Proof.Machine.execAgcWindow n level floor s
  | .preambleDetected n snr sweepK at_ => Sys2Proof.Machine.execPreambleDetected n snr sweepK at_ s
  | .symbolTrackingUpdate n large phase slope => Sys2Proof.Machine.execSymbolTrackingUpdate n large phase slope s
  | .receiveSamplesEnd n m => Sys2Proof.Machine.execReceiveSamplesEnd n m s
  | .headerDecodeComplete d bits => Sys2Proof.Machine.execHeaderDecodeComplete d bits s
  | .blockEnqueue n => Sys2Proof.Machine.execBlockEnqueue n s
  | .decoderTakeBlock d => Sys2Proof.Machine.execDecoderTakeBlock d s
  | .blockDecodeComplete d ok data => Sys2Proof.Machine.execBlockDecodeComplete d ok data s
  | .blankEnd n => Sys2Proof.Machine.execBlankEnd n s
  | .noiseTelemetry n spectra => Sys2Proof.Machine.execNoiseTelemetry n spectra s
  | .frameLaunch n => Sys2Proof.Machine.execFrameLaunch n s
  | .dwellDeferralExpiry n => Sys2Proof.Machine.execDwellDeferralExpiry n s
  | .transmitEnd n => Sys2Proof.Machine.execTransmitEnd n s
  | .dwellWrite b k data => Sys2Proof.Machine.execDwellWrite b k data s
  | .maskWrite n k data => Sys2Proof.Machine.execMaskWrite n k data s
  | .lineDriverFault n => Sys2Proof.Machine.execLineDriverFault n s
  | .lineDriverFaultRelease n => Sys2Proof.Machine.execLineDriverFaultRelease n s
  | .faultHoldEnd n => Sys2Proof.Machine.execFaultHoldEnd n s
  | .ldenTailExpiry n => Sys2Proof.Machine.execLdenTailExpiry n s
  | .tripInputEdge k high => Sys2Proof.Machine.execTripInputEdge k high s
  | .burinBurstStart n => Sys2Proof.Machine.execBurinBurstStart n s
  | .burinBurstEnd n => Sys2Proof.Machine.execBurinBurstEnd n s
  | .tripStuck k => Sys2Proof.Machine.execTripStuck k s
  | .tripRearm k => Sys2Proof.Machine.execTripRearm k s
  | .detectorHop n up down => Sys2Proof.Machine.execDetectorHop n up down s
  | .burinDecision n => Sys2Proof.Machine.execBurinDecision n s
  | .tripOutHoldExpiry j => Sys2Proof.Machine.execTripOutHoldExpiry j s
  | .burinConfigWrite r data => Sys2Proof.Machine.execBurinConfigWrite r data s
  | .burinEnWrite en => Sys2Proof.Machine.execBurinEnWrite en s
  | .burinLock en => Sys2Proof.Machine.execBurinLock en s
  | .safeProfileSuccessorLoad => Sys2Proof.Machine.execSafeProfileSuccessorLoad s
  | .superframeStart => Sys2Proof.Machine.execSuperframeStart s
  | .slotBoundary => Sys2Proof.Machine.execSlotBoundary s
  | .beaconLaunch n => Sys2Proof.Machine.execBeaconLaunch n s
  | .beaconWindowOpen => Sys2Proof.Machine.execBeaconWindowOpen s
  | .beaconWindowClose => Sys2Proof.Machine.execBeaconWindowClose s
  | .beaconReceived n => Sys2Proof.Machine.execBeaconReceived n s
  | .allocCommit => Sys2Proof.Machine.execAllocCommit s
  | .macConfigWrite r data => Sys2Proof.Machine.execMacConfigWrite r data s
  | .prioritySlot n heard => Sys2Proof.Machine.execPrioritySlot n heard s
  | .backoffSlot n idle => Sys2Proof.Machine.execBackoffSlot n idle s
  | .knockTimeout => Sys2Proof.Machine.execKnockTimeout s
  | .knockReceived n => Sys2Proof.Machine.execKnockReceived n s
  | .knockfwdReceived n => Sys2Proof.Machine.execKnockfwdReceived n s
  | .admitReceived n => Sys2Proof.Machine.execAdmitReceived n s
  | .pendingReceived n => Sys2Proof.Machine.execPendingReceived n s
  | .rejectReceived n => Sys2Proof.Machine.execRejectReceived n s
  | .authFrameReceived n => Sys2Proof.Machine.execAuthFrameReceived n s
  | .keepaliveDue => Sys2Proof.Machine.execKeepaliveDue s
  | .partnerAbsent addr => Sys2Proof.Machine.execPartnerAbsent addr s
  | .dataFrameReceived n => Sys2Proof.Machine.execDataFrameReceived n s
  | .ackLaunch n => Sys2Proof.Machine.execAckLaunch n s
  | .ackReceived n => Sys2Proof.Machine.execAckReceived n s
  | .ackWindowClose n => Sys2Proof.Machine.execAckWindowClose n s
  | .tagVerified e => Sys2Proof.Machine.execTagVerified e s
  | .authFail e => Sys2Proof.Machine.execAuthFail e s
  | .ctrlFrameReceived n => Sys2Proof.Machine.execCtrlFrameReceived n s
  | .tmfbReceived n => Sys2Proof.Machine.execTmfbReceived n s
  | .pollReceived n => Sys2Proof.Machine.execPollReceived n s
  | .servicePeriodEnd addr => Sys2Proof.Machine.execServicePeriodEnd addr s
  | .holdExpiry q => Sys2Proof.Machine.execHoldExpiry q s
  | .cutThroughRelayStart n out => Sys2Proof.Machine.execCutThroughRelayStart n out s
  | .soundingFrameReceived n => Sys2Proof.Machine.execSoundingFrameReceived n s
  | .rangingDue => Sys2Proof.Machine.execRangingDue s
  | .rangeReqReceived n => Sys2Proof.Machine.execRangeReqReceived n s
  | .rangeRspReceived n => Sys2Proof.Machine.execRangeRspReceived n s
  | .g9903FrameReceived n f => Sys2Proof.Machine.execG9903FrameReceived n f s
  | .schedulerDecision n => Sys2Proof.Machine.execSchedulerDecision n s
  | .candidateFetch n => Sys2Proof.Machine.execCandidateFetch n s
  | .exhTimeout session => Sys2Proof.Machine.execExhTimeout session s
  | .shaperRefillVisit session index => Sys2Proof.Machine.execShaperRefillVisit session index s
  | .cellReturnComplete => Sys2Proof.Machine.execCellReturnComplete s
  | .queueRead index => Sys2Proof.Machine.execQueueRead index s
  | .queueWrite index => Sys2Proof.Machine.execQueueWrite index s
  | .queueFlush index => Sys2Proof.Machine.execQueueFlush index s
  | .flushComplete => Sys2Proof.Machine.execFlushComplete s
  | .queueRelease index => Sys2Proof.Machine.execQueueRelease index s
  | .sessionRead index => Sys2Proof.Machine.execSessionRead index s
  | .sessionWrite index => Sys2Proof.Machine.execSessionWrite index s
  | .sessionRelease index => Sys2Proof.Machine.execSessionRelease index s
  | .directoryEntryRead index => Sys2Proof.Machine.execDirectoryEntryRead index s
  | .directoryEntryWrite index => Sys2Proof.Machine.execDirectoryEntryWrite index s
  | .directoryPageRelease index => Sys2Proof.Machine.execDirectoryPageRelease index s
  | .objectCommandBadOp cmd => Sys2Proof.Machine.execObjectCommandBadOp cmd s
  | .poisonedCompletion p => Sys2Proof.Machine.execPoisonedCompletion p s
  | .quarantineSweepComplete q => Sys2Proof.Machine.execQuarantineSweepComplete q s
  | .poolConfigWrite k data => Sys2Proof.Machine.execPoolConfigWrite k data s
  | .rebuild => Sys2Proof.Machine.execRebuild s
  | .rebuildComplete => Sys2Proof.Machine.execRebuildComplete s
  | .ledgerReadLatch => Sys2Proof.Machine.execLedgerReadLatch s
  | .arcadeHandover k => Sys2Proof.Machine.execArcadeHandover k s
  | .arcadeRelease k => Sys2Proof.Machine.execArcadeRelease k s
  | .arcadeFlush k data => Sys2Proof.Machine.execArcadeFlush k data s
  | .arcadeFlushComplete k => Sys2Proof.Machine.execArcadeFlushComplete k s
  | .arcadePointerMismatch k => Sys2Proof.Machine.execArcadePointerMismatch k s
  | .linkTrained rate x8 => Sys2Proof.Machine.execLinkTrained rate x8 s
  | .linkDown => Sys2Proof.Machine.execLinkDown s
  | .ringConfigWrite func r k data => Sys2Proof.Machine.execRingConfigWrite func r k data s
  | .ringEnable func r data => Sys2Proof.Machine.execRingEnable func r data s
  | .ringDisable func r data => Sys2Proof.Machine.execRingDisable func r data s
  | .doorbellWrite func r v => Sys2Proof.Machine.execDoorbellWrite func r v s
  | .txSubmitDescriptor r d body => Sys2Proof.Machine.execTxSubmitDescriptor r d body s
  | .rxPostDescriptor r d => Sys2Proof.Machine.execRxPostDescriptor r d s
  | .descriptorReadError r => Sys2Proof.Machine.execDescriptorReadError r s
  | .hostBodyReadError e => Sys2Proof.Machine.execHostBodyReadError e s
  | .rxDelivery c => Sys2Proof.Machine.execRxDelivery c s
  | .rxBufferWaitExpiry c => Sys2Proof.Machine.execRxBufferWaitExpiry c s
  | .vectorHoldoffExpiry func v => Sys2Proof.Machine.execVectorHoldoffExpiry func v s
  | .vectorUnmask func v => Sys2Proof.Machine.execVectorUnmask func v s
  | .admitCommand => Sys2Proof.Machine.execAdmitCommand s
  | .rejectCommand => Sys2Proof.Machine.execRejectCommand s
  | .status seq => Sys2Proof.Machine.execStatus seq s
  | .confirm seq => Sys2Proof.Machine.execConfirm seq s
  | .commit seq => Sys2Proof.Machine.execCommit seq s
  | .restart seq => Sys2Proof.Machine.execRestart seq s
  | .flashWrite seq => Sys2Proof.Machine.execFlashWrite seq s
  | .flashRead seq => Sys2Proof.Machine.execFlashRead seq s
  | .setBoot seq => Sys2Proof.Machine.execSetBoot seq s
  | .safeprof seq => Sys2Proof.Machine.execSafeprof seq s
  | .history seq => Sys2Proof.Machine.execHistory seq s
  | .lifecycle seq => Sys2Proof.Machine.execLifecycle seq s
  | .mailboxBadOp op seq => Sys2Proof.Machine.execMailboxBadOp op seq s
  | .mailboxCommandEnd => Sys2Proof.Machine.execMailboxCommandEnd s
  | .load cmd => Sys2Proof.Machine.execLoad cmd s
  | .erase cmd => Sys2Proof.Machine.execErase cmd s
  | .eraseComplete => Sys2Proof.Machine.execEraseComplete s
  | .wrap cmd => Sys2Proof.Machine.execWrap cmd s
  | .otpProg cmd => Sys2Proof.Machine.execOtpProg cmd s
  | .engineTakeRequest e unwraps => Sys2Proof.Machine.execEngineTakeRequest e unwraps s
  | .preemption e unwraps => Sys2Proof.Machine.execPreemption e unwraps s
  | .rngReseed => Sys2Proof.Machine.execRngReseed s
  | .rngHealthFail => Sys2Proof.Machine.execRngHealthFail s
  | .jtagDebugAccess addr write => Sys2Proof.Machine.execJtagDebugAccess addr write s
  | .bucketLeak sram k => Sys2Proof.Machine.execBucketLeak sram k s
  | .sweeperLineRead => Sys2Proof.Machine.execSweeperLineRead s
  | .sramSweepWord => Sys2Proof.Machine.execSramSweepWord s
  | .sramUncorrectable g w h => Sys2Proof.Machine.execSramUncorrectable g w h s
  | .debugWindowRead offset wide => Sys2Proof.Machine.execDebugWindowRead offset wide s
  | .debugWindowWrite offset wide data => Sys2Proof.Machine.execDebugWindowWrite offset wide data s
  | .readRaw sram => Sys2Proof.Machine.execReadRaw sram s
  | .writeRaw sram => Sys2Proof.Machine.execWriteRaw sram s
  | .encode sram => Sys2Proof.Machine.execEncode sram s
  | .tb0Set => Sys2Proof.Machine.execTb0Set s
  | .tb0Adj ofs freq => Sys2Proof.Machine.execTb0Adj ofs freq s
  | .tb0HoldoverTimeout => Sys2Proof.Machine.execTb0HoldoverTimeout s
  | .rebase b => Sys2Proof.Machine.execRebase b s
  | .tb1Discipline => Sys2Proof.Machine.execTb1Discipline s
  | .tb3CycleBoundary => Sys2Proof.Machine.execTb3CycleBoundary s
  | .pllTrimStep => Sys2Proof.Machine.execPllTrimStep s
  | .ppsOutEdge => Sys2Proof.Machine.execPpsOutEdge s
  | .ppsOutFall => Sys2Proof.Machine.execPpsOutFall s
  | .ppsInEdge ns => Sys2Proof.Machine.execPpsInEdge ns s
  | .ppsInReadLatch => Sys2Proof.Machine.execPpsInReadLatch s
  | .uartCharacterReceived u c => Sys2Proof.Machine.execUartCharacterReceived u c s
  | .uartLineStuck u => Sys2Proof.Machine.execUartLineStuck u s
  | .uartLineClear u => Sys2Proof.Machine.execUartLineClear u s
  | .uartReceiveTimeout u => Sys2Proof.Machine.execUartReceiveTimeout u s
  | .uartDataRead u => Sys2Proof.Machine.execUartDataRead u s
  | .uartDataWrite u data => Sys2Proof.Machine.execUartDataWrite u data s
  | .uartCharacterSent u clash => Sys2Proof.Machine.execUartCharacterSent u clash s
  | .rxflush u data => Sys2Proof.Machine.execRxflush u data s
  | .txflush u data => Sys2Proof.Machine.execTxflush u data s
  | .uartCtsChange u high => Sys2Proof.Machine.execUartCtsChange u high s
  | .logRead unit => Sys2Proof.Machine.execLogRead unit s
  | .logUnitWrite => Sys2Proof.Machine.execLogUnitWrite s
  | .repairRecordCopy => Sys2Proof.Machine.execRepairRecordCopy s
  | .flashOperationComplete failed => Sys2Proof.Machine.execFlashOperationComplete failed s
  | .gpioEdge k high => Sys2Proof.Machine.execGpioEdge k high s
  | .domainPowerOff d => Sys2Proof.Machine.execDomainPowerOff d s
  | .domainPowerUp d => Sys2Proof.Machine.execDomainPowerUp d s
  | .domainPowerUpComplete d => Sys2Proof.Machine.execDomainPowerUpComplete d s
  | .domainReset d => Sys2Proof.Machine.execDomainReset d s
  | .domainResetComplete d => Sys2Proof.Machine.execDomainResetComplete d s
  | .supplyLow k => Sys2Proof.Machine.execSupplyLow k s
  | .supplyRestored k => Sys2Proof.Machine.execSupplyRestored k s
  | .referenceLoss => Sys2Proof.Machine.execReferenceLoss s
  | .pllLockLoss => Sys2Proof.Machine.execPllLockLoss s
  | .pllRelock => Sys2Proof.Machine.execPllRelock s
  | .temperatureSample sensor reading => Sys2Proof.Machine.execTemperatureSample sensor reading s
  | .thermalConfigWrite data => Sys2Proof.Machine.execThermalConfigWrite data s
  | .porstNAssert => Sys2Proof.Machine.execPorstNAssert s
  | .startUpComplete => Sys2Proof.Machine.execStartUpComplete s
  | .timeBaseAdvance n clips => Sys2Proof.Machine.execTimeBaseAdvance n clips s

end Sys2Proof.Machine
end

