-- ==== Sys2Proof/Safety.lean ====
section
/-! DEFINITION. The terms in which statements are made: canonical stores, what a command may change, events that
fire, and an access that reaches its register. -/

namespace Sys2Proof.Machine

/-! ## Canonical stores -/

/-- The memories are in canonical form: DRAM and SRAM, whose unlisted cells are zero, and the flash, whose unlisted bytes
are erased. -/
def Memory.wf (s : State) : Bool :=
  tabWf (fun _ => 0) s.mem.dram && tabWf (fun _ => 0) s.mem.sram && tabWf (fun _ => 0xFF) s.fsp.mem

/-- The registers are in canonical form. -/
def Registers.wf (s : State) : Bool := tabWf resetWord s.regs

/-! ## Frames -/

/-- Every register but those listed is unchanged. -/
def sameRegs (s t : State) (l : List Nat) : Prop := ∀ a, a ∉ l → t.reg a = s.reg a

/-- Nothing but registers is changed. -/
def onlyRegs (s t : State) : Prop := t = { s with regs := t.regs }

/-- Nothing but registers and the Square is changed. -/
def onlyRegsSq (s t : State) : Prop := t = { s with regs := t.regs, sq := t.sq }

/-! ## Events -/

/-- The pending register of a source. -/
def pendReg (src : Nat) : Nat := (pendField src).addr

/-- From `s` to `t` a source has fired, in the tick of `s`, with its data (R68, R69). -/
def fired (s t : State) (src data : Nat) : Prop :=
  t.flag (pendField src) = true ∧
    find t.sq.staged src = some (stageRec (find s.sq.staged src) src s.tick data)

/-- The sources listed have fired from `s` to `t`, each once, with their data, and no other has; nothing else of the
Square is changed. -/
def fires (s t : State) (l : List (Nat × Nat)) : Prop :=
  (∀ e ∈ l, fired s t e.1 e.2) ∧
    (∀ k, k ∉ l.map Prod.fst →
      find t.sq.staged k = find s.sq.staged k ∧ (k < 512 → t.flag (pendField k) = s.flag (pendField k))) ∧
    t.sq = { s.sq with staged := t.sq.staged, fresh := t.sq.fresh }

/-- The sources listed have fired, and beside their pending bits only the registers listed are changed. -/
def changes (s t : State) (l : List (Nat × Nat)) (regs : List Nat) : Prop :=
  fires s t l ∧ sameRegs s t (regs ++ l.map (fun e => pendReg e.1))

/-- `changes`, and nothing but registers and the Square is changed. -/
def changesOnly (s t : State) (l : List (Nat × Nat)) (regs : List Nat) : Prop :=
  changes s t l regs ∧ onlyRegsSq s t

/-! ## Frames in reception -/

/-- The frame `a` of port `n` has failed with a reason: it is counted, ES208 + 8n + 2 has fired, and the receiver no
longer holds it (R141). -/
def rxFailed (s t : State) (n : Nat) (a : Acq) (reason : Nat) : Prop :=
  t.get (PRT_RXFAIL_COUNT n reason) = satAdd 32 (s.get (PRT_RXFAIL_COUNT n reason)) 1 ∧
    fired s t (esPort n 2) reason ∧ ∀ x ∈ (t.rxPort n).frames, x.id ≠ a.id

/-! ## Object commands -/

/-- An object command has ended, with its RESULT and QUAR (Table 11-16). -/
def objEnded (t : State) (result : Nat) (quar : Bool) : Prop :=
  t.flag BLV_OBJSTAT_BUSY = false ∧ t.get BLV_OBJSTAT_RESULT = result ∧ t.flag BLV_OBJSTAT_QUAR = quar

/-- An object command has ended with nothing but BLV_OBJSTAT changed. -/
def objRefused (s t : State) (result : Nat) (quar : Bool) : Prop :=
  objEnded t result quar ∧ changesOnly s t [] [a_BLV_OBJSTAT]

/-! ## Completions -/

/-- A completion entry has been written at the producer index of its COMPL ring, which has advanced (R291, R298). -/
def completed (s t : State) (c : Compl) : Prop :=
  let i := s.get (HIF_RPROD_P c.ring)
  Output.hostWrite (s.rAddr 0 c.ring 32 i) (leBytes 32 (c.word (s.rPhase 0 c.ring i))) ∈ t.posted ∧
    t.get (HIF_RPROD_P c.ring) = (i + 1) % 2 ^ 32

/-! ## UARTs -/

/-- The status bits listed have been set in UAR[u]_ISR, and no other bit of it has changed; when enabled ones among
them were clear, ES464 + u has fired with those in DATA (R381). -/
def uartRaised (s t : State) (u : Nat) (l : List Nat) : Prop :=
  let isr := s.reg (a_UAR_ISR u)
  let new := l.filter (fun b => !isr.getLsbD b && (s.reg (a_UAR_IEN u)).getLsbD b)
  (∀ b, b < 32 → ((t.reg (a_UAR_ISR u)).getLsbD b = true ↔ b ∈ l ∨ isr.getLsbD b = true)) ∧
    (new = [] → find t.sq.staged (464 + u) = find s.sq.staged (464 + u) ∧
      t.flag (pendField (464 + u)) = s.flag (pendField (464 + u))) ∧
    (new ≠ [] → t.flag (pendField (464 + u)) = true ∧ (find s.sq.staged (464 + u) = none →
      find t.sq.staged (464 + u) = some (stageRec none (464 + u) s.tick (new.map (fun b => 2 ^ b)).sum)))

/-- Beside the registers listed, the status and the fills of UART `u`, and ES464 + u, only the typed state of UART `u`
is changed. -/
def uartOnly (s t : State) (u : Nat) (regs : List Nat) : Prop :=
  sameRegs s t (regs ++ [a_UAR_ISR u, a_UAR_STAT u, pendReg (464 + u)]) ∧
    t = { s with regs := t.regs, sq := t.sq, uart := t.uart } ∧
    (∀ k, k ≠ 464 + u → find t.sq.staged k = find s.sq.staged k) ∧ ∀ v, v ≠ u → t.uartOf v = s.uartOf v

/-- R378: the level of RTS_N that the fill asks for while RTSEN is 1. -/
def rtsFollows (t : State) (u : Nat) : Prop :=
  let n := (t.uartOf u).rxq.length
  t.flag (UAR_CFG_RTSEN u) = true →
    (t.get (UAR_QCFG_FLOW u) ≤ n → (t.uartOf u).rts = true) ∧
    (n + 8 < t.get (UAR_QCFG_FLOW u) → (t.uartOf u).rts = false)

/-! ## Accesses -/

/-- A 4 B host write of BAR0 is no silent violation: it reaches its register (R75). -/
abbrev State.reaches (s : State) (func off : Nat) : Prop := s.violationKind func 0 off true = none

/-- A 4 B host read of BAR0 reaches its register. -/
abbrev State.readable (s : State) (func off : Nat) : Prop := s.violationKind func 0 off false = none

end Sys2Proof.Machine
end

