-- ==== Sys2Proof/Certificates/Slice0/Obligations.lean ====
section
/-! DEFINITION. The statements for the provers, one definition each; the spec says why each should hold. -/

open Sys2Proof Sys2Proof.Machine

/-- For every command c and state s, a step of s with c put at the front of its queue is exec of c on s, and a step of a
state whose queue is c followed by rest is exec of c on that state with the queue rest; on an empty queue the block
idles (the model's choice, log entry 4). (95_what_each_step_holds.md, log entry 4) -/
def Obligations.StepTakesTheFrontCommand : Prop :=
  (∀ (c : Instr) (s : State), Machine.step (s.withCommand c) = Machine.exec c s) ∧
  (∀ (c : Instr) (rest : List Instr) (s : State), s.pending = c :: rest →
    Machine.step s = Machine.exec c { s with pending := rest }) ∧
  ∀ s : State, s.pending = [] → Machine.step s = .next s

/-- In every state, whatever command is at the front, a step that answers a next state leaves exactly the tail of the
queue: no command adds, drops or reorders a waiting command, resets among them (the queue is the model's own, log
entry 4). (95_what_each_step_holds.md, log entry 4) -/
def Obligations.QueueIsFirstInFirstOut : Prop :=
  ∀ s t : State, Machine.step s = .next t → t.pending = s.pending.tail

/-- Whatever command a step carries out, the variant, the stepping and the EUI stay, the lifecycle state does not return
from FIELD, and the anti-rollback counter does not decrease. (R47, R53, R38) -/
def Obligations.FusesAreNeverUndone : Prop :=
  ∀ s t : State, Machine.step s = .next t →
    t.otp.variant = s.otp.variant ∧ t.otp.stepping = s.otp.stepping ∧ t.otp.eui = s.otp.eui ∧
    (s.otp.field = true → t.otp.field = true) ∧ s.otp.counter ≤ t.otp.counter

/-- Every command but TIME_BASE_ADVANCE and those that are or act as PORST_N (PORST_N_ASSERT, COLD_BOOT, SUPPLY_LOW)
leaves the tick number as it is, and TIME_BASE_ADVANCE n adds n to it; TIME_BASE_ADVANCE always answers a next
state. (R57, R402, R398) -/
def Obligations.TickIsNeverStepped : Prop :=
  (∀ (c : Instr) (s t : State), (∀ f, c ≠ .coldBoot f) → (∀ i, c ≠ .supplyLow i) → c ≠ .porstNAssert →
    (∀ n l, c ≠ .timeBaseAdvance n l) → Machine.exec c s = .next t → t.tick = s.tick) ∧
  ∀ (n : Nat) (l : List Clip) (s : State), ∃ t : State, Machine.exec (.timeBaseAdvance n l) s = .next t ∧ t.tick = s.tick + n

/-- In every state whose DRAM, SRAM and flash are in canonical form (addresses strictly rising, no cell listed that
holds what an unlisted one reads as), a step that answers a next state answers one whose memories are in canonical
form. (R336, R343, R387) -/
def Obligations.MemoryStaysCanonical : Prop :=
  ∀ s t : State, Memory.wf s = true → Machine.step s = .next t → Memory.wf t = true

/-- In every state whose register store is in canonical form (keys strictly rising, no register listed that holds its
reset value), a step that answers a next state answers one whose register store is in canonical form, so that equal
register contents are equal data. (R11, R407) -/
def Obligations.RegistersStayCanonical : Prop :=
  ∀ s t : State, Registers.wf s = true → Machine.step s = .next t → Registers.wf t = true

/-- Right after reset the stores are canonical, the queue is empty, the tick number is 0, every register holds its reset
value; among them MODE and TARGET read PROOF, BUSY 1, READY 0, PAIR none, no domain request is off, no event is
pending and no violation is recorded. (02_modes_and_lifecycle.md, 03_square_and_events.md, 13_host_interface.md) -/
def Obligations.ResetIsTheStateOfTheSpec : Prop :=
  Memory.wf State.reset = true ∧ Registers.wf State.reset = true ∧ State.reset.pending = [] ∧ State.reset.tick = 0 ∧
  (∀ a, State.reset.reg a = resetWord a) ∧
  State.reset.mode = mProof ∧ State.reset.get SYS_MODESTAT_TARGET = mProof ∧ State.reset.busy = true ∧
  State.reset.flag SYS_MODESTAT_READY = false ∧ State.reset.get SYS_BOOTSTAT_PAIR = 3 ∧
  State.reset.reg a_PWR_REQ = 0xFFFFF ∧ (∀ k, k < 512 → State.reset.flag (pendField k) = false) ∧
  State.reset.get SYS_VIOLCNT_COUNT = 0 ∧ State.reset.get SYS_VIOLINFO_VALID = 0 ∧ State.reset.get BUR_CTL_ACT = 0

/-- For every request of a non-zero code that reaches SYS_MODE, MODE_REQUEST answers a next state in which ES456 has
fired. With r the first reason of R38 that applies (automatic entry into SAFE in this tick; BUSY or another
automatic transition in this tick; a mode the variant lacks; a transition that Table 02-6 does not list, the current
mode itself apart; FACTORY in FIELD; a profile that the mode does not allow), r not 0 sets REFUSED and REASON,
leaves MODE, TARGET and BUSY, and ES457 fires with the current mode and bit 4; a request of the current mode changes
nothing and fires ES457; any other accepted request sets TARGET and BUSY and leaves MODE. Only SYS_MODESTAT and
pending bits change. (R36, R37, R38, R425, R32) -/
def Obligations.ModeRequestIsJudged : Prop :=
  ∀ (s : State) (code : Fin 16), s.reaches 0 a_SYS_MODE → s.domOn dAon = true → code.val ≠ 0 →
    let c := code.val
    let auto := s.boot.autoTick == some s.tick
    let r :=
      if auto && s.boot.autoSafe then 6
      else if s.flag SYS_MODESTAT_BUSY || auto then 3
      else if decide (c ≤ 11) && !s.offersMode c then 1
      else if c = s.mode ∧ c ≠ mProof then 0
      else if ¬ ((s.mode = mStandby ∧ (c = 10 ∨ c = 11 ∨ c = 8 ∨ c = 9 ∨ (3 ≤ c ∧ c ≤ 6))) ∨
        ((3 ≤ s.mode ∧ s.mode ≤ 9 ∨ s.mode = 11) ∧ (c = 2 ∨ c = 10))) then 2
      else if c = mFactory ∧ s.otp.field = true then 5
      else if ∃ n, n < s.ports ∧ admits c (s.profile n) = false then 4
      else 0
    ∃ t : State, Machine.exec (.modeRequest code) s = .next t ∧
      (r ≠ 0 →
        changesOnly s t [(456, c), (457, s.mode + 16)] [a_SYS_MODESTAT] ∧ t.flag SYS_MODESTAT_REFUSED = true ∧
        t.get SYS_MODESTAT_REASON = r ∧ t.mode = s.mode ∧ t.get SYS_MODESTAT_TARGET = s.get SYS_MODESTAT_TARGET ∧
        t.busy = s.busy) ∧
      (r = 0 → s.mode = c → changesOnly s t [(456, c), (457, c)] []) ∧
      (r = 0 → s.mode ≠ c →
        changesOnly s t [(456, c)] [a_SYS_MODESTAT] ∧ t.mode = s.mode ∧ t.get SYS_MODESTAT_TARGET = c ∧ t.busy = true)

/-- While a transition is in progress to a mode other than STANDBY and SAFE, out of a mode other than PROOF,
MODE_ENTRY_COMPLETE makes MODE the target, clears BUSY and fires ES457 with the new mode. For SAFE it also writes
reason REQUEST, drops what waits for the host, and leaves on at most the domains that SAFE keeps. With STANDBY the
target and every port quiet, STANDBY_TRANSITION_COMPLETE makes MODE STANDBY, clears BUSY and fires ES457, and keeps
queues and directory. (R425, R39, R51, R50) -/
def Obligations.ModeTransitionsComplete : Prop :=
  (∀ s : State, s.busy = true → s.mode ≠ mProof → s.domOn dAon = true → s.get SYS_MODESTAT_TARGET ≠ mStandby →
    let m := s.get SYS_MODESTAT_TARGET
    ∃ t : State, Machine.exec .modeEntryComplete s = .next t ∧ t.mode = m ∧ t.get SYS_MODESTAT_TARGET = m ∧ t.busy = false ∧
      t.flag (pendField 457) = true ∧
      (m = mSafe → t.get SYS_BOOTSTAT_SAFE_REASON = sfREQUEST ∧ t.hif.deliveries = [] ∧ t.hif.bufs = [] ∧
        ∀ d, d < 20 → d ∉ [0, 1, 2, 9, 10] → t.domOn d = false)) ∧
  ∀ s : State, s.busy = true → s.get SYS_MODESTAT_TARGET = mStandby → s.domOn dAon = true →
    (∀ n, n < s.ports → (s.txPort n).air = none ∧ (s.txPort n).win = none ∧ (s.rxPort n).frames = []) →
    ∃ t : State, Machine.exec .standbyTransitionComplete s = .next t ∧ t.mode = mStandby ∧ t.busy = false ∧
      t.flag (pendField 457) = true ∧ t.blv = s.blv ∧ t.posted = s.posted

/-- For a write of PRT[n]_PROFILE that reaches the register, PROFILE_WRITE answers a next state. A profile the variant
lacks or a reserved code, one other than BB on a port of an active group, or one other than OFF and BURIN-ONLY
outside STANDBY or with the port's pair domain off, and every write in PROOF or SAFE, leaves ACT, sets REFUSED and
changes no other register. An admitted OFF or BURIN-ONLY on a port that sends or receives a frame leaves ACT and
sets PENDING; any other admitted write makes ACT the written profile and clears PENDING. PROFILE_CHANGE_APPLY on an
idle port with PENDING set makes ACT the profile that was waiting and clears PENDING. (R35, R393, R426, R4) -/
def Obligations.ProfileChanges : Prop :=
  (∀ (s : State) (n : Fin 16) (data : Word), s.reaches 0 (a_PRT_PROFILE n.val) →
    let p := bits data 0 3
    let ok : Prop := s.mode ≠ mProof ∧ s.mode ≠ mSafe ∧
      (if s.isT = true then p = pfOff ∨ p = pfHV ∨ p = pfBurin else p ≤ 5) ∧
      (p = pfBB ∨ s.flag (GRP_CFG_ACT (n.val / 4)) = false) ∧
      (p = pfOff ∨ p = pfBurin ∨ s.mode = mStandby ∧ s.busy = false ∧ s.domOn (dPair n.val) = true)
    ∃ t : State, Machine.exec (.profileWrite n data) s = .next t ∧
      (¬ ok → changesOnly s t [] [a_PRT_PROFILE n.val] ∧ t.flag (PRT_PROFILE_REFUSED n.val) = true ∧
        t.profile n.val = s.profile n.val) ∧
      (ok → (p = pfOff ∨ p = pfBurin) → s.portIdle n.val = false →
        sameRegs s t [a_PRT_PROFILE n.val] ∧ t.flag (PRT_PROFILE_PENDING n.val) = true ∧
        t.profile n.val = s.profile n.val ∧ t.sq = s.sq) ∧
      (ok → (p ≠ pfOff ∧ p ≠ pfBurin ∨ s.portIdle n.val = true) →
        t.profile n.val = p ∧ t.flag (PRT_PROFILE_PENDING n.val) = false ∧ t.mode = s.mode ∧ t.blv = s.blv)) ∧
  ∀ (s : State) (n : Fin 16), s.flag (PRT_PROFILE_PENDING n.val) = true → s.portIdle n.val = true →
    ∃ t : State, Machine.exec (.profileChangeApply n) s = .next t ∧ t.profile n.val = (s.fePort n.val).wish % 8 ∧
      t.flag (PRT_PROFILE_PENDING n.val) = false ∧ t.sq = s.sq ∧ t.blv = s.blv

/-- COLD_BOOT after power-on or with PORST_N low, VDD_CORE and VDD_AFE being good, starts the tick number at 0, keeps
the fuses and the queue, and shows the part in SYS_ID; with WARM_N low it waits in PROOF after step 6; else a unit
that fails Proof (PD_PROT, training or another) ends the boot in SAFE with reason PROOF. WARM_BOOT from step 6 on,
after WARM_N was low or a restart asked for, keeps the tick number, the fuses and SYS_LOCK, and ends in SAFE with
reason PROOF where Proof finds a fault or PD_PROT was found faulty. START_UP_COMPLETE in PROOF after step 12 makes
MODE STANDBY, sets READY, clears BUSY and fires ES457. (R40, R43, R44, R53, R56) -/
def Obligations.BootsRunTheirSteps : Prop :=
  (∀ (s : State) (f : BootFindings), s.boot.step = 0 ∨ s.pw.porstLow = true → s.pw.supplyLow.getLsbD 0 = false →
    s.pw.supplyLow.getLsbD 1 = false →
    ∃ t : State, Machine.exec (.coldBoot f) s = .next t ∧ t.tick = 0 ∧ t.otp = s.otp ∧ t.pw.porstLow = false ∧
      t.get SYS_ID_STEPPING = s.otp.stepping.toNat ∧ t.get SYS_CAP_PORTS = s.ports ∧
      (s.boot.warmLow = true → t.mode = mProof ∧ t.boot.step = 6) ∧
      (s.boot.warmLow = false → f.protFault = true ∨ f.proofFail ≠ 0 →
        t.mode = mSafe ∧ t.get SYS_BOOTSTAT_SAFE_REASON = sfPROOF) ∧
      (f.protFault = true → t.flag BUR_CTL_PROT_FAULT = true ∧ t.get BUR_CTL_ACT = 0)) ∧
  (∀ (s : State) (f : BootFindings), 6 ≤ s.boot.step →
    (s.boot.warmLow = true ∧ s.mode = mProof) ∨ (s.boot.warmLow = false ∧ s.boot.warmRestart = true) →
    ∃ t : State, Machine.exec (.warmBoot f) s = .next t ∧ t.tick = s.tick ∧ t.otp = s.otp ∧ t.boot.warmLow = false ∧
      t.reg a_SYS_LOCK = s.reg a_SYS_LOCK ∧
      (f.proofFail ≠ 0 ∨ 128 ≤ s.get SYS_BOOTSTAT_PROOF_FAIL →
        t.mode = mSafe ∧ t.get SYS_BOOTSTAT_SAFE_REASON = sfPROOF)) ∧
  ∀ s : State, s.mode = mProof → s.boot.step = 12 → s.domOn dAon = true →
    ∃ t : State, Machine.exec .startUpComplete s = .next t ∧ t.mode = mStandby ∧ t.get SYS_MODESTAT_TARGET = mStandby ∧
      t.busy = false ∧ t.flag SYS_MODESTAT_READY = true ∧ fired s t 457 mStandby ∧ t.blv = s.blv

/-- PORST_N_ASSERT leaves every register at its reset value but PWR_STAT (no domain is on) and the GPIO levels, the tick
number 0, and keeps fuses, OTP, flash and queue. WARM_N_ASSERT after step 6 with PORST_N high returns to PROOF with
CAUSE 1, fires ES005 and keeps the tick, the fuses, SYS_LOCK and the Burin configuration. FLR_FUNCTION0 in an
operating mode or STANDBY disables every ring of function 0, ends in STANDBY and keeps the region registers and the
Burin configuration; in SAFE or PROOF it leaves the mode. FLR_FUNCTION1 disables the rings of function 1, keeps the
mode, those of function 0 and the Burin configuration, and ends a mailbox command. LINK_DOWN with the link up does
both function-level resets. (R53, R54, R55, R56, R402, R285) -/
def Obligations.ResetsReachWhatTheyShould : Prop :=
  (∀ s : State, ∃ t : State, Machine.exec .porstNAssert s = .next t ∧ t.pw.porstLow = true ∧ t.tick = 0 ∧
    (∀ a, a ≠ a_PWR_STAT → a ≠ a_GPI_IN → t.reg a = resetWord a) ∧ t.reg a_PWR_STAT = 0 ∧ t.otp = s.otp ∧
    t.fsp.mem = s.fsp.mem ∧ t.pending = s.pending) ∧
  (∀ s : State, s.pw.porstLow = false → 6 ≤ s.boot.step → s.domOn dAon = true →
    ∃ t : State, Machine.exec .warmNAssert s = .next t ∧ t.mode = mProof ∧ t.busy = true ∧ t.get SYS_BOOTSTAT_CAUSE = 1 ∧
      t.flag (pendField 5) = true ∧ t.tick = s.tick ∧ t.otp = s.otp ∧ t.reg a_SYS_LOCK = s.reg a_SYS_LOCK ∧
      (∀ c, c < 16 → t.reg (a_BUR_CMDCFG c) = s.reg (a_BUR_CMDCFG c) ∧ t.reg (a_BUR_PORTCFG c) = s.reg (a_BUR_PORTCFG c))) ∧
  (∀ s : State, s.domOn dHif = true → s.domOn dAon = true →
    ∃ t : State, Machine.exec .flrFunction0 s = .next t ∧ t.flag (pendField 6) = true ∧ t.tick = s.tick ∧
      (∀ r, r < 4096 → t.flag (HIF_RCFG_EN r) = false) ∧ t.reg (a_BUR_CMDCFG 0) = s.reg (a_BUR_CMDCFG 0) ∧
      t.mode = (if s.mode = mSafe ∨ s.mode = mProof then s.mode else mStandby) ∧
      t.reg a_BLV_QBASE = s.reg a_BLV_QBASE) ∧
  (∀ s : State, s.domOn dHif = true → s.domOn dAon = true →
    ∃ t : State, Machine.exec .flrFunction1 s = .next t ∧ t.flag (pendField 7) = true ∧ t.mode = s.mode ∧ t.hif.mbx = none ∧
      (∀ r, r < 16 → t.flag (F1_RCFG_EN r) = false) ∧ (∀ r, r < 4096 → t.reg (a_HIF_RCFG r) = s.reg (a_HIF_RCFG r)) ∧
      t.blv = s.blv) ∧
  ∀ s : State, s.hif.linkUp = true → s.mode ≠ mSafe → s.mode ≠ mProof →
    ∃ t : State, Machine.exec .linkDown s = .next t ∧ t.hif.linkUp = false ∧ t.mode = mStandby ∧
      (∀ r, r < 4096 → t.flag (HIF_RCFG_EN r) = false) ∧ (∀ r, r < 16 → t.flag (F1_RCFG_EN r) = false)

/-- After READY, out of SAFE and with PORST_N high, WATCHDOG_EXPIRY fires ES009 and enters SAFE with reason WATCHDOG.
Between step 12 and READY it records WATCHDOG for the running pair; where the other pair has a result already, the
device enters SAFE with reason WATCHDOG. (R49, R45) -/
def Obligations.WatchdogLeadsToSafeOrTheOtherPair : Prop :=
  ∀ (s : State) (core : Fin 2) (f : BootFindings), 10 ≤ s.boot.step → s.mode ≠ mSafe → s.pw.porstLow = false →
    s.domOn dAon = true →
    ∃ t : State, Machine.exec (.watchdogExpiry core f) s = .next t ∧ t.flag (pendField 9) = true ∧
      (s.flag SYS_MODESTAT_READY = true → t.mode = mSafe ∧ t.get SYS_BOOTSTAT_SAFE_REASON = sfWATCHDOG) ∧
      (s.flag SYS_MODESTAT_READY = false → s.boot.running = 0 → s.get SYS_BOOTSTAT_B_RESULT ≠ 0 →
        t.mode = mSafe ∧ t.get SYS_BOOTSTAT_SAFE_REASON = sfWATCHDOG ∧ t.get SYS_BOOTSTAT_A_RESULT = 7) ∧
      (s.flag SYS_MODESTAT_READY = false → s.boot.running = 1 → s.get SYS_BOOTSTAT_A_RESULT ≠ 0 →
        t.mode = mSafe ∧ t.get SYS_BOOTSTAT_SAFE_REASON = sfWATCHDOG ∧ t.get SYS_BOOTSTAT_B_RESULT = 7)

/-- Where some staged record is of a past tick, RECORD_DRAIN takes out one that no other record of a past tick precedes
in order of tick and source, and leaves every other one staged; a P0 or P1 record enters the history, which keeps
the last 64; in SAFE no ring, vector or other output is written. Where there is none, nothing changes. (R69, R70,
R74, Table 03-5) -/
def Obligations.RecordsDrainInOrder : Prop :=
  (∀ s : State, (∃ e ∈ s.sq.staged, e.2.tick < s.tick) → (∀ e ∈ s.sq.staged, e.2.source = e.1) →
    ∃ t k r, Machine.exec .recordDrain s = .next t ∧ (k, r) ∈ s.sq.staged ∧ r.tick < s.tick ∧
      (∀ e ∈ s.sq.staged, e.2.tick < s.tick → e.2.tick < r.tick ∨ (e.2.tick = r.tick ∧ e.2.source < r.source) → False) ∧
      find t.sq.staged k = none ∧ (∀ j, j ≠ k → find t.sq.staged j = find s.sq.staged j) ∧
      t.sq.history = (if k < 96 then (s.sq.history ++ [r]).drop (s.sq.history.length + 1 - 64) else s.sq.history) ∧
      t.tick = s.tick ∧
      (s.mode = mSafe → t.posted = s.posted ∧ t.hif = s.hif ∧
        ∀ q, t.reg (a_HIF_RPROD q) = s.reg (a_HIF_RPROD q))) ∧
  ∀ s : State, (∀ e ∈ s.sq.staged, s.tick ≤ e.2.tick) → Machine.exec .recordDrain s = .next s

/-- A write of SQR_SWEVT that reaches it fires ES488 + NUM with DATA and changes nothing else; a read of SQR_TICK_LO
answers the low half of the tick number and latches the high half; a request of Table 13-11 is answered with
Unsupported Request and any other leaves the state; a poisoned TLP is only logged; a write of SYS_LOCK that reaches
it sets LOCK and changes no other register. (R60, R73, R286, Table 03-1, Table 03-9, Table 13-11, Table 02-13) -/
def Obligations.SquareAccessesAnswer : Prop :=
  (∀ (s : State) (num : Fin 8) (data : BitVec 29), s.reaches 0 a_SQR_SWEVT → s.domOn dAon = true →
    ∃ t : State, Machine.exec (.softwareEvent num data) s = .next t ∧ changesOnly s t [(488 + num.val, data.toNat)] []) ∧
  (∀ s : State, s.readable 0 a_SQR_TICK_LO →
    ∃ t : State, Machine.exec .tickReadLatch s = .next t ∧ t.posted = .readData (s.tick % 2 ^ 32) :: s.posted ∧
      t.get SQR_TICK_HI_TICK_HI = s.tick / 2 ^ 32 % 2 ^ 32 ∧ t.sq = s.sq ∧
      sameRegs s t [a_SQR_TICK_LO, SQR_TICK_HI_TICK_HI.addr]) ∧
  (∀ (s : State) (r : BadRequest), ∃ t : State, Machine.exec (.unsupportedRequest r) s = .next t ∧
    ((match r with
      | .access f o n => n ∉ [4, 8] ∨ o.toNat % n ≠ 0 ∨ o.toNat ≥ (if f.val = 0 then 0x200000 else 0x10000)
      | .config f => 2 ≤ f) → t = { s with posted := .unsupported :: s.posted })) ∧
  (∀ (s : State) (f b : Fin 2) (o : Word),
    Machine.exec (.poisonedTlp f b o) s = .next { s with posted := .aer :: s.posted }) ∧
  ∀ s : State, s.reaches 0 a_SYS_LOCK →
    ∃ t : State, Machine.exec .sysLockWrite s = .next t ∧ t.locked = true ∧ onlyRegs s t ∧ sameRegs s t [a_SYS_LOCK]

/-- SILENT_VIOLATION of an access that is a silent violation raises COUNT by one up to 0xFFFF. With COUNT zero it is
captured: SYS_VIOLADDR takes its offset or fabric address and SYS_VIOLINFO VALID, WRITE, function, BAR and KIND.
With COUNT not zero it is captured in place of the captured one where that is of the same tick and of lower rank
(function 0 before function 1 before an internal request); else both registers are unchanged. No other register
changes, and no event fires. (R76) -/
def Obligations.ViolationsAreCountedAndCaptured : Prop :=
  ∀ (s : State) (a : Access) (kind : Nat), kind < 8 →
    (match a with
     | .host f b o w => o.toNat < (if f.val = 0 then (if b.val = 0 then 0x200000 else 0x1000000) else 0x10000) ∧
        (f.val = 1 → b.val = 0) ∧ (b.val = 0 → o.toNat % 4 = 0) ∧ s.violationKind f.val b.val o.toNat w = some kind
     | .internal _ _ => kind = 4) →
    ∃ t : State, Machine.exec (.silentViolation a) s = .next t ∧
      t.get SYS_VIOLCNT_COUNT = min (s.get SYS_VIOLCNT_COUNT + 1) 0xFFFF ∧
      sameRegs s t [a_SYS_VIOLCNT, a_SYS_VIOLADDR, a_SYS_VIOLINFO] ∧ t.sq.staged = s.sq.staged ∧
      (if s.get SYS_VIOLCNT_COUNT = 0 ∨ (s.sq.violTick = s.tick ∧ s.get SYS_VIOLINFO_VALID = 1 ∧
          accessRank a < s.sq.violRank) then
        (match a with
         | .host f b o w => t.reg a_SYS_VIOLADDR = o ∧
            t.reg a_SYS_VIOLINFO = BitVec.ofNat 32 (1 + 2 * b2n w + 4 * f.val + 8 * b.val + 16 * kind)
         | .internal o w => t.reg a_SYS_VIOLADDR = o ∧
            t.reg a_SYS_VIOLINFO = BitVec.ofNat 32 (1 + 2 * b2n w + 16 * kind)) ∧
          t.sq.violTick = s.tick ∧ t.sq.violRank = accessRank a
       else t.reg a_SYS_VIOLADDR = s.reg a_SYS_VIOLADDR ∧ t.reg a_SYS_VIOLINFO = s.reg a_SYS_VIOLINFO)

/-- Out of PROOF and SAFE, with PD_AON on: with SYS_LOCK set, a write of PWR_REQ (its writable fields are all RWL) is a
violation of KIND 1 and a write of PWR_THCFG is none; function 0 at the offset of a Burin route or pending register
is KIND 3; a write of an offset at which no register lies is KIND 0; a write of a pair domain's register is KIND 2
while that domain is off. VIOLATION_CLEAR, where it reaches SYS_VIOLCNT, clears all three registers. (R75, R73, R11,
R42, R50) -/
def Obligations.ViolationKindsAreTold : Prop :=
  (∀ s : State, s.mode ≠ mProof → s.mode ≠ mSafe → s.domOn dAon = true →
    (s.locked = true → s.violationKind 0 0 a_PWR_REQ true = some 1) ∧
    (s.locked = false → s.violationKind 0 0 a_PWR_REQ true = none) ∧
    s.violationKind 0 0 a_PWR_THCFG true = none ∧
    (∀ w, s.violationKind 0 0 0x10104 w = some 3 ∧ s.violationKind 0 0 0x11080 w = some 3) ∧
    (∀ w, s.violationKind 0 0 0x38 w = some 0) ∧
    (∀ n w, n < s.ports → s.domOn (dPair n) = false → s.violationKind 0 0 (a_PRT_TXCFG n) w = some 2)) ∧
  ∀ s : State, s.reaches 0 a_SYS_VIOLCNT →
    ∃ t : State, Machine.exec .violationClear s = .next t ∧ t.get SYS_VIOLCNT_COUNT = 0 ∧ t.reg a_SYS_VIOLADDR = 0 ∧
      t.reg a_SYS_VIOLINFO = 0 ∧ onlyRegs s t ∧ sameRegs s t [a_SYS_VIOLCNT, a_SYS_VIOLADDR, a_SYS_VIOLINFO]

/-- REGISTER_WRITE of SQR_ROUTE[k] (k 0 to 31 or 96 to 511) stores bits 22 to 0 and leaves every other register.
REGISTER_WRITE of SQR_PEND[k] (k 0 or 3 to 15) clears the bits written 1 that the device has not set in this tick
and leaves every other register. COUNTER_CLEAR_WRITE of SQR_DROPCNT clears COUNT, and of CLK_STAT both counts but
neither LOCK nor REF, whatever is written. (R11, R13, R62, Table 03-6, Table 03-8, Table 03-10) -/
def Obligations.RegisterWritesFollowAccessTypes : Prop :=
  (∀ (s : State) (k : Nat) (w : Word), k < 32 ∨ (96 ≤ k ∧ k < 512) → s.reaches 0 (a_SQR_ROUTE k) →
    ∃ t : State, Machine.exec (.registerWrite 0 (BitVec.ofNat 32 (a_SQR_ROUTE k)) w) s = .next t ∧ onlyRegs s t ∧
      t.reg (a_SQR_ROUTE k) = (s.reg (a_SQR_ROUTE k) &&& 0xFF800000) ||| (w &&& 0x7FFFFF) ∧
      sameRegs s t [a_SQR_ROUTE k]) ∧
  (∀ (s : State) (k : Nat) (w : Word), k = 0 ∨ (3 ≤ k ∧ k < 16) → s.reaches 0 (a_SQR_PEND k) →
    ∃ t : State, Machine.exec (.registerWrite 0 (BitVec.ofNat 32 (a_SQR_PEND k)) w) s = .next t ∧ onlyRegs s t ∧
      t.reg (a_SQR_PEND k) = s.reg (a_SQR_PEND k) &&& ~~~(w &&& ~~~s.freshBits (a_SQR_PEND k)) ∧
      sameRegs s t [a_SQR_PEND k]) ∧
  (∀ (s : State) (w : Word), s.reaches 0 a_SQR_DROPCNT →
    ∃ t : State, Machine.exec (.counterClearWrite 0 (BitVec.ofNat 32 a_SQR_DROPCNT) w) s = .next t ∧ onlyRegs s t ∧
      t.reg a_SQR_DROPCNT = 0 ∧ sameRegs s t [a_SQR_DROPCNT]) ∧
  ∀ (s : State) (w : Word), s.reaches 0 a_CLK_STAT →
    ∃ t : State, Machine.exec (.counterClearWrite 0 (BitVec.ofNat 32 a_CLK_STAT) w) s = .next t ∧ onlyRegs s t ∧
      t.get CLK_STAT_LOCKLOSS = 0 ∧ t.get CLK_STAT_REFLOSS = 0 ∧ t.get CLK_STAT_LOCK = s.get CLK_STAT_LOCK ∧
      t.get CLK_STAT_REF = s.get CLK_STAT_REF ∧ sameRegs s t [a_CLK_STAT]

/-- On a present port with PD_PROT on, out of PROOF, no pass running, CAL_INT not zero and CAL_INT times 100 ms past
since the last pass began, CALIBRATION_PASS_START begins a pass and changes nothing else. CALIBRATION_PASS_END of a
running pass ends it and fires ES487 with the port; CAL_LIMIT is set where a coefficient reached the end of its
range, and no other register changes. (R83, R84) -/
def Obligations.CalibrationPassesRun : Prop :=
  (∀ (s : State) (n : Fin 16), n.val < s.ports → s.domOn dProt = true → s.mode ≠ mProof →
    (s.fePort n.val).calActive = false → s.get (PRT_AFE_CAL_INT n.val) ≠ 0 →
    (s.fePort n.val).calStart + s.get (PRT_AFE_CAL_INT n.val) * 12500000 ≤ s.tick →
    ∃ t : State, Machine.exec (.calibrationPassStart n) s = .next t ∧ (t.fePort n.val).calActive = true ∧
      (t.fePort n.val).calStart = s.tick ∧ t = { s with fe.port := t.fe.port } ∧
      ∀ m, m ≠ n.val → t.fePort m = s.fePort m) ∧
  ∀ (s : State) (n : Fin 16) (limit : Bool), (s.fePort n.val).calActive = true → s.domOn dAon = true →
    ∃ t : State, Machine.exec (.calibrationPassEnd n limit) s = .next t ∧ (t.fePort n.val).calActive = false ∧
      changes s t [(487, n.val)] [a_PRT_AFE n.val] ∧
      t.get (PRT_AFE_GAIN n.val) = s.get (PRT_AFE_GAIN n.val) ∧
      (limit = true → t.flag (PRT_AFE_CAL_LIMIT n.val) = true) ∧
      (limit = false → t.reg (a_PRT_AFE n.val) = s.reg (a_PRT_AFE n.val)) ∧
      t = { s with regs := t.regs, sq := t.sq, fe.port := t.fe.port }

/-- SYNC_IN_EDGE fires ES190; with PIN_EN set, out of PROOF and SAFE, an edge that reaches every chain is scheduled at
the SCLK edge given, else none is. DECSYNC_CMD that reaches SYS_DECSYNC schedules one at the first SCLK edge of tick
T + 2 out of PROOF and SAFE. DECIMATOR_RESET with an earliest edge E of case (a) or (b) that the tick has reached
removes E, adds 1 to COUNT modulo 256 and puts the tick of E in SYS_DECSYNCT; the chain of a present port whose
domain is on has E as its last reset and L outputs to settle; for an edge of case (b) with TIM_SYNCCFG.SRC = 1, and
no other, SYNC_OUT rises and ES191 fires. Before the earliest edge nothing happens. (R90, R91, R92, R93, R94, R370,
Table 04-5, Table 04-8) -/
def Obligations.DecimatorsResetOnTheirEdges : Prop :=
  (∀ (s : State) (e : Fin 8), s.domOn dAon = true →
    ∃ t : State, Machine.exec (.syncInEdge e) s = .next t ∧ changes s t [(190, 0)] [] ∧
      (∀ x, x ∈ t.fe.edges ↔ x ∈ s.fe.edges ∨
        (x = (2 * s.tick + e.val, DecTarget.all) ∧ s.flag SYS_DECSYNC_PIN_EN = true ∧ s.mode ≠ mProof ∧ s.mode ≠ mSafe)) ∧
      t = { s with regs := t.regs, sq := t.sq, fe.edges := t.fe.edges }) ∧
  (∀ s : State, s.reaches 0 a_SYS_DECSYNC →
    ∃ t : State, Machine.exec .decsyncCmd s = .next t ∧ t = { s with
        fe.edges := t.fe.edges
        time.syncEdges := t.time.syncEdges } ∧
      (s.mode ≠ mProof → s.mode ≠ mSafe → 2 * (s.tick + 2) ∈ t.time.syncEdges) ∧
      ∀ x, x ∈ t.fe.edges ↔ x ∈ s.fe.edges ∨
        (x = (2 * (s.tick + 2), DecTarget.all) ∧ s.mode ≠ mProof ∧ s.mode ≠ mSafe)) ∧
  (∀ (s : State) (e : Nat), (e, DecTarget.all) ∈ s.fe.edges → (∀ x ∈ s.fe.edges, e ≤ x.1) → e ≤ 2 * s.tick + 1 →
    ∃ t : State, Machine.exec .decimatorReset s = .next t ∧ (∀ x, x ∈ t.fe.edges → x.1 ≠ e ∧ x ∈ s.fe.edges) ∧
      t.get SYS_DECSYNC_COUNT = (s.get SYS_DECSYNC_COUNT + 1) % 256 ∧ t.get SYS_DECSYNCT_TICK = e / 2 % 2 ^ 32 ∧
      t.tick = s.tick ∧
      (e ∈ s.time.syncEdges → s.get TIM_SYNCCFG_SRC = 1 → s.domOn dFab = true → s.domOn dAon = true →
        fired s t 191 0 ∧ t.time.syncFall = s.tick + 8) ∧
      (e ∉ s.time.syncEdges ∨ s.get TIM_SYNCCFG_SRC ≠ 1 → find t.sq.staged 191 = find s.sq.staged 191) ∧
      ∀ n, n < s.ports → s.domOn (dPair n) = true → (t.fePort n).chainEdge = e ∧
        (t.fePort n).chainL =
          (if s.effK n = 0 then 0 else if s.effK n = 1 then 22 else if s.effK n = 2 then 25 else 26)) ∧
  ∀ s : State, (∀ x ∈ s.fe.edges, 2 * s.tick + 1 < x.1) → Machine.exec .decimatorReset s = .next s

/-- On a present port whose pair domain is on, DETECTOR_WINDOW_END latches the number of counted outputs, their largest
magnitude as PEAK, the root of their mean square as RMS (both zero without outputs, with INVALID set), adds 1 to SEQ
modulo 256, and shows the envelope after its last update; WIN and SLOT as written are in force from then on. No
event fires, and only the five registers of the port's detector change. Samples that clip in a tick that passes are
counted in PRT_CLIP, ADC and DAC apart, each saturating at 0xFFFF, while PD_PROT is on; the counts of the other
ports stay. (R79, R81, R82, R95, R96, Table 04-3, Table 04-12) -/
def Obligations.DetectorWindowsLatch : Prop :=
  (∀ (s : State) (n : Fin 16) (mags : List (BitVec 16)), n.val < s.ports → s.domOn (dPair n.val) = true →
    mags.length ≤ 2 ^ 20 →
    ∃ t : State, Machine.exec (.detectorWindowEnd n mags) s = .next t ∧
      t.get (PRT_DETSTAT_COUNT n.val) = mags.length ∧
      t.get (PRT_DETSTAT_INVALID n.val) = (if mags = [] then 1 else 0) ∧
      t.get (PRT_DETSTAT_SEQ n.val) = (s.get (PRT_DETSTAT_SEQ n.val) + 1) % 256 ∧
      (∀ m ∈ mags, m.toNat ≤ t.get (PRT_DETPK_PEAK n.val)) ∧
      (t.get (PRT_DETPK_PEAK n.val) = 0 ∨ ∃ m ∈ mags, m.toNat = t.get (PRT_DETPK_PEAK n.val)) ∧
      (mags = [] → t.get (PRT_DETRMS_RMS n.val) = 0 ∧ (t.fePort n.val).env = (s.fePort n.val).env) ∧
      (mags ≠ [] → let q := (mags.map (fun m => m.toNat * m.toNat)).sum / mags.length
        let r := t.get (PRT_DETRMS_RMS n.val)
        r * r ≤ q ∧ q < (r + 1) * (r + 1)) ∧
      t.get (PRT_DETENV_ENV n.val) = (t.fePort n.val).env.toNat / 256 ∧
      (t.fePort n.val).win = s.get (PRT_DETCFG_WIN n.val) ∧ t.sq = s.sq ∧
      sameRegs s t [a_PRT_DETPK n.val, a_PRT_DETRMS n.val, a_PRT_DETENV n.val, a_PRT_DETSTAT n.val] ∧
      t = { s with regs := t.regs, fe.port := t.fe.port }) ∧
  ∀ (s : State) (c : Clip), c.port.val < s.ports → s.domOn dProt = true → s.mac.winPend = false →
    ∃ t : State, Machine.exec (.timeBaseAdvance 1 [c]) s = .next t ∧
      t.get (PRT_CLIP_ADC c.port.val) = min (s.get (PRT_CLIP_ADC c.port.val) + c.adc) 0xFFFF ∧
      t.get (PRT_CLIP_DAC c.port.val) = min (s.get (PRT_CLIP_DAC c.port.val) + c.dac) 0xFFFF ∧
      ∀ m, m < 16 → m ≠ c.port.val → t.reg (a_PRT_CLIP m) = s.reg (a_PRT_CLIP m)

/-- On an enabled mains-sense input with PD_MSN on: a positive ZERO_CROSSING writes the tick and fraction of the
crossing and fires ES178 + i with the low bits of the TB3 cycle count; a negative one writes neither and fires
nothing. Where a positive crossing closes a valid cycle, RMS, PEAK and FREQ are written, VALID is set and FREQ_OOR
cleared; where it closes an invalid one VALID is cleared and the three are held. MAINS_CROSSING_TIMEOUT once no
crossing has followed for the time of R101 sets FREQ_OOR, and ES192 fires if it was clear. MODULATOR_OVERLOAD sets
OVERLOAD and makes this cycle and the next invalid. HARMONIC_AVERAGE_END after HAVG valid cycles writes HCOUNT and
the bins, those above HCOUNT as zero. (R98, R99, R100, R101, R102, Table 04-16) -/
def Obligations.MainsSensingReports : Prop :=
  (∀ (s : State) (i : Fin 4) (positive : Bool) (x : Nat) (frac : BitVec 16) (rms peak env : BitVec 24),
    s.domOn dMsn = true → bitN (s.get TIM_MSCTL_EN) i.val = true →
    ∃ t : State, Machine.exec (.zeroCrossing i positive x frac rms peak env) s = .next t ∧
      (positive = true → t.get (TIM_MSZCT_TICK i.val) = x % 2 ^ 32 ∧ t.get (TIM_MSZCF_FRAC i.val) = frac.toNat ∧
        t.flag (pendField (178 + i.val)) = true ∧
        (∀ t0, (s.ms i.val).lastPos = some t0 → s.cycleOk i.val t0 (x * 65536 + frac.toNat) = true →
          t.get (TIM_MSRMS_RMS i.val) = rms.toNat ∧ t.get (TIM_MSPEAK_PEAK i.val) = peak.toNat ∧
          t.get (TIM_MSSTAT_VALID i.val) = 1 ∧ t.get (TIM_MSSTAT_FREQ_OOR i.val) = 0 ∧
          t.get (TIM_MSFREQ_FREQ i.val) = 125000000 * 65536 * 65536 / (x * 65536 + frac.toNat - t0) % 2 ^ 32) ∧
        (∀ t0, (s.ms i.val).lastPos = some t0 → s.cycleOk i.val t0 (x * 65536 + frac.toNat) = false →
          t.get (TIM_MSSTAT_VALID i.val) = 0 ∧ t.reg (a_TIM_MSRMS i.val) = s.reg (a_TIM_MSRMS i.val) ∧
          t.reg (a_TIM_MSPEAK i.val) = s.reg (a_TIM_MSPEAK i.val) ∧
          t.reg (a_TIM_MSFREQ i.val) = s.reg (a_TIM_MSFREQ i.val))) ∧
      (positive = false → t.sq = s.sq ∧ sameRegs s t [a_TIM_MSENV i.val] ∧
        t = { s with regs := t.regs, fe.ms := t.fe.ms })) ∧
  (∀ (s : State) (i : Fin 4) (t0 : Nat), s.domOn dMsn = true → bitN (s.get TIM_MSCTL_EN) i.val = true →
    (s.ms i.val).lastPos = some t0 →
    125000000 * 65536 ≤ (s.tick * 65536 - t0) * (if s.flag TIM_MSCTL_NOM then 55 else 45) →
    ∃ t : State, Machine.exec (.mainsCrossingTimeout i) s = .next t ∧ t.flag (TIM_MSSTAT_FREQ_OOR i.val) = true ∧
      (s.flag (TIM_MSSTAT_FREQ_OOR i.val) = true → t = s) ∧
      (s.flag (TIM_MSSTAT_FREQ_OOR i.val) = false → changesOnly s t [(192, i.val)] [a_TIM_MSSTAT i.val])) ∧
  (∀ (s : State) (i : Fin 4), s.domOn dMsn = true → bitN (s.get TIM_MSCTL_EN) i.val = true →
    ∃ t : State, Machine.exec (.modulatorOverload i) s = .next t ∧ t.flag (TIM_MSSTAT_OVERLOAD i.val) = true ∧
      (t.ms i.val).ovl = 2 ∧ changes s t [] [a_TIM_MSSTAT i.val] ∧
      t = { s with regs := t.regs, sq := t.sq, fe.ms := t.fe.ms }) ∧
  ∀ (s : State) (i : Fin 4) (h : List (BitVec 16 × BitVec 16)), s.domOn dMsn = true →
    bitN (s.get TIM_MSCTL_EN) i.val = true →
    (if s.get TIM_MSCTL_HAVG = 0 then 64 else s.get TIM_MSCTL_HAVG) ≤ (s.ms i.val).cycles →
    ∃ t : State, Machine.exec (.harmonicAverageEnd i h) s = .next t ∧
      t.get (TIM_MSSTAT_HCOUNT i.val) = s.hcount i.val % 64 ∧ (t.ms i.val).cycles = 0 ∧
      ∀ j, j < 50 →
        (s.hcount i.val ≤ j → t.reg (a_TIM_MSHARM i.val j) = 0) ∧
        (j < s.hcount i.val → j < h.length → t.get (TIM_MSHARM_MAG i.val j) = (h.getD j (0, 0)).1.toNat ∧
          t.get (TIM_MSHARM_PHASE i.val j) = (h.getD j (0, 0)).2.toNat)

/-- For writes that reach their registers. GROUP_CFG_WRITE that changes EN or PRECG applies, with ACT following EN, only
in STANDBY, with PRECG not 3 and, for EN = 1, with all four ports on BB; else it changes neither and sets REFUSED;
NSS_MAX stores either way, and the four ports show ACT as JOINT. A write of MAC_TMSCFG or MAC_TMSBASE in STANDBY
stores LINKS and GLINKS (at most 65,536 and 1,024) or BASE; any other changes none of the three and sets REFUSED. A
write of MAC_SNRBASE in STANDBY stores BASE, any other leaves it. No event fires and no other register changes.
(R116, R124, R426, Table 05-6, Table 05-8, Table 05-9, Table 06-16) -/
def Obligations.GroupAndStoreWritesNeedStandby : Prop :=
  (∀ (s : State) (g : Fin 4) (w : Word), s.reaches 0 (a_GRP_CFG g.val) →
    let en := bits w 0 1
    let pg := bits w 1 2
    let change := ¬ (en = s.get (GRP_CFG_EN g.val) ∧ pg = s.get (GRP_CFG_PRECG g.val))
    let ok := s.mode = mStandby ∧ s.busy = false ∧ pg ≠ 3 ∧ (en = 1 → ∀ k, k < 4 → s.profile (4 * g.val + k) = pfBB)
    ∃ t : State, Machine.exec (.groupCfgWrite g w) s = .next t ∧ changesOnly s t []
        [a_GRP_CFG g.val, a_PRT_RXSTAT (4 * g.val), a_PRT_RXSTAT (4 * g.val + 1), a_PRT_RXSTAT (4 * g.val + 2),
          a_PRT_RXSTAT (4 * g.val + 3)] ∧
      t.get (GRP_CFG_NSS_MAX g.val) = bits w 3 2 ∧
      (change → ok → t.get (GRP_CFG_EN g.val) = en ∧ t.get (GRP_CFG_PRECG g.val) = pg ∧ t.get (GRP_CFG_ACT g.val) = en ∧
        ∀ k, k < 4 → t.get (PRT_RXSTAT_JOINT (4 * g.val + k)) = en) ∧
      (¬ (change ∧ ok) → t.get (GRP_CFG_EN g.val) = s.get (GRP_CFG_EN g.val) ∧
        t.get (GRP_CFG_PRECG g.val) = s.get (GRP_CFG_PRECG g.val) ∧ t.get (GRP_CFG_ACT g.val) = s.get (GRP_CFG_ACT g.val)) ∧
      (change → ¬ ok → t.flag (GRP_CFG_REFUSED g.val) = true)) ∧
  (∀ (s : State) (cfg : Bool) (w : Word), s.reaches 0 (if cfg then a_MAC_TMSCFG else a_MAC_TMSBASE) →
    let ok := s.mode = mStandby ∧ s.busy = false ∧ (cfg = true →
      if s.isT = true then bits w 0 17 = 4 ∧ bits w 17 11 = 0 else bits w 0 17 ≤ 65536 ∧ bits w 17 11 ≤ 1024)
    ∃ t : State, Machine.exec (.toneMapStoreCfgWrite cfg w) s = .next t ∧ changesOnly s t [] [a_MAC_TMSCFG, a_MAC_TMSBASE] ∧
      t.get MAC_TMSCFG_ACT = s.get MAC_TMSCFG_ACT ∧
      (ok → t.get MAC_TMSCFG_LINKS = (if cfg then bits w 0 17 else s.get MAC_TMSCFG_LINKS) ∧
        t.get MAC_TMSCFG_GLINKS = (if cfg then bits w 17 11 else s.get MAC_TMSCFG_GLINKS) ∧
        t.get MAC_TMSBASE_BASE = (if cfg then s.get MAC_TMSBASE_BASE else bits w 0 19)) ∧
      (¬ ok → t.get MAC_TMSCFG_LINKS = s.get MAC_TMSCFG_LINKS ∧ t.get MAC_TMSCFG_GLINKS = s.get MAC_TMSCFG_GLINKS ∧
        t.get MAC_TMSBASE_BASE = s.get MAC_TMSBASE_BASE ∧ t.flag MAC_TMSCFG_REFUSED = true)) ∧
  ∀ (s : State) (w : Word), s.reaches 0 a_MAC_SNRBASE →
    ∃ t : State, Machine.exec (.snrStoreBaseWrite w) s = .next t ∧ changesOnly s t [] [a_MAC_SNRBASE, a_MAC_TMSCFG] ∧
      t.get MAC_SNRBASE_BASE =
        (if s.mode = mStandby ∧ s.busy = false then bits w 0 19 else s.get MAC_SNRBASE_BASE) ∧
      t.get MAC_TMSCFG_LINKS = s.get MAC_TMSCFG_LINKS

/-- On a port that receives and reports its own frames. AGC_WINDOW in SEARCH shows the noise floor; in AUTO, with the
level more than 3 dB off twice AGC_T, the gain moves by the difference within 0 to 96; only RXSTAT and AFE change.
PREAMBLE_DETECTED in SEARCH with no frame in reception opens a frame with tick, SNR, symbol kind and, where the base
that TSB selects is valid, the timestamp of its instant within the tick in that base, enters CHEST, counts in RXDET
and fires source 0 of the port. A preamble of a kind that the port does not search for does nothing. With an older
frame in reception, a preamble louder by CAPT (not 63) captures: the old frame ends counted as reason 5 without its
failure event, source 3 fires with the SNR difference and source 0 for the new frame; any other only counts in
RXIGN. BLANK_END once BLANK is over returns the receiver to SEARCH. (R127, R128, R130, R131, R136, R140, Table 06-6,
Table 06-8) -/
def Obligations.PreamblesAreAcquiredOrIgnored : Prop :=
  (∀ (s : State) (n : Fin 16) (level floor : BitVec 8), s.rxOn n.val = true → s.rxState n.val = rSEARCH →
    let d : Int := 2 * (s.rxCfg n.val PRT_RXCFG_AGC_T : Int) - level.toNat
    ∃ t : State, Machine.exec (.agcWindow n level floor) s = .next t ∧
      changesOnly s t [] [a_PRT_RXSTAT n.val, a_PRT_AFE n.val] ∧ t.get (PRT_RXSTAT_NOISE n.val) = floor.toNat ∧
      t.rxState n.val = rSEARCH ∧
      (t.get (PRT_AFE_ACT_GAIN n.val) : Int) =
        (if s.flag (PRT_AFE_GMODE n.val) = true ∧ (6 < d ∨ d < -6) then
          max 0 (min 96 ((s.get (PRT_AFE_ACT_GAIN n.val) : Int) - d))
        else (s.get (PRT_AFE_ACT_GAIN n.val) : Int))) ∧
  (∀ (s : State) (n : Fin 16) (snr : BitVec 8) (sweepK : Nat) (x : BitVec 19), s.rxOn n.val = true → s.rxHome n.val = n.val → s.searches n.val sweepK = true →
    (s.rxPort n.val).cur = none → s.rxState n.val = rSEARCH →
    ∃ t : State, Machine.exec (.preambleDetected n snr sweepK x) s = .next t ∧
      (∃ a : Acq, (t.rxPort n.val).cur = some a ∧ a.tdet = s.tick ∧ a.snr = snr ∧ a.sweepK = sweepK ∧ a.hdr = none ∧
        a.det.sub = x.toNat ∧ (s.baseOk (s.rxCfg n.val PRT_RXCFG_TSB) = true → a.det.ts =
          s.stamp (s.rxCfg n.val PRT_RXCFG_TSB) (s.baseVal (s.rxCfg n.val PRT_RXCFG_TSB) + x.toNat * 2 ^ 32))) ∧
      (t.rxPort n.val).tails = (s.rxPort n.val).tails ∧ t.rxState n.val = rCHEST ∧
      t.get (PRT_RXSTAT_SNR n.val) = snr.toNat ∧
      t.get (PRT_RXDET_COUNT n.val) = satAdd 32 (s.get (PRT_RXDET_COUNT n.val)) 1 ∧
      fired s t (esPort n.val 0) (detData snr sweepK false) ∧ ∀ m, m ≠ n.val → t.rxPort m = s.rxPort m) ∧
  (∀ (s : State) (n : Fin 16) (snr : BitVec 8) (sweepK : Nat) (x : BitVec 19), s.searches n.val sweepK = false →
    Machine.exec (.preambleDetected n snr sweepK x) s = .next s) ∧
  (∀ (s : State) (n : Fin 16) (snr : BitVec 8) (sweepK : Nat) (x : BitVec 19) (a : Acq), s.rxOn n.val = true →
    s.rxHome n.val = n.val → s.searches n.val sweepK = true → (s.rxPort n.val).cur = some a → a.tdet ≠ s.tick →
    ∃ t : State, Machine.exec (.preambleDetected n snr sweepK x) s = .next t ∧
      (if s.rxCfg n.val PRT_RXCFG_CAPT ≠ 63 ∧ a.snr.toInt + s.rxCfg n.val PRT_RXCFG_CAPT ≤ snr.toInt then
        (∃ b : Acq, (t.rxPort n.val).cur = some b ∧ b.tdet = s.tick ∧ b.snr = snr ∧ b.sweepK = sweepK) ∧
        t.get (PRT_RXFAIL_COUNT n.val fCAPTURED) = satAdd 32 (s.get (PRT_RXFAIL_COUNT n.val fCAPTURED)) 1 ∧
        fired s t (esPort n.val 0) (detData snr sweepK true) ∧
        fired s t (esPort n.val 3) (unsigned 8 (snr.toInt - a.snr.toInt)) ∧
        find t.sq.staged (esPort n.val 2) = find s.sq.staged (esPort n.val 2)
      else changesOnly s t [] [a_PRT_RXIGN n.val] ∧
        t.get (PRT_RXIGN_COUNT n.val) = satAdd 32 (s.get (PRT_RXIGN_COUNT n.val)) 1)) ∧
  ∀ (s : State) (n : Fin 16), s.rxState n.val = rBLANKED → s.airOf n.val = none → s.bursting n.val = false →
    (s.rxPort n.val).blank ≤ s.tick →
    ∃ t : State, Machine.exec (.blankEnd n) s = .next t ∧ changesOnly s t [] [a_PRT_RXSTAT n.val] ∧
      t.rxState n.val = (if s.rxOn n.val = true then rSEARCH else rIDLE)

/-- For a frame in reception on a present port whose pair domain is on. SYMBOL_TRACKING_UPDATE adds a sixteenth of the
phase error and a 64th of the slope to the frame's offsets and counts consecutive large phase errors; the third in a
row ends the frame with reason 9. RECEIVE_SAMPLES_END latches the frame's offsets in RXOFS and RXSOFS, returns the
receiver to SEARCH with no frame in reception, and, where its header is not decoded yet and no other frame is held,
keeps it for decoding with its last tick. (R126, R133, R134, Table 06-7) -/
def Obligations.TrackingAndTheEndOfSamples : Prop :=
  (∀ (s : State) (n : Fin 16) (large : Bool) (phase slope : BitVec 32) (a : Acq), n.val < s.ports →
    s.domOn (dPair n.val) = true → (s.rxPort n.val).cur = some a →
    ∃ t : State, Machine.exec (.symbolTrackingUpdate n large phase slope) s = .next t ∧
      (if large = true ∧ 2 ≤ a.large then rxFailed s t n.val a fSYNC ∧ (t.rxPort n.val).cur = none
      else (t.rxPort n.val).cur = some { a with large := if large then a.large + 1 else 0, fofs := a.fofs + BitVec.ofInt 32 (phase.toInt / 16), sofs := a.sofs + BitVec.ofInt 32 (slope.toInt / 64) } ∧
        t.sq = s.sq ∧ sameRegs s t [a_PRT_RXSTAT n.val] ∧
        t.rxState n.val = (if s.rxState n.val = rCHEST then rHEADER else s.rxState n.val) ∧
        t = { s with regs := t.regs, rx := t.rx })) ∧
  ∀ (s : State) (n : Fin 16) (m : RxMeas) (a : Acq), (s.rxPort n.val).cur = some a →
    ∃ t : State, Machine.exec (.receiveSamplesEnd n m) s = .next t ∧ (t.rxPort n.val).cur = none ∧
      t.rxState n.val = rSEARCH ∧ t.get (PRT_RXOFS_FOFS n.val) = a.fofs.toNat ∧
      t.get (PRT_RXSOFS_SOFS n.val) = a.sofs.toNat ∧
      (a.hdr = none → (s.rxPort n.val).tails = [] →
        (t.rxPort n.val).tails = [{ a with ended := some s.tick, meas := some m }] ∧
        sameRegs s t [a_PRT_RXSTAT n.val, a_PRT_RXOFS n.val, a_PRT_RXSOFS n.val] ∧
        t = { s with regs := t.regs, rx := t.rx })

/-- BLOCK_ENQUEUE puts the next block of the oldest frame with one due behind the waiting ones, or, with 64 waiting,
counts OVERRUN and fails the frame with reason 8. DECODER_TAKE_BLOCK of a free decoder takes a waiting header block
if there is one, else a payload block, of least arrival tick and then lowest port, with the iteration cap that CAPQ
gives; without a waiting block nothing happens. HEADER_DECODE_COMPLETE fails the frame with reason 0 on a bad
header, 4 where the packet could exceed MAXPKT, 1 on a map that is not the slot's; a frame in reception on the
default map enters PAYLOAD with its header and block count. BLOCK_DECODE_COMPLETE fails the frame with reason 2; the
last block of a frame that is complete lets the frame check decide: failed, reason 3; good, the frame is committed
to the port's receive packet, counted and reported. (R120, R137, R138, R139, R141, R222, Table 06-7) -/
def Obligations.BlocksAreDecodedInOrder : Prop :=
  (∀ (s : State) (n : Fin 16) (a : Acq), n.val < s.ports → s.domOn (dPair n.val) = true →
    (s.rxPort n.val).frames.find? Acq.due = some a →
    ∃ t : State, Machine.exec (.blockEnqueue n) s = .next t ∧
      (if 64 ≤ s.rx.waiting.length then rxFailed s t n.val a fOVERRUN ∧
        t.get GRP_DECSTAT_OVERRUN = satAdd 16 (s.get GRP_DECSTAT_OVERRUN) 1
      else t.rx.waiting = s.rx.waiting ++ [{ port := n.val, frame := a.id, idx := a.sent - 1, header := a.hdr.isNone, arrival := s.tick }] ∧
        t.get GRP_DECSTAT_WAIT = s.rx.waiting.length + 1 ∧ t.sq = s.sq ∧ t = { s with regs := t.regs, rx := t.rx })) ∧
  (∀ (s : State) (d : Fin 8), s.domOn dDec = true → find s.rx.decoders d.val = none →
    ∃ t : State, Machine.exec (.decoderTakeBlock d) s = .next t ∧
      (s.rx.waiting = [] → t = s) ∧
      (s.rx.waiting ≠ [] → (∀ x ∈ s.rx.waiting, x.port < 16) → ∃ b ∈ s.rx.waiting,
        find t.rx.decoders d.val = some { b with cap := if s.rx.waiting.length < s.get GRP_DECCFG_CAPQ then s.get GRP_DECCFG_MAXIT else s.get GRP_DECCFG_CAPIT } ∧
        t.rx.waiting.length + 1 = s.rx.waiting.length ∧
        (∀ x ∈ s.rx.waiting, (b.header = true ∨ x.header = false) ∧
          (x.header = b.header → b.arrival < x.arrival ∨ (b.arrival = x.arrival ∧ b.port ≤ x.port))) ∧
        sameRegs s t [a_GRP_DECSTAT] ∧ t = { s with regs := t.regs, rx := t.rx })) ∧
  (∀ (s : State) (d : Fin 8) (bits : BitVec 256) (b : CodeBlock) (a : Acq), find s.rx.decoders d.val = some b →
    b.header = true → b.port < s.ports → s.domOn (dPair b.port) = true → s.acqOf b.port b.frame = some a →
    let hdr := if a.sweepK ≠ 0 then parseSweepHeader (bits.toNat % 2 ^ 64) else parseHeader (s.profile b.port) bits.toNat
    ∃ t : State, Machine.exec (.headerDecodeComplete d bits) s = .next t ∧ find t.rx.decoders d.val = none ∧
      (hdr = none → rxFailed s t b.port a fHEADER) ∧
      ∀ h, hdr = some h →
        (s.get (ARC_CFG_MAXPKT (2 * b.port)) < packetWords h.len → rxFailed s t b.port a fOVERSIZE) ∧
        (packetWords h.len ≤ s.get (ARC_CFG_MAXPKT (2 * b.port)) → a.sweepK = 0 → h.tmap ≠ 6 → h.tmap ≠ a.slot →
          rxFailed s t b.port a fTMAP) ∧
        (packetWords h.len ≤ s.get (ARC_CFG_MAXPKT (2 * b.port)) → (a.sweepK ≠ 0 ∨ h.tmap = 6) →
          (s.rxPort b.port).cur = some a → (s.rxPort b.port).tails = [] → a.ended = none →
          (t.rxPort b.port).cur = some { a with hdr := some h, blocks := payloadBlocks (s.profile b.port) h (a.sweepK != 0) } ∧
            t.rxState b.port = rPAYLOAD ∧ t.sq = s.sq ∧ sameRegs s t [a_PRT_RXSTAT b.port])) ∧
  (∀ (s : State) (d : Fin 8) (data : List Byte) (b : CodeBlock) (a : Acq), find s.rx.decoders d.val = some b →
    b.header = false → b.port < s.ports → s.domOn (dPair b.port) = true → s.acqOf b.port b.frame = some a →
    ∃ t : State, Machine.exec (.blockDecodeComplete d false data) s = .next t ∧ find t.rx.decoders d.val = none ∧
      rxFailed s t b.port a fDECODE) ∧
  ∀ (s : State) (d : Fin 8) (data : List Byte) (b : CodeBlock) (a : Acq) (h : PhyHeader) (er : Nat),
    find s.rx.decoders d.val = some b → b.header = false → b.port < s.ports → s.domOn (dPair b.port) = true →
    (s.rxPort b.port).tails = [a] → (s.rxPort b.port).cur = none → a.id = b.frame →
    a.hdr = some h → a.ended = some er → h.cls = 0 → a.sweepK = 0 → s.profile b.port = pfBB → 0 < h.len →
    (put b.idx data a.parts).length = a.blocks →
    let bytes := (((put b.idx data a.parts).map (fun e => e.2)).flatten).take h.len
    ∃ t : State, Machine.exec (.blockDecodeComplete d true data) s = .next t ∧
      (checkOk bytes = false → rxFailed s t b.port a fCHECK) ∧
      (checkOk bytes = true → (Lfc.ofBits h.macFc).ftype ≤ 5 → s.arcIsOpen (2 * b.port) = true →
        s.arcFits (2 * b.port) (packetWords h.len) = true → s.sesFrom (Lfc.ofBits h.macFc).src = none →
        (∃ f : RxFrame, (t.arcOf (2 * b.port)).filling = (s.arcOf (2 * b.port)).filling ++ [⟨packetWords h.len, .rx f⟩] ∧
          f.lfc = Lfc.ofBits h.macFc ∧ f.payload = bytes.take (bytes.length - 4) ∧ f.port = b.port ∧ f.endTick = er ∧
          f.slot = a.slot ∧ f.id = a.id) ∧
        (t.arcOf (2 * b.port)).opened = none ∧
        t.get (PRT_RXGOOD_COUNT b.port) = satAdd 32 (s.get (PRT_RXGOOD_COUNT b.port)) 1 ∧
        fired s t (esPort b.port 1) (h.len + a.slot * 2 ^ 14 + h.tmap * 2 ^ 17) ∧ (t.rxPort b.port).frames = [])

/-- NOISE_TELEMETRY on a receiving port whose NOISE_AVG superframes have passed takes the superframe number as that of
its last record; with telemetry disabled nothing else changes, with it enabled ES486 fires. RECEIVE_RECORD_RETIRE
for a link without a session or without an area in the store changes nothing; for a link whose newest record is 16
superframes old, the record of the other parity, if it is valid and of the generation before, is written back with
its VALID bit clear, and nothing else changes. (R121, R143, R300) -/
def Obligations.NoiseAndReceiveRecordsAge : Prop :=
  (∀ (s : State) (n : Fin 16) (sp : List (List Byte)), s.rxOn n.val = true → s.get (PRT_NOISECFG_NOISE_AVG n.val) ≠ 0 →
    s.get (PRT_NOISECFG_NOISE_AVG n.val) ≤ (s.get MAC_SFN_SFN + 2 ^ 32 - look 0 s.rx.lastNoise n.val) % 2 ^ 32 →
    s.domOn dAon = true →
    ∃ t : State, Machine.exec (.noiseTelemetry n sp) s = .next t ∧ look 0 t.rx.lastNoise n.val = s.get MAC_SFN_SFN ∧
      (s.flag HIF_TELCFG_EN = false → t = { s with rx.lastNoise := t.rx.lastNoise }) ∧
      (s.flag HIF_TELCFG_EN = true → t.flag (pendField 486) = true)) ∧
  (∀ (s : State) (grouped : Bool) (link : Nat) (slot : Fin 6),
    (s.findSes (fun v => sub v sGROUPED == b2n grouped && sub v sLINK == link) = none ∨
      ∃ k, s.findSes (fun v => sub v sGROUPED == b2n grouped && sub v sLINK == link) = some k ∧ s.hasArea k = false) →
    Machine.exec (.receiveRecordRetire grouped link slot) s = .next s) ∧
  ∀ (s : State) (grouped : Bool) (link : Nat) (slot : Fin 6) (k : Nat) (snr old new : List Byte) (b : Byte) (p : Nat),
    s.findSes (fun v => sub v sGROUPED == b2n grouped && sub v sLINK == link) = some k → s.hasArea k = true →
    p < 2 → s.readSnr k slot.val 0 = (snr, s) → s.readRec k (6 + 2 * slot.val + p) = (b :: old, s) →
    s.readRec k (6 + 2 * slot.val + (1 - p)) = (new, s) → 16 ≤ (s.get MAC_SFN_SFN + 2 ^ 32 - snrLast snr) % 2 ^ 32 →
    new ≠ [] → recValid new = true → recValid (b :: old) = true → recGen new = (recGen (b :: old) + 1) % 16 →
    recGen new % 2 = 1 - p →
    ∃ t : State, Machine.exec (.receiveRecordRetire grouped link slot) s = .next t ∧
      t = s.writeRec k (6 + 2 * slot.val + p) ((b &&& 0xFE) :: old)

/-- FRAME_LAUNCH looks at the frame in the front packet of the port's transmit instance. Without a packet, or where the
mode or the line does not permit the frame, or a TIMED frame's T_req is to come, nothing changes. A due frame of an
ungrouped queue, on a map that can be built, that the MAC places: where the dwell checks pass and the driver is
ready, it launches: it is on the line from this tick for its duration, its packet is read, RETRY of its class is
fixed, the receiver is BLANKED, TXCNT rises and source 4 fires with its data; with the driver not ready, LDEN is
asserted in TX mode and the frame stays. Where a band defers it, it leaves the instance and is kept for the tick
given, source 6 fires and DWDEF rises on the first deferral; where a band refuses it, source 6 fires with DWELL_LONG
and the frame leaves its queue. (R136, R156, R157, R158, R160, R161, R165, R168, Table 07-3) -/
def Obligations.FramesLaunchUnderTheRules : Prop :=
  (∀ (s : State) (n : Fin 16), s.arcFront (2 * n.val + 1) = none → Machine.exec (.frameLaunch n) s = .next s) ∧
  (∀ (s : State) (n : Fin 16) (q id words : Nat) (f : TxFrame), s.arcFront (2 * n.val + 1) = some ⟨words, .tx q id⟩ →
    s.frameOf q id = some f → f.ready = true → s.joint n.val = false →
    (s.mayLaunch f = false ∨ s.txFree n.val = false ∨ (f.timed = true ∧ ∃ r, f.treq = some r ∧ s.tick < r)) →
    Machine.exec (.frameLaunch n) s = .next s) ∧
  ∀ (s : State) (n : Fin 16) (q id words aw : Nat) (f : TxFrame) (m x : PhyMap),
    s.arcFront (2 * n.val + 1) = some ⟨words, .tx q id⟩ → s.frameOf q id = some f → f.ready = true →
    s.joint n.val = false → n.val < s.ports → s.domOn (dPair n.val) = true → s.mayLaunch f = true →
    s.txFree n.val = true → s.staleAnswer f = false →
    (f.timed = true → ∀ r, f.treq = some r → r ≤ s.tick ∧ s.tick ≤ r + s.get (PRT_TXCFG_LATE_MAX n.val) * tUs) →
    s.mapOf n.val q f false = (m, false, s) → s.fitMap n.val false (s.lenOn n.val f m) m = some x →
    s.windowOf n.val q f x = (aw, s) →
    let dur := s.durOf n.val false (s.lenOn n.val f x) x
    let r := s.rangeOf n.val false x
    s.placed n.val f.cls s.tick (s.tick + dur) = true →
    ∃ t : State, Machine.exec (.frameLaunch n) s = .next t ∧
      match s.dwellAll [n.val] r.1 r.2 s.tick dur with
      | (.pass, _) =>
        if s.ldReady n.val = true then
          (∃ a : Air, (t.txPort n.val).air = some a ∧ a.kind = .data q id ∧ a.start = s.tick ∧ a.full = s.tick + dur ∧
            a.mode = x.mode ∧ a.aw = aw ∧ (s.dwFresh = false → a.stop = s.tick + dur ∧ a.outcome = 0) ∧ a.grouped = false) ∧
          (∃ g : TxFrame, t.frameOf q id = some g ∧ g.awaiting = true ∧ g.ready = false ∧ g.lastTl = s.tick ∧ g.port = n.val ∧
            g.mode = x.mode ∧ g.ts = s.stampNow (s.get (PRT_TXCFG_LTB n.val)) 12 ∧
            (f.g3 = false → g.retry = if f.cls ≤ 3 then s.get MAC_ACKCFG_RETRY_HI else s.get MAC_ACKCFG_RETRY_LO)) ∧
          t.arcOf (2 * n.val + 1) = (s.arcRead (2 * n.val + 1)).arcOf (2 * n.val + 1) ∧
          t.get (PRT_TXCNT_COUNT n.val) = satAdd 32 (s.get (PRT_TXCNT_COUNT n.val)) 1 ∧
          fired s t (esPort n.val 4) (launchData f x false) ∧
          (s.rxOn n.val = true → t.rxState n.val = rBLANKED)
        else (s.get (PRT_LDCTL_LDMODE n.val) = 1 → t.flag (PRT_LDCTL_LDEN n.val) = true) ∧
          sameRegs s t [a_PRT_LDCTL n.val] ∧ t = { s with regs := t.regs, tx := t.tx }
      | (.defer u rule, band) =>
        t.arcOf (2 * n.val + 1) = (s.arcRead (2 * n.val + 1)).arcOf (2 * n.val + 1) ∧
        (t.txPort n.val).air = (s.txPort n.val).air ∧
        (if s.tooLate n.val f u = true then t.frameOf q id = none ∧
          t.get (PRT_TXLATE_COUNT n.val) = satAdd 32 (s.get (PRT_TXLATE_COUNT n.val)) 1
        else ∃ g : TxFrame, t.frameOf q id = some g ∧ g.deferred = true ∧ g.notBefore = u ∧ g.ready = false) ∧
        (f.reported = false → fired s t (esPort n.val 6) (dwData band 0 rule) ∧
          t.get (PRT_DWDEF_COUNT n.val) = satAdd 32 (s.get (PRT_DWDEF_COUNT n.val)) 1) ∧
        (f.reported = true → t.sq = s.sq)
      | (.refuse, band) => fired s t (esPort n.val 6) (dwData band 0 2) ∧ t.frameOf q id = none ∧
        (t.txPort n.val).air = (s.txPort n.val).air

/-- TRANSMIT_END before the frame's end changes nothing. At its end, the line is free, source 5 fires with the outcome,
and the tail of LDEN begins. A data frame sent whole that asks for an acknowledgement has its window opened; one
that asks for none completes; one whose attempt failed completes and is counted once its retries are used up, else
it stays for the next. LINE_DRIVER_FAULT shows the fault, counts it, fires source 7 with 1, and ends the frame on
the line with outcome FAULT; its release fires source 7 with 0 and starts the hold window, which FAULT_HOLD_END
ends. LDEN_TAIL_EXPIRY of an idle port in TX mode deasserts LDEN. (R165, R167, R168, R224, R226, Table 07-3, Table
10-5) -/
def Obligations.FramesEndWithTheirOutcome : Prop :=
  (∀ (s : State) (n : Fin 16) (a : Air), (s.txPort n.val).air = some a → s.tick < a.stop →
    Machine.exec (.transmitEnd n) s = .next s) ∧
  (∀ (s : State) (n : Fin 16) (a : Air), (s.txPort n.val).air = some a → a.stop ≤ s.tick → a.grouped = false →
    n.val < s.ports → s.domOn (dPair n.val) = true →
    ∃ t : State, Machine.exec (.transmitEnd n) s = .next t ∧ (t.txPort n.val).air = none ∧
      fired s t (esPort n.val 5) a.outcome ∧
      (t.txPort n.val).ldTail = some (s.tick + s.get (PRT_LDCTL_TAIL n.val) * tUs) ∧
      ∀ (q id : Nat) (f : TxFrame), a.kind = .data q id → s.frameOf q id = some f → unproven f = false →
        (a.outcome = 0 → a.aw ≠ 0 → (t.txPort n.val).win = some ⟨q, id, a.stop, a.stop + a.aw⟩ ∧
          ∃ g : TxFrame, t.frameOf q id = some g ∧ g.attempts = f.attempts + 1 ∧ g.outcome = 0) ∧
        (a.outcome = 0 → a.aw = 0 → t.frameOf q id = none) ∧
        (a.outcome ≠ 0 → s.leaving = false →
          if f.retry < f.attempts + 1 then t.frameOf q id = none ∧
            t.get MAC_NOACKCNT_COUNT = satAdd 32 (s.get MAC_NOACKCNT_COUNT) 1
          else ∃ g : TxFrame, t.frameOf q id = some g ∧ g.attempts = f.attempts + 1 ∧ g.outcome = a.outcome ∧
            g.ready = false ∧ g.awaiting = false)) ∧
  (∀ (s : State) (n : Fin 16), s.domOn dProt = true → n.val < s.ports → s.flag (PRT_LDCTL_FAULT n.val) = false →
    ∃ t : State, Machine.exec (.lineDriverFault n) s = .next t ∧ t.flag (PRT_LDCTL_FAULT n.val) = true ∧
      fired s t (esPort n.val 7) 1 ∧
      t.get (PRT_LDFLTCNT_COUNT n.val) = satAdd 32 (s.get (PRT_LDFLTCNT_COUNT n.val)) 1 ∧
      ∀ a, (s.txPort n.val).air = some a → a.grouped = false → s.domOn (dPair n.val) = true →
        (t.txPort n.val).air = none ∧ fired s t (esPort n.val 5) 3) ∧
  (∀ (s : State) (n : Fin 16), s.domOn dProt = true → n.val < s.ports → s.flag (PRT_LDCTL_FAULT n.val) = true →
    Machine.exec (.lineDriverFault n) s = .next s ∧
    ∃ t : State, Machine.exec (.lineDriverFaultRelease n) s = .next t ∧ t.flag (PRT_LDCTL_FAULT n.val) = false ∧
      changes s t [(esPort n.val 7, 0)] [a_PRT_LDCTL n.val] ∧
      (t.txPort n.val).holdEnd = s.tick + s.get (PRT_LDCTL_FLT_HOLD n.val) * tMs ∧
      (t.txPort n.val).air = (s.txPort n.val).air ∧ t = { s with regs := t.regs, sq := t.sq, tx := t.tx }) ∧
  (∀ (s : State) (n : Fin 16), (s.txPort n.val).holdEnd ≤ s.tick →
    ∃ t : State, Machine.exec (.faultHoldEnd n) s = .next t ∧ (t.txPort n.val).holdEnd = 0 ∧ t = { s with tx := t.tx } ∧
      ∀ m, m ≠ n.val → t.txPort m = s.txPort m) ∧
  ∀ (s : State) (n : Fin 16) (u : Nat), (s.txPort n.val).ldTail = some u → u ≤ s.tick → s.airOf n.val = none →
    (s.txPort n.val).ldPlan = false → s.burHold n.val = false → s.get (PRT_LDCTL_LDMODE n.val) = 1 →
    ∃ t : State, Machine.exec (.ldenTailExpiry n) s = .next t ∧ (t.txPort n.val).ldTail = none ∧
      t.flag (PRT_LDCTL_LDEN n.val) = false ∧ sameRegs s t [a_PRT_LDCTL n.val] ∧
      t = { s with regs := t.regs, tx := t.tx }

/-- A DWELL_WRITE that reaches its register stores its fields (DMAX at most 1,000) and changes no other register; every
dwell check in this tick still reads the former values, one in the next tick the new; a frame on the line of an
ungrouped port that no band then truncates goes to its full end, one that a band truncates ends with outcome
TRUNCATED. A MASK_WRITE that reaches its entry stores it, without FILT where 16 other entries are filtered, with
REFUSED set then; COUNT shows the usable carriers masked. DWELL_DEFERRAL_EXPIRY lists every deferred head of queue
of the port whose tick has come, and nothing else, behind the frames to be offered again. (R152, R154, R161, R162,
R164, R169, Table 07-6, Table 07-7, Table 07-11) -/
def Obligations.DwellAndMaskWritesApply : Prop :=
  (∀ (s : State) (b : Fin 8) (k : Fin 4) (data : Word), s.reaches 0 (dwKey b.val k.val) →
    ∃ t : State, Machine.exec (.dwellWrite b k data) s = .next t ∧ t.reg (dwKey b.val k.val) = dwStored k.val data ∧
      sameRegs s t [dwKey b.val k.val] ∧ (∀ f, t.dwGet f = s.dwGet f) ∧
      (∀ f : Field, f.addr = dwKey b.val k.val →
        ({ t with tick := s.tick + 1 } : State).dwGet f = Machine.bits (dwStored k.val data) f.lo f.w) ∧
      (∀ (n : Nat) (a : Air), n < 16 → (s.txPort n).air = some a → a.grouped = false → a.trunc = none →
        ((∀ j, j < 8 → t.truncAt n j a = none) →
          (t.txPort n).air = some { a with trunc := none, outcome := 0, stop := a.full }) ∧
        ((∃ j, j < 8 ∧ t.truncAt n j a ≠ none) → ∃ c, (t.txPort n).air = some c ∧ c.outcome = 1 ∧ c.stop ≤ a.full ∧
          c.kind = a.kind)) ∧
      t = { s with regs := t.regs, tx := t.tx, mac.dwell := t.mac.dwell }) ∧
  (∀ (s : State) (n : Fin 16) (k : Fin 32) (data : Word), s.reaches 0 (a_PRT_MASK n.val k.val) →
    let others := (List.range 32).countP (fun j => j != k.val && s.flag (PRT_MASK_EN n.val j) && s.flag (PRT_MASK_FILT n.val j))
    let many := Machine.bits data 22 1 = 1 ∧ Machine.bits data 23 1 = 1 ∧ 16 ≤ others
    ∃ t : State, Machine.exec (.maskWrite n k data) s = .next t ∧
      t.get (PRT_MASK_LO n.val k.val) = Machine.bits data 0 11 ∧ t.get (PRT_MASK_HI n.val k.val) = Machine.bits data 11 11 ∧
      t.get (PRT_MASK_EN n.val k.val) = Machine.bits data 22 1 ∧
      (many → t.flag (PRT_MASK_FILT n.val k.val) = false ∧ t.flag (PRT_MASKSTAT_REFUSED n.val) = true) ∧
      (¬ many → t.get (PRT_MASK_FILT n.val k.val) = Machine.bits data 23 1 ∧
        t.get (PRT_MASKSTAT_REFUSED n.val) = s.get (PRT_MASKSTAT_REFUSED n.val)) ∧
      t.get (PRT_MASKSTAT_COUNT n.val) = (List.range (carrierCount (s.profile n.val))).countP
        (fun i => t.maskedOne n.val (firstCarrier (s.profile n.val) + i)) ∧
      changesOnly s t [] [a_PRT_MASK n.val k.val, a_PRT_MASKSTAT n.val]) ∧
  ∀ (s : State) (n : Fin 16),
    ∃ t : State, Machine.exec (.dwellDeferralExpiry n) s = .next t ∧ t = { s with tx := t.tx } ∧
      (∀ m, m ≠ n.val → t.txPort m = s.txPort m) ∧
      ∀ x, x ∈ (t.txPort n.val).again ↔ x ∈ (s.txPort n.val).again ∨
        ∃ e ∈ s.blv.frames, ∃ f rest, e.2 = f :: rest ∧ x = (e.1, f.id) ∧ f.deferred = true ∧ f.ready = false ∧
          f.awaiting = false ∧ f.notBefore ≤ s.tick ∧ s.queuePort e.1 = n.val

/-- For an enabled trip input with PD_PROT on. An edge to the active level of an input that is neither asserted nor
stuck, with no window open, asserts it: TIN shows it, source 32 + i fires with the state and the command, the
MAX_ASSERT window opens, and every present port of PORTS with transmission enabled has the command pending; a port
with no burst in progress and none chosen starts, in the next tick, its lowest pending new request. An edge to the
inactive level of an asserted input before its window ends deasserts it and changes no port. TRIP_STUCK acts once
the window is over: STUCK is set, source 80 + i fires with 1, and a port keeps only repeats that an asserted,
unstuck input sustains. TRIP_REARM once its window is over clears STUCK and fires source 80 + i with 0. Before the
windows end, neither changes anything. (R174, R175, R176, R181, Table 03-4) -/
def Obligations.TripInputsRequestBursts : Prop :=
  (∀ (s : State) (i : Fin 8) (high : Bool), s.domOn dProt = true → s.tEn i.val = true → high = !s.tPol i.val →
    (s.trip i.val).asserted = false → (s.trip i.val).maxEnd = none → (s.trip i.val).rearm = none → s.stuck i.val = false →
    ∃ t : State, Machine.exec (.tripInputEdge i high) s = .next t ∧ (t.trip i.val).asserted = true ∧
      bitN (t.get BUR_STAT_TIN) i.val = true ∧ fired s t (32 + i.val) (1 + 16 * s.tCmd i.val) ∧
      (t.trip i.val).maxEnd = some (s.tick + Machine.bits (s.burWord wTiming) 0 16 * tMs) ∧
      ∀ n, n < s.ports → bitN (s.tPorts i.val) n = true → pcTXEN (s.burPort n).txCfg = true →
        find (t.burPort n).fresh (s.tCmd i.val) ≠ none ∧
        ((s.burPort n).ended = true → (s.burPort n).chosen = none → ∃ b, (t.burPort n).chosen = some b ∧
          b.cmd ≤ s.tCmd i.val ∧ b.start = s.tick + 1 ∧ b.stop = b.start + burstTicks (pcPROF (s.burPort n).txCfg) ∧
          b.regen = false ∧ b.preempt = !pcPRIO (s.burPort n).txCfg)) ∧
  (∀ (s : State) (i : Fin 8) (high : Bool), s.domOn dProt = true → s.tEn i.val = true → high = s.tPol i.val →
    (s.trip i.val).asserted = true → (∀ e, (s.trip i.val).maxEnd = some e → s.tick < e) → (s.trip i.val).rearm = none →
    s.stuck i.val = false →
    ∃ t : State, Machine.exec (.tripInputEdge i high) s = .next t ∧ (t.trip i.val).asserted = false ∧
      (t.trip i.val).maxEnd = none ∧ bitN (t.get BUR_STAT_TIN) i.val = false ∧
      changes s t [(32 + i.val, 16 * s.tCmd i.val)] [a_BUR_STAT] ∧ t.bur.port = s.bur.port ∧
      t = { s with regs := t.regs, sq := t.sq, bur := t.bur }) ∧
  (∀ (s : State) (i : Fin 8) (e : Nat), s.domOn dProt = true → (s.trip i.val).maxEnd = some e → e ≤ s.tick →
    (s.trip i.val).asserted = true → (s.trip i.val).rearm = none → s.stuck i.val = false →
    ∃ t : State, Machine.exec (.tripStuck i) s = .next t ∧ t.stuck i.val = true ∧
      changes s t [(80 + i.val, 1)] [a_BUR_STAT] ∧
      (∀ n c, n < 16 → (c ∈ (t.burPort n).again.map Prod.fst ↔
        c ∈ (s.burPort n).again.map Prod.fst ∧ ∃ j, j < 8 ∧ t.sustains j n c = true)) ∧
      t = { s with regs := t.regs, sq := t.sq, bur := t.bur }) ∧
  (∀ (s : State) (i : Fin 8) (e : Nat), s.domOn dProt = true → (s.trip i.val).rearm = some e → e ≤ s.tick →
    s.stuck i.val = true →
    ∃ t : State, Machine.exec (.tripRearm i) s = .next t ∧ t.stuck i.val = false ∧ (t.trip i.val).rearm = none ∧
      changes s t [(80 + i.val, 0)] [a_BUR_STAT] ∧ t.bur.port = s.bur.port ∧
      t = { s with regs := t.regs, sq := t.sq, bur := t.bur }) ∧
  ∀ (s : State) (i : Fin 8), (∀ e, (s.trip i.val).maxEnd = some e → s.tick < e) →
    (∀ e, (s.trip i.val).rearm = some e → s.tick < e) →
    Machine.exec (.tripStuck i) s = .next s ∧ Machine.exec (.tripRearm i) s = .next s

/-- BURIN_BURST_START of a chosen burst whose tick has come, on a present port with PD_PROT on: the burst is in progress
for its duration, no request for its command is pending, BUR_TXCNT rises, source 64 + n fires with command, kind and
input or source port, a receiving port outside a joint group is BLANKED, the PGA takes TXGAIN where enabled, and
under PREEMPT a frame on the line of the port is cut with outcome BURIN_CUT. Before its tick nothing changes.
BURIN_BURST_END in its last tick ends it, gives the PGA its former code, brings the transmit values into force, and
chooses for the next tick the first pending new request, else the first regeneration, else the first pending repeat,
that of its own command among them while an input sustains it; with transmission disabled no request stays. (R136,
R175, R177, R178, R180, R193, Table 07-3) -/
def Obligations.BurstsAreSentAndFollowed : Prop :=
  (∀ (s : State) (n : Fin 16) (b : Burst), (s.burPort n.val).chosen = some b →
    (s.tick < b.start → Machine.exec (.burinBurstStart n) s = .next s) ∧
    (b.start ≤ s.tick → n.val < s.ports → s.domOn dProt = true →
      ∃ t : State, Machine.exec (.burinBurstStart n) s = .next t ∧
        (t.burPort n.val).cur = some { b with start := s.tick, stop := s.tick + burstTicks b.wide } ∧
        (t.burPort n.val).ended = false ∧ (t.burPort n.val).chosen = none ∧
        find (t.burPort n.val).fresh b.cmd = none ∧ find (t.burPort n.val).regen b.cmd = none ∧
        find (t.burPort n.val).again b.cmd = none ∧
        t.get (BUR_TXCNT_COUNT n.val) = satAdd 32 (s.get (BUR_TXCNT_COUNT n.val)) 1 ∧
        fired s t (64 + n.val) (b.cmd + 16 * b2n b.regen + 32 * b.source) ∧
        (s.rxOn n.val = true → s.joint n.val = false → t.rxState n.val = rBLANKED) ∧
        (Machine.bits (s.burPort n.val).txLvl 21 1 = 1 →
          t.get (PRT_AFE_ACT_GAIN n.val) = Machine.bits (s.burPort n.val).txLvl 14 7) ∧
        (∀ (m : Nat) (a : Air), s.airOf n.val = some (m, a) → b.preempt = true → m < s.ports → s.domOn (dPair m) = true →
          (t.txPort m).air = none ∧ fired s t (esPort m 5) 2) ∧
        (b.preempt = false → (t.txPort n.val).air = (s.txPort n.val).air))) ∧
  ∀ (s : State) (n : Fin 16) (b : Burst), (s.burPort n.val).cur = some b → (s.burPort n.val).ended = false →
    (s.burPort n.val).chosen = none → n.val < s.ports →
    (s.tick + 1 < b.stop → Machine.exec (.burinBurstEnd n) s = .next s) ∧
    (b.stop ≤ s.tick + 1 →
      let cfg := s.burGoal.getD (wPort n.val) 0
      ∃ t : State, Machine.exec (.burinBurstEnd n) s = .next t ∧ (t.burPort n.val).ended = true ∧
        (t.burPort n.val).txCfg = cfg ∧ t.sq = s.sq ∧
        (∀ g, (s.burPort n.val).gain = some g → t.get (PRT_AFE_ACT_GAIN n.val) = g % 128) ∧
        (pcTXEN cfg = false → (t.burPort n.val).chosen = none ∧ (t.burPort n.val).fresh = [] ∧
          (t.burPort n.val).regen = [] ∧ (t.burPort n.val).again = []) ∧
        (pcTXEN cfg = true →
          (∀ c i l, (s.burPort n.val).fresh = (c, i) :: l → ∃ x, (t.burPort n.val).chosen = some x ∧ x.cmd = c ∧
            x.source = i ∧ x.regen = false ∧ x.start = s.tick + 1) ∧
          (∀ c i l, (s.burPort n.val).fresh = [] → (s.burPort n.val).regen = (c, i) :: l →
            ∃ x, (t.burPort n.val).chosen = some x ∧ x.cmd = c ∧ x.source = i ∧ x.regen = true ∧ x.start = s.tick + 1) ∧
          ((s.burPort n.val).fresh = [] → (s.burPort n.val).regen = [] → (s.burPort n.val).again = [] →
            ((∃ i, i < 8 ∧ s.sustains i n.val b.cmd = true) → ∃ x, (t.burPort n.val).chosen = some x ∧ x.cmd = b.cmd ∧
              x.regen = false ∧ x.start = s.tick + 1) ∧
            ((∀ i, i < 8 → s.sustains i n.val b.cmd = false) → (t.burPort n.val).chosen = none)) ∧
          ∀ c, find (t.burPort n.val).again c ≠ none ↔ find (s.burPort n.val).again c ≠ none ∨
            (c = b.cmd ∧ ∃ i, i < 8 ∧ s.sustains i n.val c = true)))

/-- DETECTOR_HOP of a running detector keeps the two transforms; with ten hops before it, the triple of the former hop
becomes a candidate exactly when its metric is no less than that of the hop before and greater than that of this
one. A triple whose differences are those of command c with all three ratios at STH is accepted strictly as c,
whatever its common offset and whatever PTH is. BURIN_DECISION of the oldest due candidate: no code, and nothing but
the candidate list changes; a decision on a code not decided before fires source 48 + n and counts it as accepted or
refused; an accepted one with OUTEN asserts its output for OUT_HOLD and is pending as a regeneration on every other
present, enabled port of REGEN that has neither accepted nor started it lately. TRIP_OUT_HOLD_EXPIRY at the end of
the hold releases the output and fires source 40 + j; before, it does nothing. (R173, R183, R184, R185, R188, R189,
R190, Table 08-2) -/
def Obligations.DetectionsAreDecided : Prop :=
  (∀ (s : State) (n : Fin 16) (up down : Dechirp), s.detOn n.val = true →
    ∃ t : State, Machine.exec (.detectorHop n up down) s = .next t ∧ t = { s with bur.port := t.bur.port } ∧
      (∀ m, m ≠ n.val → t.burPort m = s.burPort m) ∧ (t.burPort n.val).hop = (s.burPort n.val).hop + 1 ∧
      (t.burPort n.val).wins = (up, down) :: (s.burPort n.val).wins.take 10 ∧
      ∀ v1 v2 v3 v4 v5 v6 v7 v8 v9 v10 l, (s.burPort n.val).wins = [v1, v2, v3, v4, v5, v6, v7, v8, v9, v10] ++ l →
        let before := v10.1.power + v6.2.power + v2.1.power
        let here := v9.1.power + v5.2.power + v1.1.power
        let after := v8.1.power + v4.2.power + up.power
        (before ≤ here ∧ after < here → ∃ x, (t.burPort n.val).cands = (s.burPort n.val).cands ++ [x] ∧
          x.s0 = v9.1 ∧ x.s1 = v5.2 ∧ x.s2 = v1.1) ∧
        (¬ (before ≤ here ∧ after < here) → (t.burPort n.val).cands = (s.burPort n.val).cands)) ∧
  (∀ (s : State) (x : BurCand) (c : Nat), c < 16 → 128 * Machine.bits (s.burWord wDet) 0 6 ≤ x.s0.q →
    128 * Machine.bits (s.burWord wDet) 0 6 ≤ x.s1.q → 128 * Machine.bits (s.burWord wDet) 0 6 ≤ x.s2.q →
    let n := burN8 (pcPROF x.cfg)
    let unit := if pcPROF x.cfg = true then 32 else 8
    (n - x.s1.bin % n) % n = (x.s0.bin + 3 * c * unit) % n → x.s2.bin % n = (x.s0.bin + 15 * c * unit) % n →
    s.burJudge x = some (c, 3, true)) ∧
  (∀ (s : State) (n : Fin 16) (x : BurCand) (rest : List BurCand), (s.burPort n.val).cands = x :: rest →
    x.due ≤ s.tick → s.detOn n.val = true → pcPROF (s.burWord (wPort n.val)) = pcPROF x.cfg →
    pcBASE (s.burWord (wPort n.val)) = pcBASE x.cfg →
    ∃ t : State, Machine.exec (.burinDecision n) s = .next t ∧
      match s.burJudge x with
      | none => t = s.setBurPort n.val { s.burPort n.val with cands := rest }
      | some (c, m, ok) => find (s.burPort n.val).decided c = none →
        find (t.burPort n.val).decided c = some x.hop ∧ (t.burPort n.val).cands = rest ∧
        fired s t (48 + n.val) (c + 16 * m + 64 * b2n ok) ∧
        t.get (BUR_PCNT_ACC n.val) = satAdd 16 (s.get (BUR_PCNT_ACC n.val)) (b2n ok) ∧
        t.get (BUR_PCNT_REF n.val) = satAdd 16 (s.get (BUR_PCNT_REF n.val)) (1 - b2n ok) ∧
        (ok = true → Machine.bits (s.burWord (wCmd c)) 1 1 = 1 →
          bitN (t.get BUR_STAT_TOUT) (Machine.bits (s.burWord (wCmd c)) 2 3) = true ∧
          s.tick + Machine.bits (s.burWord wTiming) 16 8 * tMs
            ≤ (look {} t.bur.outs (Machine.bits (s.burWord (wCmd c)) 2 3)).holdEnd) ∧
        (ok = true → ∀ m, m ≠ n.val → m < s.ports → bitN (Machine.bits (s.burWord (wCmd c)) 16 16) m = true →
          pcTXEN (s.burPort m).txCfg = true → s.burRecent m c = false → find (t.burPort m).regen c ≠ none) ∧
        (ok = false → t.bur.outs = s.bur.outs ∧ ∀ m, m ≠ n.val → t.burPort m = s.burPort m)) ∧
  ∀ (s : State) (j : Fin 8),
    let o := look {} s.bur.outs j.val
    (bitN (s.get BUR_STAT_TOUT) j.val = true → o.holdEnd ≤ s.tick → s.domOn dProt = true →
      ∃ t : State, Machine.exec (.tripOutHoldExpiry j) s = .next t ∧ bitN (t.get BUR_STAT_TOUT) j.val = false ∧
        changesOnly s t [(40 + j.val, 16 * o.cmd + 256 * o.port)] [a_BUR_STAT]) ∧
    (bitN (s.get BUR_STAT_TOUT) j.val = false ∨ s.tick < o.holdEnd → Machine.exec (.tripOutHoldExpiry j) s = .next s)

/-- A write of a Burin configuration register that reaches it is ignored once LOCK is set or for an absent port;
otherwise the register holds what its table says (MAX_ASSERT only 10 to 60,000, OUT_HOLD not 0, thresholds at least
0x10), no event fires, the values in force stay in this tick, and with the configured profile running a changed
register comes into force in the next tick. A write of BUR_CTL sets EN unless LOCK is set, and LOCK after it when
written 1. SAFE_PROFILE_SUCCESSOR_LOAD after READY loads a successor that is valid, whose tag verifies and whose VER
is no older, as source 2; with none, or another, nothing changes. (R192, R193, R194, R195, Table 08-9, Table 08-10) -/
def Obligations.BurinConfigurationIsGuarded : Prop :=
  (∀ (s : State) (r : BurReg) (data : Word), s.reaches 1 (burRegKey r - f1 0) →
    ((s.flag BUR_CTL_LOCK = true ∨ burRegAbsent r s.ports = true) → Machine.exec (.burinConfigWrite r data) s = .next s) ∧
    (s.flag BUR_CTL_LOCK = false → burRegAbsent r s.ports = false →
      ∃ t : State, Machine.exec (.burinConfigWrite r data) s = .next t ∧ t.sq = s.sq ∧ t.bur.words = s.bur.words ∧
        t.reg (burRegKey r) = burRegStored r (s.reg (burRegKey r)) data ∧
        (r = .timing → t.get BUR_TIMING_MAX_ASSERT =
            (if 10 ≤ Machine.bits data 0 16 ∧ Machine.bits data 0 16 ≤ 60000 then Machine.bits data 0 16
            else s.get BUR_TIMING_MAX_ASSERT) ∧
          t.get BUR_TIMING_OUT_HOLD =
            (if Machine.bits data 16 8 = 0 then s.get BUR_TIMING_OUT_HOLD else Machine.bits data 16 8)) ∧
        (r = .detcfg → t.get BUR_DETCFG_STH = max 16 (Machine.bits data 0 6) ∧
          t.get BUR_DETCFG_PTH = max 16 (Machine.bits data 6 6)) ∧
        (∀ a, a ≠ burRegKey r → a ≠ a_BUR_CTL → (∀ n, n < 16 → a ≠ a_PRT_LDCTL n) → t.reg a = s.reg a) ∧
        (s.flag BUR_CTL_EN = true → s.mode ≠ mSafe → s.flag BUR_CTL_PROT_FAULT = false → 4 ≤ s.boot.step →
          s.bur.next = none → s.get BUR_CTL_ACT = 3 → s.bur.words = s.burConfigured →
          t.reg (burRegKey r) ≠ s.reg (burRegKey r) → t.bur.next = some (s.tick + 1, 3, t.burConfigured)) ∧
        t = { s with regs := t.regs, tx := t.tx, bur := t.bur })) ∧
  (∀ (s : State) (en : Bool), s.reaches 1 (a_BUR_CTL - f1 0) →
    (s.flag BUR_CTL_LOCK = true → Machine.exec (.burinEnWrite en) s = .next s ∧
      ∃ t : State, Machine.exec (.burinLock en) s = .next t ∧ t.reg a_BUR_CTL = s.reg a_BUR_CTL) ∧
    (s.flag BUR_CTL_LOCK = false →
      (∃ t : State, Machine.exec (.burinEnWrite en) s = .next t ∧ t.flag BUR_CTL_EN = en ∧ t.flag BUR_CTL_LOCK = false ∧
        t.sq = s.sq ∧ t.bur.words = s.bur.words) ∧
      ∃ t : State, Machine.exec (.burinLock en) s = .next t ∧ t.flag BUR_CTL_EN = en ∧ t.flag BUR_CTL_LOCK = true ∧
        t.sq = s.sq ∧ t.bur.words = s.bur.words)) ∧
  ∀ s : State, s.flag SYS_MODESTAT_READY = true → s.domOn dProt = true →
    (s.successorAt = none → Machine.exec .safeProfileSuccessorLoad s = .next s) ∧
    ∀ a, s.successorAt = some a →
      let rec_ := s.flashBytes a 240
      (s.successorOk rec_ (s.flashBytes (a + 240) 16) = false → Machine.exec .safeProfileSuccessorLoad s = .next s) ∧
      (s.successorOk rec_ (s.flashBytes (a + 240) 16) = true →
        ∃ t : State, Machine.exec .safeProfileSuccessorLoad s = .next t ∧ t.bur.safe = bytesWords rec_ 60 ∧
          t.get BUR_SAFEINFO_SRC = 2 ∧ t.get BUR_SAFEINFO_VER = safeVer (bytesWords rec_ 60) ∧ t.sq = s.sq)

/-- A coordinator's next superframe is due at the tick of s_j + p_hat + the deviation of the valid crossing of REF
decided in its first half, limited to MAXSTEP and a tenth of p_hat, or of s_j + p_hat without one. SUPERFRAME_START
before it is due changes nothing; when due it begins the superframe in this tick with slot 0, source 182 fires with
0, SYNC_OUT rises with source 191 where TIM_SYNCCFG.SRC is 2, FLY is set and LOCK cleared where the former one had
no valid crossing, and SFN counts on; for a coordinator source 183 fires and a beacon period begins with its first
superframe and every BP + 1 from then. SLOT_BOUNDARY enters the next of slots 1 to 5 once i p_hat / 6 is past.
BEACON_LAUNCH in the launch tick sends this device's beacon and counts it, or, where it may not be sent, counts it
as skipped and changes nothing else. (R197, R198, R199, R200, R202, R203, R370, Table 07-3) -/
def Obligations.SuperframesFollowTheMains : Prop :=
  (∀ (s : State) (a : Nat), s.mode = mCoordinator → s.mac.start = some a →
    let step : Int := min (s.get MAC_SFCFG_MAXSTEP * tUs * 65536) (s.mac.pHat / 10)
    let base : Int := a * 65536 + s.mac.pHat
    (∀ t0 : Nat, s.sfCross a = some (t0, true) →
      s.sfDue = decide ((base + max (-step) (min step ((t0 : Int) - a * 65536))) / 65536 ≤ (s.tick : Int))) ∧
    ((s.sfCross a = none ∨ ∃ t0, s.sfCross a = some (t0, false)) →
      s.sfDue = decide (base / 65536 ≤ (s.tick : Int)))) ∧
  (∀ s : State, s.sfDue = false → Machine.exec .superframeStart s = .next s) ∧
  (∀ s : State, s.sfDue = true → s.domOn dMac = true → s.mac.rejoin = 0 →
    ∃ t : State, Machine.exec .superframeStart s = .next t ∧ t.mac.start = some s.tick ∧ t.get MAC_SFSTAT_SLOT = 0 ∧
      fired s t 182 0 ∧ t.mac.pHat = s.sfPeriod ∧
      (s.get TIM_SYNCCFG_SRC = 2 → s.domOn dFab = true → s.domOn dAon = true →
        fired s t 191 0 ∧ t.time.syncFall = s.tick + 8) ∧
      (∀ a, s.mac.start = some a → s.deviation a = none →
        t.flag MAC_SFSTAT_FLY = true ∧ t.flag MAC_SFSTAT_LOCK = false) ∧
      (s.mode = mCoordinator → s.mac.ref = none →
        let sfn := if s.mac.start = none then s.time.cyc % 2 ^ 32 else (s.get MAC_SFN_SFN + 1) % 2 ^ 32
        let begins := s.mac.start = none ∨ s.get MAC_SFCFG_BP + 1 ≤ (sfn + 2 ^ 32 - s.mac.periodSf) % 2 ^ 32
        t.get MAC_SFN_SFN = sfn ∧
        (begins → fired s t 183 ((s.get MAC_SFCFG_BP + 1) % 16) ∧ t.mac.period = s.mac.period + 1 ∧
          t.mac.periodStart = s.tick ∧ t.mac.periodSf = sfn) ∧
        (¬ begins → t.mac.period = s.mac.period ∧ find t.sq.staged 183 = find s.sq.staged 183))) ∧
  (∀ (s : State) (a i : Nat), s.mac.start = some a → s.keepsFrame = true → s.domOn dMac = true →
    s.get MAC_SFSTAT_SLOT = i →
    (i < 5 → a + (i + 1) * s.mac.pHat / 6 / 65536 ≤ s.tick →
      ∃ t : State, Machine.exec .slotBoundary s = .next t ∧ t.get MAC_SFSTAT_SLOT = i + 1 ∧
        changesOnly s t [(182, i + 1)] [a_MAC_SFSTAT]) ∧
    (5 ≤ i ∨ s.tick < a + (i + 1) * s.mac.pHat / 6 / 65536 → Machine.exec .slotBoundary s = .next s)) ∧
  ∀ (s : State) (n : Fin 16),
    let m := s.beaconMap n.val
    let b := s.beaconOf n.val m
    let dur := s.durOf n.val false (44 + 8 * b.table.length) m
    let r := s.rangeOf n.val false m
    let due := s.beacons = true ∧ n.val < s.ports ∧ bitN (s.get MAC_BCNCFG_PORTS) n.val = true ∧
      (s.profile n.val = pfBB ∨ s.profile n.val = pfHV ∨ s.profile n.val = pfCen) ∧ s.mac.start ≠ none ∧
      s.beaconTick = s.tick
    let can := (m.swk ≠ 0 ∨ buildable (s.profile n.val) (s.openCarriers n.val false).length m = true) ∧
      s.lineFree n.val = true ∧ s.ldPlanned n.val = true ∧ (s.dwellCheck n.val r.1 r.2 s.tick dur).1 = .pass
    (¬ due → Machine.exec (.beaconLaunch n) s = .next s) ∧
    (due → s.domOn (dPair n.val) = true → ∃ t : State, Machine.exec (.beaconLaunch n) s = .next t ∧
      (can → (∃ a : Air, (t.txPort n.val).air = some a ∧ a.kind = .beacon b ∧ a.start = s.tick ∧ a.full = s.tick + dur ∧
        (s.dwFresh = false → a.stop = s.tick + dur)) ∧
        b.sender = s.ownAddr ∧ (s.mode = mCoordinator → b.hop = 0 ∧ b.island = false ∧ b.sfn = s.mac.periodSf ∧
          b.joinOpen = s.flag MAC_DOMAIN_JOIN_OPEN ∧ b.domain = s.get MAC_DOMAIN_DOMAIN) ∧
        t.get MAC_BCNCNT_SENT = satAdd 16 (s.get MAC_BCNCNT_SENT) 1 ∧ fired s t (esPort n.val 4) (macLaunchData m)) ∧
      (¬ can → t.get MAC_BCNCNT_SKIP = satAdd 16 (s.get MAC_BCNCNT_SKIP) 1 ∧ changesOnly s t [] [a_MAC_BCNCNT]))

/-- A COMMIT that reaches its register during a countdown, outside COORDINATOR and ISLAND, or with a bad entry in the
shadow, changes no table and sets REFUSED, with the first entry that causes the refusal in BADENTRY; any other takes
the shadow as the next generation to come, to be carried from the next beacon period on (a beacon of this one still
carries the table in force), shows CDOWN 3 and clears REFUSED. A write of MAC_SFCFG, MAC_BCNCFG, MAC_BCNCFG2,
MAC_DOMAIN, MAC_CSMA, MAC_JOIN or MAC_PRESENCE in STANDBY changes that register alone (zero or reserved values
leaving their fields); outside it changes no register but JOIN_OPEN of MAC_DOMAIN, and sets MAC_SFSTAT.REFUSED
unless it is a write of MAC_DOMAIN with DOMAIN as it is. (R207, R220, R426, Table 09-4, Table 09-10, Table 09-11) -/
def Obligations.AllocationsAndMacWritesAreJudged : Prop :=
  (∀ s : State, s.reaches 0 a_MAC_ALLOCCTL →
    let bad := s.mac.coming ≠ none ∨ (s.mode ≠ mCoordinator ∧ s.mode ≠ mIsland) ∨ s.badEntry ≠ none
    ∃ t : State, Machine.exec .allocCommit s = .next t ∧ changes s t [] [a_MAC_ALLOCCTL] ∧
      t.get MAC_ALLOCCTL_TGEN = s.get MAC_ALLOCCTL_TGEN ∧ t.mac.inForce = s.mac.inForce ∧
      (bad → t.flag MAC_ALLOCCTL_REFUSED = true ∧ t.mac = s.mac ∧
        ∀ k, s.badEntry = some k → k < 64 ∧ t.get MAC_ALLOCCTL_BADENTRY = k) ∧
      (¬ bad → t.flag MAC_ALLOCCTL_REFUSED = false ∧ t.get MAC_ALLOCCTL_CDOWN = 3 ∧
        t.mac.tgen = (s.mac.tgen + 1) % 256 ∧
        t.carriedNow = (0, s.get MAC_ALLOCCTL_TGEN, s.mac.inForce) ∧
        ∃ l, t.mac.coming = some (4, l) ∧ ∀ e, e ∈ l ↔ ∃ k, k < 64 ∧ s.shadow k = some e)) ∧
  ∀ (s : State) (r : MacReg) (w : Word), s.reaches 0 (macKey r) →
    ∃ t : State, Machine.exec (.macConfigWrite r w) s = .next t ∧
      (s.mode = mStandby → s.busy = false → changesOnly s t [] [macKey r] ∧
        (r = .sfcfg → t.get MAC_SFCFG_FOLLOW = Machine.bits w 0 1 ∧ t.get MAC_SFCFG_BP = Machine.bits w 1 4 ∧
          t.get MAC_SFCFG_BOFS = Machine.bits w 5 10 ∧ t.get MAC_SFCFG_ISLAND_EN = Machine.bits w 25 1 ∧
          t.get MAC_SFCFG_MAXSTEP =
            (if Machine.bits w 15 10 = 0 then s.get MAC_SFCFG_MAXSTEP else Machine.bits w 15 10)) ∧
        (r = .join → t.get MAC_JOIN_KMODE = Machine.bits w 0 3 ∧ t.get MAC_JOIN_KRETRY = Machine.bits w 4 4 ∧
          t.get MAC_JOIN_KTO = (if Machine.bits w 8 4 = 0 then s.get MAC_JOIN_KTO else Machine.bits w 8 4)) ∧
        (r = .domain → t.get MAC_DOMAIN_DOMAIN = Machine.bits w 0 24 ∧
          t.get MAC_DOMAIN_JOIN_OPEN = Machine.bits w 24 1)) ∧
      (¬ (s.mode = mStandby ∧ s.busy = false) →
        (r ≠ .domain → changes s t [] [a_MAC_SFSTAT] ∧ t.flag MAC_SFSTAT_REFUSED = true) ∧
        (r = .domain → changes s t [] [a_MAC_DOMAIN, a_MAC_SFSTAT] ∧
          t.get MAC_DOMAIN_DOMAIN = s.get MAC_DOMAIN_DOMAIN ∧ t.get MAC_DOMAIN_JOIN_OPEN = Machine.bits w 24 1 ∧
          (Machine.bits w 0 24 ≠ s.get MAC_DOMAIN_DOMAIN → t.flag MAC_SFSTAT_REFUSED = true) ∧
          (Machine.bits w 0 24 = s.get MAC_DOMAIN_DOMAIN → t.reg a_MAC_SFSTAT = s.reg a_MAC_SFSTAT)))

/-- For a MEMBER or REPEATER with its MAC's domain on. BEACON_WINDOW_OPEN of an attached device opens the window due in
this tick and fires source 184. BEACON_WINDOW_CLOSE at its end fires source 185; without the parent's beacon and
with no frame of the window left, the miss is counted and source 187 fires with the count, and the third in a row
begins orphan scan and TB1 holdover. A good beacon of the parent in the window fires source 186, clears the misses,
is counted, and its port, HOP and table are taken: in force at once under CDOWN 0, else to come. One from another
sender changes nothing but the packet read. An orphan adopts the sender of a good beacon of its domain (a repeater,
of no island) as parent and is attached again, to use its table from the next period on. The miss due in orphan scan
is decided after the tick's beacons; at 11 a repeater with ISLAND_EN becomes an island. (R204, R205, R206, R216,
R217, R218, R220) -/
def Obligations.BeaconsAreWindowedAndTaken : Prop :=
  (∀ (s : State) (w : Nat × Nat), s.isChild = true → s.sfState = sfATTACHED → s.mac.start ≠ none →
    s.mac.winOpen = false → s.windowDue = some w → s.domOn dMac = true →
    ∃ t : State, Machine.exec .beaconWindowOpen s = .next t ∧ changes s t [(184, 0)] [] ∧ t.mac.winOpen = true ∧
      t.mac.winHit = false ∧ t.mac.winStart = w.1 ∧ t.mac.winEnd = w.2) ∧
  (∀ s : State, s.mac.winOpen = true → s.mac.winEnd ≤ s.tick → s.domOn dMac = true →
    ∃ t : State, Machine.exec .beaconWindowClose s = .next t ∧ t.mac.winOpen = false ∧ fired s t 185 0 ∧
      ((s.mac.winHit = true ∨ s.sfState ≠ sfATTACHED) → changes s t [(185, 0)] []) ∧
      (s.mac.winHit = false → s.sfState = sfATTACHED → s.windowBusy = true →
        changes s t [(185, 0)] [] ∧ t.mac.winPend = true) ∧
      (s.mac.winHit = false → s.sfState = sfATTACHED → s.windowBusy = false →
        let m := min (s.get MAC_SFSTAT_MISS + 1) 15
        t.get MAC_SFSTAT_MISS = m ∧ fired s t 187 m ∧
        t.get MAC_BCNRX_MISSED = satAdd 16 (s.get MAC_BCNRX_MISSED) 1 ∧
        (m = 3 → t.sfState = sfORPHAN ∧ t.tbHold 1 = true ∧ (s.tbHold 1 = false → s.domOn dAon = true → fired s t 189 3)) ∧
        (m ≠ 3 → t.sfState = sfATTACHED))) ∧
  (∀ (s : State) (n : Fin 16) (f : RxFrame) (b : Beacon), s.rxFront n.val = some f → f.phy = 2 →
    parseBeacon f.payload = some b → s.isChild = true → s.mac.winPend = false → s.domOn dMac = true →
    bitN (s.get MAC_BCNCFG_PORTS) n.val = true → b.domain = s.get MAC_DOMAIN_DOMAIN →
    ∃ t : State, Machine.exec (.beaconReceived n) s = .next t ∧
      (s.sfState = sfATTACHED → b.sender ≠ s.parent → t = (s.arcRead (2 * n.val)).heard f.lfc.src) ∧
      (s.sfState = sfATTACHED → b.sender = s.parent → s.mac.winOpen = true → s.mac.winStart ≤ f.tdet →
        f.tdet < s.mac.winEnd →
        t.mac.winHit = true ∧ fired s t 186 n.val ∧ t.get MAC_SFSTAT_MISS = 0 ∧
        t.get MAC_BCNRX_RX = satAdd 16 (s.get MAC_BCNRX_RX) 1 ∧ t.get MAC_SFSTAT_PPORT = n.val ∧
        t.get MAC_PARENT_HOP = b.hop ∧ t.mac.beacon = some b ∧
        t.arcOf (2 * n.val) = (s.arcRead (2 * n.val)).arcOf (2 * n.val) ∧
        (b.cdown = 0 → t.mac.inForce = b.table ∧ t.mac.holdsTable = true ∧ t.get MAC_ALLOCCTL_TGEN = b.tgen) ∧
        (b.cdown ≠ 0 → t.mac.coming = some (b.cdown, b.table) ∧ t.mac.inForce = s.mac.inForce)) ∧
      (s.sfState = sfORPHAN → ¬ (s.mode = mRepeater ∧ b.island = true) →
        t.sfState = sfATTACHED ∧ t.parent = b.sender ∧ t.get MAC_SFSTAT_MISS = 0 ∧ fired s t 186 n.val ∧
        t.mac.beacon = some b ∧ t.mac.holdsTable = false ∧ t.mac.tableNext = (b.cdown == 0) ∧
        (b.cdown = 0 → t.mac.inForce = b.table ∧ t.mac.coming = none) ∧
        (b.cdown ≠ 0 → t.mac.inForce = s.mac.inForce ∧ t.mac.coming = some (b.cdown, b.table)))) ∧
  ∀ s : State, s.mac.winOpen = false → s.mac.winPend = true → s.sfState = sfORPHAN → s.domOn dMac = true →
    s.domOn dAon = true →
    let m := min (s.get MAC_SFSTAT_MISS + 1) 15
    ∃ t : State, Machine.exec .beaconWindowClose s = .next t ∧ t.mac.winPend = false ∧ t.get MAC_SFSTAT_MISS = m ∧
      fired s t 187 m ∧
      (s.mode = mRepeater → s.flag MAC_SFCFG_ISLAND_EN = true → m = 11 →
        t.mode = mIsland ∧ t.sfState = sfISLAND ∧ fired s t 457 mIsland) ∧
      (¬ (s.mode = mRepeater ∧ s.flag MAC_SFCFG_ISLAND_EN = true ∧ m = 11) → t.mode = s.mode ∧ t.sfState = sfORPHAN)

/-- For the frame at the front of a port's transmit instance that waits to launch. PRIORITY_SLOT once the medium was
idle for ifs: a frame of level 0 or 1 that hears a priority symbol defers to the next opportunity, any other goes on
to the second slot; there one of even level that hears a symbol defers, any other draws its backoff below 2^cw
unless it has one and begins it, a backoff of 0 being granted at once. An idle BACKOFF_SLOT counts the backoff down
and grants the launch at 0; one that is not idle keeps it and ends the opportunity. KNOCK_TIMEOUT after KTO periods
repeats the knock up to KRETRY times, else the join fails and scanning resumes. KEEPALIVE_DUE sends a keep-alive to
the parent once KA_INT periods passed without a frame to it. PARTNER_ABSENT marks a present child not heard within
its limit absent, in its session too. (R210, R211, R215, R238, Table 09-2) -/
def Obligations.ContentionAndPresenceAreTimed : Prop :=
  (∀ (s : State) (n : Fin 16) (heard : Bool) (q : Nat) (f : TxFrame), s.contender n.val = some (q, f) →
    s.txMode = true → s.orphan = false → s.profile n.val ≠ pfG3 →
    let l := csmaLevel f.cls
    let deferred : Csma := { busyUntil := s.tick + slotLen (s.profile n.val) }
    ∃ t : State, Machine.exec (.prioritySlot n heard) s = .next t ∧ t.sq = s.sq ∧
      ((s.csmaOf n.val).prs = none → s.idleIfs n.val = true → s.fits n.val q f = true →
        (l < 2 ∧ heard = true → t.csmaOf n.val = deferred) ∧
        (¬ (l < 2 ∧ heard = true) → (t.csmaOf n.val).prs = some 1 ∧ t.frameOf q f.id = s.frameOf q f.id)) ∧
      ((s.csmaOf n.val).prs = none → (s.idleIfs n.val = false ∨ s.fits n.val q f = false) → t = s) ∧
      ((s.csmaOf n.val).prs = some 1 →
        (l % 2 = 0 ∧ heard = true → t.csmaOf n.val = deferred) ∧
        (¬ (l % 2 = 0 ∧ heard = true) → ∃ b, t.frameOf q f.id = some { f with bo := some b } ∧
          (t.csmaOf n.val).prs = some 2 ∧ (t.csmaOf n.val).grant = (if b = 0 then some s.tick else none) ∧
          (∀ b0, f.bo = some b0 → b = b0) ∧ (f.bo = none → b < 2 ^ f.cw.getD (s.get (cwMin l)))))) ∧
  (∀ (s : State) (n : Fin 16) (idle : Bool) (q b : Nat) (f : TxFrame), s.contender n.val = some (q, f) →
    (s.csmaOf n.val).prs = some 2 → f.bo = some b →
    ∃ t : State, Machine.exec (.backoffSlot n idle) s = .next t ∧ t.regs = s.regs ∧ t.sq = s.sq ∧
      (idle = true → t.frameOf q f.id = some { f with bo := some (b - 1) } ∧
        (t.csmaOf n.val).grant = (if b ≤ 1 then some s.tick else (s.csmaOf n.val).grant)) ∧
      (idle = false → t.frameOf q f.id = s.frameOf q f.id ∧ (t.csmaOf n.val).prs = none ∧ (t.csmaOf n.val).grant = none)) ∧
  (∀ (s : State) (k : Knocking), s.mac.knock = some k →
    ((s.sfState ≠ sfJOINING ∨ k.periods < s.get MAC_JOIN_KTO) → Machine.exec .knockTimeout s = .next s) ∧
    (s.sfState = sfJOINING → s.get MAC_JOIN_KTO ≤ k.periods →
      ∃ t : State, Machine.exec .knockTimeout s = .next t ∧
        (k.tries < s.get MAC_JOIN_KRETRY → t.mac.knock = some ⟨k.knockId, k.tries + 1, 0⟩ ∧ t.sfState = sfJOINING ∧
          (s.admitsCells 0 1 = true → ∃ g : TxFrame, t.framesOf (ctrlQueue (s.get MAC_SFSTAT_PPORT)) =
            s.framesOf (ctrlQueue (s.get MAC_SFSTAT_PPORT)) ++ [g] ∧ g.lfc.ftype = 3 ∧ g.lfc.dst = s.parent ∧
            g.body.length = 16)) ∧
        (s.get MAC_JOIN_KRETRY ≤ k.tries → t.mac.knock = none ∧ t.sfState = sfSCAN ∧ t.parent = addrNone))) ∧
  (∀ s : State,
    let due := s.isChild = true ∧ s.sfState = sfATTACHED ∧
      look s.mac.entry s.mac.sentTo s.parent + s.get MAC_PRESENCE_KA_INT * s.periodTicks ≤ s.tick
    (¬ due → Machine.exec .keepaliveDue s = .next s) ∧
    (due → ∃ t : State, Machine.exec .keepaliveDue s = .next t ∧ look 0 t.mac.sentTo s.parent = s.tick ∧
      (s.admitsCells 0 1 = true → ∃ g : TxFrame, t.framesOf (ctrlQueue (s.get MAC_SFSTAT_PPORT)) =
        s.framesOf (ctrlQueue (s.get MAC_SFSTAT_PPORT)) ++ [g] ∧ g.lfc.ftype = 2 ∧ g.lfc.ackreq = true ∧
        g.lfc.dst = s.parent ∧ g.body = [1]))) ∧
  ∀ (s : State) (addr : BitVec 25),
    let v := s.dirOf addr.toNat
    let due := sub v dSTATE = 1 ∧ sub v dDIRECT = 1 ∧ s.dirIndex addr.toNat ≠ 0 ∧ addr.toNat ≠ s.parent ∧
      s.dirUsable addr.toNat = true ∧ s.lost addr.toNat = true
    (¬ due → Machine.exec (.partnerAbsent addr) s = .next s) ∧
    (due → ∃ t : State, Machine.exec (.partnerAbsent addr) s = .next t ∧ sub (t.dirOf addr.toNat) dSTATE = 2 ∧
      (sub v dSESSION ≠ 0 → sub (t.ses (sub v dSESSION)) sNABSENT = 1) ∧ t.blv.frames = s.blv.frames)

/-- KNOCK_RECEIVED at a coordinator reads the knock addressed to it. With JOIN_OPEN clear nothing else happens; for its
domain, an EUI-64 already outstanding is answered PENDING, one beyond JOINMAX is counted as ignored, any other
becomes an outstanding request with its EUI-64, KNOCKID, capability, port and SNR. KNOCKFWD_RECEIVED treats the
knock a repeater relays as one from that repeater. A joining device takes the answers for its own EUI-64: ADMIT
gives it its address, its parent and STATE ATTACHED and sends a keep-alive; PENDING begins the wait anew; REJECT
ends the attempt, and scanning resumes. AUTH_FRAME_RECEIVED outside a repeater takes cells and hands the payload to
the host as a frame of session 0. (R211, R212, R213, R214, R230, R231, R254, R294) -/
def Obligations.JoiningIsAnsweredAndAdmitted : Prop :=
  (∀ (s : State) (n : Fin 16) (f : RxFrame), s.rxFront n.val = some f → f.phy ≤ 1 → f.lfc.ftype = 3 →
    f.lfc.dst = s.ownAddr → 16 ≤ f.payload.length → s.mode = mCoordinator →
    let eui := leNat (f.payload.take 8)
    let dom := leNat ((f.payload.drop 8).take 3)
    let t0 := (s.arcRead (2 * n.val)).heard f.lfc.src
    ∃ t : State, Machine.exec (.knockReceived n) s = .next t ∧
      (s.flag MAC_DOMAIN_JOIN_OPEN = false ∨ dom ≠ s.get MAC_DOMAIN_DOMAIN → t = t0) ∧
      (s.flag MAC_DOMAIN_JOIN_OPEN = true → dom = s.get MAC_DOMAIN_DOMAIN →
        ((∃ j ∈ s.hif.joins, j.eui = eui) → t.hif.joins = s.hif.joins ∧
          (s.admitsCells 0 1 = true → ∃ g : TxFrame, t.framesOf (ctrlQueue n.val) = s.framesOf (ctrlQueue n.val) ++ [g] ∧
            g.lfc.ftype = 2 ∧ g.lfc.ackreq = false ∧ g.lfc.dst = addrNone ∧ g.body = 4 :: leBytes 8 eui)) ∧
        ((∀ j ∈ s.hif.joins, j.eui ≠ eui) → s.joinMax ≤ s.hif.joins.length →
          t = { t0 with mac.ignored := s.mac.ignored + 1 }) ∧
        ((∀ j ∈ s.hif.joins, j.eui ≠ eui) → s.hif.joins.length < s.joinMax → t.hif.joins = s.hif.joins ++
          [{ eui := eui, knockId := leNat ((f.payload.drop 12).take 4), cap := leNat ((f.payload.drop 11).take 1), port := n.val, snr := f.snr.toNat, via := 0, hop := 1 }]))) ∧
  (∀ (s : State) (n : Fin 16) (f : RxFrame), s.rxFront n.val = some f → isCtrl 6 f = true →
    f.lfc.dst = s.ownAddr → s.mode = mCoordinator → s.flag MAC_DOMAIN_JOIN_OPEN = true → f.payload.length = 19 →
    s.dirUsable f.lfc.src = true → (s.judgeSeq f.lfc.src f.lfc.seq).1 = .fresh →
    leNat ((f.payload.drop 9).take 3) = s.get MAC_DOMAIN_DOMAIN →
    (∀ j ∈ s.hif.joins, j.eui ≠ leNat ((f.payload.drop 1).take 8)) → s.hif.joins.length < s.joinMax →
    ∃ t : State, Machine.exec (.knockfwdReceived n) s = .next t ∧ ∃ r : JoinReq, t.hif.joins = s.hif.joins ++ [r] ∧
      r.eui = leNat ((f.payload.drop 1).take 8) ∧ r.via = f.lfc.src ∧ r.snr = leNat (f.payload.drop 18)) ∧
  (∀ (s : State) (n : Fin 16) (f : RxFrame) (k : Knocking), s.rxFront n.val = some f → s.mac.knock = some k →
    s.isChild = true → s.sfState = sfJOINING → leNat ((f.payload.drop 1).take 8) = sub (s.dirEnt 0) dEUI →
    (isCtrl 3 f = true →
      let a := parseAdmit (f.payload.drop 9)
      a.parent ≠ a.addr →
      ∃ t : State, Machine.exec (.admitReceived n) s = .next t ∧ t.sfState = sfATTACHED ∧ t.mac.knock = none ∧
        t.parent = a.parent ∧ t.get MAC_PARENT_HOP = a.hop ∧ sub (t.dirEnt 0) dADDR2 = a.addr ∧
        (s.mode = mRepeater → t.get MAC_SFSTAT_BIDX = a.bidx) ∧
        (a.kaInt ≠ 0 → t.get MAC_PRESENCE_KA_INT = a.kaInt) ∧
        (s.admitsCells 0 1 = true → ∃ g : TxFrame, t.framesOf (ctrlQueue (s.get MAC_SFSTAT_PPORT)) =
          s.framesOf (ctrlQueue (s.get MAC_SFSTAT_PPORT)) ++ [g] ∧ g.body = [1] ∧ g.lfc.dst = a.parent)) ∧
    (isCtrl 4 f = true → ∃ t : State, Machine.exec (.pendingReceived n) s = .next t ∧
      t = { (s.arcRead (2 * n.val)).heard f.lfc.src with mac.knock := some { k with periods := 0 } }) ∧
    (isCtrl 5 f = true → ∃ t : State, Machine.exec (.rejectReceived n) s = .next t ∧ t.mac.knock = none ∧
      t.sfState = sfSCAN ∧ t.parent = addrNone)) ∧
  ∀ (s : State) (n : Fin 16) (f : RxFrame), s.rxFront n.val = some f → f.phy ≤ 1 → f.lfc.ftype = 4 →
    s.mode ≠ mRepeater →
    ∃ t : State, Machine.exec (.authFrameReceived n) s = .next t ∧
      (s.admitsCells 0 (cellsOf f.payload.length) = true →
        t.blv.led.free = s.blv.led.free - cellsOf f.payload.length ∧
        t.blv.led.rx = s.blv.led.rx + cellsOf f.payload.length ∧
        ∃ d : Delivery, t.hif.deliveries = s.hif.deliveries ++ [d] ∧ d.body = f.payload ∧ d.cls = 0 ∧ d.session = 0 ∧
          d.since = s.tick) ∧
      (s.admitsCells 0 (cellsOf f.payload.length) = false → s.blv.rebuilding = false →
        t.hif.deliveries = s.hif.deliveries ∧ t.get BLV_NOCELL_RX = satAdd 16 (s.get BLV_NOCELL_RX) 1)

/-- DATA_FRAME_RECEIVED of a usable unicast frame of session k with cells to spare takes its cells. A counter at or
below H - 128 is dropped, counted and source 150 fires; one at or below H whose bit of V is set is acknowledged with
DUP = 1 and counted; one in P is dropped and counted; with P full it is refused and counted: none of these is
delivered or changes the session. Any other is acknowledged with DUP = 0: a secured one enters P and waits for its
tag, an unsecured one is verified and, addressed to this device, delivered. TAG_VERIFIED takes the counter out of P;
at or below H - 128 by then the frame is dropped and counted; else H and V move on, and the plaintext is delivered,
or relayed on the relay queue of the next hop's session with HOPLEFT less one, or with HOPLEFT 0 dropped and
counted. AUTH_FAIL takes the counter out of P, fires source 149 with the session, counts, and delivers nothing but,
under CT = 1, zeros marked as failed. (R223, R227, R228, R232, R233, R331) -/
def Obligations.DataFramesAreJudgedOnce : Prop :=
  (∀ (s : State) (n : Fin 16) (f : RxFrame) (k : Nat), s.rxFront n.val = some f → isData f = true →
    f.lfc.dst = s.ownAddr → s.ownAddr ≠ addrAll → s.dirUsable f.lfc.src = true → s.sesFrom f.lfc.src = some k →
    s.sQuar k = false → (f.lfc.sec = true → f.lfc.fcnt ≠ 0 ∧ s.isT = false) → s.relayOut f.id = none →
    s.admitsCells f.lfc.tclass (cellsOf f.bodyLen) = true → s.domOn dAon = true → f.lfc.fcnt < 2 ^ 32 →
    let x := f.lfc.fcnt
    let v := s.ses k
    let h := sub v sH
    let seen := x ≤ h ∧ bitN (sub v sV) (h - x) = true
    let inP := inPending v x = true
    let l := fun (dup : Bool) => ({ ftype := 1, dup := dup, src := f.lfc.dst, dst := f.lfc.src, seq := f.lfc.seq, esrc := f.lfc.dst, edst := f.lfc.src } : Lfc)
    let plan := fun dup => if f.lfc.ackreq then some (⟨l dup, f.endTick, f.swk, false⟩ : AckPlan) else (s.txPort n.val).ack
    ∃ t : State, Machine.exec (.dataFrameReceived n) s = .next t ∧
      t.blv.led.free = s.blv.led.free - cellsOf f.bodyLen ∧
      (x + 128 ≤ h → changes s t [(150, k)] [a_MAC_OLDCNT] ∧ t.ses k = v ∧ t.hif = s.hif ∧
        t.get MAC_OLDCNT_COUNT = satAdd 32 (s.get MAC_OLDCNT_COUNT) 1 ∧ (t.txPort n.val).ack = (s.txPort n.val).ack) ∧
      (h < x + 128 → seen → changes s t [] [a_MAC_DUPCNT] ∧ t.ses k = v ∧ t.hif = s.hif ∧
        t.get MAC_DUPCNT_COUNT = satAdd 32 (s.get MAC_DUPCNT_COUNT) 1 ∧ (t.txPort n.val).ack = plan true) ∧
      (h < x + 128 → ¬ seen → inP → changes s t [] [a_MAC_DUPCNT] ∧ t.ses k = v ∧ t.hif = s.hif ∧
        t.get MAC_DUPCNT_COUNT = satAdd 32 (s.get MAC_DUPCNT_COUNT) 1 ∧
        (t.txPort n.val).ack = (s.txPort n.val).ack) ∧
      (h < x + 128 → ¬ seen → ¬ inP → sub v sPMASK = 0xFFFF → changes s t [] [a_MAC_PENDFULL] ∧ t.ses k = v ∧
        t.hif = s.hif ∧ t.get MAC_PENDFULL_COUNT = satAdd 32 (s.get MAC_PENDFULL_COUNT) 1 ∧
        (t.txPort n.val).ack = (s.txPort n.val).ack) ∧
      (h < x + 128 → ¬ seen → ¬ inP → sub v sPMASK ≠ 0xFFFF → (t.txPort n.val).ack = plan false ∧
        (f.lfc.sec = true → inPending (t.ses k) x = true ∧ sub (t.ses k) sH = h ∧ t.hif = s.hif ∧
          t.cph.dispatched = s.cph.dispatched ++ [⟨f, k⟩]) ∧
        (f.lfc.sec = false → sub (t.ses k) sH = max h x ∧ bitN (sub (t.ses k) sV) (max h x - x) = true ∧
          (f.lfc.edst = s.ownAddr → ∃ d : Delivery, t.hif.deliveries = s.hif.deliveries ++ [d] ∧ d.body = f.payload ∧
            d.cls = f.lfc.tclass ∧ d.session = k ∧ d.since = s.tick ∧ d.failed = false)))) ∧
  (∀ (s t0 : State) (e : Fin 12) (d : Dispatch) (key : Nat), s.takeStream e.val = some (d, t0) →
    (t0.obtainKey d.session).1 = .key key → d.frame.lfc.dst ≠ addrAll → d.frame.lfc.fcnt < 2 ^ 32 →
    s.relayOut d.frame.id = none →
    let f := d.frame
    let x := f.lfc.fcnt
    let h := sub (s.ses d.session) sH
    let o := s.nextSes f.lfc.edst
    ∃ t : State, Machine.exec (.tagVerified e) s = .next t ∧
      (x + 128 ≤ h → t.get MAC_OLDCNT_COUNT = satAdd 32 (s.get MAC_OLDCNT_COUNT) 1 ∧
        t.hif.deliveries = s.hif.deliveries ∧ t.ses d.session = dropPending (s.ses d.session) x) ∧
      (h < x + 128 → sub (t.ses d.session) sH = max h x ∧
        bitN (sub (t.ses d.session) sV) (max h x - x) = true ∧
        (f.lfc.edst = s.ownAddr ∨ s.relays = false → ∃ y : Delivery, t.hif.deliveries = s.hif.deliveries ++ [y] ∧
          y.body = decryptRx key f ∧ y.cls = f.lfc.tclass ∧ y.session = d.session ∧ y.failed = false) ∧
        (f.lfc.edst ≠ s.ownAddr → s.relays = true → t.hif.deliveries = s.hif.deliveries ∧
          (f.lfc.hopleft = 0 → t.get MAC_HOLDEXP_HOPDROP = satAdd 16 (s.get MAC_HOLDEXP_HOPDROP) 1) ∧
          ∀ q, f.lfc.hopleft ≠ 0 → s.dirUsable f.lfc.edst = true → s.relayQueue o = some q →
            ∃ g : TxFrame, t.framesOf q = s.framesOf q ++ [g] ∧ g.body = decryptRx key f ∧
              g.lfc.hopleft = f.lfc.hopleft - 1 ∧ g.lfc.relay = true ∧ g.lfc.src = s.ownAddr ∧
              g.lfc.dst = sub (s.ses o) sNEIGH ∧ g.lfc.esrc = f.lfc.esrc ∧ g.lfc.edst = f.lfc.edst))) ∧
  ∀ (s t0 : State) (e : Fin 12) (d : Dispatch), s.takeStream e.val = some (d, t0) → s.domOn dAon = true →
    let f := d.frame
    let forHost := f.lfc.dst = addrAll ∨ f.lfc.edst = s.ownAddr ∨ s.relays = false
    ∃ t : State, Machine.exec (.authFail e) s = .next t ∧ t.ses d.session = dropPending (s.ses d.session) f.lfc.fcnt ∧
      fired s t 149 d.session ∧ t.get CPH_CNT0_AUTHFAIL = satAdd 16 (s.get CPH_CNT0_AUTHFAIL) 1 ∧
      (forHost → s.flag (HIF_RXMAP_CT f.lfc.tclass) = true → ∃ y : Delivery, t.hif.deliveries = s.hif.deliveries ++ [y] ∧
        y.body = List.replicate f.bodyLen 0 ∧ y.failed = true ∧ y.session = d.session) ∧
      (¬ (forHost ∧ s.flag (HIF_RXMAP_CT f.lfc.tclass) = true) → t.hif.deliveries = s.hif.deliveries)

/-- ACK_LAUNCH: past E_r + ACKDL, or on a map that cannot be built, the planned ACK is dropped; before E_r + RIFS
nothing changes; between them, on a free and ready line, it launches, and that to a POLL says MORE if frames are
held and opens the service period from its end. ACK_RECEIVED that answers the frame of the open window completes it
with status OK if detected in the window, else is counted as late; one that answers nothing sent changes nothing.
ACK_WINDOW_CLOSE at the window's end completes the frame NO_ACK after 1 + RETRY attempts (RETRY as fixed at the
launch) and counts it, else leaves it at its place for the next attempt with its contention window raised.
CTRL_FRAME_RECEIVED and POLL_RECEIVED judge the control sequence: new ones and old unset ones are marked and
acknowledged, set ones acknowledged with DUP = 1, all others dropped with source 151. TMFB_RECEIVED writes the
record of its slot with DELAY. SERVICE_PERIOD_END and HOLD_EXPIRY end what is due. (R223, R224, R225, R226, R229,
R230, R236, R237, Table 10-3) -/
def Obligations.AcknowledgementsAndPollsAreTimed : Prop :=
  (∀ (s : State) (n : Fin 16) (k : AckPlan), (s.txPort n.val).ack = some k → s.profile n.val ≠ pfG3 →
    let prof := s.profile n.val
    let m := s.ackMap n.val k
    let dur := s.ackDur n.val k.sweepK
    let r := s.rangeOf n.val false m
    let late := k.er + (if prof = pfBB then 5120 else 81920) < s.tick ∨
      (m.swk = 0 ∧ buildable prof (s.openCarriers n.val false).length m = false)
    let early := s.tick < k.er + (if prof = pfBB then 640 else 10240)
    ∃ t : State, Machine.exec (.ackLaunch n) s = .next t ∧
      (late → t = s.setTxPort n.val { s.txPort n.val with ack := none }) ∧
      (¬ late → early → t = s) ∧
      (¬ late → ¬ early → s.txMode = true → s.lineFree n.val = true → s.ldReady n.val = true →
        (s.dwellCheck n.val r.1 r.2 s.tick dur).1 = .pass → s.domOn (dPair n.val) = true → n.val < s.ports →
        (t.txPort n.val).ack = none ∧ fired s t (esPort n.val 4) (macLaunchData m) ∧
        (∃ a : Air, (t.txPort n.val).air = some a ∧ a.start = s.tick ∧ a.full = s.tick + dur ∧
          (s.dwFresh = false → a.stop = s.tick + dur) ∧ a.aw = 0 ∧
          a.kind = .ack { k.lfc with more := k.poll && s.heldFor k.lfc.dst none }) ∧
        (k.poll = true → look (0, 0) t.mac.service k.lfc.dst =
          (s.tick + dur, s.tick + dur + s.get MAC_SLEEPY_SP * 1250000)))) ∧
  (∀ (s : State) (n : Fin 16) (f : RxFrame), s.rxFront n.val = some f → f.phy ≤ 1 → f.lfc.ftype = 1 →
    ∃ t : State, Machine.exec (.ackReceived n) s = .next t ∧
      ((s.txPort n.val).win = none → s.sentBy n.val f.lfc = false →
        t = (s.arcRead (2 * n.val)).heard f.lfc.src) ∧
      ∀ w g, (s.txPort n.val).win = some w → s.frameOf w.queue w.id = some g → s.answers f.lfc g = true →
        (w.opening ≤ f.tdet → f.tdet < w.closing → t.frameOf w.queue w.id = none ∧ (t.txPort n.val).win = none ∧
          t.get MAC_LATEACK_COUNT = s.get MAC_LATEACK_COUNT ∧
          (g.lfc.more = false → find t.mac.service g.lfc.dst = none) ∧
          (⟨g.cells, g.complOf w.queue 0, false⟩ : Return) ∈ t.blv.returns) ∧
        ((f.tdet < w.opening ∨ w.closing ≤ f.tdet) → changes s t [] [a_MAC_LATEACK] ∧ t.blv.frames = s.blv.frames ∧
          t.get MAC_LATEACK_COUNT = satAdd 32 (s.get MAC_LATEACK_COUNT) 1)) ∧
  (∀ (s : State) (n : Fin 16) (w : AckWin) (f : TxFrame), (s.txPort n.val).win = some w →
    s.frameOf w.queue w.id = some f →
    let retry := f.retry
    (s.tick < w.closing → Machine.exec (.ackWindowClose n) s = .next s) ∧
    (w.closing ≤ s.tick → s.windowOpen n.val w = false →
      ∃ t : State, Machine.exec (.ackWindowClose n) s = .next t ∧ (t.txPort n.val).win = none ∧ t.sq = s.sq ∧
        (1 + retry ≤ f.attempts → changes s t [] [a_MAC_NOACKCNT] ∧ t.frameOf w.queue w.id = none ∧
          t.get MAC_NOACKCNT_COUNT = satAdd 32 (s.get MAC_NOACKCNT_COUNT) 1 ∧
          (⟨f.cells, f.complOf w.queue 1, false⟩ : Return) ∈ t.blv.returns) ∧
        (f.attempts < 1 + retry → s.leaving = false → t.regs = s.regs ∧ t.blv.returns = s.blv.returns ∧
          t.frameOf w.queue w.id = some { f with awaiting := false, ready := false, bo := none, cw := some (s.raiseCw f) }))) ∧
  (∀ (s : State) (n : Fin 16) (f : RxFrame) (c : Instr) (poll : Bool), s.rxFront n.val = some f → f.phy ≤ 1 →
    f.lfc.dst = s.ownAddr → s.dirUsable f.lfc.src = true → s.domOn dAon = true → f.lfc.seq < 2 ^ 16 →
    (c = .ctrlFrameReceived n ∧ poll = false ∧ f.lfc.ftype = 2 ∧ ownCommand f = false) ∨
      (c = .pollReceived n ∧ poll = true ∧ f.lfc.ftype = 5) →
    let v := s.dirOf f.lfc.src
    let d := (f.lfc.seq + 65536 - sub v dCSEQS) % 65536
    let e := (sub v dCSEQS + 65536 - f.lfc.seq) % 65536
    let newer := 1 ≤ d ∧ d ≤ 32767
    let l := fun (dup : Bool) => ({ ftype := 1, dup := dup, src := f.lfc.dst, dst := f.lfc.src, seq := f.lfc.seq, esrc := f.lfc.dst, edst := f.lfc.src } : Lfc)
    let plan := fun dup => if f.lfc.ackreq then some (⟨l dup, f.endTick, f.swk, poll⟩ : AckPlan) else (s.txPort n.val).ack
    ∃ t : State, Machine.exec c s = .next t ∧ t.regs = (if newer ∨ e ≤ 63 then s.regs else t.regs) ∧
      t.hif = s.hif ∧ t.blv.frames = s.blv.frames ∧
      (newer → sub (t.dirOf f.lfc.src) dCSEQS = f.lfc.seq ∧
        sub (t.dirOf f.lfc.src) dCMAP = (sub v dCMAP * 2 ^ d + 1) % 2 ^ 64 ∧ (t.txPort n.val).ack = plan false) ∧
      (e ≤ 63 → bitN (sub v dCMAP) e = true → sub (t.dirOf f.lfc.src) dCSEQS = sub v dCSEQS ∧
        sub (t.dirOf f.lfc.src) dCMAP = sub v dCMAP ∧ (t.txPort n.val).ack = plan true) ∧
      (e ≤ 63 → bitN (sub v dCMAP) e = false → sub (t.dirOf f.lfc.src) dCSEQS = sub v dCSEQS ∧
        sub (t.dirOf f.lfc.src) dCMAP = sub v dCMAP + 2 ^ e ∧ (t.txPort n.val).ack = plan false) ∧
      (¬ newer → 63 < e → changes s t [(151, f.lfc.src)] [] ∧ t.blv.frames = s.blv.frames ∧ t.tx = s.tx)) ∧
  (∀ (s : State) (n : Fin 16) (f : RxFrame) (k : Nat), s.rxFront n.val = some f → isCtrl 2 f = true →
    f.lfc.dst = s.ownAddr → s.dirUsable f.lfc.src = true → (s.judgeSeq f.lfc.src f.lfc.seq).1 = .fresh →
    s.sesFrom f.lfc.src = some k →
    let slot := leNat ((f.payload.drop 1).take 1) % 8
    slot ≤ 5 → s.hasArea k = true → s.sQuar k = false →
    let u := ((((s.arcRead (2 * n.val)).heard f.lfc.src).judgeSeq f.lfc.src f.lfc.seq).2).planAck n.val f false false
    ∃ (t : State) (r : List Byte), Machine.exec (.tmfbReceived n) s = .next t ∧ t.mem = (u.writeRec k slot r).mem ∧
      (8 ≤ f.payload.length → leNat (r.take 1) / 2 % 8 = slot) ∧
      (10 ≤ f.payload.length → (r.drop 4).take 4 = (f.payload.drop 2).take 4 ∧ r.drop 8 = f.payload.drop 14)) ∧
  (∀ (s : State) (addr : BitVec 25),
    ((look (0, 0) s.mac.service addr.toNat).2 ≤ s.tick →
      Machine.exec (.servicePeriodEnd addr) s = .next { s with mac.service := del addr.toNat s.mac.service }) ∧
    (s.tick < (look (0, 0) s.mac.service addr.toNat).2 → Machine.exec (.servicePeriodEnd addr) s = .next s)) ∧
  ∀ (s : State) (q : BitVec 20),
    let v := s.queue q.toNat
    let due := fun (f : TxFrame) => f.retained = false ∧ f.awaiting = false ∧ f.expire ≤ s.tick
    let sleepy := sub v qBOUND = 1 ∧ sub v qBCAST = 0 ∧ sub (s.ses (sub v qSESSION)) sNSLEEPY = 1 ∧
      s.qQuar q.toNat = false
    (¬ sleepy → Machine.exec (.holdExpiry q) s = .next s) ∧
    (sleepy → (s.framesOf q.toNat).Pairwise (fun a b => a.id ≠ b.id) →
      ∃ t : State, Machine.exec (.holdExpiry q) s = .next t ∧ changes s t [] [a_MAC_HOLDEXP] ∧
        (∀ f, f ∈ t.framesOf q.toNat ↔ f ∈ s.framesOf q.toNat ∧ ¬ due f) ∧
        (∀ f ∈ s.framesOf q.toNat, due f → (⟨f.cells, f.complOf q.toNat 5, false⟩ : Return) ∈ t.blv.returns) ∧
        t.get MAC_HOLDEXP_EXPIRED = min 65535 (s.get MAC_HOLDEXP_EXPIRED + (s.framesOf q.toNat).countP (fun f => decide (due f))))

/-- CUT_THROUGH_RELAY_START changes nothing for ports that are not distinct BB ports of one group that does not act
jointly, or while CT_EN is 0; where the incoming frame is one to be relayed and its conditions hold, the outgoing
frame launches in this tick with the body's length, holds its cells, and RELAYED counts it. SOUNDING_FRAME_RECEIVED
marks its sender heard and keeps the DELAY it measured for the next feedback. RANGING_DUE, once after ADMIT and
every RNG_INT periods of an attached device, sends RANGE_REQ with the next RSEQ to the parent; RANGE_REQ_RECEIVED
answers on the same port with its RSEQ and the request's arrival; RANGE_RSP_RECEIVED of the exchange in progress
takes a value d within 0 to 2 ms into the mean that HOPDLY shows, and ignores any other. G9903_FRAME_RECEIVED counts
the frame good; one for this port, secured rightly or not at all and no repetition, goes to the host; a replayed or
repeated one does not, and one whose security fails is counted. (R130, R234, R240, R323, R364, Table 16-3) -/
def Obligations.RelaysRangingAndG9903FramesAct : Prop :=
  (∀ (s : State) (n out : Fin 16),
    let pair := n ≠ out ∧ n.val / 4 = out.val / 4 ∧ s.joint n.val = false ∧ s.profile n.val = pfBB ∧
      s.profile out.val = pfBB
    (¬ pair ∨ s.flag MAC_RELAY_CT_EN = false → Machine.exec (.cutThroughRelayStart n out) s = .next s) ∧
    ∀ (a : Acq) (h : PhyHeader) (l : Lfc) (k o q : Nat), pair → (s.rxPort n.val).cur = some a → a.hdr = some h →
      a.parts ≠ [] → s.cutCandidate n.val out.val a h = some (l, k, o, q) →
      let inc : RxFrame := { id := a.id, port := n.val, tdet := a.tdet, endTick := 0, slot := a.slot, tmap := h.tmap, mode := h.mode, sweep := false, phy := h.cls, len := h.len, lfc := l, payload := [], snr := a.snr, psnr := 0, gain := a.gain, fofs := a.fofs, sofs := a.sofs, det := a.det }
      let f := s.relayFrame q o inc (List.replicate (h.len - 4 - 16 * b2n l.sec) 0)
      ∀ (m0 m : PhyMap) (rej : Bool) (u : State), s.mapOf out.val q f false = (m0, rej, u) →
        u.fitMap out.val false (u.lenOn out.val f m0) m0 = some m →
        let dur := u.durOf out.val false (u.lenOn out.val f m) m
        let r := u.rangeOf out.val false m
        let i := mapRate (s.openCarriers n.val false).length (s.inMap k a h n.val)
        let x := mapRate (s.openCarriers out.val false).length m
        let tin := s.predictEnd n.val a h
        m.swk = 0 → i.1 * x.2 ≤ x.1 * i.2 → tin + s.get MAC_RELAY_CT_MARGIN * 125 + x.2 - dur ≤ s.tick → s.tick < tin →
        s.txMode = true → s.txFree out.val = true → s.placed out.val f.cls s.tick (s.tick + dur) = true →
        (s.dwellCheck out.val r.1 r.2 s.tick dur).1 = .pass → s.ldReady out.val = true →
        s.admitsCells l.tclass f.cells = true → sub (u.ses o) sTXFC < 0xFFFFFFFF →
        ∃ t : State, Machine.exec (.cutThroughRelayStart n out) s = .next t ∧
          t.get MAC_CTCNT_RELAYED = satAdd 16 (u.get MAC_CTCNT_RELAYED) 1 ∧
          ∃ (a' : Air) (id : Nat) (g : TxFrame), (t.txPort out.val).air = some a' ∧ a'.kind = .data q id ∧ a'.start = s.tick ∧
            a'.full = s.tick + dur ∧ (s.dwFresh = false → a'.stop = s.tick + dur) ∧ t.frameOf q id = some g ∧ g.relayOf = some a.id ∧ g.retained = true ∧
            g.lfc.hopleft = l.hopleft - 1 ∧ g.lfc.fcnt = sub (u.ses o) sTXFC + 1) ∧
  (∀ (s : State) (n : Fin 16) (f : RxFrame) (type : Nat), s.rxFront n.val = some f → f.phy = 3 →
    leNat (f.payload.take 1) = type → f.lfc.dst = s.ownAddr → s.dirUsable f.lfc.src = true →
    (type ≠ 1 → type ≠ 2 → ∃ t : State, Machine.exec (.soundingFrameReceived n) s = .next t ∧
      t.blv.frames = s.blv.frames ∧ t.hif.deliveries = s.hif.deliveries ∧
      (sub (s.dirOf f.lfc.src) dSTATE ≠ 0 → sub (t.dirOf f.lfc.src) dLASTRX = s.mac.period % 2 ^ 32) ∧
      ∀ k d, s.sesFrom f.lfc.src = some k → s.soundDelay n.val f = some d → find t.mac.pendingDelay k = some d) ∧
    (type = 1 → s.admitsCells 0 1 = true → ∃ (t : State) (g : TxFrame), Machine.exec (.rangeReqReceived n) s = .next t ∧
      t.framesOf (ctrlQueue n.val) = s.framesOf (ctrlQueue n.val) ++ [g] ∧ g.phy = 3 ∧ g.lfc.dst = f.lfc.src ∧
      g.lfc.ackreq = false ∧ g.body.take 1 = [2] ∧ g.body.length = 28 ∧
      leNat ((g.body.drop 1).take 1) = leNat ((f.payload.drop 1).take 1) ∧
      leNat ((g.body.drop 20).take 8) = (524288 * (f.tdet - lambdaTicks (s.profile n.val) f.swk) + f.det.sub) % 2 ^ 64) ∧
    (type = 2 → ∃ t : State, Machine.exec (.rangeRspReceived n) s = .next t ∧
      ∀ r t1, s.time.rangeReq = some (r, t1) →
        let d : Int := ((524288 * (f.tdet - lambdaTicks (s.profile n.val) f.swk) + f.det.sub : Nat) - (t1 : Int)
          - leNat ((f.payload.drop 20).take 8)) / 2
        let mine := f.lfc.src = s.parent ∧ r = leNat ((f.payload.drop 1).take 1)
        let hops := (d.toNat :: s.time.hops).take (2 ^ s.get TIM_TB1CFG_RNG_AVG)
        (mine → 0 ≤ d → d ≤ 131072000000 → t.time.rangeReq = none ∧ t.time.hops = hops ∧ t.flag TIM_HOP_VALID = true ∧
          t.get TIM_HOP_HOPDLY = hops.sum / hops.length / 4096 % 2 ^ 31) ∧
        (mine → d < 0 ∨ 131072000000 < d → t.time.rangeReq = none ∧ t.time.hops = s.time.hops ∧
          t.reg a_TIM_HOP = s.reg a_TIM_HOP) ∧
        (¬ mine → t.time = s.time ∧ t.reg a_TIM_HOP = s.reg a_TIM_HOP))) ∧
  (∀ s : State,
    let every := s.get TIM_TB1CFG_RNG_INT
    let due := s.isChild = true ∧ s.sfState = sfATTACHED ∧ every ≠ 0 ∧
      (s.time.rangeAt = 0 ∨ s.time.rangeAt + every ≤ s.mac.period + 1)
    (¬ due → Machine.exec .rangingDue s = .next s) ∧
    (due → ∃ t : State, Machine.exec .rangingDue s = .next t ∧ t.time.rangeAt = s.mac.period + 1 ∧
      t.time.rseq = (s.time.rseq + 1) % 256 ∧
      (s.admitsCells 0 1 = true → ∃ g : TxFrame, t.framesOf (ctrlQueue (s.get MAC_SFSTAT_PPORT)) =
        s.framesOf (ctrlQueue (s.get MAC_SFSTAT_PPORT)) ++ [g] ∧ g.phy = 3 ∧ g.lfc.dst = s.parent ∧
        g.lfc.ackreq = false ∧ g.body.take 1 = [1] ∧
        leNat ((g.body.drop 1).take 1) = (s.time.rseq + 1) % 256))) ∧
  ∀ (s : State) (n : Fin 16) (f : G3Frame) (a : Acq), (s.rxPort n.val).tails = [a] → a.g3 = true →
    s.domOn (dPair n.val) = true → n.val < s.ports →
    let mine := (f.pan = s.get (PRT_G3CFG_PANID n.val) ∨ f.pan = 0xFFFF) ∧
      (if f.dmode = 3 then f.dst = sub (s.dirEnt 0) dEUI
       else f.dst = s.get (PRT_G3CFG_SADDR n.val) ∨ f.dst = 0xFFFF)
    let secured := f.seclvl = 0 ∨ (s.g3Key n.val f.keyidx = true ∧ f.mic = true)
    let replayed := f.seclvl ≠ 0 ∧ f.fcnt + 1 ≤ look 0 s.mac.g3fc (g3Src n.val f.src)
    let repeated := find s.mac.g3last (g3Src n.val f.src) = some (f.seq, 1)
    ∃ t : State, Machine.exec (.g9903FrameReceived n f) s = .next t ∧
      t.get (PRT_RXGOOD_COUNT n.val) = satAdd 32 (s.get (PRT_RXGOOD_COUNT n.val)) 1 ∧
      fired s t (esPort n.val 1) (f.msdu.length + a.slot * 2 ^ 14 + 6 * 2 ^ 17) ∧
      (f.kind ≠ 2 → (¬ mine ∨ ¬ secured ∨ replayed ∨ repeated) → t.hif.deliveries = s.hif.deliveries) ∧
      (f.kind ≠ 2 → mine → ¬ secured → t.get CPH_CNT0_AUTHFAIL = satAdd 16 (s.get CPH_CNT0_AUTHFAIL) 1) ∧
      (f.kind < 2 → mine → secured → ¬ replayed → ¬ repeated → s.admitsCells 0 (cellsOf f.msdu.length) = true →
        (∃ d : Delivery, t.hif.deliveries = s.hif.deliveries ++ [d] ∧ d.body = f.msdu ∧ d.session = 0 ∧ d.frame.g3 = true) ∧
        find t.mac.g3last (g3Src n.val f.src) = some (f.seq, 1) ∧
        (f.seclvl ≠ 0 → find t.mac.g3fc (g3Src n.val f.src) = some (f.fcnt + 1)))

/-- SCHEDULER_DECISION of a port that asks for a candidate takes its eligible control queue first; else, of the lowest
of classes 0 to 2 with an eligible queue, the next one after the last served, wrapping to the smallest; else, with
quanta of at least 144 and frames of at most 9,216 B, one of the classes 3 to 7 whenever any is eligible; without an
eligible queue it has none. CANDIDATE_FETCH of an eligible unsecured unicast frame takes the next counter of its
session, puts it and the addresses into the frame, moves the cells from QUEUED to RETAINED and hands the frame to
the port; at the last counter already taken it stays QUEUED, EXH is set and source 144 fires; a frame to be sent
again takes no counter. EXH_TIMEOUT completes the QUEUED frames of an exhausted session's queues.
SHAPER_REFILL_VISIT refills a bucket up to its burst. CELL_RETURN_COMPLETE frees the cells of the oldest return, and
posts the completion it owes, which lowers RESV; a stopped COMPL ring produces no entry. (R19, R243, R244, R245,
R246, R247, R254, R255, R290, R321, R322, Table 11-7) -/
def Obligations.FramesAreChosenAndFetched : Prop :=
  (∀ (s : State) (n : Fin 16), s.domOn dFab = true → n.val < s.ports →
    (s.blv.frames.map Prod.fst).Pairwise (· < ·) →
    let asks := ∀ q, (s.blvPort n.val).cand = some q → s.candOk n.val q = false
    let l := fun (c : Nat) => s.eligibleOf n.val c (fun f => s.permits n.val f)
    let ctrl := ∃ f rest, s.framesOf (ctrlQueue n.val) = f :: rest ∧ s.eligible (ctrlQueue n.val) n.val = true ∧
      s.permits n.val f = true
    (¬ asks → Machine.exec (.schedulerDecision n) s = .next s) ∧
    (asks → ∃ t : State, Machine.exec (.schedulerDecision n) s = .next t ∧ t = s.setBlvPort n.val (t.blvPort n.val) ∧
      (ctrl → (t.blvPort n.val).cand = some (ctrlQueue n.val)) ∧
      (¬ ctrl → ∀ c, c ≤ 2 → l c ≠ [] → (∀ c', c' < c → l c' = []) → ∃ q : Nat, (t.blvPort n.val).cand = some q ∧
        q ∈ l c ∧ look 0 (t.blvPort n.val).last c = q ∧
        (∀ q' ∈ l c, look 0 (s.blvPort n.val).last c < q' → look 0 (s.blvPort n.val).last c < q ∧ q ≤ q') ∧
        ((∀ q' ∈ l c, q' ≤ look 0 (s.blvPort n.val).last c) → ∀ q' ∈ l c, q ≤ q')) ∧
      (¬ ctrl → (∀ c, c ≤ 2 → l c = []) → 3 ≤ (s.blvPort n.val).cptr → (s.blvPort n.val).cptr ≤ 7 →
        ((∀ c, 3 ≤ c → c ≤ 7 → l c = []) → (t.blvPort n.val).cand = none) ∧
        ((∃ c, 3 ≤ c ∧ c ≤ 7 ∧ l c ≠ []) → (∀ c, 3 ≤ c → c ≤ 7 → 144 ≤ s.quantum c) →
          (∀ c q f rest, q ∈ l c → s.framesOf q = f :: rest → s.lineLen n.val f ≤ 9216) →
          ∃ c q : Nat, (t.blvPort n.val).cand = some q ∧ 3 ≤ c ∧ c ≤ 7 ∧ q ∈ l c)))) ∧
  (∀ (s : State) (n : Fin 16) (q : Nat) (f : TxFrame) (rest : List TxFrame), (s.txPort n.val).again = [] →
    (s.blvPort n.val).cand = some q → s.framesOf q = f :: rest →
    let u := s.arcOpen (2 * n.val + 1)
    let k := s.queueSes q
    let c := sub (s.ses k) sTXFC + 1
    (s.candOk n.val q = false → Machine.exec (.candidateFetch n) s = .next (s.dropCand n.val)) ∧
    (s.candOk n.val q = true → s.counted q f = true → f.lfc.sec = false → f.timed = false → f.poison = false →
      f.retained = false → k ≠ 0 → u.arcIsOpen (2 * n.val + 1) = true →
      ∃ t : State, Machine.exec (.candidateFetch n) s = .next t ∧ (t.blvPort n.val).cand = none ∧
        (c < 2 ^ 32 → sub (t.ses k) sTXFC = c ∧ (q, f.id) ∈ (t.txPort n.val).ready ∧
          t.blv.led.queued = s.blv.led.queued - f.cells ∧ t.blv.led.retained = s.blv.led.retained + f.cells ∧
          ∃ g : TxFrame, t.frameOf q f.id = some g ∧ g.lfc.fcnt = c ∧ g.lfc.seq = c % 65536 ∧ g.retained = true ∧
            g.ready = true ∧ g.body = f.body ∧ g.wire = f.body ∧ g.lfc.src = s.ownAddr ∧
            g.lfc.dst = sub (s.ses k) sNEIGH) ∧
        (c = 2 ^ 32 → s.domOn dAon = true → t.blv.frames = s.blv.frames ∧ t.blv.led = s.blv.led ∧
          sub (t.ses k) sEXH = 1 ∧ fired s t 144 k))) ∧
  (∀ (s : State) (n : Fin 16) (q : Nat) (f : TxFrame) (more : List (Nat × Nat)),
    (s.txPort n.val).again = (q, f.id) :: more → s.frameOf q f.id = some f → f.poison = false →
    f.relayOf = none → f.timed = false → f.retained = true →
    (s.arcOpen (2 * n.val + 1)).arcIsOpen (2 * n.val + 1) = true →
    ∃ t : State, Machine.exec (.candidateFetch n) s = .next t ∧ t.blv.sessions = s.blv.sessions ∧ t.blv.led = s.blv.led ∧
      (q, f.id) ∈ (t.txPort n.val).ready ∧ (q, f.id) ∉ (t.txPort n.val).again) ∧
  (∀ (s : State) (session : BitVec 18) (t0 : Nat), find s.blv.exh session.toNat = some t0 →
    let k := session.toNat
    let due := s.get CPH_CFG_EXH_TO ≠ 0 ∧ sub (s.ses k) sEXH = 1 ∧ t0 + s.get CPH_CFG_EXH_TO * 125000000 ≤ s.tick
    (¬ due → Machine.exec (.exhTimeout session) s = .next s) ∧
    (due → ∃ t : State, Machine.exec (.exhTimeout session) s = .next t ∧ find t.blv.exh k = some s.tick ∧
      t.regs = s.regs ∧ t.sq = s.sq ∧
      ∀ q ∈ s.queuesOf k, ∀ f ∈ s.framesOf q, f.retained = false → f.relayOf = none →
        f ∉ t.framesOf q ∧ (⟨f.cells, f.complOf q 9, false⟩ : Return) ∈ t.blv.returns)) ∧
  (∀ (s : State) (i : BitVec 20),
    let full := fun (p tokens last : Nat) => min (256 * s.get (BLV_SHAPE1_BURST (p - 1)))
      (tokens + s.get (BLV_SHAPE0_RATE (p - 1)) * ((s.tick / 256 % 2 ^ 32 + 2 ^ 32 - last) % 2 ^ 32))
    let v := s.queue i.toNat
    let e := s.ses i.toNat
    (sub v qBOUND = 1 → sub v qSHAPE ≠ 0 → ∃ t : State, Machine.exec (.shaperRefillVisit false i) s = .next t ∧
      t = s.setQueue i.toNat (t.queue i.toNat) ∧ sub (t.queue i.toNat) qLAST = s.tick / 256 % 2 ^ 32 ∧
      sub (t.queue i.toNat) qTOKENS = full (sub v qSHAPE) (sub v qTOKENS) (sub v qLAST)) ∧
    (sub v qBOUND = 0 ∨ sub v qSHAPE = 0 → Machine.exec (.shaperRefillVisit false i) s = .next s) ∧
    (sub e sVALID = 1 → sub e sSHAPE ≠ 0 → ∃ t : State, Machine.exec (.shaperRefillVisit true i) s = .next t ∧
      t = s.setSes i.toNat (t.ses i.toNat) ∧ sub (t.ses i.toNat) sLAST = s.tick / 256 % 2 ^ 32 ∧
      sub (t.ses i.toNat) sTOKENS = full (sub e sSHAPE) (sub e sTOKENS) (sub e sLAST)) ∧
    (sub e sVALID = 0 ∨ sub e sSHAPE = 0 → Machine.exec (.shaperRefillVisit true i) s = .next s)) ∧
  ∀ s : State, (s.blv.returns = [] → Machine.exec .cellReturnComplete s = .next s) ∧
    ∀ r rest, s.blv.returns = r :: rest → ∃ t : State, Machine.exec .cellReturnComplete s = .next t ∧
      t.blv.returns = rest ∧ t.blv.led = { s.blv.led with free := s.blv.led.free + r.cells } ∧
      (r.compl = none → t.regs = s.regs ∧ t.posted = s.posted) ∧
      ∀ c, r.compl = some c → s.mode ≠ mSafe → c.ring < 4096 → c.src < 4096 →
        (s.flag (HIF_RSTAT_STOPPED c.ring) = false → completed s t c) ∧
        (s.flag (HIF_RSTAT_STOPPED c.ring) = true → t.posted = s.posted ∧
          t.get (HIF_RPROD_P c.ring) = s.get (HIF_RPROD_P c.ring)) ∧
        t.get (HIF_RSTAT_RESV c.ring) = s.get (HIF_RSTAT_RESV c.ring) - 1

/-- An object command whose word reaches BLV_OBJCMD while BUSY is 1 changes nothing. Otherwise, an index outside its
range ends it with RESULT RANGE, and a refused one with REFUSED, changing BLV_OBJSTAT alone. A READ puts the words
of the object into BLV_OBJDATA with RESULT OK, or POISONED of a quarantined one. A queue WRITE takes the driver's
fields, keeps the device's, fills a new binding's bucket, and is refused for a quarantined queue or a changed
binding of one with frames. A FLUSH completes every frame of the queue FLUSHED and is BUSY until FLUSH_COMPLETE
finds the last cells returned. A queue RELEASE frees its QUAR cells and zeroes it, only where it is quarantined. A
session WRITE takes the words with a full bucket, a RELEASE zero, and both end its quarantine and its cached key. A
directory entry WRITE takes 16 words, but never of entry 0; a page RELEASE zeroes its entries but entry 0. An OP not
listed for the TYPE is REFUSED, others are ignored. (R247, R259, R260, R266, R316, Table 11-8, Table 11-16) -/
def Obligations.ObjectCommandsActWhole : Prop :=
  (∀ (s : State) (i : BitVec 25) (c : Instr), s.reaches 0 a_BLV_OBJCMD → s.flag BLV_OBJSTAT_BUSY = true →
    c ∈ [Instr.queueRead i, .queueWrite i, .queueFlush i, .queueRelease i, .sessionRead i, .sessionWrite i,
      .sessionRelease i, .directoryEntryRead i, .directoryEntryWrite i, .directoryPageRelease i] →
    Machine.exec c s = .next s) ∧
  (∀ (s : State) (i : BitVec 25) (c : Instr) (lo hi : Nat), s.reaches 0 a_BLV_OBJCMD → s.flag BLV_OBJSTAT_BUSY = false →
    (c, lo, hi) ∈ [(Instr.queueRead i, 0, s.queueCount), (.queueWrite i, 0, s.queueCount),
      (.queueFlush i, 0, s.queueCount), (.queueRelease i, 0, s.queueCount), (.sessionRead i, 1, s.sessionCount),
      (.sessionWrite i, 1, s.sessionCount), (.sessionRelease i, 1, s.sessionCount),
      (.directoryEntryRead i, 0, s.dirCount), (.directoryEntryWrite i, 0, s.dirCount),
      (.directoryPageRelease i, 0, s.dirCount / 64)] →
    i.toNat < lo ∨ hi ≤ i.toNat → ∃ t : State, Machine.exec c s = .next t ∧ objRefused s t 3 false) ∧
  (∀ (s : State) (i : BitVec 25), s.reaches 0 a_BLV_OBJCMD → s.flag BLV_OBJSTAT_BUSY = false →
    ∀ (c : Instr) (n v : Nat) (quar : Bool),
    (c = .queueRead i ∧ i.toNat < s.queueCount ∧ n = 8 ∧ v = (s.queue i.toNat).toNat ∧ quar = s.qQuar i.toNat) ∨
      (c = .sessionRead i ∧ 0 < i.toNat ∧ i.toNat < s.sessionCount ∧ n = (if s.isT then 32 else 64) ∧
        v = (s.ses i.toNat).toNat ∧ quar = s.sQuar i.toNat) ∨
      (c = .directoryEntryRead i ∧ i.toNat < s.dirCount ∧ n = 16 ∧ v = (s.dirEnt i.toNat).toNat ∧
        quar = s.pQuar i.toNat) →
    ∃ t : State, Machine.exec c s = .next t ∧ changes s t [] (a_BLV_OBJSTAT :: (List.range 64).map a_BLV_OBJDATA) ∧
      t.blv = s.blv ∧ objEnded t (if quar then 2 else 0) quar ∧
      (quar = false → ∀ w, w < n → t.get (BLV_OBJDATA_DATA w) = v / 2 ^ (32 * w) % 2 ^ 32)) ∧
  (∀ (s : State) (i : BitVec 25), s.reaches 0 a_BLV_OBJCMD → s.flag BLV_OBJSTAT_BUSY = false →
    i.toNat < s.queueCount →
    let q := i.toNat
    let old := s.queue q
    let d := BitVec.ofNat 256 (s.objData 0 8)
    let ses := if sub d qBCAST = 1 then sub d qPORT else sub d qSESSION
    let rebinds := ¬ (sub d qBOUND = sub old qBOUND ∧ sub d qBCAST = sub old qBCAST ∧ sub d qCLASS = sub old qCLASS ∧
      ses = sub old qSESSION)
    let bad := s.qQuar q = true ∨ (s.framesOf q ≠ [] ∧ rebinds)
    (bad → ∃ t : State, Machine.exec (.queueWrite i) s = .next t ∧ objRefused s t 1 (s.qQuar q)) ∧
    (¬ bad → look false s.blv.badLines (q / 2) = false → ∃ t : State, Machine.exec (.queueWrite i) s = .next t ∧
      objEnded t 0 false ∧ changes s t [] [a_BLV_OBJSTAT] ∧ (∀ j, j ≠ q → t.queue j = s.queue j) ∧
      t.blv.frames = s.blv.frames ∧ t.blv.led = s.blv.led ∧
      let v := t.queue q
      sub v qBOUND = sub d qBOUND ∧ sub v qBCAST = sub d qBCAST ∧ sub v qCLASS = sub d qCLASS ∧
      sub v qHOLD = sub d qHOLD ∧ sub v qSESSION = ses ∧ sub v qSHAPE = sub d qSHAPE ∧ sub v qTAG = sub d qTAG ∧
      sub v qHEAD = sub old qHEAD ∧ sub v qTAIL = sub old qTAIL ∧ sub v qCELLS = sub old qCELLS ∧
      sub v qFRAMES = sub old qFRAMES ∧
      (sub old qBOUND = 0 → sub d qBOUND = 1 → sub v qTOKENS = s.newTokens (sub d qSHAPE) ∧
        sub v qLAST = s.tick / 256 % 2 ^ 32) ∧
      (¬ rebinds → sub v qTOKENS = sub old qTOKENS ∧ sub v qLAST = sub old qLAST)) ∧
    (sub old qBOUND = 0 ∨ s.qQuar q = true →
      ∃ t : State, Machine.exec (.queueFlush i) s = .next t ∧ objRefused s t 1 (s.qQuar q)) ∧
    (sub old qBOUND = 1 → s.qQuar q = false → (∀ f ∈ s.framesOf q, f.relayOf = none) →
      ∃ t : State, Machine.exec (.queueFlush i) s = .next t ∧ t.framesOf q = [] ∧ t.flag BLV_OBJSTAT_BUSY = true ∧
        t.blv.objFlush = some q ∧ changes s t [] [a_BLV_OBJSTAT] ∧
        ∀ f ∈ s.framesOf q, (⟨f.cells, f.complOf q 6, true⟩ : Return) ∈ t.blv.returns) ∧
    (s.qQuar q = false → ∃ t : State, Machine.exec (.queueRelease i) s = .next t ∧ objRefused s t 1 false) ∧
    (s.qQuar q = true → s.blv.sweeps = [] → look false s.blv.badLines (q / 2) = false →
      ∃ t : State, Machine.exec (.queueRelease i) s = .next t ∧ objEnded t 0 false ∧ t.queue q = 0 ∧ t.qQuar q = false ∧
        t.blv.led = { s.blv.led with
          quar := s.blv.led.quar - look 0 s.blv.quarCells q
          free := s.blv.led.free + look 0 s.blv.quarCells q })) ∧
  (∀ s : State, (s.blv.objFlush = none ∨ (∃ r ∈ s.blv.returns, r.flush = true) →
      Machine.exec .flushComplete s = .next s) ∧
    (s.blv.objFlush ≠ none → (∀ r ∈ s.blv.returns, r.flush = false) →
      ∃ t : State, Machine.exec .flushComplete s = .next t ∧ objEnded t 0 false ∧ changes s t [] [a_BLV_OBJSTAT] ∧
        t.blv = { s.blv with objFlush := none })) ∧
  (∀ (s : State) (i : BitVec 25), s.reaches 0 a_BLV_OBJCMD → s.flag BLV_OBJSTAT_BUSY = false → 0 < i.toNat →
    i.toNat < s.sessionCount →
    let k := i.toNat
    let d : BitVec 2048 := BitVec.ofNat 2048 (s.objData 0 (if s.isT then 32 else 64))
    (s.sesInUse k = true → ∃ t : State, Machine.exec (.sessionWrite i) s = .next t ∧ objRefused s t 1 (s.sQuar k)) ∧
    (s.sesInUse k = false → ∃ t : State, Machine.exec (.sessionWrite i) s = .next t ∧ objEnded t 0 false ∧
      t.sQuar k = false ∧ (∀ e ∈ t.cph.cache, e.1 ≠ k) ∧ (∀ j, j ≠ k → t.ses j = s.ses j) ∧
      t.ses k = withSub (withSub d sTOKENS (s.newTokens (sub d sSHAPE))) sLAST (s.tick / 256 % 2 ^ 32)) ∧
    ∃ t : State, Machine.exec (.sessionRelease i) s = .next t ∧ objEnded t 0 false ∧ t.sQuar k = false ∧ t.ses k = 0 ∧
      (∀ e ∈ t.cph.cache, e.1 ≠ k) ∧ ∀ j, j ≠ k → t.ses j = s.ses j) ∧
  (∀ (s : State) (i : BitVec 25), s.reaches 0 a_BLV_OBJCMD → s.flag BLV_OBJSTAT_BUSY = false →
    (i.toNat < s.dirCount → i.toNat = 0 ∨ s.pQuar i.toNat = true →
      ∃ t : State, Machine.exec (.directoryEntryWrite i) s = .next t ∧ objRefused s t 1 (s.pQuar i.toNat)) ∧
    (0 < i.toNat → i.toNat < s.dirCount → s.pQuar i.toNat = false →
      ∃ t : State, Machine.exec (.directoryEntryWrite i) s = .next t ∧ objEnded t 0 false ∧
        changes s t [] [a_BLV_OBJSTAT] ∧ t.dirEnt i.toNat = BitVec.ofNat 512 (s.objData 0 16) ∧
        ∀ j, j ≠ i.toNat → t.dirEnt j = s.dirEnt j) ∧
    (i.toNat < s.dirCount / 64 → ∃ t : State, Machine.exec (.directoryPageRelease i) s = .next t ∧ objEnded t 0 false ∧
      changes s t [] [a_BLV_OBJSTAT] ∧ ∀ j, (j ≠ 0 → j / 64 = i.toNat → t.dirEnt j = 0 ∧ t.pQuar j = false) ∧
        (j = 0 ∨ j / 64 ≠ i.toNat → t.dirEnt j = s.dirEnt j))) ∧
  ∀ (s : State) (w : Word), s.reaches 0 a_BLV_OBJCMD →
    let op := Machine.bits w 0 3
    let type := Machine.bits w 3 2
    let i := Machine.bits w 5 25
    (s.flag BLV_OBJSTAT_BUSY = true ∨ op = 0 ∨ 4 < op → Machine.exec (.objectCommandBadOp w) s = .next s) ∧
    (s.flag BLV_OBJSTAT_BUSY = false →
      (type = 1 → op = 3 → 0 < i → i < s.sessionCount →
        ∃ t : State, Machine.exec (.objectCommandBadOp w) s = .next t ∧ objRefused s t 1 (s.sQuar i)) ∧
      (type = 2 → op = 3 ∨ op = 4 → i < s.dirCount →
        ∃ t : State, Machine.exec (.objectCommandBadOp w) s = .next t ∧ objRefused s t 1 (s.pQuar i)) ∧
      (type = 3 → 0 < op → op < 4 → i < s.dirCount / 64 →
        ∃ t : State, Machine.exec (.objectCommandBadOp w) s = .next t ∧ objRefused s t 1 (s.pQuar (64 * i))))

/-- POISONED_COMPLETION for a queue's state quarantines it: no port keeps it as candidate, its RETAINED frames complete
QUARANTINED, the others are lost to a sweep that moves their cells, QUEUES counts, and the error is reported with
requester 2; for a session, that session and its cached key; for a directory page, that page; for transmit data the
frame completes MEM_ERR and one of its cells goes to QUAR; for receive data of a dispatched frame, its counter
leaves P and one cell goes to QUAR; on a walk the unreachable cells go to QUAR. QUARANTINE_SWEEP_COMPLETE moves the
cells from QUEUED to QUAR. POOL_CONFIG_WRITE in STANDBY takes a base, or a CELLS that is a multiple of 64 up to
16,777,216; else it changes nothing but REFUSED. REBUILD empties the ledger where no cell is in use, else sets
REFUSED; REBUILD_COMPLETE makes every configured cell FREE. LEDGER_READ_LATCH latches the five counts and LSTAT and
reads FREE. (R242, R257, R261, R262, R264, Table 11-2, Table 11-9, Table 11-11) -/
def Obligations.MemoryErrorsQuarantineAndTheLedgerShowsIt : Prop :=
  (∀ (s : State) (q : BitVec 20), s.isT = false → s.qQuar q.toNat = false → s.domOn dMemc = true →
    let l := (s.get BLV_QBASE_BASE * 65536 + 32 * q.toNat) / 64
    let r := s.rankOf l
    r.1 < 4 →
    ∃ t : State, Machine.exec (.poisonedCompletion (.queue q)) s = .next t ∧ t.qQuar q.toNat = true ∧
      fired s t (96 + r.1) (r.2 + 2 * 2 ^ 28) ∧ t.framesOf q.toNat = [] ∧
      t.get BLV_QUARCNT_QUEUES = satAdd 12 (s.get BLV_QUARCNT_QUEUES) 1 ∧
      (∀ n, n < 16 → (t.blvPort n).cand ≠ some q.toNat) ∧ t.blv.led.queued = s.blv.led.queued ∧
      (∀ f ∈ s.framesOf q.toNat, f.retained = true → (⟨f.cells, f.complOf q.toNat 7, false⟩ : Return) ∈ t.blv.returns) ∧
      ∃ w ∈ t.blv.sweeps, w.queue = q.toNat ∧ w.frames = (s.framesOf q.toNat).countP (fun f => !f.retained) ∧
        w.cells = (((s.framesOf q.toNat).filter (fun f => !f.retained)).map TxFrame.cells).sum) ∧
  (∀ (s : State) (k : BitVec 18), s.sQuar k.toNat = false →
    ∃ t : State, Machine.exec (.poisonedCompletion (.session k)) s = .next t ∧ t.sQuar k.toNat = true ∧
      (∀ e ∈ t.cph.cache, e.1 ≠ k.toNat) ∧ t.get BLV_QUARCNT_SESSIONS = satAdd 12 (s.get BLV_QUARCNT_SESSIONS) 1 ∧
      t.blv.frames = s.blv.frames ∧ t.blv.led = s.blv.led) ∧
  (∀ (s : State) (p : BitVec 19), look false s.blv.quarP p.toNat = false →
    ∃ t : State, Machine.exec (.poisonedCompletion (.page p)) s = .next t ∧
      (∀ j, j / 64 = p.toNat → t.pQuar j = true) ∧ t.get BLV_QUARCNT_PAGES = satAdd 8 (s.get BLV_QUARCNT_PAGES) 1 ∧
      t.blv.frames = s.blv.frames ∧ t.blv.led = s.blv.led) ∧
  (∀ (s : State) (n : Fin 16) (q id : Nat) (f : TxFrame), (s.txPort n.val).ready.getLast? = some (q, id) →
    s.frameOf q id = some f →
    ∃ t : State, Machine.exec (.poisonedCompletion (.txData n)) s = .next t ∧ t.frameOf q id = none ∧
      t.blv.led.quar = s.blv.led.quar + 1 ∧ (q, id) ∉ (t.txPort n.val).ready ∧
      (⟨f.cells - 1, f.complOf q 8, false⟩ : Return) ∈ t.blv.returns) ∧
  (∀ (s : State) (d : Dispatch), s.cph.dispatched.find? (fun x => x.frame.id == d.frame.id) = some d →
    s.relayOut d.frame.id = none →
    ∃ t : State, Machine.exec (.poisonedCompletion (.rxData d.frame.id)) s = .next t ∧
      t.ses d.session = dropPending (s.ses d.session) d.frame.lfc.fcnt ∧ t.hif = s.hif ∧
      (∀ x ∈ t.cph.dispatched, x.frame.id ≠ d.frame.id) ∧ t.blv.led.quar = s.blv.led.quar + 1 ∧
      (⟨cellsOf d.frame.bodyLen - 1, none, false⟩ : Return) ∈ t.blv.returns) ∧
  (∀ (s : State) (lost : Nat) (r : Return) (rest : List Return), s.blv.returns = r :: rest →
    ∃ t : State, Machine.exec (.poisonedCompletion (.walk lost)) s = .next t ∧
      t.blv.returns = { r with cells := r.cells - min lost r.cells } :: rest ∧
      t.blv.led = { s.blv.led with quar := s.blv.led.quar + min lost r.cells }) ∧
  (∀ (s : State) (q : BitVec 20) (w : Sweep),
    (s.blv.sweeps.find? (fun x => x.queue == q.toNat) = none →
      Machine.exec (.quarantineSweepComplete q) s = .next s) ∧
    (s.blv.sweeps.find? (fun x => x.queue == q.toNat) = some w →
      ∃ t : State, Machine.exec (.quarantineSweepComplete q) s = .next t ∧
        t.blv.led = { s.blv.led with queued := s.blv.led.queued - w.cells, quar := s.blv.led.quar + w.cells } ∧
        look 0 t.blv.quarCells q.toNat = look 0 s.blv.quarCells q.toNat + w.cells ∧
        ∀ x ∈ t.blv.sweeps, x.queue ≠ q.toNat)) ∧
  (∀ (s : State) (k : Fin 6) (data : Word), s.reaches 0 (poolKey k) →
    let cells := Machine.bits data 0 25
    let bad := ¬ (s.mode = mStandby ∧ s.busy = false) ∨ (k = 5 ∧ (cells % 64 ≠ 0 ∨ 16777216 < cells))
    (bad → ∃ t : State, Machine.exec (.poolConfigWrite k data) s = .next t ∧ changes s t [] [a_BLV_POOLCFG] ∧
      t.flag BLV_POOLCFG_REFUSED = true ∧ t.get BLV_POOLCFG_CELLS = s.get BLV_POOLCFG_CELLS ∧ t.blv = s.blv) ∧
    (¬ bad → k ≠ 5 → ∃ t : State, Machine.exec (.poolConfigWrite k data) s = .next t ∧
      changesOnly s t [] [poolKey k] ∧ t.reg (poolKey k) = data &&& 0x7FFFF) ∧
    (¬ bad → k = 5 → data.getLsbD 25 = false → ∃ t : State, Machine.exec (.poolConfigWrite k data) s = .next t ∧
      changesOnly s t [] [a_BLV_POOLCFG] ∧ t.get BLV_POOLCFG_CELLS = cells)) ∧
  (∀ s : State, s.reaches 0 a_BLV_POOLCFG →
    let l := s.blv.led
    let may := s.mode = mStandby ∧ s.busy = false ∧ l.queued = 0 ∧ l.rx = 0 ∧ l.retained = 0 ∧ s.blv.returns = [] ∧
      s.blv.objFlush = none
    ∃ t : State, Machine.exec .rebuild s = .next t ∧ changes s t [] [a_BLV_POOLCFG] ∧
      (may → t.blv.rebuilding = true ∧ t.blv.led.free = 0 ∧ t.blv.led.quar = 0 ∧ t.blv.led.lost = false ∧
        t.blv.led.configured = (if s.isT then 8192 else s.get BLV_POOLCFG_CELLS) ∧
        ∀ c k, t.admitsCells c k = false) ∧
      (¬ may → t.flag BLV_POOLCFG_REFUSED = true ∧ t.blv = s.blv)) ∧
  (∀ s : State, (s.blv.rebuilding = false → Machine.exec .rebuildComplete s = .next s) ∧
    (s.blv.rebuilding = true → s.isT = false → ∃ t : State, Machine.exec .rebuildComplete s = .next t ∧
      t.blv.rebuilding = false ∧ t.blv.led = { configured := s.blv.led.configured, free := s.blv.led.configured } ∧
      changes s t [] [a_BLV_POOLCFG] ∧
      t.flag BLV_POOLCFG_ACT = decide (s.blv.led.configured = s.get BLV_POOLCFG_CELLS))) ∧
  ∀ s : State, s.readable 0 a_BLV_LFREE → ∃ t : State, Machine.exec .ledgerReadLatch s = .next t ∧
    changes s t [] [a_BLV_LFREE, a_BLV_LQUEUED, a_BLV_LRX, a_BLV_LRET, a_BLV_LQUAR, a_BLV_LSTAT] ∧ t.blv = s.blv ∧
    t.posted = .readData s.blv.led.free :: s.posted ∧
    t.get BLV_LFREE_FREE = s.blv.led.free % 2 ^ 25 ∧ t.get BLV_LQUEUED_QUEUED = s.blv.led.queued % 2 ^ 25 ∧
    t.get BLV_LRX_RX = s.blv.led.rx % 2 ^ 25 ∧ t.get BLV_LRET_RETAINED = s.blv.led.retained % 2 ^ 25 ∧
    t.get BLV_LQUAR_QUAR = s.blv.led.quar % 2 ^ 25 ∧ t.flag BLV_LSTAT_RETURN = !s.blv.returns.isEmpty ∧
    t.flag BLV_LSTAT_REBUILD = s.blv.rebuilding ∧ t.flag BLV_LSTAT_SWEEP = !s.blv.sweeps.isEmpty ∧
    t.flag BLV_LSTAT_LOST = s.blv.led.lost

/-- For an instance that is present and powered. ARCADE_HANDOVER with no packet open, a committed packet in the filling
bank and the other bank released hands the filling bank with its packets and words over, and a FILL that rises to
LEVEL fires source 336 + i with bit 0; otherwise it changes nothing. ARCADE_RELEASE frees a handed bank once all its
packets are read, and no earlier. ARCADE_FLUSH stores MAXPKT and LEVEL within their limits and, unless a flush is in
progress or the port is sending a frame of the instance, discards all packets, counts them in LOST and makes the
frames of a transmit instance be sent again. ARCADE_FLUSH_COMPLETE empties it, clears FLUSH and fires source 336 + i
with bit 2. ARCADE_POINTER_MISMATCH fires source 102 + i, counts, empties the instance, and ends the frame its port
is sending. (R270, R272, R275, R276, R277, R278, R279, Table 12-2, Table 12-4) -/
def Obligations.ArcadeBanksChangeHandsWhole : Prop :=
  (∀ (s : State) (i : Fin 40),
    let a := s.arcOf i.val
    let level := s.get (ARC_CFG_LEVEL i.val)
    let may := s.arcPresent i.val = true ∧ s.domOn (arcDomain i.val) = true ∧ s.flag (ARC_CFG_FLUSH i.val) = false ∧
      a.opened = none ∧ a.filling ≠ [] ∧ a.isHanded = false
    let b : ArcSt := { a with
      wbank := !a.wbank
      filling := []
      isHanded := true
      handed := a.filling
      unread := (a.filling.map Packet.words).sum }
    (¬ may → Machine.exec (.arcadeHandover i) s = .next s) ∧
    (may → level = 0 ∨ b.unread < level → Machine.exec (.arcadeHandover i) s = .next (s.setArc i.val b)) ∧
    (may → level ≠ 0 → level ≤ b.unread → find s.sq.staged (336 + i.val) = none →
      ∃ t : State, Machine.exec (.arcadeHandover i) s = .next t ∧ t.arcOf i.val = b ∧
        changes s t [(336 + i.val, 1)] [])) ∧
  (∀ (s : State) (i : Fin 40), s.arcPresent i.val = true → s.domOn (arcDomain i.val) = true →
    let a := s.arcOf i.val
    let drained := a.isHanded = true ∧ a.handed = []
    (32 ≤ i.val ∨ i.val % 2 = 1 →
      (drained → Machine.exec (.arcadeRelease i) s =
        .next (s.setArc i.val { a with isHanded := false, unread := 0 })) ∧
      (¬ drained → Machine.exec (.arcadeRelease i) s = .next s)) ∧
    (i.val < 32 → i.val % 2 = 0 → drained → Machine.exec (.arcadeRelease i) s =
      .next ((s.setArc i.val { a with isHanded := false, unread := 0 }).rxProgress (i.val / 2) 64))) ∧
  (∀ (s : State) (i : Fin 40) (w : Word), s.reaches 0 (a_ARC_CFG i.val) →
    let a := s.arcOf i.val
    let v := Machine.bits w 0 10
    let sends := i.val < 32 ∧ i.val % 2 = 1 ∧ s.airOf (i.val / 2) ≠ none
    ∃ t : State, Machine.exec (.arcadeFlush i w) s = .next t ∧ t.flag (ARC_CFG_FLUSH i.val) = true ∧
      t.get (ARC_CFG_LEVEL i.val) = min 1024 (Machine.bits w 16 11) ∧
      t.get (ARC_CFG_MAXPKT i.val) = (if v = 0 then s.get (ARC_CFG_MAXPKT i.val) else if 512 < v then 512
        else if i.val < 32 ∧ i.val % 2 = 0 then v else max 289 v) ∧
      (s.flag (ARC_CFG_FLUSH i.val) = true ∨ sends → changesOnly s t [] [a_ARC_CFG i.val]) ∧
      (s.flag (ARC_CFG_FLUSH i.val) = false → ¬ sends → (t.arcOf i.val).packets = [] ∧
        (t.arcOf i.val).isHanded = false ∧ (t.arcOf i.val).opened = none ∧
        t.get (ARC_ERR_LOST i.val) = satAdd 16 (s.get (ARC_ERR_LOST i.val)) (a.packets.length + b2n a.opened.isSome) ∧
        ∀ n q id, i.val = 2 * n + 1 → n < 16 → (∃ p ∈ a.packets, p.load = .tx q id) →
          ∀ f, s.frameOf q id = some f → f.poison = false →
            (q, id) ∈ (t.txPort n).again ∧ (q, id) ∉ (t.txPort n).ready)) ∧
  (∀ (s : State) (i : Fin 40),
    let due := s.arcPresent i.val = true ∧ s.domOn (arcDomain i.val) = true ∧ s.flag (ARC_CFG_FLUSH i.val) = true ∧
      ¬ (i.val < 32 ∧ i.val % 2 = 1 ∧ s.airOf (i.val / 2) ≠ none)
    (¬ due → Machine.exec (.arcadeFlushComplete i) s = .next s) ∧
    (due → find s.sq.staged (336 + i.val) = none → ∃ t : State, Machine.exec (.arcadeFlushComplete i) s = .next t ∧
      t.flag (ARC_CFG_FLUSH i.val) = false ∧ (t.arcOf i.val).packets = [] ∧ (t.arcOf i.val).isHanded = false ∧
      fired s t (336 + i.val) 4)) ∧
  ∀ (s : State) (i : Fin 40),
    let live := s.arcPresent i.val = true ∧ s.domOn (arcDomain i.val) = true
    (¬ live → Machine.exec (.arcadePointerMismatch i) s = .next s) ∧
    (live → ∃ t : State, Machine.exec (.arcadePointerMismatch i) s = .next t ∧ fired s t (102 + i.val) 0 ∧
      t.get (ARC_ERR_MISMATCH i.val) = satAdd 8 (s.get (ARC_ERR_MISMATCH i.val)) 1 ∧
      (t.arcOf i.val).packets = [] ∧
      ∀ m a, i.val < 32 → i.val % 2 = 1 → s.airOf (i.val / 2) = some (m, a) → (t.txPort m).air = none)

/-- LINK_TRAINED with the supply good stores the rate, at most MAXRATE, and the width. A write of BASE is applied while
EN is 0 and IDLE 1, else it sets REFUSED. RING_ENABLE, and a write of RCFG with EN 1, of a disabled ring is refused,
changing nothing but REFUSED, for LOGSZ outside 4 to 16, TYPE 0 or 5 to 7, a PEER that is not a COMPL ring, or a
changed TYPE, LOGSZ or PEER while IDLE is 0; else it enables the ring with P, C, ERR and STOPPED zero. RING_DISABLE
of a COMPL ring is refused while RESV is above 0 or an enabled ring names it; of an RXPOST ring it completes every
buffer RX_FLUSHED, on a COMPL ring that is not stopped. DOORBELL_WRITE fires ES384 + r/64 (function 0), does no more
on a disabled ring, moves the index where valid, and else stops the ring with BADIDX. A vector timer that expires
sends its message when requests came, and restarts; an unmasked pending vector is requested. A ring that names
itself as PEER is refused as one that names no COMPL ring. (R283, R287, R288, R289, R290, R301, Table 13-1, Table
13-13) -/
def Obligations.RingsAndVectorsObeyTheirRegisters : Prop :=
  (∀ (s : State) (rate : Fin 4) (x8 : Bool),
    let ok := s.domOn dHif = true ∧ s.pw.supplyLow.getLsbD 4 = false
    (¬ ok → Machine.exec (.linkTrained rate x8) s = .next s) ∧
    (ok → ∃ t : State, Machine.exec (.linkTrained rate x8) s = .next t ∧ t.hif.linkUp = true ∧
      t.get HIF_LINKSTAT_RATE = min rate.val (s.get HIF_LINKCTL_MAXRATE) ∧ t.flag HIF_LINKSTAT_X8 = x8 ∧
      t.get HIF_LINKSTAT_RETRY = s.get HIF_LINKSTAT_RETRY ∧ sameRegs s t [a_HIF_LINKSTAT] ∧
      t = { s with
        regs := t.regs
        hif.linkUp := true })) ∧
  (∀ (s : State) (func : Fin 2) (r : BitVec 12) (k : Fin 3) (v : Word), r.toNat < ringCount func.val → k.val < 2 →
    let a := ringKey func.val r.toNat k.val
    let w := if k.val = 0 then v &&& 0xFFFFF000 else v
    let idle := s.flag (rEn func.val r.toNat) = false ∧ s.flag (rIdle func.val r.toNat) = true
    s.reaches func.val (offsetOf func.val a) →
      (w = s.reg a → Machine.exec (.ringConfigWrite func r k v) s = .next s) ∧
      (w ≠ s.reg a → idle → Machine.exec (.ringConfigWrite func r k v) s = .next (s.setReg a w)) ∧
      (w ≠ s.reg a → ¬ idle → ∃ t : State, Machine.exec (.ringConfigWrite func r k v) s = .next t ∧
        t.flag (rRefused func.val r.toNat) = true ∧ changesOnly s t [] [ringKey func.val r.toNat 2])) ∧
  (∀ (s : State) (func : Fin 2) (r : BitVec 12) (v : Word) (c : Instr), r.toNat < ringCount func.val →
    (∃ w, c = .ringEnable func r w ∧ v = w ||| 0x20000000) ∨ (c = .ringConfigWrite func r 2 v ∧ v.getLsbD 29 = true) →
    let f := func.val
    let n := r.toNat
    let a := ringKey f n 2
    let type := if f = 0 then Machine.bits v 0 3 else 4
    let peer := Machine.bits v 8 12
    let bad := Machine.bits v 3 5 < 4 ∨ 16 < Machine.bits v 3 5 ∨ type = 0 ∨ 5 ≤ type ∨
      ((type = 1 ∨ type = 2) ∧ (peer = n ∨ s.get (HIF_RCFG_TYPE peer) ≠ 3))
    let moved := (s.reg a ^^^ v) &&& shapeMask f ≠ 0
    let idle := s.flag (rIdle f n) = true
    s.reaches f (offsetOf f a) → s.flag (rEn f n) = false →
      (bad ∨ (moved ∧ ¬ idle) → ∃ t : State, Machine.exec c s = .next t ∧ t.reg a = s.reg a ||| 0x40000000 ∧
        changesOnly s t [] [a]) ∧
      (¬ bad → ¬ (moved ∧ ¬ idle) → ∃ t : State, Machine.exec c s = .next t ∧ t.flag (rEn f n) = true ∧
        t.reg a &&& cfgMask f = v &&& cfgMask f ∧ t.get (rP f n) = 0 ∧ t.get (rC f n) = 0 ∧
        t.flag (rStopped f n) = false ∧ t.get (rErr f n) = 0 ∧ t.flag (rIdle f n) = false ∧
        changesOnly s t [] [a, (rP f n).addr, (rC f n).addr, (rIdle f n).addr])) ∧
  (∀ (s : State) (func : Fin 2) (r : BitVec 12) (v : Word) (c : Instr), r.toNat < ringCount func.val →
    (∃ w, c = .ringDisable func r w ∧ v = w &&& ~~~(0x20000000#32)) ∨
      (c = .ringConfigWrite func r 2 v ∧ v.getLsbD 29 = false) →
    let f := func.val
    let n := r.toNat
    let a := ringKey f n 2
    let type := s.get (rType f n)
    let named := f = 0 ∧ type = 3 ∧ (s.get (HIF_RSTAT_RESV n) ≠ 0 ∨ ∃ k, k < 4096 ∧ s.flag (HIF_RCFG_EN k) = true ∧
      s.get (HIF_RCFG_PEER k) = n ∧ (s.get (HIF_RCFG_TYPE k) = 1 ∨ s.get (HIF_RCFG_TYPE k) = 2))
    let moved := (s.reg a ^^^ v) &&& shapeMask f ≠ 0
    s.reaches f (offsetOf f a) → s.flag (rEn f n) = true →
      (moved ∨ named → ∃ t : State, Machine.exec c s = .next t ∧ t.reg a = s.reg a ||| 0x40000000 ∧
        changesOnly s t [] [a]) ∧
      (¬ moved → ¬ named → ¬ (f = 0 ∧ type = 2) → ∃ t : State, Machine.exec c s = .next t ∧
        t.flag (rEn f n) = false ∧ (t.flag (rIdle f n) = true ↔ f = 1 ∨ look 0 s.hif.taken n = 0) ∧
        changesOnly s t [] [a, (rIdle f n).addr]) ∧
      (¬ moved → ¬ named → f = 0 → type = 2 → s.mode ≠ mSafe → s.flag (HIF_RSTAT_STOPPED (s.peer n)) = false →
        let l := look [] s.hif.bufs n
        let p := s.peer n
        ∃ t : State, Machine.exec c s = .next t ∧ t.flag (rEn f n) = false ∧ look [] t.hif.bufs n = [] ∧
          t.get (HIF_RPROD_P p) = (s.get (HIF_RPROD_P p) + l.length) % 2 ^ 32 ∧
          t.get (HIF_RSTAT_RESV p) = s.get (HIF_RSTAT_RESV p) - l.length ∧
          look 0 t.hif.taken n = look 0 s.hif.taken n - l.length ∧
          ∀ j b, l[j]? = some b → let i := (s.get (HIF_RPROD_P p) + j) % 2 ^ 32
            Output.hostWrite (s.rAddr 0 p 32 i)
              (leBytes 32 ((s.rxCompl n b.token 0x22).word (s.rPhase 0 p i))) ∈ t.posted)) ∧
  (∀ (s : State) (func : Fin 2) (r : BitVec 12) (v : Word),
    let f := func.val
    let n := r.toNat
    let ev := if f = 0 then [(384 + n / 64, n % 64)] else []
    let produces := s.get (rType f n) = 1 ∨ s.get (rType f n) = 2
    let fill := (s.get (rP f n) + 2 ^ 32 - s.get (rC f n)) % 2 ^ 32
    let valid := if produces then (v.toNat + 2 ^ 32 - s.get (rP f n)) % 2 ^ 32 ≤ 2 ^ s.get (rLog f n) - fill
      else (v.toNat + 2 ^ 32 - s.get (rC f n)) % 2 ^ 32 ≤ fill
    (f = 0 ∧ s.violationKind 0 1 (4096 * n) true = none) ∨
      (f = 1 ∧ n < 16 ∧ s.reaches 1 (offsetOf 1 (a_F1_RCONS n))) → s.domOn dAon = true →
      (s.flag (rEn f n) = false → ∃ t : State, Machine.exec (.doorbellWrite func r v) s = .next t ∧
        changesOnly s t ev []) ∧
      (s.flag (rEn f n) = true → valid → ∃ t : State, Machine.exec (.doorbellWrite func r v) s = .next t ∧
        t.get (if produces then rP f n else rC f n) = v.toNat ∧
        changesOnly s t ev [(if produces then rP f n else rC f n).addr]) ∧
      (s.flag (rEn f n) = true → ¬ valid → ∃ t : State, Machine.exec (.doorbellWrite func r v) s = .next t ∧
        t.flag (rStopped f n) = true ∧ t.get (rErr f n) = 1 ∧ t.get (rP f n) = s.get (rP f n) ∧
        t.get (rC f n) = s.get (rC f n) ∧ (∀ e ∈ ev, fired s t e.1 e.2) ∧
        let m := s.get HIF_NOTCFG_RING
        (s.flag HIF_NOTCFG_EN = true → ¬ (f = 0 ∧ m = n) → s.mode ≠ mSafe → s.eventRoom 0 m 2 = true →
          t.get (HIF_RPROD_P m) = (s.get (HIF_RPROD_P m) + 2) % 2 ^ 32))) ∧
  (∀ (s : State) (func : Fin 2) (v : Fin 256) (tm : VecTimer), find s.hif.timers (vecKey func.val v.val) = some tm →
    let key := vecKey func.val v.val
    let h := s.get (vHoldoff func.val v.val)
    (s.tick < tm.expiry → Machine.exec (.vectorHoldoffExpiry func v) s = .next s) ∧
    (tm.expiry ≤ s.tick → s.mode ≠ mSafe → 0 < tm.n → Machine.exec (.vectorHoldoffExpiry func v) s = .next { s with
      posted := .msix func.val v.val :: s.posted
      hif.timers := if h = 0 then del key s.hif.timers else put key ⟨s.tick + h * tUs, 0⟩ s.hif.timers }) ∧
    (tm.expiry ≤ s.tick → tm.n = 0 ∨ s.mode = mSafe → Machine.exec (.vectorHoldoffExpiry func v) s =
      .next { s with hif.timers := del key s.hif.timers })) ∧
  ∀ (s : State) (func : Fin 2) (v : Fin 256), (func.val = 1 → v.val < 32) →
    s.reaches func.val (offsetOf func.val (vMask func.val v.val).addr) → s.mode ≠ mSafe →
    let key := vecKey func.val v.val
    let h := s.get (vHoldoff func.val v.val)
    let b := s.get (vBatch func.val v.val)
    let pends := s.flag (vPend func.val v.val) = true ∧ s.flag (vMask func.val v.val) = true
    ∃ t : State, Machine.exec (.vectorUnmask func v) s = .next t ∧ t.flag (vMask func.val v.val) = false ∧
      sameRegs s t [(vMask func.val v.val).addr, (vPend func.val v.val).addr] ∧
      (¬ pends → t.posted = s.posted ∧ t.hif = s.hif ∧ t.flag (vPend func.val v.val) = s.flag (vPend func.val v.val)) ∧
      (pends → t.flag (vPend func.val v.val) = false ∧
        (find s.hif.timers key = none → t.posted = .msix func.val v.val :: s.posted ∧
          (h ≠ 0 → find t.hif.timers key = some ⟨s.tick + h * tUs, 0⟩)) ∧
        ∀ tm, find s.hif.timers key = some tm →
          (0 < b → b ≤ tm.n + 1 → t.posted = .msix func.val v.val :: s.posted) ∧
          (b = 0 ∨ tm.n + 1 < b → t.posted = s.posted ∧
            find t.hif.timers key = some { tm with n := tm.n + 1 }))

/-- TX_SUBMIT_DESCRIPTOR and RX_POST_DESCRIPTOR take a descriptor only from an enabled ring of their type that is not
stopped, has one, and whose COMPL ring is enabled, not stopped, and has room beyond RESV; else they change nothing.
C advances. The checks of R292 end a submission in their order with BAD_DESC, Q_UNBOUND, QUARANTINED, BAD_DESC or
NO_CELL: one completion is written and no cell moves. Else, but for G9903 ports, the frame takes its cells and
stands last in its queue, RESV counts it, and nothing is posted; an AUTH body goes as an AUTH frame on the control
queue of its port. A post of no bytes completes BAD_DESC, else its buffer waits. DESCRIPTOR_READ_ERROR stops the
ring with HOST_RD. HOST_BODY_READ_ERROR of an admissible descriptor returns its cells and owes HOST_ERR. RX_DELIVERY
writes header and body into the next buffer and owes OK; too small a buffer is left unwritten and owes RX_TOOBIG;
without EN the frame is dropped and counted. RX_BUFFER_WAIT_EXPIRY drops a frame that found no buffer in WAIT. (R20,
R221, R290, R292, R293, R294, R296, R298, R299, Table 13-3, Table 13-5, Table 13-6) -/
def Obligations.DescriptorsAreTakenAndCompletedOnce : Prop :=
  let ready := fun (s : State) (n type : Nat) => s.mode ≠ mSafe ∧ s.get (HIF_RCFG_TYPE n) = type ∧
    s.flag (HIF_RCFG_EN n) = true ∧ s.flag (HIF_RSTAT_STOPPED n) = false ∧ s.get (HIF_RPROD_P n) ≠ s.get (HIF_RCONS_C n) ∧
    s.get (HIF_RCFG_TYPE (s.peer n)) = 3 ∧ s.flag (HIF_RCFG_EN (s.peer n)) = true ∧
    s.flag (HIF_RSTAT_STOPPED (s.peer n)) = false ∧
    s.get (HIF_RSTAT_RESV (s.peer n)) + 1 + s.rFill 0 (s.peer n) ≤ 2 ^ s.get (HIF_RCFG_LOGSZ (s.peer n))
  let took := fun (s t : State) (n : Nat) => t.get (HIF_RCONS_C n) = (s.get (HIF_RCONS_C n) + 1) % 2 ^ 32
  let ends := fun (s t : State) (n : Nat) (c : Compl) => took s t n ∧ completed s t c ∧
    t.get (HIF_RSTAT_RESV c.ring) = s.get (HIF_RSTAT_RESV c.ring) ∧ t.blv = s.blv
  let waits := fun (s t : State) (n : Nat) => took s t n ∧ t.posted = s.posted ∧
    t.get (HIF_RSTAT_RESV (s.peer n)) = s.get (HIF_RSTAT_RESV (s.peer n)) + 1
  (∀ (s : State) (r : BitVec 12) (d : BitVec 256) (body : List Byte),
    let n := r.toNat
    let x := TxDesc.ofBits d
    let b := (body ++ List.replicate x.len 0).take x.len
    let v := s.queue x.queue
    let bad := x.rsvdOk = false ∨ x.len = 0 ∨ 9184 < x.len ∨ 999999999 < x.ns
    let bound := x.queue < s.queueCount ∧ sub v qBOUND = 1
    let bcast := sub v qBCAST = 1
    let own := s.profile (s.queuePort x.queue) ≠ pfG3
    let go := ready s n 1 ∧ s.flag (ARC_CFG_FLUSH (32 + n % 4)) = false
    let k := cellsOf x.len
    (¬ go → Machine.exec (.txSubmitDescriptor r d body) s = .next s) ∧
    (go → s.get (HIF_RCFG_LOGSZ (s.peer n)) ≤ 16 → ∃ t : State, Machine.exec (.txSubmitDescriptor r d body) s = .next t ∧
      (bad → ends s t n (s.descCompl n x 10)) ∧
      (¬ bad → x.auth = false → ¬ bound → ends s t n (s.descCompl n x 11)) ∧
      (¬ bad → x.auth = false → bound → s.qQuar x.queue = true → ends s t n (s.descCompl n x 7)) ∧
      (¬ bad → x.auth = false → bound → s.qQuar x.queue = false →
        x.cls ≠ sub v qCLASS ∨ (x.secure = true ∧ (bcast ∨ s.isT = true)) → ends s t n (s.descCompl n x 10)) ∧
      (¬ bad → x.auth = false → bound → s.qQuar x.queue = false → x.cls = sub v qCLASS →
        (x.secure = true → ¬ bcast ∧ s.isT = false) → own →
        (s.admitsCells x.cls k = false → ends s t n (s.descCompl n x 2)) ∧
        (s.admitsCells x.cls k = true → waits s t n ∧
          t.blv.led = { s.blv.led with
            free := s.blv.led.free - k
            queued := s.blv.led.queued + k } ∧
          ∃ g : TxFrame, t.framesOf x.queue = s.framesOf x.queue ++ [g] ∧ g.body = b ∧ g.cls = x.cls ∧
            g.lfc.sec = x.secure ∧ g.cut = x.cut ∧ g.timed = x.timed ∧ g.launchNs = x.launch ∧
            g.compl = some (s.peer n, x.token, n) ∧ g.retained = false ∧ g.enq = s.tick ∧
            (bcast → g.lfc.src = s.ownAddr ∧ g.lfc.dst = addrAll ∧ g.lfc.ackreq = false) ∧
            (¬ bcast → g.lfc.ackreq = true))) ∧
      (¬ bad → x.auth = true → s.authOk x = false → ends s t n (s.descCompl n x 10)) ∧
      (¬ bad → s.authOk x = true → x.auth = true → (∀ j ∈ s.hif.joins, j.eui = leNat (b.take 8) → j.via = 0) →
        s.admitsCells 0 k = true → waits s t n ∧ ∃ g : TxFrame,
          t.framesOf (ctrlQueue x.queue) = s.framesOf (ctrlQueue x.queue) ++ [g] ∧ g.body = b ∧ g.auth = true ∧
          g.lfc.ftype = 4 ∧ g.lfc.src = s.ownAddr ∧ g.lfc.dst = addrNone ∧ g.lfc.ackreq = false))) ∧
  (∀ (s : State) (r : BitVec 12) (d : BitVec 128),
    let n := r.toNat
    let b : RxBuf := ⟨Machine.bits d 0 64, Machine.bits d 64 16, Machine.bits d 96 32⟩
    (¬ ready s n 2 → Machine.exec (.rxPostDescriptor r d) s = .next s) ∧
    (ready s n 2 → s.get (HIF_RCFG_LOGSZ (s.peer n)) ≤ 16 →
      ∃ t : State, Machine.exec (.rxPostDescriptor r d) s = .next t ∧
        (b.len = 0 → ends s t n (s.rxCompl n b.token 10)) ∧
        (b.len ≠ 0 → waits s t n ∧ look [] t.hif.bufs n = look [] s.hif.bufs n ++ [b] ∧ t.blv = s.blv))) ∧
  (∀ (s : State) (r : BitVec 12),
    let n := r.toNat
    let due := s.mode ≠ mSafe ∧ (s.get (HIF_RCFG_TYPE n) = 1 ∨ s.get (HIF_RCFG_TYPE n) = 2) ∧
      s.flag (HIF_RCFG_EN n) = true ∧ s.flag (HIF_RSTAT_STOPPED n) = false ∧ s.get (HIF_RPROD_P n) ≠ s.get (HIF_RCONS_C n)
    (¬ due → Machine.exec (.descriptorReadError r) s = .next s) ∧
    (due → ∃ t : State, Machine.exec (.descriptorReadError r) s = .next t ∧ t.flag (HIF_RSTAT_STOPPED n) = true ∧
      t.get (HIF_RSTAT_ERR n) = 2 ∧ t.get (HIF_RPROD_P n) = s.get (HIF_RPROD_P n) ∧
      t.get (HIF_RCONS_C n) = s.get (HIF_RCONS_C n) ∧ t.blv = s.blv)) ∧
  (∀ (s : State) (r : BitVec 12) (d : BitVec 256),
    let n := r.toNat
    let x := TxDesc.ofBits d
    let k := cellsOf x.len
    (¬ ready s n 1 → Machine.exec (.hostBodyReadError (.taken r d)) s = .next s) ∧
    (ready s n 1 → ∃ t : State, Machine.exec (.hostBodyReadError (.taken r d)) s = .next t ∧ took s t n ∧
      (s.descCheck x = none → s.admitsCells x.cls k = true → t.posted = s.posted ∧
        t.blv.led = { s.blv.led with free := s.blv.led.free - k } ∧
        t.blv.returns = s.blv.returns ++ [(⟨k, some (s.descCompl n x 12), false⟩ : Return)]))) ∧
  (∀ (s : State) (q : BitVec 20) (f : TxFrame),
    (s.framesOf q.toNat).find? (fun (g : TxFrame) => g.arriving && g.relayOf.isNone) = some f →
    ∃ t : State, Machine.exec (.hostBodyReadError (.linked q)) s = .next t ∧ f ∉ t.framesOf q.toNat ∧
      (⟨f.cells, f.complOf q.toNat 12, false⟩ : Return) ∈ t.blv.returns) ∧
  (∀ (s : State) (c : Fin 8) (d : Delivery), s.mode ≠ mSafe → s.hif.deliveries.find? (fun (y : Delivery) => y.cls == c.val) = some d →
    let r := s.get (HIF_RXMAP_RING c.val)
    let room := 32 + d.body.length
    let back := fun (t : State) (o : Option Compl) =>
      t.blv.returns = s.blv.returns ++ [(⟨d.frame.cells, o, false⟩ : Return)] ∧
      t.hif.deliveries = dropFirst (fun (y : Delivery) => y.cls == c.val) s.hif.deliveries
    (s.flag (HIF_RXMAP_EN c.val) = false → ∃ t : State, Machine.exec (.rxDelivery c) s = .next t ∧ back t none ∧
      t.get HIF_RXDROP_NOMAP = satAdd 16 (s.get HIF_RXDROP_NOMAP) 1 ∧ t.posted = s.posted) ∧
    (s.flag (HIF_RXMAP_EN c.val) = true → look [] s.hif.bufs r = [] ∨ s.flag (ARC_CFG_FLUSH (36 + r % 4)) = true →
      Machine.exec (.rxDelivery c) s = .next s) ∧
    ∀ b rest, s.flag (HIF_RXMAP_EN c.val) = true → look [] s.hif.bufs r = b :: rest →
      s.flag (ARC_CFG_FLUSH (36 + r % 4)) = false →
      ∃ t : State, Machine.exec (.rxDelivery c) s = .next t ∧ look [] t.hif.bufs r = rest ∧
        (b.len < room → t.posted = s.posted ∧ back t (some (s.deliverCompl d r b 0x21))) ∧
        (room ≤ b.len → d.failed = true → t.posted = .hostWrite b.addr (List.replicate room 0) :: s.posted ∧
          back t (some (s.deliverCompl d r b 0x20))) ∧
        (room ≤ b.len → d.failed = false → back t (some (s.deliverCompl d r b 0)) ∧ t.posted = .hostWrite b.addr
          (rxHeader d.frame d.cls (s.get (PRT_G3CFG_PANID d.frame.port)) ++ d.body) :: s.posted)) ∧
  ∀ (s : State) (c : Fin 8) (d : Delivery), s.hif.deliveries.find? (fun (y : Delivery) => y.cls == c.val) = some d →
    let due := look [] s.hif.bufs (s.get (HIF_RXMAP_RING c.val)) = [] ∧
      d.since + s.get (HIF_RXMAP_WAIT c.val) * 125 ≤ s.tick
    (¬ due → Machine.exec (.rxBufferWaitExpiry c) s = .next s) ∧
    (due → ∃ t : State, Machine.exec (.rxBufferWaitExpiry c) s = .next t ∧
      t.hif.deliveries = dropFirst (fun (y : Delivery) => y.cls == c.val) s.hif.deliveries ∧
      t.get HIF_RXDROP_NOBUF = satAdd 16 (s.get HIF_RXDROP_NOBUF) 1 ∧
      t.blv.returns = s.blv.returns ++ [(⟨d.frame.cells, none, false⟩ : Return)])

/-- Outside COORDINATOR and ISLAND, or while BUSY is 1, both commands are ignored. Without an outstanding request for
the EUI-64 of HIF_MACARG0 and 1 the RESULT is NO_REQUEST. ADMIT with a named address that no partner may have, or
that belongs to another EUI-64, gives ADDR_IN_USE; a named session with a frame retained or in reception, or beyond
the sessions, gives SESSION_IN_USE (that a number beyond the sessions answers so is the model's choice); with no
free one, FULL; none of these changes anything else. Otherwise ADMIT writes NEIGH, PORT, GROUPED, NABSENT and
NSLEEPY of the session, makes the address PRESENT with the EUI-64, port and session, sends the ADMIT frame on the
control queue of the port, clears the request and returns the address and the session used. REJECT sends the REJECT
frame and clears the request. Both frames need one free cell. (R213, R214, R302, Table 13-14) -/
def Obligations.HostAnswersJoinRequests : Prop :=
  (∀ (s : State) (c : Instr), c = .admitCommand ∨ c = .rejectCommand → s.reaches 0 a_HIF_MACCMD →
    let eui := s.get (HIF_MACARG01_EUI 0) + 2 ^ 32 * s.get (HIF_MACARG01_EUI 1)
    let takes := s.flag HIF_MACRES_BUSY = false ∧ (s.mode = mCoordinator ∨ s.mode = mIsland)
    (¬ takes → Machine.exec c s = .next s) ∧
    (takes → (∀ j ∈ s.hif.joins, j.eui ≠ eui) → ∃ t : State, Machine.exec c s = .next t ∧
      t.get HIF_MACRES_RESULT = 1 ∧ changesOnly s t [] [a_HIF_MACRES])) ∧
  (∀ (s : State) (j : JoinReq), s.reaches 0 a_HIF_MACCMD → s.flag HIF_MACRES_BUSY = false →
    s.mode = mCoordinator ∨ s.mode = mIsland →
    let eui := s.get (HIF_MACARG01_EUI 0) + 2 ^ 32 * s.get (HIF_MACARG01_EUI 1)
    s.hif.joins.find? (fun (x : JoinReq) => x.eui == eui) = some j →
    let named := s.get HIF_MACARG2_ADDR
    let nses := s.get HIF_MACARG3_SESSION
    let addrOk := s.partnerAddr named = true ∧ (sub (s.dirOf named) dSTATE = 0 ∨ sub (s.dirOf named) dEUI = j.eui)
    let sesOk := nses < s.sessionCount ∧ s.sesInUse nses = false
    let fails := fun (t : State) (r : Nat) => t.get HIF_MACRES_RESULT = r ∧ changesOnly s t [] [a_HIF_MACRES]
    (named ≠ 0 → ¬ addrOk → ∃ t : State, Machine.exec .admitCommand s = .next t ∧ fails t 2) ∧
    (named = 0 → s.knownAddr j.eui = none → s.freeAddr = none →
      ∃ t : State, Machine.exec .admitCommand s = .next t ∧ fails t 4) ∧
    ∀ a, (named ≠ 0 ∧ addrOk ∧ a = named) ∨ (named = 0 ∧ s.knownAddr j.eui = some a) ∨
        (named = 0 ∧ s.knownAddr j.eui = none ∧ s.freeAddr = some a) →
      (nses ≠ 0 → ¬ sesOk → ∃ t : State, Machine.exec .admitCommand s = .next t ∧ fails t 3) ∧
      ∀ k, (nses ≠ 0 ∧ sesOk ∧ k = nses) ∨ (nses = 0 ∧ s.admitSes = .inl k) →
        ∃ t : State, Machine.exec .admitCommand s = .next t ∧ t.get HIF_MACRES_RESULT = 0 ∧
          t.get HIF_MACRES_ADDR = a % 2 ^ 25 ∧ t.get HIF_MACRES2_SESSION = k % 2 ^ 18 ∧
          (∀ x ∈ t.hif.joins, x.eui ≠ j.eui) ∧ sub (t.dirOf a) dSTATE = 1 ∧ sub (t.dirOf a) dEUI = j.eui % 2 ^ 64 ∧
          sub (t.dirOf a) dSESSION = k % 2 ^ 18 ∧ sub (t.dirOf a) dPORT = j.port % 16 ∧
          sub (t.dirOf a) dHOP = j.hop % 16 ∧
          let next := if j.via = 0 then a else sub (s.dirOf j.via) dNEXTHOP
          let parent := if j.via = 0 then s.ownAddr else j.via
          t.ses k = withSub (withSub (withSub (withSub (withSub (s.ses k) sNEIGH next) sPORT j.port) sGROUPED
            (j.cap / 4 % 2)) sNABSENT 0) sNSLEEPY (j.cap / 2 % 2) ∧
          (s.admitsCells 0 1 = true → ∃ g : TxFrame,
            t.framesOf (ctrlQueue j.port) = s.framesOf (ctrlQueue j.port) ++ [g] ∧ g.lfc.ftype = 2 ∧
            g.lfc.dst = addrNone ∧ g.lfc.ackreq = false ∧ g.body = (3 :: leBytes 8 j.eui) ++ leBytes 4 a ++ leBytes 4 k ++
              leBytes 4 (parent + (j.hop - 1) * 2 ^ 25) ++ leBytes 1 (s.get HIF_MACARG3_BIDX) ++
              leBytes 1 (s.get MAC_PRESENCE_KA_INT))) ∧
  ∀ (s : State) (j : JoinReq), s.reaches 0 a_HIF_MACCMD → s.flag HIF_MACRES_BUSY = false →
    s.mode = mCoordinator ∨ s.mode = mIsland →
    s.hif.joins.find? (fun (x : JoinReq) => x.eui == s.get (HIF_MACARG01_EUI 0) + 2 ^ 32 * s.get (HIF_MACARG01_EUI 1)) = some j →
    ∃ t : State, Machine.exec .rejectCommand s = .next t ∧ t.get HIF_MACRES_RESULT = 0 ∧
      (∀ x ∈ t.hif.joins, x.eui ≠ j.eui) ∧ t.blv.dir = s.blv.dir ∧ t.blv.sessions = s.blv.sessions ∧
      (s.admitsCells 0 1 = true → ∃ g : TxFrame,
        t.framesOf (ctrlQueue j.port) = s.framesOf (ctrlQueue j.port) ++ [g] ∧ g.lfc.ftype = 2 ∧
        g.lfc.dst = addrNone ∧ g.lfc.ackreq = false ∧ g.body = 5 :: leBytes 8 j.eui)

/-- A mailbox command written while BUSY is 1 changes nothing. Otherwise it fires ES448 and: CONFIRM and COMMIT in SAFE,
and LIFECYCLE outside STANDBY, end at once with MODE; an OP that Table 13-10 does not define ends at once with
BAD_ARG; STATUS will return SYS_BOOTSTAT and SYS_MODESTAT, from boot step 5 in PROOF too; CONFIRM without TRIAL,
COMMIT with TRIAL, LIFECYCLE in FIELD (the model's choice, log entry 28) and FLASH_WRITE of a region of the running
pair outside SAFE are REFUSED; bad arguments give BAD_ARG; COMMIT raises the anti-rollback counter to the lower
SEC_VER and fires ES152 where it rises; LIFECYCLE sets FIELD and fires ES152; CONFIRM, FLASH_WRITE, FLASH_READ,
SET_BOOT and SAFEPROF become a flash operation and wait for it; HISTORY writes the records held into the data
buffer, oldest first, and will return their number; RESTART raises ES008 in the next tick, in which the warm boot
begins. MAILBOX_COMMAND_END of a command that waits for no flash operation posts its RESULT, DONESEQ and arguments,
and clears BUSY. (R47, R48, R52, R74, R303, R304, R385, R429, Table 13-10) -/
def Obligations.MailboxCommandsRunToTheirResult : Prop :=
  let at_ := fun (s : State) => s.reaches 1 0x8000 ∧ s.domOn dAon = true
  let idle := fun (s : State) => s.flag HIF_MBXSTAT_BUSY = false
  let began := fun (s t : State) (j : MbxJob) => t.hif.mbx = some j ∧ t.flag HIF_MBXSTAT_BUSY = true ∧ fired s t 448 0
  let atOnce := fun (s t : State) (seq : BitVec 8) (r : Nat) => t.get HIF_MBXSTAT_RESULT = r ∧
    t.get HIF_MBXSTAT_DONESEQ = seq.toNat ∧ t.flag HIF_MBXSTAT_BUSY = false ∧
    changesOnly s t [(448, 0)] [a_HIF_MBXCMD, a_HIF_MBXSTAT]
  let flash := fun (s t : State) (seq : BitVec 8) (o : FlashOp) => began s t { seq := seq.toNat, result := 0, waits := true } ∧
    (s.fsp.op = none → t.fsp = { s.fsp with op := some o } ∧ t.flag FSP_STAT_BUSY = true) ∧
    (∀ o', s.fsp.op = some o' → t.fsp = { s.fsp with waiting := s.fsp.waiting ++ [o] })
  let ends := fun (seq : BitVec 8) (r : Nat) => ({ seq := seq.toNat, result := r } : MbxJob)
  (∀ (s : State) (seq op : BitVec 8) (c : Instr), at_ s → s.flag HIF_MBXSTAT_BUSY = true →
    c ∈ [.status seq, .confirm seq, .commit seq, .restart seq, .flashWrite seq, .flashRead seq, .setBoot seq,
      .safeprof seq, .history seq, .lifecycle seq, .mailboxBadOp op seq] → Machine.exec c s = .next s) ∧
  (∀ (s : State) (seq : BitVec 8), at_ s → idle s →
    (∃ t : State, Machine.exec (.status seq) s = .next t ∧ began s t { ends seq 0 with
      arg0 := some (s.reg a_SYS_BOOTSTAT).toNat
      arg1 := some (s.reg a_SYS_MODESTAT).toNat }) ∧
    (s.mode = mSafe → (∃ t : State, Machine.exec (.confirm seq) s = .next t ∧ atOnce s t seq 5) ∧
      ∃ t : State, Machine.exec (.commit seq) s = .next t ∧ atOnce s t seq 5) ∧
    (s.mode ≠ mSafe → s.flag SYS_BOOTSTAT_TRIAL = true →
      (∃ t : State, Machine.exec (.confirm seq) s = .next t ∧ flash s t seq (.mailbox 2 0 0 0)) ∧
      ∃ t : State, Machine.exec (.commit seq) s = .next t ∧ began s t (ends seq 1) ∧ t.otp = s.otp) ∧
    (s.mode ≠ mSafe → s.flag SYS_BOOTSTAT_TRIAL = false →
      (∃ t : State, Machine.exec (.confirm seq) s = .next t ∧ began s t (ends seq 1) ∧ t.fsp = s.fsp) ∧
      ∃ t : State, Machine.exec (.commit seq) s = .next t ∧ began s t (ends seq 0) ∧
        t.otp = { s.otp with counter := max s.otp.counter s.boot.secVer } ∧
        (s.otp.counter < s.boot.secVer → fired s t 152 0))) ∧
  (∀ (s : State) (seq : BitVec 8), s.mode = mProof → 5 ≤ s.boot.step → idle s → s.domOn dAon = true →
    ∃ t : State, Machine.exec (.status seq) s = .next t ∧ began s t { ends seq 0 with
      arg0 := some (s.reg a_SYS_BOOTSTAT).toNat
      arg1 := some (s.reg a_SYS_MODESTAT).toNat }) ∧
  (∀ (s : State) (seq : BitVec 8), at_ s → idle s → ∃ t : State, Machine.exec (.restart seq) s = .next t ∧
    fired s t 448 0 ∧ t.boot.warmRestart = true ∧ t.tick = s.tick ∧ t.flag HIF_MBXSTAT_BUSY = true ∧
    t.flag (pendField 8) = true ∧
    (find s.sq.staged 8 = none → find t.sq.staged 8 = some (stageRec none 8 (s.tick + 1) 0))) ∧
  (∀ (s : State) (seq : BitVec 8), at_ s → idle s →
    let r := s.get (HIF_MBXARG_ARG 0)
    let o := s.get (HIF_MBXARG_ARG 1)
    let n := s.get (HIF_MBXARG_ARG 2)
    let badW := 4 < r ∨ 4096 < n ∨ (r < 4 ∧ (o % 4096 ≠ 0 ∨ n ≠ 4096 ∨ regionSize r < o + n))
    let badR := 4 < r ∨ 4096 < n ∨ regionSize r < o + n
    let held := r < 4 ∧ s.get SYS_BOOTSTAT_PAIR = r / 2 ∧ s.mode ≠ mSafe
    (badW → ∃ t : State, Machine.exec (.flashWrite seq) s = .next t ∧ began s t (ends seq 2) ∧ t.fsp = s.fsp) ∧
    (¬ badW → held → ∃ t : State, Machine.exec (.flashWrite seq) s = .next t ∧ began s t (ends seq 1) ∧ t.fsp = s.fsp) ∧
    (¬ badW → ¬ held → ∃ t : State, Machine.exec (.flashWrite seq) s = .next t ∧ flash s t seq (.mailbox 5 r o n)) ∧
    (badR → ∃ t : State, Machine.exec (.flashRead seq) s = .next t ∧ began s t (ends seq 2) ∧ t.fsp = s.fsp) ∧
    (¬ badR → ∃ t : State, Machine.exec (.flashRead seq) s = .next t ∧ flash s t seq (.mailbox 6 r o n)) ∧
    (∃ t : State, Machine.exec (.setBoot seq) s = .next t ∧ flash s t seq (.mailbox 7 (r % 4) 0 0)) ∧
    (∃ t : State, Machine.exec (.safeprof seq) s = .next t ∧ flash s t seq (.mailbox 8 0 0 256)) ∧
    (s.standbyOk = false → ∃ t : State, Machine.exec (.lifecycle seq) s = .next t ∧ atOnce s t seq 5) ∧
    (s.standbyOk = true → r ≠ 0x4649454C → ∃ t : State, Machine.exec (.lifecycle seq) s = .next t ∧
      began s t (ends seq 2) ∧ t.otp = s.otp) ∧
    (s.standbyOk = true → r = 0x4649454C → s.otp.field = true →
      ∃ t : State, Machine.exec (.lifecycle seq) s = .next t ∧ began s t (ends seq 1) ∧ t.otp = s.otp) ∧
    (s.standbyOk = true → r = 0x4649454C → s.otp.field = false →
      ∃ t : State, Machine.exec (.lifecycle seq) s = .next t ∧ began s t (ends seq 0) ∧
        t.otp = { s.otp with field := true } ∧ fired s t 152 1)) ∧
  (∀ (s : State) (seq : BitVec 8), at_ s → idle s → s.sq.history.length ≤ 64 →
    ∃ t : State, Machine.exec (.history seq) s = .next t ∧
      began s t { ends seq 0 with arg0 := some s.sq.history.length } ∧
      (∀ i r k, s.sq.history[i]? = some r → k < 4 →
        t.get (HIF_MBXBUF_DATA (4 * i + k)) = EvRec.word r / 2 ^ (32 * k) % 2 ^ 32) ∧
      ∀ w, 4 * s.sq.history.length ≤ w → w < 256 → t.get (HIF_MBXBUF_DATA w) = 0) ∧
  (∀ (s : State) (op seq : BitVec 8), at_ s → idle s → ¬ (1 ≤ op.toNat ∧ op.toNat ≤ 10) →
    ∃ t : State, Machine.exec (.mailboxBadOp op seq) s = .next t ∧ atOnce s t seq 2) ∧
  ∀ s : State, (s.hif.mbx = none → Machine.exec .mailboxCommandEnd s = .next s) ∧
    ∀ j, s.hif.mbx = some j → (j.waits = true → Machine.exec .mailboxCommandEnd s = .next s) ∧
      (j.waits = false → ∃ t : State, Machine.exec .mailboxCommandEnd s = .next t ∧ t.hif.mbx = none ∧
        t.flag HIF_MBXSTAT_BUSY = false ∧ t.get HIF_MBXSTAT_RESULT = j.result % 8 ∧
        t.get HIF_MBXSTAT_DONESEQ = j.seq % 256 ∧ (∀ v, j.arg0 = some v → t.get (HIF_MBXARG_ARG 0) = v % 2 ^ 32) ∧
        (∀ v, j.arg1 = some v → t.get (HIF_MBXARG_ARG 1) = v % 2 ^ 32) ∧
        sameRegs s t [a_HIF_MBXSTAT, a_HIF_MBXARG 0, a_HIF_MBXARG 1])

/-- A KEY command written while BUSY is 1 changes nothing. LOAD outside slots 16 to 255, into an OTP slot, into one with
REFCNT above 0 or under a slot without USAGE KEK is REFUSED; when the unwrap fails the slot is unchanged, RESULT is
UNWRAP and ES148 fires with the slot; else the slot is PROV with the key, USAGE and SIZE given, and the counts of
EMPTY and PROV follow. ERASE of a PROV slot with REFCNT 0 empties it and drops the cached keys unwrapped under it;
with REFCNT above 0 it waits with BUSY 1, and ERASE_COMPLETE ends it once REFCNT is 0. WRAP returns the clear key of
KEY_DIN wrapped under the KEK slot in KEY_DOUT. OTP_PROG is REFUSED in FIELD and OTP_FULL with 16 records, else adds
the record and fires ES152 with DATA 2. Slots 2 and 3 named as KEK, or by ERASE or OTP_PROG, give UNWRAP. A command
that ends clears BUSY and KEY_DIN. BAD_ARG for SIZE 3, and REFUSED for WRAP under a slot that is no KEK and for
ERASE of a slot that is not PROV, are the model's choices. (R311, R312, R313, R314, R318, R326, Table 14-10, Table
14-11) -/
def Obligations.KeyCommandsEndWithTheirResult : Prop :=
  let ends := fun (t : State) (r : Nat) => t.flag KEY_CMDSTAT_BUSY = false ∧ t.get KEY_CMDSTAT_RESULT = r ∧
    ∀ w, w < 18 → t.get (KEY_DIN_DATA w) = 0
  let may := fun (s : State) => s.reaches 0 a_KEY_CMD ∧ s.flag KEY_CMDSTAT_BUSY = false
  let kek := fun (s : State) (k : Nat) => s.get (KEY_SLOT_STATE k) ≠ 0 ∧ s.get (KEY_SLOT_USAGE k) % 2 = 1
  let slotIs := fun (t : State) (k st usage size key : Nat) => t.get (KEY_SLOT_STATE k) = st ∧
    t.get (KEY_SLOT_USAGE k) = usage ∧ t.get (KEY_SLOT_SIZE k) = size ∧ look 0 t.cph.keys k = key
  (∀ (s : State) (w : Word) (c : Instr), c ∈ [.load w, .erase w, .wrap w, .otpProg w] → s.reaches 0 a_KEY_CMD →
    s.flag KEY_CMDSTAT_BUSY = true → Machine.exec c s = .next s) ∧
  (∀ (s : State) (w : Word), may s →
    let k := Machine.bits w 4 8
    let q := Machine.bits w 12 8
    let z := Machine.bits w 24 2
    let bits := if z = 0 then 128 else if z = 1 then 256 else 512
    let refused := k < 16 ∨ s.get (KEY_SLOT_STATE k) = 1 ∨ s.get (KEY_SLOT_REFCNT k) ≠ 0 ∨ (q ≠ 2 ∧ q ≠ 3 ∧ ¬ kek s q)
    let out := Config.kwUnwrap (look 0 s.cph.keys q) ((s.keyDin 0 18).take (bits / 8 + 8))
    ∃ t : State, Machine.exec (.load w) s = .next t ∧
      (z = 3 → ends t 2 ∧ t.cph = s.cph) ∧ (z ≠ 3 → refused → ends t 1 ∧ t.cph = s.cph) ∧
      (z ≠ 3 → ¬ refused → q = 2 ∨ q = 3 ∨ out = none → ends t 3 ∧ t.cph = s.cph ∧
        t.reg (a_KEY_SLOT k) = s.reg (a_KEY_SLOT k) ∧ (s.domOn dCph = true → fired s t 148 k)) ∧
      ∀ key, z ≠ 3 → ¬ refused → q ≠ 2 → q ≠ 3 → out = some key →
        ends t 0 ∧ slotIs t k 2 (Machine.bits w 20 4) z key ∧
        (s.get (KEY_SLOT_STATE k) = 0 → t.get KEY_VCNT0_EMPTY = s.get KEY_VCNT0_EMPTY - 1 ∧
          t.get KEY_VCNT1_PROV = (s.get KEY_VCNT1_PROV + 1) % 512) ∧
        (∀ j, j < 256 → j ≠ k → t.reg (a_KEY_SLOT j) = s.reg (a_KEY_SLOT j) ∧
          look 0 t.cph.keys j = look 0 s.cph.keys j)) ∧
  (∀ (s : State) (w : Word), may s →
    let k := Machine.bits w 4 8
    let prov := s.get (KEY_SLOT_STATE k) = 2
    ∃ t : State, Machine.exec (.erase w) s = .next t ∧ (k = 2 ∨ k = 3 → ends t 3 ∧ t.cph = s.cph) ∧
      (k ≠ 2 → k ≠ 3 → ¬ prov → ends t 1 ∧ t.cph = s.cph) ∧
      (k ≠ 2 → k ≠ 3 → prov → s.get (KEY_SLOT_REFCNT k) = 0 → ends t 0 ∧ slotIs t k 0 0 0 0 ∧
        t.cph.cache = s.cph.cache.filter (fun (e : Nat × Nat × Nat) => e.2.2 != k) ∧
        t.get KEY_KCCNT_VALID = t.cph.cache.length % 512 ∧ t.get KEY_VCNT1_PROV = s.get KEY_VCNT1_PROV - 1 ∧
        t.get KEY_VCNT0_EMPTY = (s.get KEY_VCNT0_EMPTY + 1) % 512) ∧
      (k ≠ 2 → k ≠ 3 → prov → s.get (KEY_SLOT_REFCNT k) ≠ 0 → t.flag KEY_CMDSTAT_BUSY = true ∧
        t.cph = { s.cph with erasing := some k } ∧ t.reg (a_KEY_SLOT k) = s.reg (a_KEY_SLOT k))) ∧
  (∀ s : State, (s.cph.erasing = none → Machine.exec .eraseComplete s = .next s) ∧
    ∀ k, s.cph.erasing = some k → k < 256 →
      (s.get (KEY_SLOT_REFCNT k) ≠ 0 → Machine.exec .eraseComplete s = .next s) ∧
      (s.get (KEY_SLOT_REFCNT k) = 0 → ∃ t : State, Machine.exec .eraseComplete s = .next t ∧ ends t 0 ∧
        slotIs t k 0 0 0 0 ∧ t.cph.erasing = none ∧ ∀ e ∈ t.cph.cache, e.2.2 ≠ k)) ∧
  (∀ (s : State) (w : Word), may s →
    let q := Machine.bits w 12 8
    let z := Machine.bits w 24 2
    let n := if z = 0 then 128 else 256
    let blob := Config.kwWrap (look 0 s.cph.keys q) (leNat ((s.keyDin 0 18).take (n / 8))) n
    ∃ t : State, Machine.exec (.wrap w) s = .next t ∧ t.cph = s.cph ∧
      (2 ≤ z → ends t 2) ∧ (z < 2 → q = 2 ∨ q = 3 → ends t 3) ∧ (z < 2 → q ≠ 2 → q ≠ 3 → ¬ kek s q → ends t 1) ∧
      (z < 2 → q ≠ 2 → q ≠ 3 → kek s q → ends t 0 ∧
        ∀ i, i < 10 → t.get (KEY_DOUT_DATA i) = leNat ((blob.drop (4 * i)).take 4))) ∧
  ∀ (s : State) (w : Word), may s → s.domOn dAon = true →
    let z := Machine.bits w 24 2
    let bits := if z = 0 then 128 else if z = 1 then 256 else 512
    let odd := z = 3 ∨ Machine.bits w 4 8 = 2 ∨ Machine.bits w 4 8 = 3
    ∃ t : State, Machine.exec (.otpProg w) s = .next t ∧
      (s.otp.field = true → ends t 1 ∧ t.otp = s.otp) ∧
      (s.otp.field = false → ¬ odd → 16 ≤ s.otp.keys.length → ends t 4 ∧ t.otp = s.otp) ∧
      (s.otp.field = false → ¬ odd → s.otp.keys.length < 16 → ends t 0 ∧ fired s t 152 2 ∧
        t.otp = { s.otp with keys := s.otp.keys ++ [{ slot := Machine.bits w 4 8, usage := Machine.bits w 20 4, size := z, key := leNat ((s.keyDin 0 18).take (bits / 8)) }] })

/-- ENGINE_TAKE_REQUEST gives a free engine the oldest request of the most urgent priority among the 64 of the queue; an
engine in use takes none. A receive request first obtains its key: a fall-back key from its vault slot, or the
cached key, or the unwrapped blob, which enters the cache; if it fails, ES146 fires with session and path, UNWRAP
counts, VALID is cleared, the frame is dropped and its counter leaves P, and the engine stays free. A stream that is
resumed obtains its key again; where its context record does not unwrap, ES147 fires with the engine, CTXFAIL
counts, the engine stays free, a transmit frame leaves its queue and a receive frame is dropped undelivered.
PREEMPTION, when the request has waited PRE_WAIT, every engine is busy and the store has room, moves the stream of
greatest priority number above the request's, with 256 B or more to process (then the latest start, then the lowest
engine), to the context store, counts it, and the engine takes the request; at another engine, or else, it changes
nothing. RNG_RESEED reseeds unless RNG_FAIL is set; RNG_HEALTH_FAIL sets it. JTAG_DEBUG_ACCESS in FIELD fires ES153
and is a counted silent violation; in MANUFACTURE the model refuses it, as the spec gives no effect. (R307, R310,
R316, R317, R327, R328, R329, R330, Table 14-4, Table 14-6) -/
def Obligations.EnginesServeRequestsByPriority : Prop :=
  let chosen := fun (l : List CphReq) (r : CphReq) => r ∈ l.take 64 ∧ (∀ x ∈ l, x.num < 2 ^ 64) ∧
    ∀ x ∈ l.take 64, x = r ∨ r.prio < x.prio ∨ (r.prio = x.prio ∧ r.num < x.num)
  let runs := fun (s t : State) (e : Nat) (r : CphReq) =>
    find t.cph.engines e = some { r with
      saved := false
      start := s.tick } ∧ ∀ x ∈ t.cph.waiting, x.num ≠ r.num
  (∀ (s : State) (e : Fin 12) (r : CphReq) (u : Bool), s.domOn dCph = true → e.val < s.engines →
    find s.cph.engines e.val = none → chosen s.cph.waiting r → r.saved = true → u = false →
    ∃ t : State, Machine.exec (.engineTakeRequest e u) s = .next t ∧ find t.cph.engines e.val = none ∧
      (s.domOn dAon = true → fired s t 147 e.val) ∧
      t.get CPH_CNT1_CTXFAIL = satAdd 16 (s.get CPH_CNT1_CTXFAIL) 1 ∧
      (∀ q id, r.use = .tx q id → t.frameOf q id = none) ∧
      ∀ id, r.use = .rx id → (∀ d ∈ t.cph.dispatched, d.frame.id ≠ id) ∧ t.hif.deliveries = s.hif.deliveries) ∧
  (∀ (s : State) (e : Fin 12) (r : CphReq) (u : Bool), s.domOn dCph = true → e.val < s.engines →
    find s.cph.engines e.val = none → chosen s.cph.waiting r → (r.saved = true → u = true) →
    ∃ t : State, Machine.exec (.engineTakeRequest e u) s = .next t ∧
      (∀ q id, r.use = .tx q id → r.saved = false → runs s t e.val r ∧ t.cph.cache = s.cph.cache) ∧
      (∀ q id key, r.use = .tx q id → r.saved = true → (s.obtainKey r.session).1 = .key key → runs s t e.val r) ∧
      ∀ id, r.use = .rx id →
        let v := s.ses r.session
        let i := keyInfo v
        let k := i.slot
        let named := k ≠ 2 ∧ k ≠ 3 ∧ s.get (KEY_SLOT_STATE k) ≠ 0
        let size := s.get (KEY_SLOT_SIZE k)
        let fits := if i.k256 then size = 1 else size = 0
        let direct := named ∧ s.get (KEY_SLOT_USAGE k) / 2 % 2 = 1 ∧ fits
        let form := named ∧ s.get (KEY_SLOT_USAGE k) % 2 = 1 ∧ i.rsvdOk = true ∧ (keyBlob v).2 = true
        let cached := s.cph.cache.find? (fun (c : Nat × Nat × Nat) => c.1 == r.session)
        let fails := fun (path : Nat) => find t.cph.engines e.val = none ∧ fired s t 146 (r.session + path * 2 ^ 31) ∧
          t.get CPH_CNT0_UNWRAP = satAdd 16 (s.get CPH_CNT0_UNWRAP) 1 ∧ sub (t.ses r.session) sVALID = 0 ∧
          (∀ d ∈ t.cph.dispatched, d.frame.id ≠ id) ∧ t.hif.deliveries = s.hif.deliveries
        (i.vault = true → direct → runs s t e.val r) ∧ (i.vault = true → ¬ direct → s.domOn dAon = true → fails 1) ∧
        (i.vault = false → ¬ form → s.domOn dAon = true → fails 0) ∧
        (i.vault = false → form → ∀ c, cached = some c → runs s t e.val r) ∧
        (i.vault = false → form → cached = none →
          (Config.kwUnwrap (look 0 s.cph.keys k) (keyBlob v).1 = none → s.domOn dAon = true → fails 0) ∧
          ∀ key, Config.kwUnwrap (look 0 s.cph.keys k) (keyBlob v).1 = some key → runs s t e.val r ∧
            (r.session, key, k) ∈ t.cph.cache ∧ (256 ≤ s.cph.cache.length → t.cph.cache.length = s.cph.cache.length))) ∧
  (∀ (s : State) (e : Fin 12) (r : CphReq) (id : Nat) (u : Bool), find s.cph.engines e.val = some r →
    r.use = .rx id → Machine.exec (.engineTakeRequest e u) s = .next s) ∧
  (∀ (s : State) (e : Fin 12) (r v : CphReq) (k : Nat) (u : Bool), chosen s.cph.waiting r → (k, v) ∈ s.cph.engines →
    (∀ x ∈ s.cph.engines, x.2.prio < 4 ∧ x.1 < 16 ∧ x.2.start < 2 ^ 100) → (∀ x ∈ s.cph.waiting, x.num ≠ v.num) →
    let wait := s.get CPH_CFG_PRE_WAIT
    let may := wait ≠ 0 ∧ r.arrival + wait * 125 ≤ s.tick ∧ s.cph.engines.length = s.engines ∧
      s.cph.waiting.countP (fun (x : CphReq) => x.saved) < 32
    let able := fun (x : CphReq) => r.prio < x.prio ∧ 256 ≤ x.bytes
    able v → (∀ x ∈ s.cph.engines, able x.2 → x = (k, v) ∨ x.2.prio < v.prio ∨ (x.2.prio = v.prio ∧
      (x.2.start < v.start ∨ (x.2.start = v.start ∧ k < x.1)))) →
      (¬ may ∨ k ≠ e.val → Machine.exec (.preemption e u) s = .next s) ∧
      (may → k = e.val → ∃ t : State, Machine.exec (.preemption e u) s = .next t ∧
        t.get CPH_CNT1_PREEMPT = satAdd 16 (s.get CPH_CNT1_PREEMPT) 1 ∧
        ((r.saved = true → u = true) → (r.saved = false ∧ (∃ q id, r.use = .tx q id)) ∨
            (∃ key, (s.obtainKey r.session).1 = .key key) →
          runs s t k r ∧ { v with saved := true } ∈ t.cph.waiting))) ∧
  (∀ s : State, s.domOn dCph = true →
    (s.flag CPH_STAT_RNG_FAIL = false → Machine.exec .rngReseed s = .next { s with cph.reseed := s.tick }) ∧
    (s.flag CPH_STAT_RNG_FAIL = true → Machine.exec .rngReseed s = .next s) ∧
    ∃ t : State, Machine.exec .rngHealthFail s = .next t ∧ t.flag CPH_STAT_RNG_FAIL = true ∧
      changesOnly s t [] [a_CPH_STAT]) ∧
  ∀ (s : State) (a : Word) (w : Bool), (s.otp.field = false → Machine.exec (.jtagDebugAccess a w) s = .refused .debugUnit) ∧
    (s.otp.field = true → s.domOn dAon = true → ∃ t : State, Machine.exec (.jtagDebugAccess a w) s = .next t ∧
      fired s t 153 0 ∧ t.get SYS_VIOLCNT_COUNT = min (s.get SYS_VIOLCNT_COUNT + 1) 0xFFFF ∧ t.cph = s.cph)

/-- BUCKET_LEAK lowers a bucket's count when a multiple of LEAK seconds after the fill has come since its last leak, and
else changes nothing. SWEEPER_LINE_READ of a line that it does not skip: a clean line changes no memory and no
bucket; one corrected on an unmarked device is written back corrected and counted, its overflow event firing and the
count emptying at TH; one corrected on a marked device raises MARKHITS alone; an uncorrectable one is left as
stored, fires ES096 + r, enters MEM_UELOG unless it equals the last entry, and its row becomes a repair candidate.
It moves on, and after the last line counts the pass and fires ES463. SRAM_SWEEP_WORD corrects, counts and moves on
likewise, an uncorrectable word firing ES100. SRAM_UNCORRECTABLE fires ES100 with group and word, and does what
Table 15-5 says of a queue, an Arcade bank, the cell state map or no holder. (R337, R338, R339, R342, R344, R345,
R346, R347, R349, Table 15-2, Table 15-4, Table 15-5) -/
def Obligations.SweepsLeaksAndLostWordsAreReported : Prop :=
  (∀ (s : State) (sram : Bool) (i : Fin 92), s.domOn dMemc = true → sram = true ∨ i.val < 4 →
    let key := if sram then 4 + i.val else i.val
    let cnt := if sram then MEM_SBKT_COUNT i.val else MEM_DBKT_COUNT i.val
    let leak := if sram then s.get MEM_BKTCFG2_LEAK else s.get MEM_BKTCFG_LEAK
    let due := leak ≠ 0 ∧ ∃ k, max ((find s.mem.leaks key).getD 0) s.mem.filled < s.mem.filled + k * (leak * tS) ∧
      s.mem.filled + k * (leak * tS) ≤ s.tick
    (¬ due → Machine.exec (.bucketLeak sram i) s = .next s) ∧
    (due → ∃ t : State, Machine.exec (.bucketLeak sram i) s = .next t ∧ t.get cnt = s.get cnt - 1 ∧
      sameRegs s t [cnt.addr] ∧ t.get ⟨cnt.addr, 16, 16⟩ = s.get ⟨cnt.addr, 16, 16⟩ ∧ t.sq = s.sq ∧
      find t.mem.leaks key = some s.tick)) ∧
  (∀ s : State, s.domOn dMemc = true → s.domOn dAon = true → s.flag MEM_SWPCFG_DRAM_EN = true → s.mode ≠ mProof →
    s.mode ≠ mSafe → s.mem.line < s.lines → s.lines ≤ 2 ^ 29 → (s.rankOf s.mem.line).1 < 4 →
    ¬ ((s.mode = mStandby ∨ s.mode = mFactory) ∧ s.get MEM_DIAGADDR_WHERE = s.mem.line) →
    let l := s.mem.line
    let r := (s.rankOf l).1
    let i := (s.rankOf l).2
    let mark := s.markOf r (i % 2)
    let th := s.get MEM_BKTCFG_TH
    let c := s.get (MEM_DBKT_COUNT r)
    ∃ t : State, Machine.exec .sweeperLineRead s = .next t ∧
      (l + 1 < s.lines → t.mem.line = l + 1 ∧ t.get MEM_SWPSTAT_DPASS = s.get MEM_SWPSTAT_DPASS) ∧
      (l + 1 = s.lines → t.mem.line = 0 ∧ fired s t 463 1 ∧
        t.get MEM_SWPSTAT_DPASS = (s.get MEM_SWPSTAT_DPASS + 1) % 2 ^ 16) ∧
      (s.decodeLine l = .clean → t.mem.dram = s.mem.dram ∧ t.reg (a_MEM_DBKT r) = s.reg (a_MEM_DBKT r)) ∧
      (∀ j, s.decodeLine l = .corrected j → mark = none → t.mem.dram = (s.fixLine l j).mem.dram ∧
        t.get (MEM_DBKT_TOTAL r) = satAdd 16 (s.get (MEM_DBKT_TOTAL r)) 1 ∧
        (c + 1 < th → t.get (MEM_DBKT_COUNT r) = c + 1) ∧
        (th ≤ c + 1 → t.get (MEM_DBKT_COUNT r) = 0 ∧ fired s t (458 + r) 0)) ∧
      (∀ j, s.decodeLine l = .corrected j → mark ≠ none → t.mem.dram = s.mem.dram ∧
        t.reg (a_MEM_DBKT r) = s.reg (a_MEM_DBKT r) ∧
        t.get (MEM_MARK_MARKHITS r) = satAdd 16 (s.get (MEM_MARK_MARKHITS r)) 1) ∧
      (s.decodeLine l = .bad →
        let n := s.get MEM_UESTAT_NEXT
        let p := (n + 15) % 16
        let again := s.flag (MEM_UELOG1_VALID p) = true ∧ s.get (MEM_UELOG0_WHERE p) = l ∧ s.get (MEM_UELOG1_KIND p) ≠ 2
        t.mem.dram = s.mem.dram ∧ t.reg (a_MEM_DBKT r) = s.reg (a_MEM_DBKT r) ∧ fired s t (96 + r) (i + 9 * 2 ^ 28) ∧
        (again → t.reg a_MEM_UESTAT = s.reg a_MEM_UESTAT) ∧
        (¬ again → t.get (MEM_UELOG0_WHERE n) = l ∧ t.get (MEM_UELOG1_REQ n) = 9 ∧ t.get (MEM_UELOG1_KIND n) = 0 ∧
          t.flag (MEM_UELOG1_VALID n) = true ∧ t.get MEM_UESTAT_NEXT = (n + 1) % 16) ∧
        ((∃ k, k < 8 ∧ s.flag (MEM_REPLOG1_VALID k) = false) → ∃ k, k < 8 ∧ t.flag (MEM_REPLOG1_VALID k) = true ∧
          t.get (MEM_REPLOG0_RANK k) = r ∧ t.get (MEM_REPLOG0_DEV k) = 15 ∧
          t.get (MEM_REPLOG0_ROW k) = i / 2 ^ 13 % 2 ^ 14))) ∧
  (∀ s : State, s.domOn dMemc = true → s.domOn dAon = true → s.flag MEM_SWPCFG_SRAM_EN = true → s.mode ≠ mProof →
    let g := s.mem.word / 2 ^ 20
    let w := s.mem.word % 2 ^ 20
    let v := s.sramWord g w
    g < 92 → s.domOn (groupDomain g) = true → w < groupWords g →
    ¬ ((s.mode = mStandby ∨ s.mode = mFactory) ∧ s.get MEM_DIAGADDR_WHERE = g + 256 * w) →
    ∃ t : State, Machine.exec .sramSweepWord s = .next t ∧
      (w + 1 < groupWords g → t.mem.word = s.mem.word + 1) ∧
      (w + 1 = groupWords g → s.nextGroup (g + 1) 92 = none → t.mem.word = 0 ∧ fired s t 463 2 ∧
        t.get MEM_SWPSTAT_SPASS = (s.get MEM_SWPSTAT_SPASS + 1) % 256) ∧
      (∀ g', w + 1 = groupWords g → s.nextGroup (g + 1) 92 = some g' → t.mem.word = 2 ^ 20 * g') ∧
      (sramDecode v = some v.toNat → t.mem.sram = s.mem.sram ∧ t.reg (a_MEM_SBKT g) = s.reg (a_MEM_SBKT g)) ∧
      (∀ x, sramDecode v = some x → x ≠ v.toNat → t.sramWord g w = BitVec.ofNat 72 x ∧
        t.get (MEM_SBKT_TOTAL g) = satAdd 16 (s.get (MEM_SBKT_TOTAL g)) 1 ∧
        (s.get MEM_BKTCFG2_TH ≤ s.get (MEM_SBKT_COUNT g) + 1 → fired s t 462 g ∧ t.get (MEM_SBKT_COUNT g) = 0) ∧
        (s.get (MEM_SBKT_COUNT g) + 1 < s.get MEM_BKTCFG2_TH →
          t.get (MEM_SBKT_COUNT g) = s.get (MEM_SBKT_COUNT g) + 1)) ∧
      (sramDecode v = none → t.mem.sram = s.mem.sram ∧ fired s t 100 (g + 256 * w))) ∧
  ∀ (s : State) (g : Fin 92) (w : BitVec 20) (h : SramHolds), s.domOn dMemc = true → s.domOn dAon = true →
    w.toNat < groupWords g.val → s.domOn (groupDomain g.val) = true →
    ∃ t : State, Machine.exec (.sramUncorrectable g w h) s = .next t ∧ fired s t 100 (g.val + 256 * w.toNat) ∧
      t.mem.sram = s.mem.sram ∧ (h = .nothing → t.blv = s.blv ∧ t.arc = s.arc ∧ t.tx = s.tx ∧ t.rx = s.rx) ∧
      (h = .cells → 34 ≤ g.val → g.val ≤ 58 → t.blv.led.lost = true) ∧
      (∀ q, h = .object (.queue q) → 59 ≤ g.val → g.val ≤ 76 → s.qQuar q.toNat = false → t.qQuar q.toNat = true ∧
        t.framesOf q.toNat = [] ∧ t.get BLV_QUARCNT_QUEUES = satAdd 12 (s.get BLV_QUARCNT_QUEUES) 1) ∧
      ∀ i, h = .arcade i → arcDomain i.val = groupDomain g.val → 78 ≤ g.val → (t.arcOf i.val).packets = [] ∧
        t.get (ARC_ERR_MISMATCH i.val) = satAdd 8 (s.get (ARC_ERR_MISMATCH i.val)) 1

/-- An access to the debug window that is not aligned is an Unsupported Request; one while EN is 0, SYS_LOCK is set,
READY is 0, or beyond the fitted capacity (KIND 4) is a counted silent violation, and a read then returns zero. Else
DEBUG_WINDOW_READ returns the decoded bytes, or Completer Abort for an uncorrectable line; DEBUG_WINDOW_WRITE merges
its bytes into the decoded line and changes no other line, but to a poisoned line it is dropped, sets WERR and fires
ES101 with requester 8. Outside STANDBY and FACTORY the diagnostic commands end with RESULT MODE and change nothing
else, and at an address that does not exist READ_RAW and WRITE_RAW end with RANGE. Else READ_RAW shows the stored
bits of a line or word without counting, WRITE_RAW stores MEM_DIAGDATA and MEM_DIAGCHK exactly, and ENCODE gives the
check bits: those of a line make S0 zero. (R336, R341, R342, R351, R352, Table 13-11, Table 15-3, Table 15-11) -/
def Obligations.MemoryWindowsReadAndWriteAsStored : Prop :=
  let opens := fun (s : State) (off n : Nat) => s.mode ≠ mSafe ∧ s.mode ≠ mProof ∧ s.domOn dMemc = true ∧
    off % n = 0 ∧ s.locked = false ∧ s.flag MEM_DBGCTL_EN = true ∧ s.flag SYS_MODESTAT_READY = true ∧
    s.get MEM_DBGCTL_PAGE * 4096 + off < s.lines * 64
  let size := fun (wide : Bool) => if wide then 8 else 4
  (∀ (s : State) (offset : BitVec 12) (wide : Bool) (data : BitVec 64), offset.toNat % size wide ≠ 0 →
    Machine.exec (.debugWindowRead offset wide) s = .next { s with posted := .unsupported :: s.posted } ∧
    Machine.exec (.debugWindowWrite offset wide data) s = .next { s with posted := .unsupported :: s.posted }) ∧
  (∀ (s : State) (offset : BitVec 12) (wide : Bool) (data : BitVec 64), offset.toNat % size wide = 0 →
    ¬ opens s offset.toNat (size wide) → ∃ t u : State, Machine.exec (.debugWindowRead offset wide) s = .next t ∧
      Machine.exec (.debugWindowWrite offset wide data) s = .next u ∧ t.posted = .readData 0 :: s.posted ∧
      u.posted = s.posted ∧ t.mem = s.mem ∧ u.mem = s.mem ∧
      t.get SYS_VIOLCNT_COUNT = satAdd 16 (s.get SYS_VIOLCNT_COUNT) 1 ∧
      u.get SYS_VIOLCNT_COUNT = satAdd 16 (s.get SYS_VIOLCNT_COUNT) 1 ∧
      (s.mode ≠ mSafe → s.mode ≠ mProof → s.domOn dMemc = true → s.get SYS_VIOLCNT_COUNT = 0 →
        (s.locked = true → t.get SYS_VIOLINFO_KIND = 1) ∧
        (s.locked = false → s.flag MEM_DBGCTL_EN = true → s.flag SYS_MODESTAT_READY = true →
          t.get SYS_VIOLINFO_KIND = 4))) ∧
  (∀ (s : State) (offset : BitVec 12) (wide : Bool), opens s offset.toNat (size wide) →
    let a := s.get MEM_DBGCTL_PAGE * 4096 + offset.toNat
    let l := a / 64
    let out := fun (u : State) => leNat (((u.lineBytes l).drop (a % 64)).take (size wide))
    ∃ t : State, Machine.exec (.debugWindowRead offset wide) s = .next t ∧
      (s.decodeLine l = .clean → t = { s with posted := .readData (out s) :: s.posted }) ∧
      (∀ j, s.decodeLine l = .corrected j → t.posted = .readData (out (s.fixLine l j)) :: s.posted) ∧
      (s.decodeLine l = .bad → t.posted = .completerAbort :: s.posted ∧ t.mem.dram = s.mem.dram)) ∧
  (∀ (s : State) (offset : BitVec 12) (wide : Bool) (data : BitVec 64), opens s offset.toNat (size wide) →
    let a := s.get MEM_DBGCTL_PAGE * 4096 + offset.toNat
    let l := a / 64
    let merged := fun (u : State) => (u.lineBytes l).take (a % 64) ++ leBytes (size wide) data.toNat ++
      (u.lineBytes l).drop (a % 64 + size wide)
    ∃ t : State, Machine.exec (.debugWindowWrite offset wide data) s = .next t ∧
      (∀ m, m ≠ l → t.lineBytes m = s.lineBytes m) ∧
      (s.decodeLine l = .clean → t.lineBytes l = merged s) ∧
      (∀ j, s.decodeLine l = .corrected j → t.lineBytes l = merged (s.fixLine l j)) ∧
      (s.decodeLine l = .bad → t.mem.dram = s.mem.dram ∧ t.flag MEM_DBGSTAT_WERR = true ∧
        ((s.rankOf l).1 < 4 → fired s t 101 8))) ∧
  (∀ (s : State) (sram : Bool) (c : Instr), c ∈ [.readRaw sram, .writeRaw sram, .encode sram] →
    s.reaches 0 a_MEM_DIAGCMD →
    let whr := s.get MEM_DIAGADDR_WHERE
    let there := if sram then whr / 256 % 2 ^ 20 < groupWords (whr % 256) else whr < s.lines
    let ends := fun (r : Nat) => ∃ t : State, Machine.exec c s = .next t ∧ t.get MEM_DIAGSTAT_RESULT = r ∧
      changesOnly s t [] [a_MEM_DIAGSTAT]
    (s.mode ≠ mStandby → s.mode ≠ mFactory → ends 1) ∧
    (s.mode = mStandby ∨ s.mode = mFactory → ¬ there → c ≠ .encode sram → ends 2)) ∧
  (∀ s : State, s.reaches 0 a_MEM_DIAGCMD → s.mode = mStandby ∨ s.mode = mFactory →
    let whr := s.get MEM_DIAGADDR_WHERE
    let g := whr % 256
    let w := whr / 256 % 2 ^ 20
    let word := fun (u : State) => (u.reg (a_MEM_DIAGDATA 0)).toNat + 2 ^ 32 * (u.reg (a_MEM_DIAGDATA 1)).toNat
    (whr < s.lines →
      (∃ t : State, Machine.exec (.readRaw false) s = .next t ∧ t.get MEM_DIAGSTAT_RESULT = 0 ∧ t.mem = s.mem ∧
        t.sq = s.sq ∧
        (∀ i, i < 16 → (t.reg (a_MEM_DIAGDATA i)).toNat = leNat (((s.lineBytes whr).drop (4 * i)).take 4)) ∧
        ∀ i, i < 4 → (t.reg (a_MEM_DIAGCHK i)).toNat = s.symbol whr i 8 + 65536 * s.symbol whr i 9) ∧
      ∃ t : State, Machine.exec (.writeRaw false) s = .next t ∧ t.get MEM_DIAGSTAT_RESULT = 0 ∧
        t.lineBytes whr = (List.range 16).flatMap (fun i => leBytes 4 (s.reg (a_MEM_DIAGDATA i)).toNat) ∧
        (∀ i, i < 4 → t.symbol whr i 8 + 65536 * t.symbol whr i 9 = (s.reg (a_MEM_DIAGCHK i)).toNat) ∧
        ∀ m, m ≠ whr → t.lineBytes m = s.lineBytes m) ∧
    (g < 92 → w < groupWords g → s.domOn (groupDomain g) = true →
      (∃ t : State, Machine.exec (.readRaw true) s = .next t ∧ t.get MEM_DIAGSTAT_RESULT = 0 ∧ t.mem = s.mem ∧
        word t = (s.sramWord g w).toNat % 2 ^ 64 ∧
        (t.reg (a_MEM_DIAGCHK 0)).toNat = (s.sramWord g w).toNat / 2 ^ 64) ∧
      ∃ t : State, Machine.exec (.writeRaw true) s = .next t ∧ t.get MEM_DIAGSTAT_RESULT = 0 ∧
        (t.sramWord g w).toNat = word s + 2 ^ 64 * ((s.reg (a_MEM_DIAGCHK 0)).toNat % 256) ∧
        ∀ g' w', g' ≠ g → w' < 2 ^ 20 → t.sramWord g' w' = s.sramWord g' w') ∧
    (∃ t : State, Machine.exec (.encode true) s = .next t ∧ t.get MEM_DIAGSTAT_RESULT = 0 ∧ t.mem = s.mem ∧
      (t.reg (a_MEM_DIAGCHK 0)).toNat = sramCheck (word s)) ∧
    ∃ t : State, Machine.exec (.encode false) s = .next t ∧ t.get MEM_DIAGSTAT_RESULT = 0 ∧ t.mem = s.mem ∧
      ∀ i, i < 4 → let sym := fun j => leNat (((s.diagBytes).drop (16 * i + 2 * j)).take 2)
        (List.range 8).foldl (fun x j => Nat.xor x (sym j)) 0 =
          Nat.xor ((t.reg (a_MEM_DIAGCHK i)).toNat % 65536) ((t.reg (a_MEM_DIAGCHK i)).toNat / 65536))

/-- TB0_SET on a valid base is REFUSED and changes nothing else; else TB0 is the timestamp extended from its tick at
TB0's rate. TB0_ADJ with an offset beyond JUMP_TH or a FREQ more than 20 ppm off is a JUMP: ES188, JUMPCNT, no base
or FREQ changes; else PEND is the offset, FREQ is taken within 200 ppm, and holdover ends with ES189. An offset for
an invalid base starts it there (the model's reading). TB0_HOLDOVER_TIMEOUT enters holdover TB0_TO s after the last
acceptance. REBASE clears JUMPCNT, and in STANDBY makes the base invalid with the next EPOCH. TB1_DISCIPLINE acts
once per second: FREQ follows TB0 and the offset becomes PEND or a jump. TB3_CYCLE_BOUNDARY counts a cycle, and the
fourth extrapolated one is a holdover. PLL_TRIM_STEP, while the PLL is in lock, moves TRIM by at most 102 of 2^-10
ppm within 25 ppm, and FREQ of both bases gives up as much. PPS_OUT_EDGE fires ES177 as the base passes a whole
second less DLY and PPS_OUT_FALL ends it after WIDTH; PPS_IN_EDGE keeps the instant in TB2 and TB0 and fires ES176,
and PPS_IN_READ_LATCH shows both. TIME_BASE_ADVANCE by one tick over a whole second of TB1 fires ES191 under SRC =
3. (R357, R358, R360, R362, R367, R368, R369, R370, Table 16-5, Table 16-7, Table 16-9, Table 16-10) -/
def Obligations.TimeBasesAreCorrectedNotStepped : Prop :=
  let q : Nat := 2 ^ 48
  let rate := fun (s : State) (b : Nat) => ((2 ^ 51 : Int) + 512 * s.getI (TIM_TBFREQ_FREQ b))
  let jumps := fun (s : State) (theta : Int) => ((s.get TIM_CFG_JUMP_TH * 1000 * 2 ^ 48 : Nat) : Int) < |theta|
  (∀ s : State, s.reaches 1 (mirror a_TIM_TB0CMD) →
    let w := fun i => s.get (TIM_TB0ARG_ARG i)
    let v : Nat := ((w 2 + w 3 * 2 ^ 32) * 1000000000 + w 1) * q + w 0 % 2 ^ 16 * 2 ^ 32
    let ref : Nat := s.get (TIM_TB0REF_TICK 0) + s.get (TIM_TB0REF_TICK 1) * 2 ^ 32
    ∃ t : State, Machine.exec .tb0Set s = .next t ∧
      (s.tbValid 0 = true → t.get TIM_TB0CMD_RESULT = 1 ∧ onlyRegs s t ∧ sameRegs s t [a_TIM_TB0CMD]) ∧
      (s.tbValid 0 = false → t.get TIM_TB0CMD_RESULT = 0 ∧ t.tbValid 0 = true ∧
        t.time.tb0 = { val := ((v : Int) + ((s.tick : Int) - ref) * rate s 0).toNat, pend := 0, acc := s.tick })) ∧
  (∀ (s : State) (ofs freq : Bool), s.reaches 1 (mirror a_TIM_TB0CMD) → s.domOn dAon = true →
    let theta : Int := signed 64 (s.get (TIM_TB0ARG_ARG 0) + s.get (TIM_TB0ARG_ARG 1) * 2 ^ 32) * 2 ^ 32
    let f := signed 32 (s.get (TIM_TB0ARG_ARG 2))
    let badO := ofs = true ∧ s.tbValid 0 = true ∧ jumps s theta
    let badF := freq = true ∧ 20 * 2 ^ 42 < |f - s.getI (TIM_TBFREQ_FREQ 0)| * 1000000
    ∃ t : State, Machine.exec (.tb0Adj ofs freq) s = .next t ∧
      (badO ∨ badF → t.get TIM_TB0CMD_RESULT = 2 ∧ t.time = s.time ∧
        t.reg (a_TIM_TBFREQ 0) = s.reg (a_TIM_TBFREQ 0) ∧ t.tbHold 0 = s.tbHold 0) ∧
      (badO → ¬ badF → fired s t 188 (if theta < 0 then 1 else 0) ∧
        t.get (TIM_TBSTAT_JUMPCNT 0) = satAdd 8 (s.get (TIM_TBSTAT_JUMPCNT 0)) 1) ∧
      (badF → ¬ badO → fired s t 188 0 ∧
        t.get (TIM_TBSTAT_JUMPCNT 0) = satAdd 8 (s.get (TIM_TBSTAT_JUMPCNT 0)) 1) ∧
      (¬ badO → ¬ badF → t.get TIM_TB0CMD_RESULT = 0 ∧ t.tbHold 0 = false ∧ t.time.tb0.acc = s.tick ∧
        (s.tbHold 0 = true → fired s t 189 0) ∧
        (s.tbValid 0 = true → t.time.tb0.val = s.time.tb0.val ∧
          t.time.tb0.pend = (if ofs then theta else s.time.tb0.pend)) ∧
        (s.tbValid 0 = false → ofs = true → t.tbValid 0 = true ∧ t.time.tb0.val = theta.toNat) ∧
        t.getI (TIM_TBFREQ_FREQ 0) =
          (if freq then max (-879609302) (min 879609302 f) else s.getI (TIM_TBFREQ_FREQ 0)))) ∧
  (∀ s : State, s.domOn dAon = true →
    let due := s.tbValid 0 = true ∧ s.tbHold 0 = false ∧ s.get TIM_CFG_TB0_TO ≠ 0 ∧
      s.time.tb0.acc + s.get TIM_CFG_TB0_TO * 125000000 ≤ s.tick
    (¬ due → Machine.exec .tb0HoldoverTimeout s = .next s) ∧
    (due → ∃ t : State, Machine.exec .tb0HoldoverTimeout s = .next t ∧ t.tbHold 0 = true ∧
      changesOnly s t [(189, 1)] [a_TIM_TBSTAT 0])) ∧
  (∀ (s : State) (b : Fin 2), s.reaches 1 (mirror (a_TIM_TBSTAT b.val)) →
    ∃ t : State, Machine.exec (.rebase b) s = .next t ∧ t.get (TIM_TBSTAT_JUMPCNT b.val) = 0 ∧
      (s.standbyOk = true → t.tbValid b.val = false ∧ (t.tb b.val).val = 0 ∧ (t.tb b.val).pend = 0 ∧
        t.get (TIM_TBSTAT_EPOCH b.val) = (s.get (TIM_TBSTAT_EPOCH b.val) + 1) % 16) ∧
      (s.standbyOk = false → onlyRegs s t ∧ sameRegs s t [a_TIM_TBSTAT b.val] ∧ t.tbValid b.val = s.tbValid b.val ∧
        t.get (TIM_TBSTAT_EPOCH b.val) = s.get (TIM_TBSTAT_EPOCH b.val))) ∧
  (∀ s : State, s.domOn dAon = true → s.tbValid 1 = true →
    let theta : Int := (s.time.tb0.val : Int) - s.time.tb1.val
    let due := (s.mode = mCoordinator ∨ s.mode = mTerminal ∨ (s.mode = mIsland ∧ s.tbHold 1 = false)) ∧
      s.flag TIM_TB1CFG_SRC = true ∧ s.tbValid 0 = true ∧ s.tbHold 0 = false ∧ s.time.disc < s.tick / 125000000
    (¬ due → Machine.exec .tb1Discipline s = .next s) ∧
    (due → ∃ t : State, Machine.exec .tb1Discipline s = .next t ∧ t.time.disc = s.tick / 125000000 ∧
      t.get (TIM_TBFREQ_FREQ 1) = s.get (TIM_TBFREQ_FREQ 0) ∧ t.time.tb1.val = s.time.tb1.val ∧
      (¬ jumps s theta → t.time.tb1.pend = theta ∧ t.time.tb1.acc = s.tick) ∧
      (jumps s theta → t.time.tb1 = s.time.tb1 ∧ fired s t 188 (if theta < 0 then 1 else 0) ∧
        t.get (TIM_TBSTAT_JUMPCNT 1) = satAdd 8 (s.get (TIM_TBSTAT_JUMPCNT 1)) 1))) ∧
  (∀ s : State, s.domOn dAon = true →
    let e := s.time.cycEnd
    let due := s.time.cycStart ≠ none ∧ s.domOn dMsn = true ∧ e / 65536 ≤ s.tick
    let x := if s.time.cycHit then 0 else s.time.extrap + 1
    (¬ due → Machine.exec .tb3CycleBoundary s = .next s) ∧
    (due → ∃ t : State, Machine.exec .tb3CycleBoundary s = .next t ∧ t.time.cyc = (s.time.cyc + 1) % 2 ^ 64 ∧
      t.time.cycStart = some e ∧ t.time.cycEnd = e + s.pHat ∧ t.time.extrap = x ∧ t.flag TIM_TB3STAT_VALID = true ∧
      t.get (TIM_TB3CYC_CYC 0) = t.time.cyc % 2 ^ 32 ∧ t.get (TIM_TB3CYC_CYC 1) = t.time.cyc / 2 ^ 32 ∧
      (4 ≤ x → s.flag TIM_TB3STAT_HOLD = false → t.flag TIM_TB3STAT_HOLD = true ∧ fired s t 189 7) ∧
      (x < 4 → t.flag TIM_TB3STAT_HOLD = s.flag TIM_TB3STAT_HOLD ∧ t.sq = s.sq))) ∧
  (∀ s : State, (s.tick / 125000000 ≤ s.time.trimSec ∨ s.flag CLK_STAT_LOCK = false → Machine.exec .pllTrimStep s = .next s) ∧
    (s.time.trimSec < s.tick / 125000000 → s.flag CLK_STAT_LOCK = true → |s.getI TIM_PLL_TRIM| ≤ 25600 →
      ∃ t : State, Machine.exec .pllTrimStep s = .next t ∧
        let a := s.getI TIM_PLL_TRIM
        let z := t.getI TIM_PLL_TRIM
        let src := s.get TIM_PLL_SRC
        let d := (z - a) * 2 ^ 32 / 1000000
        |z - a| ≤ 102 ∧ |z| ≤ 25600 ∧ (src = 0 → z = a + max (-102) (min 102 (-a))) ∧
        (src ≠ 0 → s.tbValid (src - 1) = false ∨ s.tbHold (src - 1) = true → z = a) ∧
        ∀ b, b < 2 → t.getI (TIM_TBFREQ_FREQ b) = max (-879609302) (min 879609302 (s.getI (TIM_TBFREQ_FREQ b) - d)))) ∧
  (∀ s : State, s.domOn dAon = true →
    let second := fun (before : Int) => (((s.baseVal (s.get TIM_PPSCFG_BASE) : Int) + s.getI TIM_PPSCFG_DLY * q - before) /
      (1000000000 * q : Nat)).toNat
    let step : Int := match selBase (s.get TIM_PPSCFG_BASE) with
      | none => 2 ^ 51
      | some b => rate s b + (2 ^ 51 * s.get TIM_CFG_SLEWMAX / 1000000 : Nat)
    let due := s.flag TIM_PPSCFG_EN = true ∧ s.baseOk (s.get TIM_PPSCFG_BASE) = true ∧ second step < second 0 ∧
      s.time.ppsSec ≠ second 0
    (¬ due → Machine.exec .ppsOutEdge s = .next s) ∧
    (due → ∃ t : State, Machine.exec .ppsOutEdge s = .next t ∧ changes s t [(177, 0)] [] ∧
      t.time.ppsFall = some (s.tick + s.get TIM_PPSCFG_WIDTH * 125000))) ∧
  (∀ (s : State) (k : Nat), s.time.ppsFall = some k →
    (s.tick < k → Machine.exec .ppsOutFall s = .next s) ∧
    (k ≤ s.tick → Machine.exec .ppsOutFall s = .next { s with time.ppsFall := none })) ∧
  (∀ (s : State) (ns : Fin 8), s.domOn dAon = true → ∃ t : State, Machine.exec (.ppsInEdge ns) s = .next t ∧
    changes s t [(176, 0)] [] ∧
    t.time.ppsIn.1 / 2 ^ 64 * 1000000000 + t.time.ppsIn.1 / 2 ^ 32 % 2 ^ 32 = (8 * s.tick + ns.val) % (2 ^ 64 * 1000000000) ∧
    (s.tbValid 0 = false → t.time.ppsIn.2 = 0) ∧
    (s.tbValid 0 = true → t.time.ppsIn.2 = s.stamp 2 (s.time.tb0.val + ns.val * q))) ∧
  (∀ s : State, s.readable 0 (a_TIM_PPSIN2 0) → ∃ t : State, Machine.exec .ppsInReadLatch s = .next t ∧
    t.posted = .readData (s.time.ppsIn.1 % 2 ^ 32) :: s.posted ∧
    ∀ i, i < 4 → t.get (TIM_PPSIN2_TS i) = s.time.ppsIn.1 / 2 ^ (32 * i) % 2 ^ 32 ∧
      t.get (TIM_PPSIN0_TS i) = s.time.ppsIn.2 / 2 ^ (32 * i) % 2 ^ 32) ∧
  ∀ s : State, s.domOn dAon = true → s.domOn dFab = true → s.tbValid 1 = true → s.get TIM_SYNCCFG_SRC = 3 →
    s.mac.winPend = false →
    ∃ t : State, Machine.exec (.timeBaseAdvance 1 []) s = .next t ∧
      t.time.tb1.val = ((s.time.tb1.val : Int) + rate s 1 + s.slewOf 1 s.time.tb1.pend).toNat ∧
      (t.time.tb1.val / q / 1000000000 = s.time.tb1.val / q / 1000000000 + 1 →
        t.time.syncFall = s.tick + 9 ∧ (find s.sq.staged 191 = none →
          find t.sq.staged 191 = some (stageRec none 191 (s.tick + 1) 0)))

/-- In an enabled UART outside PROOF and SAFE a received character joins the queue with FE, PE, NOISE and BREAK; on a
full queue it is lost with OVR; in the 7816 mode one with PE is not stored; after a BREAK nothing is stored until
the line was high for a bit; on a half-duplex line the own character is not stored. RXT, ERR, BRK are set as the
rules say, RTS_N follows the fill. LINE_STUCK and its end are reported once; RXTO after four character times. A read
of DATA takes the oldest character, or answers EMPTY, also for one stored in the same tick into the empty queue. A
write joins the transmit queue, or is lost with TXOVR; a character starts only without TXHALT and, under CTSEN, with
CTS_N low. A character sent leaves the queue and TXT is set at its level; a clash sets COLL, or SCERR after RETRY
repeats, with TXHALT, and the character stays first. RXFLUSH and TXFLUSH empty the queues; FLOW below 9 stores 9.
CTSCHG is set at each change under CTSEN. (R374, R376, R377, R378, R379, R380, R381, R382, Table 17-1, Table 17-5) -/
def Obligations.UartsMoveCharactersAndReportThem : Prop :=
  let may := fun (s : State) (u : Nat) (cts : Bool) => s.uartOn u = true ∧ s.flag (UAR_CFG_TXHALT u) = false ∧
    (s.flag (UAR_CFG_CTSEN u) = false ∨ cts = false)
  let starts := fun (s t : State) (u : Nat) (cts : Bool) =>
    (may s u cts → (t.uartOf u).sending = (t.uartOf u).txq.head?.map (fun (b : Byte) => (b, true))) ∧
    (¬ may s u cts → (t.uartOf u).sending = none)
  let half := fun (s : State) (u : Nat) => s.flag (UAR_CFG_HDX u) = true ∨ s.flag (UAR_SC_SC u) = true
  (∀ (s : State) (u : Nat) (c : UartBits),
    let n := 5 + s.get (UAR_CFG_DBITS u)
    let ones := fun (k : Nat) => (List.range k).countP (fun (i : Nat) => c.data.getLsbD i) + b2n c.parity
    (s.flag (UAR_SC_SC u) = false → s.uartData u c = c.data.toNat % 2 ^ n ∧
      (s.uartPe u c = true ↔ (s.get (UAR_CFG_PAR u) = 1 ∧ ones n % 2 = 1) ∨
        (s.get (UAR_CFG_PAR u) = 2 ∧ ones n % 2 = 0)) ∧
      (s.uartBreak u c = true ↔ c.data.toNat % 2 ^ n = 0 ∧ c.stop = false ∧
        (s.get (UAR_CFG_PAR u) = 0 ∨ c.parity = false))) ∧
    (s.flag (UAR_SC_SC u) = true → s.flag (UAR_SC_INV u) = false →
      s.uartData u c = c.data.toNat ∧ (s.uartPe u c = true ↔ ones 8 % 2 = 1)) ∧
    (s.flag (UAR_SC_SC u) = true → s.flag (UAR_SC_INV u) = true →
      (∀ i, i < 8 → bitN (s.uartData u c) i = !c.data.getLsbD (7 - i)) ∧ (s.uartPe u c = true ↔ ones 8 % 2 = 0))) ∧
  (∀ (s : State) (u : Fin 4) (c : UartBits),
    let x := s.uartOf u.val
    let own := half s u.val ∧ x.sending.isSome = true
    let takes := s.uartOn u.val = true ∧ ¬ own ∧ x.broken = none
    let brk := s.uartBreak u.val c
    let pe := s.uartPe u.val c
    let err := b2n (!c.stop) + 2 * b2n pe + 4 * b2n c.noise
    let entry := (if brk then 0x800 else s.uartData u.val c) + 256 * err
    let t0 := trigLevel (s.get (UAR_QCFG_RXTRIG u.val))
    let stores := takes ∧ ¬ (s.flag (UAR_SC_SC u.val) = true ∧ pe = true ∧ brk = false)
    (¬ stores → Machine.exec (.uartCharacterReceived u c) s = .next s) ∧
    (stores → ∃ t : State, Machine.exec (.uartCharacterReceived u c) s = .next t ∧ uartOnly s t u.val [] ∧
      (t.uartOf u.val).broken = (if brk then some s.tick else none) ∧
      (128 ≤ x.rxq.length → (t.uartOf u.val).rxq = x.rxq ∧ uartRaised s t u.val [7]) ∧
      (x.rxq.length < 128 → (t.uartOf u.val).rxq = x.rxq ++ [entry] ∧
        t.get (UAR_STAT_RXFILL u.val) = x.rxq.length + 1 ∧ (t.uartOf u.val).stored = some s.tick ∧
        rtsFollows t u.val ∧
        uartRaised s t u.val ((if x.rxq.length + 1 = t0 then [0] else []) ++
          (if err ≠ 0 then [3] else []) ++ if brk then [4] else [])))) ∧
  (∀ (s : State) (u : Fin 4),
    let x := s.uartOf u.val
    let due := s.uartOn u.val = true ∧ x.broken.isSome = true ∧ s.get (UAR_CFG_STUCK_TO u.val) ≠ 0 ∧
      s.flag (UAR_STAT_STUCK u.val) = false
    let low := s.uartOn u.val = true ∧ x.broken.isSome = true
    let late := s.uartOn u.val = true ∧ x.rxq ≠ [] ∧ x.timedOut = false ∧
      4 * s.uartLength u.val * (16 * (256 * s.get (UAR_DIV_I u.val) + s.get (UAR_DIV_F u.val))) ≤
        256 * (s.tick - x.active)
    (¬ due → Machine.exec (.uartLineStuck u) s = .next s) ∧
    (due → ∃ t : State, Machine.exec (.uartLineStuck u) s = .next t ∧ t.flag (UAR_STAT_STUCK u.val) = true ∧
      t.flag (UAR_STAT_LINE u.val) = false ∧ uartRaised s t u.val [5] ∧ t.uart = s.uart ∧ uartOnly s t u.val []) ∧
    (¬ low → Machine.exec (.uartLineClear u) s = .next s) ∧
    (low → ∃ t : State, Machine.exec (.uartLineClear u) s = .next t ∧ t.flag (UAR_STAT_STUCK u.val) = false ∧
      t.flag (UAR_STAT_LINE u.val) = true ∧ (t.uartOf u.val) = { x with broken := none } ∧
      uartRaised s t u.val (if s.flag (UAR_STAT_STUCK u.val) then [6] else []) ∧ uartOnly s t u.val []) ∧
    (¬ late → Machine.exec (.uartReceiveTimeout u) s = .next s) ∧
    (late → ∃ t : State, Machine.exec (.uartReceiveTimeout u) s = .next t ∧ uartRaised s t u.val [2] ∧
      (t.uartOf u.val).rxq = x.rxq ∧ uartOnly s t u.val [])) ∧
  (∀ (s : State) (u : Fin 4), s.readable 0 (a_UAR_DATA u.val) →
    let x := s.uartOf u.val
    ∃ t : State, Machine.exec (.uartDataRead u) s = .next t ∧
      (x.rxq = [] ∨ (x.rxq.length = 1 ∧ x.stored = some s.tick) → t = s.post (.readData 0x1000)) ∧
      (∀ e rest, x.rxq = e :: rest → ¬ (rest = [] ∧ x.stored = some s.tick) →
        t.posted = .readData e :: s.posted ∧ (t.uartOf u.val).rxq = rest ∧
        t.get (UAR_STAT_RXFILL u.val) = rest.length % 256 ∧ rtsFollows t u.val ∧ uartRaised s t u.val [])) ∧
  (∀ (s : State) (u : Fin 4) (b : Byte), s.reaches 0 (a_UAR_DATA u.val) → s.domOn dPer = true →
    let x := s.uartOf u.val
    ∃ t : State, Machine.exec (.uartDataWrite u b) s = .next t ∧ uartOnly s t u.val [] ∧
      (128 ≤ x.txq.length → t.uart = s.uart ∧ uartRaised s t u.val [8]) ∧
      (x.txq.length < 128 → (t.uartOf u.val).txq = x.txq ++ [b] ∧
        t.get (UAR_STAT_TXFILL u.val) = x.txq.length + 1 ∧ uartRaised s t u.val [] ∧
        (∀ y, x.sending = some y → (t.uartOf u.val).sending = some y) ∧
        (x.sending = none → starts s t u.val x.cts))) ∧
  (∀ (s : State) (u : Fin 4) (clash : Bool),
    let x := s.uartOf u.val
    let active := s.domOn dPer = true ∧ s.mode ≠ mProof ∧ s.mode ≠ mSafe
    let hit := clash = true ∧ half s u.val
    let t0 := trigLevel (s.get (UAR_QCFG_TXTRIG u.val))
    (x.sending = none ∨ ¬ active → Machine.exec (.uartCharacterSent u clash) s = .next s) ∧
    (∀ b first, x.sending = some (b, first) → active →
      ∃ t : State, Machine.exec (.uartCharacterSent u clash) s = .next t ∧ uartOnly s t u.val [a_UAR_CFG u.val] ∧
        (¬ hit → (t.uartOf u.val).txq = (if first then x.txq.tail else x.txq) ∧ starts s t u.val x.cts ∧
          uartRaised s t u.val (if first = true ∧ x.txq.length = t0 + 1 then [1] else [])) ∧
        (hit → s.flag (UAR_SC_SC u.val) = true → x.tries < s.get (UAR_SC_RETRY u.val) →
          t.uartOf u.val = { x with tries := x.tries + 1 } ∧ uartRaised s t u.val []) ∧
        (hit → s.flag (UAR_SC_SC u.val) = false ∨ s.get (UAR_SC_RETRY u.val) ≤ x.tries →
          t.flag (UAR_CFG_TXHALT u.val) = true ∧ (t.uartOf u.val).txq = x.txq ∧ (t.uartOf u.val).sending = none ∧
          uartRaised s t u.val [if s.flag (UAR_SC_SC u.val) then 10 else 9]))) ∧
  (∀ (s : State) (u : Fin 4) (v w : Word) (c : Instr), s.reaches 0 (a_UAR_QCFG u.val) → s.domOn dPer = true →
    (c = .rxflush u v ∧ w = v ||| 0x4000) ∨ (c = .txflush u v ∧ w = v ||| 0x8000) →
    let x := s.uartOf u.val
    ∃ t : State, Machine.exec c s = .next t ∧ uartOnly s t u.val [a_UAR_QCFG u.val] ∧
      t.get (UAR_QCFG_RXTRIG u.val) = Machine.bits w 0 3 ∧ t.get (UAR_QCFG_TXTRIG u.val) = Machine.bits w 3 3 ∧
      t.get (UAR_QCFG_FLOW u.val) = max 9 (Machine.bits w 6 8) ∧ rtsFollows t u.val ∧
      (w.getLsbD 14 = false → (t.uartOf u.val).rxq = x.rxq) ∧
      (w.getLsbD 14 = true → x.stored ≠ some s.tick → (t.uartOf u.val).rxq = []) ∧
      (w.getLsbD 14 = true → x.stored = some s.tick → (t.uartOf u.val).rxq = x.rxq.drop (x.rxq.length - 1)) ∧
      (w.getLsbD 15 = false → (t.uartOf u.val).txq = x.txq ∧ (t.uartOf u.val).sending = x.sending) ∧
      (w.getLsbD 15 = true → (t.uartOf u.val).txq = [] ∧ t.get (UAR_STAT_TXFILL u.val) = 0 ∧
        (t.uartOf u.val).sending = x.sending.map (fun (e : Byte × Bool) => (e.1, false)))) ∧
  ∀ (s : State) (u : Fin 4) (high : Bool),
    let x := s.uartOf u.val
    let sees := s.domOn dPer = true ∧ s.mode ≠ mProof ∧ s.mode ≠ mSafe ∧ s.flag (UAR_CFG_CTSEN u.val) = true
    (x.cts = high → Machine.exec (.uartCtsChange u high) s = .next s) ∧
    (x.cts ≠ high → ∃ t : State, Machine.exec (.uartCtsChange u high) s = .next t ∧ (t.uartOf u.val).cts = high ∧
      uartOnly s t u.val [] ∧ (t.uartOf u.val).txq = x.txq ∧
      (sees → uartRaised s t u.val [11] ∧ (x.sending = none → starts s t u.val high)) ∧
      (¬ sees → uartRaised s t u.val [] ∧ (t.uartOf u.val).sending = x.sending))

/-- An erase adds one to the count of its sector or block, fires ES469 with its address when the count reaches TH,
raises MAX to the highest count, and is never refused. FLASH_OPERATION_COMPLETE ends the operation in progress and
begins the one that waits first by precedence, or clears BUSY. At the end of a mailbox flash command and of a log
read ES468 fires, DATA [0] telling an error; a failed log read or one under an EMPTY slot 0 gives FLASH_ERR, an
invalid header CRC, else the unit is in the buffer; a repair candidate in flash leaves MEM_REPLOG, and a failed one
is due again. LOG_READ beyond unit 3839 ends at once with RANGE, else it begins or waits. LOG_UNIT_WRITE takes a
full unit, or one 10 s old, and REPAIR_RECORD_COPY a candidate or marks not yet copied, both only after READY
outside PROOF and SAFE. GPIO_EDGE sets IN, and fires ES470 + i with the new level on a selected edge. (R389) -/
def Obligations.FlashOperationsEndAndAreCounted : Prop :=
  let starts := fun (s t : State) (o : FlashOp) =>
    (s.fsp.op = none → t.fsp.op = some o ∧ t.flag FSP_STAT_BUSY = true ∧ t.fsp.waiting = s.fsp.waiting) ∧
    (s.fsp.op ≠ none → t.fsp.op = s.fsp.op ∧ t.fsp.waiting = s.fsp.waiting ++ [o] ∧ t.regs = s.regs)
  let logs := fun (s : State) => s.flag SYS_MODESTAT_READY = true ∧ s.mode ≠ mProof ∧ s.mode ≠ mSafe ∧
    s.domOn dPer = true
  (∀ (s : State) (a n : Nat), s.domOn dPer = true →
    let t := s.flashErase a n
    let c := look 0 s.fsp.erases a + 1
    look 0 t.fsp.erases a = c ∧ (∀ k, k ≠ a → look 0 t.fsp.erases k = look 0 s.fsp.erases k) ∧
    (∀ k, t.flashByte k = if a ≤ k ∧ k < a + n then 0xFF else s.flashByte k) ∧
    (c < 2 ^ 17 → t.get FSP_WEAR2_MAX = max c (s.get FSP_WEAR2_MAX)) ∧
    (c = s.get FSP_WEAR_TH → fired s t 469 a) ∧ (c ≠ s.get FSP_WEAR_TH → t.sq = s.sq)) ∧
  (∀ (s : State) (failed : Bool), s.fsp.op = none → Machine.exec (.flashOperationComplete failed) s = .next s) ∧
  (∀ (s : State) (failed : Bool) (o : FlashOp), s.fsp.op = some o → s.domOn dPer = true →
    ∃ t : State, Machine.exec (.flashOperationComplete failed) s = .next t ∧
      (s.fsp.waiting = [] → t.fsp.op = none ∧ t.flag FSP_STAT_BUSY = false) ∧
      (∀ l w r, s.fsp.waiting = l ++ w :: r → (∀ x ∈ l, w.rank < x.rank) → (∀ x ∈ r, w.rank ≤ x.rank) →
        t.fsp.op = some w ∧ t.fsp.waiting = l ++ r) ∧
      (∀ op region offset len j, o = .mailbox op region offset len → s.hif.mbx = some j →
        ∃ k, t.hif.mbx = some { j with
          result := k
          waits := false } ∧ fired s t 468 (if k = 0 then 0 else 1) ∧ (failed = true → k = 3)) ∧
      (∀ k, o = .logRead k →
        let lost := failed = true ∨ s.get (KEY_SLOT_STATE 0) = kEMPTY
        let b := s.readUnit (unitAddr k)
        (lost → t.get FSP_LOGCMD_RESULT = 3 ∧ fired s t 468 1) ∧
        (¬ lost → unitOk b = false → t.get FSP_LOGCMD_RESULT = 1 ∧ fired s t 468 1) ∧
        (¬ lost → unitOk b = true → t.get FSP_LOGCMD_RESULT = 0 ∧ fired s t 468 0) ∧
        (¬ lost → ∀ w, w < 1024 → t.get (FSP_BUF_DATA w) = leNat ((b.drop (4 * w)).take 4))) ∧
      (∀ r k mark, o = .repair r k mark →
        (failed = true → find t.fsp.copied k = none ∧ t.fsp.mem = s.fsp.mem) ∧
        (failed = false → mark = false → k < 8 → t.reg (a_MEM_REPLOG0 k) = 0 ∧ t.reg (a_MEM_REPLOG1 k) = 0) ∧
        (failed = false → s.fsp.records < 4096 → r.length = 16 →
          t.flashBytes (repairBlock s.fsp.block + 16 * s.fsp.records) 16 = r ∧ t.fsp.records = s.fsp.records + 1)) ∧
      (∀ u, o = .logWrite u → failed = false → s.get (KEY_SLOT_STATE 0) ≠ kEMPTY →
        t.fsp.unitSeq = s.fsp.unitSeq + 1 ∧ t.fsp.unitPos = s.fsp.unitPos + 1)) ∧
  (∀ (s : State) (k : BitVec 12), s.reaches 0 a_FSP_LOGCMD → s.domOn dPer = true →
    ∃ t : State, Machine.exec (.logRead k) s = .next t ∧
      (3840 ≤ k.toNat → t.get FSP_LOGCMD_RESULT = 2 ∧ changesOnly s t [(468, 1)] [a_FSP_LOGCMD]) ∧
      (k.toNat < 3840 → starts s t (.logRead k.toNat))) ∧
  (∀ s : State,
    (¬ logs s → Machine.exec .logUnitWrite s = .next s ∧ Machine.exec .repairRecordCopy s = .next s) ∧
    (logs s →
      (∀ u r, s.fsp.full = u :: r → ∃ t : State, Machine.exec .logUnitWrite s = .next t ∧ starts s t (.logWrite u) ∧
        t.fsp.full = r ∧ t.fsp.unit = s.fsp.unit) ∧
      (s.fsp.full = [] → s.fsp.unit ≠ [] → s.fsp.unitTick + 1250000000 ≤ s.tick →
        ∃ t : State, Machine.exec .logUnitWrite s = .next t ∧ starts s t (.logWrite s.fsp.unit) ∧ t.fsp.unit = []) ∧
      (s.fsp.full = [] → s.fsp.unit = [] ∨ s.tick < s.fsp.unitTick + 1250000000 →
        Machine.exec .logUnitWrite s = .next s)) ∧
    (logs s →
      let word := fun (k : Nat) => if k < 8 then (if s.flag (MEM_REPLOG1_VALID k) then s.reg (a_MEM_REPLOG1 k) else 0)
        else s.reg (a_MEM_MARK (k - 8)) &&& 0xFFFF
      let due := fun (k : Nat) => word k ≠ 0 ∧ look 0 s.fsp.copied k ≠ word k
      ((∀ k, k < 12 → ¬ due k) → Machine.exec .repairRecordCopy s = .next s) ∧
      ∀ k, k < 12 → due k → (∀ j, j < k → ¬ due j) →
        ∃ t : State, Machine.exec .repairRecordCopy s = .next t ∧ look 0 t.fsp.copied k = word k ∧
          starts s t (.repair (if k < 8 then repairRecord 1 k (s.reg (a_MEM_REPLOG0 k)).toNat (word k).toNat
            else repairRecord 2 (k - 8) (word k).toNat 0) k (decide (8 ≤ k))))) ∧
  ∀ (s : State) (i : Fin 16) (high : Bool),
    let old := bitN (s.get GPI_IN_IN) i.val
    let sel := s.get ⟨a_GPI_EDGE, 2 * i.val, 2⟩
    let seen := old ≠ high ∧ ((sel = 1 ∧ high = true) ∨ (sel = 2 ∧ high = false) ∨ sel = 3)
    (s.domOn dPer = false → Machine.exec (.gpioEdge i high) s = .next s) ∧
    (s.domOn dPer = true → ∃ t : State, Machine.exec (.gpioEdge i high) s = .next t ∧
      bitN (t.get GPI_IN_IN) i.val = high ∧
      (∀ j, j < 16 → j ≠ i.val → bitN (t.get GPI_IN_IN) j = bitN (s.get GPI_IN_IN) j) ∧
      (seen → changesOnly s t [(470 + i.val, b2n high)] [a_GPI_IN]) ∧ (¬ seen → changesOnly s t [] [a_GPI_IN]))

/-- A write of 0 to a domain's request bit, where it reaches PWR_REQ, is refused with REFUSED alone changed where Table
18-1 gives no request case or its condition fails for a domain that is on; for a requestable domain that is on and
may go off, the domain is off afterwards and ES018 reports it. A write of 1 to a requestable present domain that is
off starts its ramp and sets BUSY; completion turns it on with ES018 bit 5. A write of PWR_RST to a domain with no
request case, or to PD_PROT while Burin is active, is refused with REFUSED alone changed; to another requestable
domain that is on it starts a reset, whose completion leaves the domain on and fires ES018 with bit 5. (R392, R393,
R394, R395, R396, Table 18-1) -/
def Obligations.DomainsSwitchAsRequested : Prop :=
  (∀ (s : State) (d : Fin 20), s.reaches 0 a_PWR_REQ → s.domOn dAon = true →
    let requestable_ := d.val = 1 ∨ d.val = 8 ∨ d.val = 11 ∨ 12 ≤ d.val
    ∃ t : State, Machine.exec (.domainPowerOff d) s = .next t ∧
      (¬ requestable_ ∨ (s.domOn d.val = true ∧ s.mayGoOff d.val = false) →
        changesOnly s t [] [a_PWR_STAT] ∧ t.flag PWR_STAT_REFUSED = true ∧ t.domOn d.val = s.domOn d.val) ∧
      (requestable_ → s.domOn d.val = true → s.mayGoOff d.val = true →
        t.domOn d.val = false ∧ t.flag (pendField 18) = true ∧ t.mode = s.mode ∧ t.tick = s.tick)) ∧
  (∀ (s : State) (d : Fin 20), s.reaches 0 a_PWR_REQ → requestable d.val = true → bitN s.present d.val = true →
    s.domOn d.val = false →
    ∃ t : State, Machine.exec (.domainPowerUp d) s = .next t ∧ t.pw.rising.getLsbD d.val = true ∧ t.flag PWR_STAT_BUSY = true ∧
      t.domOn d.val = false ∧ t.sq = s.sq ∧ sameRegs s t [a_PWR_REQ, a_PWR_STAT]) ∧
  (∀ (s : State) (d : Fin 20), s.pw.rising.getLsbD d.val = true → s.domOn dAon = true →
    ∃ t : State, Machine.exec (.domainPowerUpComplete d) s = .next t ∧ t.domOn d.val = true ∧
      t.pw.rising.getLsbD d.val = false ∧ t.flag (pendField 18) = true ∧ t.mode = s.mode) ∧
  (∀ (s : State) (d : Fin 20), s.reaches 0 a_PWR_RST →
    ∃ t : State, Machine.exec (.domainReset d) s = .next t ∧
      (requestable d.val = false ∨ (d.val = dProt ∧ s.get BUR_CTL_ACT ≠ 0) →
        changesOnly s t [] [a_PWR_STAT] ∧ t.flag PWR_STAT_REFUSED = true) ∧
      (requestable d.val = true → d.val ≠ dProt → s.domOn d.val = true →
        t.pw.resetting.getLsbD d.val = true ∧ t.domOn d.val = true ∧ t.mode = s.mode)) ∧
  ∀ (s : State) (d : Fin 20), s.pw.resetting.getLsbD d.val = true → s.domOn dAon = true →
    ∃ t : State, Machine.exec (.domainResetComplete d) s = .next t ∧ t.pw.resetting.getLsbD d.val = false ∧
      t.flag (pendField 18) = true ∧ t.domOn d.val = s.domOn d.val

/-- A supply that becomes low fires its event with DATA 1: VDD_IO and VDDQ do nothing else, VDD_CORE and VDD_AFE act as
PORST_N, VDD_UCI as a link loss where the link is up. A supply restored fires its event with DATA 0. A reference
loss clears REF and LOCK, a lock loss LOCK; each raises its own count, saturating at 255, and fires ES019 with its
cause. PLL_RELOCK after step 1 sets LOCK and REF. (R398, R401, Table 18-6) -/
def Obligations.SuppliesAndClocksReport : Prop :=
  (∀ (s : State) (i : Fin 5), s.pw.supplyLow.getLsbD i.val = false → s.domOn dAon = true →
    ∃ t : State, Machine.exec (.supplyLow i) s = .next t ∧ t.pw.supplyLow.getLsbD i.val = true ∧ t.otp = s.otp ∧
      (i.val = 2 ∨ i.val = 3 ∨ (i.val = 4 ∧ s.hif.linkUp = false) →
        changes s t [(i.val, 1)] [] ∧ t = { s with pw := t.pw, regs := t.regs, sq := t.sq }) ∧
      (i.val ≤ 1 → t.pw.porstLow = true ∧ t.reg a_PWR_STAT = 0) ∧
      (i.val = 4 → t.hif.linkUp = false)) ∧
  (∀ (s : State) (i : Fin 5), s.pw.supplyLow.getLsbD i.val = true → s.domOn dAon = true →
    ∃ t : State, Machine.exec (.supplyRestored i) s = .next t ∧ t.pw.supplyLow.getLsbD i.val = false ∧
      changes s t [(i.val, 0)] [] ∧ t = { s with pw := t.pw, regs := t.regs, sq := t.sq }) ∧
  (∀ s : State, s.flag CLK_STAT_REF = true → s.domOn dAon = true →
    ∃ t : State, Machine.exec .referenceLoss s = .next t ∧ changesOnly s t [(19, 2)] [a_CLK_STAT] ∧
      t.get CLK_STAT_REF = 0 ∧ t.get CLK_STAT_LOCK = 0 ∧ t.get CLK_STAT_LOCKLOSS = s.get CLK_STAT_LOCKLOSS ∧
      t.get CLK_STAT_REFLOSS = min (s.get CLK_STAT_REFLOSS + 1) 255) ∧
  (∀ s : State, s.flag CLK_STAT_LOCK = true → s.domOn dAon = true →
    ∃ t : State, Machine.exec .pllLockLoss s = .next t ∧ changesOnly s t [(19, 1)] [a_CLK_STAT] ∧
      t.get CLK_STAT_LOCK = 0 ∧ t.get CLK_STAT_REF = s.get CLK_STAT_REF ∧
      t.get CLK_STAT_REFLOSS = s.get CLK_STAT_REFLOSS ∧
      t.get CLK_STAT_LOCKLOSS = min (s.get CLK_STAT_LOCKLOSS + 1) 255) ∧
  ∀ s : State, s.boot.step ≠ 0 →
    ∃ t : State, Machine.exec .pllRelock s = .next t ∧ changesOnly s t [] [a_CLK_STAT] ∧ t.get CLK_STAT_LOCK = 1 ∧
      t.get CLK_STAT_REF = 1 ∧ t.get CLK_STAT_LOCKLOSS = s.get CLK_STAT_LOCKLOSS ∧
      t.get CLK_STAT_REFLOSS = s.get CLK_STAT_REFLOSS

/-- TEMPERATURE_SAMPLE with PORST_N high stores the reading; a reading above a threshold gives at least that threshold's
level, a reading at or below every threshold less HYST gives level 0; an unchanged level fires nothing and changes
no other register; a change to level 3 enters SAFE with reason THERMAL. THERMAL_CONFIG_WRITE, where it reaches
PWR_THCFG, changes no threshold and sets REFUSED where WARN < THROT < CRIT would not hold, CRIT being kept while
locked and at most 0x7D else; otherwise the three thresholds store; HYST and DUTY of zero are left. (R403, R404,
R423, Table 18-8) -/
def Obligations.TemperatureLevelsFollowTheThresholds : Prop :=
  (∀ (s : State) (k : Fin 8) (r : BitVec 12), s.pw.porstLow = false →
    let x := signed 12 r.toNat
    let h : Int := 16 * s.get PWR_THCFG_HYST
    ∃ t l, Machine.exec (.temperatureSample k r) s = .next t ∧ l ≤ 3 ∧
      (16 * s.getI PWR_THCFG_CRIT < x → l = 3) ∧ (16 * s.getI PWR_THCFG_THROT < x → 2 ≤ l) ∧
      (16 * s.getI PWR_THCFG_WARN < x → 1 ≤ l) ∧
      (x ≤ 16 * s.getI PWR_THCFG_CRIT - h → x ≤ 16 * s.getI PWR_THCFG_THROT - h →
        x ≤ 16 * s.getI PWR_THCFG_WARN - h → l = 0) ∧
      (l = s.get (PWR_TSENS_LEVEL k.val) →
        onlyRegs s t ∧ sameRegs s t [a_PWR_TSENS k.val] ∧ t.get (PWR_TSENS_TEMP k.val) = r.toNat ∧
        t.get (PWR_TSENS_LEVEL k.val) = l) ∧
      (l ≠ s.get (PWR_TSENS_LEVEL k.val) → l ≠ 3 → s.domOn dAon = true →
        changesOnly s t [(10 + k.val, l + r.toNat * 2 ^ 16)] [a_PWR_TSENS k.val] ∧
        t.get (PWR_TSENS_TEMP k.val) = r.toNat ∧ t.get (PWR_TSENS_LEVEL k.val) = l) ∧
      (l ≠ s.get (PWR_TSENS_LEVEL k.val) → l = 3 → s.mode ≠ mSafe →
        t.mode = mSafe ∧ t.get SYS_BOOTSTAT_SAFE_REASON = sfTHERMAL)) ∧
  ∀ (s : State) (w : Word), s.reaches 0 a_PWR_THCFG →
    let crit := if s.locked then s.get PWR_THCFG_CRIT else
      if 0x7D < signed 8 (bits w 16 8) then 0x7D else bits w 16 8
    let fits : Prop := signed 8 (bits w 0 8) < signed 8 (bits w 8 8) ∧ signed 8 (bits w 8 8) < signed 8 crit
    ∃ t : State, Machine.exec (.thermalConfigWrite w) s = .next t ∧ changesOnly s t [] [a_PWR_THCFG, a_PWR_STAT] ∧
      (fits → t.get PWR_THCFG_WARN = bits w 0 8 ∧ t.get PWR_THCFG_THROT = bits w 8 8 ∧ t.get PWR_THCFG_CRIT = crit ∧
        t.reg a_PWR_STAT = s.reg a_PWR_STAT) ∧
      (¬ fits → t.get PWR_THCFG_WARN = s.get PWR_THCFG_WARN ∧ t.get PWR_THCFG_THROT = s.get PWR_THCFG_THROT ∧
        t.get PWR_THCFG_CRIT = s.get PWR_THCFG_CRIT ∧ t.flag PWR_STAT_REFUSED = true) ∧
      t.get PWR_THCFG_HYST = (if bits w 24 4 = 0 then s.get PWR_THCFG_HYST else bits w 24 4) ∧
      t.get PWR_THCFG_DUTY = (if bits w 28 3 = 0 then s.get PWR_THCFG_DUTY else bits w 28 3)
end

