-- ==== Sys2Proof/Laws/Table.lean ====
section
/-! SUPPORT. What the operations on sparse tables and bit fields do: a read after a write, and the canonical form. -/

namespace Sys2Proof.Machine

variable {α : Type}

/-- A listed key is found; every other key is as before. -/
theorem find_put (k j : Nat) (v : α) (t : Tab α) : find (put k v t) j = if j = k then some v else find t j := by
  by_cases h : j = k
  · subst h
    rw [if_pos rfl]
    induction t with
    | nil => simp [put, find]
    | cons e r ih =>
      obtain ⟨i, w⟩ := e
      simp only [put]
      split
      · simp [find]
      · split
        · simp [find]
        · simp [find, *]
  · rw [if_neg h]
    induction t with
    | nil => simp [put, find, Ne.symm h]
    | cons e r ih =>
      obtain ⟨i, w⟩ := e
      simp only [put]
      split
      · simp [find, Ne.symm h]
      · split
        · subst_vars; simp [find, Ne.symm h]
        · simp [find, ih]

/-- An unlisted key is not found; every other key is as before. -/
theorem find_del (k j : Nat) (t : Tab α) : find (del k t) j = if j = k then none else find t j := by
  induction t with
  | nil => simp [del, find]
  | cons e r ih =>
    obtain ⟨i, w⟩ := e
    simp only [del]
    split
    · simp only [find, ih]; split <;> simp_all [eq_comm]
    · simp only [find, ih]; split <;> simp_all

/-- A read after a write of the same key. -/
theorem look_store_same [DecidableEq α] (d : α) (k : Nat) (v : α) (t : Tab α) : look d (store d k v t) k = v := by
  simp only [look, store]; split <;> simp_all [find_put, find_del]

/-- A write leaves every other key alone. -/
theorem look_store_other [DecidableEq α] (d e : α) {k j : Nat} (h : j ≠ k) (v : α) (t : Tab α) :
    look d (store e k v t) j = look d t j := by
  simp only [look, store]; split <;> simp [find_put, find_del, h]

/-- The canonical form from a lower bound is the canonical form from every smaller one. -/
theorem tabWfFrom_mono [DecidableEq α] {d : Nat → α} {lo lo' : Nat} (h : lo' ≤ lo) {t : Tab α}
    (w : tabWfFrom d lo t = true) : tabWfFrom d lo' t = true := by
  cases t with
  | nil => rfl
  | cons e r =>
    obtain ⟨k, v⟩ := e
    simp only [tabWfFrom, Bool.and_eq_true, decide_eq_true_eq] at w ⊢
    exact ⟨⟨by omega, w.1.2⟩, w.2⟩

/-- Listing a value that is not its key's default keeps the canonical form. -/
theorem put_wfFrom [DecidableEq α] {d : Nat → α} {k lo : Nat} {v : α} (hv : v ≠ d k) (hk : lo ≤ k) {t : Tab α}
    (w : tabWfFrom d lo t = true) : tabWfFrom d lo (put k v t) = true := by
  induction t generalizing lo with
  | nil => simp [put, tabWfFrom, hk, hv]
  | cons e r ih =>
    obtain ⟨i, x⟩ := e
    simp only [tabWfFrom, Bool.and_eq_true, decide_eq_true_eq] at w
    simp only [put]
    split
    · simp only [tabWfFrom, Bool.and_eq_true, decide_eq_true_eq]
      exact ⟨⟨hk, hv⟩, ⟨by omega, w.1.2⟩, w.2⟩
    · split
      · subst_vars; simp only [tabWfFrom, Bool.and_eq_true, decide_eq_true_eq]
        exact ⟨⟨hk, hv⟩, w.2⟩
      · simp only [tabWfFrom, Bool.and_eq_true, decide_eq_true_eq]
        exact ⟨w.1, ih (by omega) w.2⟩

/-- Unlisting a key keeps the canonical form. -/
theorem del_wfFrom [DecidableEq α] {d : Nat → α} {k lo : Nat} {t : Tab α} (w : tabWfFrom d lo t = true) :
    tabWfFrom d lo (del k t) = true := by
  induction t generalizing lo with
  | nil => rfl
  | cons e r ih =>
    obtain ⟨i, x⟩ := e
    simp only [tabWfFrom, Bool.and_eq_true, decide_eq_true_eq] at w
    simp only [del]
    split
    · exact tabWfFrom_mono (by omega) (ih w.2)
    · simp only [tabWfFrom, Bool.and_eq_true, decide_eq_true_eq]; exact ⟨w.1, ih w.2⟩

/-- Dropping entries keeps the canonical form. -/
theorem filter_wfFrom [DecidableEq α] {d : Nat → α} {lo : Nat} (p : Nat × α → Bool) {t : Tab α}
    (w : tabWfFrom d lo t = true) : tabWfFrom d lo (t.filter p) = true := by
  induction t generalizing lo with
  | nil => rfl
  | cons e r ih =>
    obtain ⟨i, x⟩ := e
    simp only [tabWfFrom, Bool.and_eq_true, decide_eq_true_eq] at w
    simp only [List.filter]
    split
    · simp only [tabWfFrom, Bool.and_eq_true, decide_eq_true_eq]; exact ⟨w.1, ih w.2⟩
    · exact tabWfFrom_mono (by omega) (ih w.2)

/-- A write keeps the canonical form. -/
theorem store_wf [DecidableEq α] {d : Nat → α} {k : Nat} {v : α} {t : Tab α} (w : tabWf d t = true) :
    tabWf d (store (d k) k v t) = true := by
  simp only [store]
  split
  · exact del_wfFrom w
  · exact put_wfFrom (by assumption) (Nat.zero_le k) w

/-- A bit of a field. -/
theorem testBit_bits {n : Nat} (v : BitVec n) (lo w i : Nat) :
    (bits v lo w).testBit i = (decide (i < w) && v.getLsbD (lo + i)) := by
  simp [bits, Nat.testBit_mod_two_pow, Nat.testBit_div_two_pow, BitVec.getLsbD, Nat.add_comm]

/-- A bit of a word with a field replaced. -/
theorem getLsbD_withBits {n : Nat} (v : BitVec n) (lo w x i : Nat) :
    (withBits v lo w x).getLsbD i =
      (decide (i < n) && (if lo ≤ i ∧ i < lo + w then x.testBit (i - lo) else v.getLsbD i)) := by
  have hm : ((2 ^ w - 1) * 2 ^ lo).testBit i = decide (lo ≤ i ∧ i < lo + w) := by
    rw [Nat.testBit_mul_two_pow, Nat.testBit_two_pow_sub_one]
    by_cases h : lo ≤ i <;> simp [h]; omega
  have hx : (x % 2 ^ w * 2 ^ lo).testBit i = (decide (lo ≤ i ∧ i < lo + w) && x.testBit (i - lo)) := by
    rw [Nat.testBit_mul_two_pow, Nat.testBit_mod_two_pow]
    by_cases h : lo ≤ i
    · by_cases h2 : i - lo < w
      · simp [h, h2, show i < lo + w by omega]
      · simp [h, h2, show ¬ i < lo + w by omega]
    · simp [h]
  simp only [withBits, BitVec.getLsbD_or, BitVec.getLsbD_and, BitVec.getLsbD_not, BitVec.getLsbD_ofNat, hm, hx]
  by_cases hn : i < n
  · by_cases h : lo ≤ i ∧ i < lo + w <;> simp [hn, h]
  · simp [hn, BitVec.getLsbD_of_ge v i (by omega)]

/-- A field read after it is written. -/
theorem bits_withBits_same {n : Nat} (v : BitVec n) {lo w : Nat} (h : lo + w ≤ n) (x : Nat) :
    bits (withBits v lo w x) lo w = x % 2 ^ w := by
  apply Nat.eq_of_testBit_eq
  intro i
  rw [testBit_bits, getLsbD_withBits, Nat.testBit_mod_two_pow]
  by_cases hi : i < w
  · simp [hi, show lo + i < n by omega]
  · simp [hi]

/-- A field is untouched by a write of another. -/
theorem bits_withBits_other {n : Nat} (v : BitVec n) {lo w lo' w' : Nat} (h : lo + w ≤ lo' ∨ lo' + w' ≤ lo) (x : Nat) :
    bits (withBits v lo w x) lo' w' = bits v lo' w' := by
  apply Nat.eq_of_testBit_eq
  intro i
  rw [testBit_bits, testBit_bits, getLsbD_withBits]
  by_cases hi : i < w'
  · by_cases hn : lo' + i < n
    · rw [if_neg (by omega)]; simp [hi, hn]
    · simp [hn, BitVec.getLsbD_of_ge v (lo' + i) (by omega)]
  · simp [hi]

end Sys2Proof.Machine
end

