-- ==== Sys2Proof/Laws/Keeps.lean ====
section
/-! SUPPORT. The relation Keeps: what no operation of the block changes (the queue, the tick number, the fuses, the
canonical form of memory and registers), its closure lemmas, and the lemmas of the primitive updates. -/

namespace Sys2Proof.Machine

/-- What every operation keeps: the queue, the tick number, the fuses, and the canonical form of the stores. -/
structure Keeps (s t : State) : Prop where
  pending : t.pending = s.pending
  tick : t.tick = s.tick
  fuses : t.otp.variant = s.otp.variant ∧ t.otp.stepping = s.otp.stepping ∧ t.otp.eui = s.otp.eui
  field : s.otp.field = true → t.otp.field = true
  counter : s.otp.counter ≤ t.otp.counter
  mem : Memory.wf s = true → Memory.wf t = true
  regs : Registers.wf s = true → Registers.wf t = true

theorem Keeps.refl (s : State) : Keeps s s := ⟨rfl, rfl, ⟨rfl, rfl, rfl⟩, id, le_refl _, id, id⟩

theorem Keeps.trans {s t u : State} (h : Keeps s t) (k : Keeps t u) : Keeps s u where
  pending := k.pending.trans h.pending
  tick := k.tick.trans h.tick
  fuses := ⟨k.fuses.1.trans h.fuses.1, k.fuses.2.1.trans h.fuses.2.1, k.fuses.2.2.trans h.fuses.2.2⟩
  field := fun x => k.field (h.field x)
  counter := le_trans h.counter k.counter
  mem := fun x => k.mem (h.mem x)
  regs := fun x => k.regs (h.regs x)

/-- A record update of the other fields. -/
theorem Keeps.upd {s e : State} (h : Keeps s e) (sq boot pw fe rx tx arc blv hif cph mac time mem bur uart fsp free posted)
    (hd : mem.dram = e.mem.dram) (hs : mem.sram = e.mem.sram) (hf : fsp.mem = e.fsp.mem) :
    Keeps s ⟨e.regs, e.tick, sq, e.otp, boot, pw, fe, rx, tx, arc, blv, hif, cph, mac, time, mem, bur, uart, fsp, free,
      posted, e.pending⟩ := by
  refine h.trans ⟨rfl, rfl, ⟨rfl, rfl, rfl⟩, id, le_refl _, ?_, id⟩
  simp only [Memory.wf, hd, hs, hf]; exact id

theorem Keeps.ite {s a b : State} {c : Prop} [Decidable c] (h : Keeps s a) (k : Keeps s b) :
    Keeps s (if c then a else b) := by split <;> assumption

theorem Keeps.snd {α : Type} {s t : State} {p : α × State} {a : α} (h : p = (a, t)) (k : Keeps s p.2) : Keeps s t := by
  subst h; exact k

theorem Keeps.snd2 {α β : Type} {s t : State} {p : α × β × State} {a : α} {b : β} (h : p = (a, b, t)) (k : Keeps s p.2.2) :
    Keeps s t := by subst h; exact k

theorem Keeps.forN {s e : State} {f : Nat → State → State} (h : Keeps s e) (hf : ∀ k t, Keeps s t → Keeps s (f k t))
    (n : Nat) : Keeps s (forN n f e) := by
  induction n with
  | zero => exact h
  | succ k ih => exact hf k _ ih

theorem Keeps.forEach {α : Type} {f : α → State → State} (l : List α) {s e : State} (h : Keeps s e)
    (hf : ∀ a t, Keeps s t → Keeps s (f a t)) : Keeps s (forEach l f e) := by
  induction l generalizing e with
  | nil => exact h
  | cons a r ih => exact ih (hf a e h)

theorem State.setReg_keeps {s0 s : State} (h : Keeps s0 s) (a : Nat) (v : Word) : Keeps s0 (s.setReg a v) :=
  h.trans ⟨rfl, rfl, ⟨rfl, rfl, rfl⟩, id, le_refl _, id, fun w => store_wf w⟩

/-- Updates of the memories that keep their form. -/
theorem Keeps.memo {s e : State} (h : Keeps s e) (sq boot pw fe rx tx arc blv hif cph mac time mem bur uart fsp free posted)
    (hm : Memory.wf e = true → (tabWf (fun _ => 0) mem.dram && tabWf (fun _ => 0) mem.sram &&
      tabWf (fun _ => 0xFF) fsp.mem) = true) :
    Keeps s ⟨e.regs, e.tick, sq, e.otp, boot, pw, fe, rx, tx, arc, blv, hif, cph, mac, time, mem, bur, uart, fsp, free,
      posted, e.pending⟩ :=
  h.trans ⟨rfl, rfl, ⟨rfl, rfl, rfl⟩, id, le_refl _, hm, id⟩

/-- An update of the keys of the OTP memory. -/
theorem Keeps.keys {s e : State} (h : Keeps s e) (sq boot pw fe rx tx arc blv hif cph mac time mem bur uart fsp free posted)
    (otp : OtpSt) (h1 : otp.variant = e.otp.variant ∧ otp.stepping = e.otp.stepping ∧ otp.eui = e.otp.eui)
    (h2 : e.otp.field = true → otp.field = true) (h3 : e.otp.counter ≤ otp.counter)
    (hd : mem.dram = e.mem.dram) (hs : mem.sram = e.mem.sram) (hf : fsp.mem = e.fsp.mem) :
    Keeps s ⟨e.regs, e.tick, sq, otp, boot, pw, fe, rx, tx, arc, blv, hif, cph, mac, time, mem, bur, uart, fsp, free,
      posted, e.pending⟩ := by
  refine h.trans ⟨rfl, rfl, h1, h2, h3, ?_, id⟩
  simp only [Memory.wf, hd, hs, hf]; exact id

theorem State.setDramByte_keeps {s0 s : State} (h : Keeps s0 s) (k : Nat) (b : Byte) : Keeps s0 (s.setDramByte k b) :=
  .memo h _ _ _ _ _ _ _ _ _ _ _ _ _ _ _ _ _ _ (by
    simp only [Memory.wf, Bool.and_eq_true]
    exact fun h => ⟨⟨store_wf (d := fun _ => (0 : Byte)) h.1.1, h.1.2⟩, h.2⟩)

theorem State.setSramWord_keeps {s0 s : State} (h : Keeps s0 s) (g w : Nat) (v : BitVec 72) : Keeps s0 (s.setSramWord g w v) :=
  .memo h _ _ _ _ _ _ _ _ _ _ _ _ _ _ _ _ _ _ (by
    simp only [Memory.wf, Bool.and_eq_true]
    exact fun h => ⟨⟨h.1.1, store_wf (d := fun _ => (0 : BitVec 72)) h.1.2⟩, h.2⟩)

theorem State.fillDram_keeps {s0 s : State} (h : Keeps s0 s)  : Keeps s0 s.fillDram :=
  .memo h _ _ _ _ _ _ _ _ _ _ _ _ _ _ _ _ _ _ (by
    simp only [Memory.wf, Bool.and_eq_true]
    exact fun h => ⟨⟨rfl, h.1.2⟩, h.2⟩)

theorem State.flashPut_keeps {s0 s : State} (h : Keeps s0 s) (a : Nat) (b : List Byte) : Keeps s0 (s.flashPut a b) := by
  induction b generalizing s a with
  | nil => exact h
  | cons x r ih =>
    refine ih ?_ _
    exact .memo h _ _ _ _ _ _ _ _ _ _ _ _ _ _ _ _ _ _ (by
      simp only [Memory.wf, Bool.and_eq_true]
      exact fun h => ⟨h.1, store_wf (d := fun _ => (0xFF : Byte)) h.2⟩)

theorem resetEntry_wfFrom (p : Nat → Row → Nat → Bool) {lo : Nat} {t : Tab Word} (w : tabWfFrom resetWord lo t = true) :
    tabWfFrom resetWord lo (t.filterMap (resetEntry p)) = true := by
  induction t generalizing lo with
  | nil => rfl
  | cons e r ih =>
    obtain ⟨k, v⟩ := e
    simp only [tabWfFrom, Bool.and_eq_true, decide_eq_true_eq] at w
    obtain ⟨⟨h1, h2⟩, h3⟩ := w
    have hc : ∀ x : Word, x ≠ resetWord k → tabWfFrom resetWord lo ((k, x) :: r.filterMap (resetEntry p)) = true := by
      intro x hx
      simp only [tabWfFrom, Bool.and_eq_true, decide_eq_true_eq]
      exact ⟨⟨h1, hx⟩, ih h3⟩
    rw [List.filterMap_cons]
    cases hr : rowOf regMap k with
    | none => simp only [resetEntry, hr]; exact hc v h2
    | some q =>
      have hq : resetWord k = BitVec.ofNat 32 q.1.reset := by simp only [resetWord, hr]
      simp only [resetEntry, hr]
      split
      · rename_i heq
        split at heq
        · exact tabWfFrom_mono (by omega) (ih h3)
        · cases heq
      · rename_i heq
        split at heq
        · split at heq
          · cases heq
          · cases heq; exact hc _ (by rw [hq]; assumption)
        · cases heq; exact hc v h2

theorem State.resetWhere_keeps {s0 s : State} (h : Keeps s0 s) (p : Nat → Row → Nat → Bool) : Keeps s0 (s.resetWhere p) :=
  h.trans ⟨rfl, rfl, ⟨rfl, rfl, rfl⟩, id, le_refl _, id, fun w => resetEntry_wfFrom p w⟩

/-- What an operation that may not apply keeps, where it does. -/
def OptKeeps (s : State) (o : Option State) : Prop := ∀ t, o = some t → Keeps s t

theorem OptKeeps.none (s : State) : OptKeeps s none := fun _ h => nomatch h
theorem OptKeeps.some {s e : State} (h : Keeps s e) : OptKeeps s (some e) := fun _ k => by cases k; exact h
theorem OptKeeps.ite {s : State} {a b : Option State} {c : Prop} [Decidable c] (h : OptKeeps s a) (k : OptKeeps s b) :
    OptKeeps s (if c then a else b) := by split <;> assumption
theorem OptKeeps.orElse {s : State} {o : Option State} {f : Unit → Option State} (h : OptKeeps s o)
    (k : ∀ u, OptKeeps s (f u)) : OptKeeps s (o.orElse f) := by
  cases o with
  | none => exact k ()
  | some x => exact h
theorem Keeps.getD {s e : State} {o : Option State} (h : OptKeeps s o) (k : Keeps s e) : Keeps s (o.getD e) := by
  cases o with
  | none => exact k
  | some x => exact h x rfl

/-- What a command keeps, when it answers a next state. -/
def OutKeeps (s : State) (o : Host.Outcome State Fault Refusal) : Prop := ∀ t, o = .next t → Keeps s t

theorem OutKeeps.next {s e : State} (h : Keeps s e) : OutKeeps s (.next e) := fun _ k => by cases k; exact h
theorem OutKeeps.refused (s : State) (r : Refusal) : OutKeeps s (.refused r) := fun _ k => nomatch k

end Sys2Proof.Machine
end

