-- ==== Sys2Proof/Laws/KeepsOps.lean ====
section
/-! SUPPORT. One lemma per operation: what Keeps names is kept by the shared operations on registers, events, output records, memory, time, frames and the Arcade. -/

namespace Sys2Proof.Machine

theorem State.set_keeps {s0 s : State} (h0 : Keeps s0 s) (f : _) (v : _) : Keeps s0 (State.set s f v) := by
  unfold State.set
  repeat' (first | with_reducible assumption | with_reducible apply State.setReg_keeps)

theorem State.bump_keeps {s0 s : State} (h0 : Keeps s0 s) (f : _) (n : _) : Keeps s0 (State.bump s f n) := by
  unfold State.bump
  repeat' (first | with_reducible assumption | with_reducible apply State.set_keeps)

theorem State.violate_keeps {s0 s : State} (h0 : Keeps s0 s) (a : _) (kind : _) :
    Keeps s0 (State.violate s a kind) := by
  unfold State.violate
  extract_lets v0 v1 v2
  try clear_value v0; try clear_value v1
  have k2 : Keeps s0 v2 := by
    unfold v2
    repeat' (first | with_reducible assumption | with_reducible apply State.bump_keeps)
  try clear_value v2
  repeat' (first
    | with_reducible (first | assumption | apply State.setReg_keeps | apply Keeps.ite)
    | fail_if_no_progress (with_reducible apply Keeps.upd <;> try with_reducible rfl))

theorem State.hostWrite_keeps {s0 s : State} (h0 : Keeps s0 s) (func : _) (offset : _) (f : _)
    (h_f : ∀ s0 t, Keeps s0 t → Keeps s0 (f t)) : Keeps s0 (State.hostWrite s func offset f) := by
  unfold State.hostWrite
  repeat' (first
    | with_reducible (first | assumption | apply State.violate_keeps | apply h_f)
    | fail_if_no_progress (with_reducible apply Keeps.upd <;> try with_reducible rfl) | split)

theorem State.raiseFlag_keeps {s0 s : State} (h0 : Keeps s0 s) (f : _) : Keeps s0 (State.raiseFlag s f) := by
  unfold State.raiseFlag
  extract_lets v0 v1
  have k0 : Keeps s0 v0 := by
    unfold v0
    repeat' (first | with_reducible assumption | with_reducible apply State.set_keeps)
  try clear_value v0
  repeat' (first
    | with_reducible assumption
    | fail_if_no_progress (with_reducible apply Keeps.upd <;> try with_reducible rfl))

theorem State.fire_keeps {s0 s : State} (h0 : Keeps s0 s) (src : _) (data : _) :
    Keeps s0 (State.fire s src data) := by
  unfold State.fire
  extract_lets v0 v1
  have k0 : Keeps s0 v0 := by
    unfold v0
    repeat' (first | with_reducible assumption | with_reducible apply State.raiseFlag_keeps)
  try clear_value v0
  repeat' (first
    | with_reducible (first | assumption | apply Keeps.ite)
    | fail_if_no_progress (with_reducible apply Keeps.upd <;> try with_reducible rfl))

theorem State.setFePort_keeps {s0 s : State} (h0 : Keeps s0 s) (n : _) (p : _) :
    Keeps s0 (State.setFePort s n p) := by
  unfold State.setFePort
  extract_lets v0
  repeat' (first
    | with_reducible assumption
    | fail_if_no_progress (with_reducible apply Keeps.upd <;> try with_reducible rfl))

theorem State.count_keeps {s0 s : State} (h0 : Keeps s0 s) (f : _) : Keeps s0 (State.count s f) := by
  unfold State.count
  repeat' (first | with_reducible assumption | with_reducible apply State.set_keeps)

theorem State.takeFree_keeps {s0 s : State} (h0 : Keeps s0 s) (n : _) : Keeps s0 (State.takeFree s n).2 := by
  unfold State.takeFree
  repeat' (first
    | with_reducible assumption
    | fail_if_no_progress (with_reducible apply Keeps.upd <;> try with_reducible rfl))

theorem State.post_keeps {s0 s : State} (h0 : Keeps s0 s) (o : _) : Keeps s0 (State.post s o) := by
  unfold State.post
  repeat' (first
    | with_reducible assumption
    | fail_if_no_progress (with_reducible apply Keeps.upd <;> try with_reducible rfl))

theorem State.hostRead_keeps {s0 s : State} (h0 : Keeps s0 s) (func : _) (offset : _) (f : _)
    (h_f : ∀ s0 t, Keeps s0 t → Keeps s0 (f t)) : Keeps s0 (State.hostRead s func offset f) := by
  unfold State.hostRead
  repeat' (first
    | with_reducible (first | assumption | apply State.post_keeps | apply State.violate_keeps | apply h_f)
    | fail_if_no_progress (with_reducible apply Keeps.upd <;> try with_reducible rfl) | split)

theorem State.clearViolations_keeps {s0 s : State} (h0 : Keeps s0 s)  : Keeps s0 (State.clearViolations s) := by
  unfold State.clearViolations
  repeat' (first
    | with_reducible (first | assumption | apply State.setReg_keeps | apply State.set_keeps))

theorem State.clearW1c_keeps {s0 s : State} (h0 : Keeps s0 s) (a : _) (mask : _) (written : _) :
    Keeps s0 (State.clearW1c s a mask written) := by
  unfold State.clearW1c
  extract_lets v0
  try clear_value v0
  repeat' (first | with_reducible assumption | with_reducible apply State.setReg_keeps)

theorem State.setI_keeps {s0 s : State} (h0 : Keeps s0 s) (f : _) (v : _) : Keeps s0 (State.setI s f v) := by
  unfold State.setI
  repeat' (first | with_reducible assumption | with_reducible apply State.set_keeps)

theorem State.addEdge_keeps {s0 s : State} (h0 : Keeps s0 s) (e : _) (t : _) : Keeps s0 (State.addEdge s e t) := by
  unfold State.addEdge
  extract_lets v0
  repeat' (first
    | with_reducible (first | assumption | apply Keeps.ite)
    | fail_if_no_progress (with_reducible apply Keeps.upd <;> try with_reducible rfl))

theorem State.refreshK_keeps {s0 s : State} (h0 : Keeps s0 s) (n : _) : Keeps s0 (State.refreshK s n) := by
  unfold State.refreshK
  repeat' (first
    | with_reducible (first | assumption | apply State.addEdge_keeps | apply State.set_keeps | apply Keeps.ite))

theorem State.setMs_keeps {s0 s : State} (h0 : Keeps s0 s) (i : _) (p : _) : Keeps s0 (State.setMs s i p) := by
  unfold State.setMs
  extract_lets v0
  repeat' (first
    | with_reducible assumption
    | fail_if_no_progress (with_reducible apply Keeps.upd <;> try with_reducible rfl))

theorem State.storeFields_keeps {s0 s : State} (h0 : Keeps s0 s) (r : _) (a : _) (v : _) :
    Keeps s0 (State.storeFields s r a v) := by
  unfold State.storeFields
  extract_lets v0 v1 v2
  try clear_value v0
  have k1 : Keeps s0 v1 := by
    unfold v1
    repeat' (first | with_reducible assumption | with_reducible apply State.setReg_keeps)
  try clear_value v1
  have k2 : Keeps s0 v2 := by
    unfold v2
    repeat' (first | with_reducible assumption | with_reducible apply State.clearW1c_keeps)
  try clear_value v2
  repeat' (first | with_reducible assumption | with_reducible apply State.setReg_keeps)

theorem State.putEvent_keeps {s0 s : State} (h0 : Keeps s0 s) (f : _) (r : _) (low : _) (lowData : _) (word3 : _)
    (lost : _) : Keeps s0 (State.putEvent s f r low lowData word3 lost) := by
  unfold State.putEvent
  extract_lets v0
  try clear_value v0
  repeat' (first
    | with_reducible (first | assumption | apply State.set_keeps | apply State.post_keeps))

theorem State.setLost_keeps {s0 s : State} (h0 : Keeps s0 s) (f : _) (r : _) (b : _) :
    Keeps s0 (State.setLost s f r b) := by
  unfold State.setLost
  extract_lets v0
  repeat' (first
    | with_reducible assumption
    | fail_if_no_progress (with_reducible apply Keeps.upd <;> try with_reducible rfl))

theorem State.putPayload_keeps {s0 s : State} (h0 : Keeps s0 s) (f : _) (r : _) (l : _) :
    Keeps s0 (State.putPayload s f r l) := by
  induction l generalizing s with
  | nil => exact h0
  | cons x r ih => exact ih (State.putEvent_keeps h0 ..)

theorem State.setTimer_keeps {s0 s : State} (h0 : Keeps s0 s) (f : _) (v : _) : Keeps s0 (State.setTimer s f v) := by
  unfold State.setTimer
  extract_lets v0 v1
  try clear_value v0
  repeat' (first
    | with_reducible (first | assumption | apply Keeps.ite)
    | fail_if_no_progress (with_reducible apply Keeps.upd <;> try with_reducible rfl))

theorem State.sendVector_keeps {s0 s : State} (h0 : Keeps s0 s) (f : _) (v : _) :
    Keeps s0 (State.sendVector s f v) := by
  unfold State.sendVector
  repeat' (first
    | with_reducible (first | assumption | apply State.setTimer_keeps | apply State.post_keeps))

theorem State.requestVector_keeps {s0 s : State} (h0 : Keeps s0 s) (f : _) (v : _) :
    Keeps s0 (State.requestVector s f v) := by
  unfold State.requestVector
  extract_lets v0 v1
  try clear_value v0
  repeat' (first
    | with_reducible (first | assumption | apply State.set_keeps | apply State.sendVector_keeps | apply Keeps.ite)
    | fail_if_no_progress (with_reducible apply Keeps.upd <;> try with_reducible rfl) | split)

theorem State.putRecord_keeps {s0 s : State} (h0 : Keeps s0 s) (kind : _) (r : _) (type : _) (data : _)
    (payload : _) : Keeps s0 (State.putRecord s kind r type data payload) := by
  unfold State.putRecord
  extract_lets v0 v1 v2
  try clear_value v0
  have k1 : Keeps s0 v1 := by
    unfold v1
    repeat' (first | with_reducible assumption | with_reducible apply State.putEvent_keeps)
  try clear_value v1
  have k2 : Keeps s0 v2 := by
    unfold v2
    repeat' (first
      | with_reducible (first | assumption | apply State.setLost_keeps | apply State.putPayload_keeps))
  try clear_value v2
  repeat' (first
    | with_reducible (first
      | assumption | apply State.setLost_keeps | apply State.requestVector_keeps | apply State.bump_keeps
      | apply Keeps.ite))

theorem State.notify_keeps {s0 s : State} (h0 : Keeps s0 s) (type : _) (data : _) (payload : _) :
    Keeps s0 (State.notify s type data payload) := by
  unfold State.notify
  repeat' (first
    | with_reducible (first | assumption | apply State.putRecord_keeps | apply Keeps.ite))

theorem State.notifyPresence_keeps {s0 s : State} (h0 : Keeps s0 s) (st : _) (addr : _) :
    Keeps s0 (State.notifyPresence s st addr) := by
  unfold State.notifyPresence
  repeat' (first | with_reducible assumption | with_reducible apply State.notify_keeps)

theorem State.telemetry_keeps {s0 s : State} (h0 : Keeps s0 s) (type : _) (data : _) (port : _)
    (payload : _) : Keeps s0 (State.telemetry s type data port payload) := by
  unfold State.telemetry
  repeat' (first
    | with_reducible (first | assumption | apply State.fire_keeps | apply State.putRecord_keeps | apply Keeps.ite))

theorem State.refreshIdle_keeps {s0 s : State} (h0 : Keeps s0 s) (f : _) (r : _) :
    Keeps s0 (State.refreshIdle s f r) := by
  unfold State.refreshIdle
  repeat' (first | with_reducible assumption | with_reducible apply State.set_keeps)

theorem State.untake_keeps {s0 s : State} (h0 : Keeps s0 s) (r : _) : Keeps s0 (State.untake s r) := by
  unfold State.untake
  extract_lets v0
  repeat' (first
    | with_reducible (first | assumption | apply State.refreshIdle_keeps)
    | fail_if_no_progress (with_reducible apply Keeps.upd <;> try with_reducible rfl))

theorem State.settleCompl_keeps {s0 s : State} (h0 : Keeps s0 s) (c : _) : Keeps s0 (State.settleCompl s c) :=
  State.untake_keeps (State.set_keeps h0 _ _) _

theorem State.postCompl_keeps {s0 s : State} (h0 : Keeps s0 s) (c : _) : Keeps s0 (State.postCompl s c) := by
  unfold State.postCompl
  extract_lets v0 v1 v2
  try clear_value v0
  have k1 : Keeps s0 v1 := by
    unfold v1
    repeat' (first | with_reducible assumption | with_reducible apply State.post_keeps)
  try clear_value v1
  have k2 : Keeps s0 v2 := by
    unfold v2
    repeat' (first
      | with_reducible (first | assumption | apply State.settleCompl_keeps | apply State.set_keeps))
  try clear_value v2
  repeat' (first
    | with_reducible (first
      | assumption | apply State.requestVector_keeps | apply State.settleCompl_keeps | apply Keeps.ite))

theorem State.notifyRingErr_keeps {s0 s : State} (h0 : Keeps s0 s) (f : _) (r : _) (err : _) :
    Keeps s0 (State.notifyRingErr s f r err) := by
  unfold State.notifyRingErr
  repeat' (first | with_reducible assumption | with_reducible apply State.notify_keeps)

theorem State.stopRing_keeps {s0 s : State} (h0 : Keeps s0 s) (f : _) (r : _) (err : _) :
    Keeps s0 (State.stopRing s f r err) := by
  unfold State.stopRing
  repeat' (first
    | with_reducible (first | assumption | apply State.notifyRingErr_keeps | apply State.set_keeps))

theorem State.postComplO_keeps {s0 s : State} (h0 : Keeps s0 s) (c : _) : Keeps s0 (State.postComplO s c) := by
  unfold State.postComplO
  repeat' (first | with_reducible assumption | with_reducible apply State.postCompl_keeps | split)

theorem State.setTxPort_keeps {s0 s : State} (h0 : Keeps s0 s) (n : _) (p : _) :
    Keeps s0 (State.setTxPort s n p) := by
  unfold State.setTxPort
  repeat' (first
    | with_reducible assumption
    | fail_if_no_progress (with_reducible apply Keeps.upd <;> try with_reducible rfl))

theorem State.setFrames_keeps {s0 s : State} (h0 : Keeps s0 s) (q : _) (l : _) :
    Keeps s0 (State.setFrames s q l) := by
  unfold State.setFrames
  extract_lets v0
  repeat' (first
    | with_reducible assumption
    | fail_if_no_progress (with_reducible apply Keeps.upd <;> try with_reducible rfl))

theorem State.setQueue_keeps {s0 s : State} (h0 : Keeps s0 s) (q : _) (v : _) : Keeps s0 (State.setQueue s q v) := by
  unfold State.setQueue
  extract_lets v0
  repeat' (first
    | with_reducible assumption
    | fail_if_no_progress (with_reducible apply Keeps.upd <;> try with_reducible rfl))

theorem State.refreshEnds_keeps {s0 s : State} (h0 : Keeps s0 s) (q : _) (head : _) (tail : _) :
    Keeps s0 (State.refreshEnds s q head tail) := by
  unfold State.refreshEnds
  repeat' (first
    | with_reducible (first | assumption | apply State.takeFree_keeps | apply State.setQueue_keeps))

theorem State.linkFrame_keeps {s0 s : State} (h0 : Keeps s0 s) (q : _) (f : _) :
    Keeps s0 (State.linkFrame s q f) := by
  unfold State.linkFrame
  extract_lets v0 v1 v2 v3 v4 v5 v6 v7
  try clear_value v0; try clear_value v4; try clear_value v6; try clear_value v7
  have k3 : Keeps s0 v3 := by
    unfold v3
    repeat' (first
      | with_reducible assumption
      | fail_if_no_progress (with_reducible apply Keeps.upd <;> try with_reducible rfl))
  try clear_value v3
  have k5 : Keeps s0 v5 := by
    unfold v5
    repeat' (first | with_reducible assumption | with_reducible apply State.setFrames_keeps)
  try clear_value v5
  repeat' (first
    | with_reducible (first
      | assumption | apply State.refreshEnds_keeps | apply State.setQueue_keeps | apply Keeps.ite))

theorem State.takeCells_keeps {s0 s : State} (h0 : Keeps s0 s) (k : _) : Keeps s0 (State.takeCells s k) := by
  unfold State.takeCells
  extract_lets v0 v1
  repeat' (first
    | with_reducible assumption
    | fail_if_no_progress (with_reducible apply Keeps.upd <;> try with_reducible rfl))

theorem State.countNoCell_keeps {s0 s : State} (h0 : Keeps s0 s) (rx : _) : Keeps s0 (State.countNoCell s rx) := by
  unfold State.countNoCell
  repeat' (first
    | with_reducible (first | assumption | apply State.bump_keeps | apply Keeps.ite))

theorem State.setFrame_keeps {s0 s : State} (h0 : Keeps s0 s) (q : _) (f : _) : Keeps s0 (State.setFrame s q f) := by
  unfold State.setFrame
  repeat' (first | with_reducible assumption | with_reducible apply State.setFrames_keeps)

theorem State.returnRx_keeps {s0 s : State} (h0 : Keeps s0 s) (k : _) (c : _) : Keeps s0 (State.returnRx s k c) := by
  unfold State.returnRx
  extract_lets v0 v1
  repeat' (first
    | with_reducible assumption
    | fail_if_no_progress (with_reducible apply Keeps.upd <;> try with_reducible rfl))

theorem State.setDirEnt_keeps {s0 s : State} (h0 : Keeps s0 s) (i : _) (v : _) :
    Keeps s0 (State.setDirEnt s i v) := by
  unfold State.setDirEnt
  extract_lets v0
  repeat' (first
    | with_reducible assumption
    | fail_if_no_progress (with_reducible apply Keeps.upd <;> try with_reducible rfl))

theorem State.setDirOf_keeps {s0 s : State} (h0 : Keeps s0 s) (a : _) (v : _) : Keeps s0 (State.setDirOf s a v) := by
  unfold State.setDirOf
  repeat' (first | with_reducible assumption | with_reducible apply State.setDirEnt_keeps)

theorem State.setSes_keeps {s0 s : State} (h0 : Keeps s0 s) (k : _) (v : _) : Keeps s0 (State.setSes s k v) := by
  unfold State.setSes
  extract_lets v0
  repeat' (first
    | with_reducible assumption
    | fail_if_no_progress (with_reducible apply Keeps.upd <;> try with_reducible rfl))

theorem State.forget_keeps {s0 s : State} (h0 : Keeps s0 s) (q : _) (id : _) : Keeps s0 (State.forget s q id) := by
  unfold State.forget
  repeat' (first
    | with_reducible (first | assumption | apply Keeps.forN | apply State.setTxPort_keeps)
    | extract_lets | intro _ _ _)

theorem State.unlinkCounts_keeps {s0 s : State} (h0 : Keeps s0 s) (q : _) (f : _) :
    Keeps s0 (State.unlinkCounts s q f) := by
  unfold State.unlinkCounts
  extract_lets v0 v1 v2
  try clear_value v0; try clear_value v1; try clear_value v2
  repeat' (first
    | with_reducible (first
      | assumption | apply State.refreshEnds_keeps | apply State.setQueue_keeps | apply Keeps.ite))

theorem State.returnTx_keeps {s0 s : State} (h0 : Keeps s0 s) (retained : _) (k : _) (c : _) (flush : _) :
    Keeps s0 (State.returnTx s retained k c flush) := by
  unfold State.returnTx
  extract_lets v0 v1 v2 v3
  have k2 : Keeps s0 v2 := by
    unfold v2
    repeat' (first
      | with_reducible (first | assumption | apply Keeps.ite)
      | fail_if_no_progress (with_reducible apply Keeps.upd <;> try with_reducible rfl))
  try clear_value v2
  repeat' (first
    | with_reducible assumption
    | fail_if_no_progress (with_reducible apply Keeps.upd <;> try with_reducible rfl))

theorem State.completeTx_keeps {s0 s : State} (h0 : Keeps s0 s) (q : _) (f : _) (status : _) (flush : _) :
    Keeps s0 (State.completeTx s q f status flush) := by
  unfold State.completeTx
  extract_lets v0 v1
  have k0 : Keeps s0 v0 := by
    unfold v0
    repeat' (first | with_reducible assumption | with_reducible apply State.setFrames_keeps)
  try clear_value v0
  have k1 : Keeps s0 v1 := by
    unfold v1
    repeat' (first
      | with_reducible (first | assumption | apply State.forget_keeps | apply State.unlinkCounts_keeps))
  try clear_value v1
  repeat' (first | with_reducible assumption | with_reducible apply State.returnTx_keeps)

theorem State.showAct_keeps {s0 s : State} (h0 : Keeps s0 s)  : Keeps s0 (State.showAct s) := by
  unfold State.showAct
  repeat' (first | with_reducible assumption | with_reducible apply State.set_keeps)

theorem State.startRebuild_keeps {s0 s : State} (h0 : Keeps s0 s)  : Keeps s0 (State.startRebuild s) := by
  unfold State.startRebuild
  extract_lets v0
  repeat' (first
    | with_reducible (first | assumption | apply State.showAct_keeps)
    | fail_if_no_progress (with_reducible apply Keeps.upd <;> try with_reducible rfl))

theorem State.setBlvPort_keeps {s0 s : State} (h0 : Keeps s0 s) (n : _) (p : _) :
    Keeps s0 (State.setBlvPort s n p) := by
  unfold State.setBlvPort
  extract_lets v0
  repeat' (first
    | with_reducible assumption
    | fail_if_no_progress (with_reducible apply Keeps.upd <;> try with_reducible rfl))

theorem State.withdraw_keeps {s0 s : State} (h0 : Keeps s0 s) (q : _) : Keeps s0 (State.withdraw s q) := by
  unfold State.withdraw
  repeat' (first
    | with_reducible (first | assumption | apply Keeps.forN | apply State.setBlvPort_keeps | apply Keeps.ite)
    | extract_lets | intro _ _ _)

theorem State.quarantineQueue_keeps {s0 s : State} (h0 : Keeps s0 s) (q : _) :
    Keeps s0 (State.quarantineQueue s q) := by
  unfold State.quarantineQueue
  extract_lets v0 v1 v2 v3 v4 v5 v6 v7
  try clear_value v2; try clear_value v4; try clear_value v5
  have k1 : Keeps s0 v1 := by
    unfold v1
    repeat' (first
      | with_reducible (first | assumption | apply State.withdraw_keeps | apply State.bump_keeps)
      | fail_if_no_progress (with_reducible apply Keeps.upd <;> try with_reducible rfl))
  try clear_value v1
  have k3 : Keeps s0 v3 := by
    unfold v3
    repeat' (first
      | with_reducible (first | assumption | apply Keeps.forEach | apply State.completeTx_keeps)
      | extract_lets | intro _ _ _)
  try clear_value v3
  have k6 : Keeps s0 v6 := by
    unfold v6
    repeat' (first | with_reducible assumption | with_reducible apply State.setFrames_keeps)
  try clear_value v6
  repeat' (first
    | with_reducible (first | assumption | apply Keeps.ite)
    | fail_if_no_progress (with_reducible apply Keeps.upd <;> try with_reducible rfl))

theorem State.uncache_keeps {s0 s : State} (h0 : Keeps s0 s) (k : _) : Keeps s0 (State.uncache s k) := by
  unfold State.uncache
  extract_lets v0 v1
  try clear_value v0
  repeat' (first
    | with_reducible (first | assumption | apply State.set_keeps)
    | fail_if_no_progress (with_reducible apply Keeps.upd <;> try with_reducible rfl))

theorem State.quarantineSes_keeps {s0 s : State} (h0 : Keeps s0 s) (k : _) : Keeps s0 (State.quarantineSes s k) := by
  unfold State.quarantineSes
  extract_lets v0
  repeat' (first
    | with_reducible (first | assumption | apply State.uncache_keeps | apply State.bump_keeps | apply Keeps.ite)
    | fail_if_no_progress (with_reducible apply Keeps.upd <;> try with_reducible rfl))

theorem State.quarantinePage_keeps {s0 s : State} (h0 : Keeps s0 s) (p : _) :
    Keeps s0 (State.quarantinePage s p) := by
  unfold State.quarantinePage
  extract_lets v0
  repeat' (first
    | with_reducible (first | assumption | apply State.bump_keeps | apply Keeps.ite)
    | fail_if_no_progress (with_reducible apply Keeps.upd <;> try with_reducible rfl))

theorem State.endRebuild_keeps {s0 s : State} (h0 : Keeps s0 s)  : Keeps s0 (State.endRebuild s) := by
  unfold State.endRebuild
  extract_lets v0 v1
  have k1 : Keeps s0 v1 := by
    unfold v1
    repeat' (first
      | with_reducible assumption
      | fail_if_no_progress (with_reducible apply Keeps.upd <;> try with_reducible rfl))
  try clear_value v1
  repeat' (first
    | with_reducible (first | assumption | apply State.showAct_keeps | apply State.set_keeps | apply Keeps.ite))

theorem State.completeAll_keeps {s0 s : State} (h0 : Keeps s0 s) (q : _) (l : _) (status : _) :
    Keeps s0 (State.completeAll s q l status) := by
  unfold State.completeAll
  repeat' (first
    | with_reducible (first | assumption | apply Keeps.forEach | apply State.completeTx_keeps)
    | extract_lets | intro _ _ _)

theorem State.refillQueue_keeps {s0 s : State} (h0 : Keeps s0 s) (q : _) : Keeps s0 (State.refillQueue s q) := by
  unfold State.refillQueue
  extract_lets v0
  try clear_value v0
  repeat' (first
    | with_reducible (first | assumption | apply State.setQueue_keeps | apply Keeps.ite))

theorem State.refillSes_keeps {s0 s : State} (h0 : Keeps s0 s) (k : _) : Keeps s0 (State.refillSes s k) := by
  unfold State.refillSes
  extract_lets v0
  try clear_value v0
  repeat' (first
    | with_reducible (first | assumption | apply State.setSes_keeps | apply Keeps.ite))

theorem State.setSymbol_keeps {s0 s : State} (h0 : Keeps s0 s) (l : _) (w : _) (j : _) (v : _) :
    Keeps s0 (State.setSymbol s l w j v) := by
  unfold State.setSymbol
  extract_lets v0
  try clear_value v0
  repeat' (first | with_reducible assumption | with_reducible apply State.setDramByte_keeps)

theorem State.fixLine_keeps {s0 s : State} (h0 : Keeps s0 s) (l : _) (j : _) : Keeps s0 (State.fixLine s l j) := by
  unfold State.fixLine
  repeat' (first
    | with_reducible (first | assumption | apply Keeps.forN | apply State.setSymbol_keeps)
    | extract_lets | intro _ _ _)

theorem State.bucketAdd_keeps {s0 s : State} (h0 : Keeps s0 s) (cnt : _) (tot : _) (th : _) (src : _)
    (data : _) : Keeps s0 (State.bucketAdd s cnt tot th src data) := by
  unfold State.bucketAdd
  extract_lets v0 v1
  try clear_value v0
  have k1 : Keeps s0 v1 := by
    unfold v1
    repeat' (first | with_reducible assumption | with_reducible apply State.bump_keeps)
  try clear_value v1
  repeat' (first
    | with_reducible (first | assumption | apply State.fire_keeps | apply State.set_keeps | apply Keeps.ite))

theorem State.repairCandidate_keeps {s0 s : State} (h0 : Keeps s0 s) (r : _) (i : _) (dev : _) :
    Keeps s0 (State.repairCandidate s r i dev) := by
  unfold State.repairCandidate
  extract_lets v0 v1 v2 v3
  try clear_value v0; try clear_value v1; try clear_value v2; try clear_value v3
  repeat' (first
    | with_reducible (first | assumption | apply State.setReg_keeps | apply Keeps.ite)
    | split)

theorem State.setMark_keeps {s0 s : State} (h0 : Keeps s0 s) (r : _) (sub : _) (dev : _) :
    Keeps s0 (State.setMark s r sub dev) := by
  unfold State.setMark
  repeat' (first | with_reducible assumption | with_reducible apply State.set_keeps | with_reducible apply Keeps.ite)

theorem State.countCorrection_keeps {s0 s : State} (h0 : Keeps s0 s) (l : _) (dev : _) :
    Keeps s0 (State.countCorrection s l dev) := by
  unfold State.countCorrection
  extract_lets v0
  try clear_value v0
  repeat' (first
    | with_reducible (first
      | assumption | apply State.bump_keeps | apply State.bucketAdd_keeps | apply State.repairCandidate_keeps
      | apply State.setMark_keeps | apply Keeps.ite)
    | fail_if_no_progress (with_reducible apply Keeps.upd <;> try with_reducible rfl) | split)

theorem State.logUe_keeps {s0 s : State} (h0 : Keeps s0 s) (whr : _) (req : _) (kind : _) :
    Keeps s0 (State.logUe s whr req kind) := by
  unfold State.logUe
  extract_lets v0 v1
  try clear_value v0; try clear_value v1
  repeat' (first
    | with_reducible (first | assumption | apply State.bump_keeps | apply State.set_keeps | apply Keeps.ite))

theorem State.reportUe_keeps {s0 s : State} (h0 : Keeps s0 s) (l : _) (req : _) (kind : _) :
    Keeps s0 (State.reportUe s l req kind) := by
  unfold State.reportUe
  repeat' (first
    | with_reducible (first
      | assumption | apply State.repairCandidate_keeps | apply State.logUe_keeps | apply State.fire_keeps))

theorem State.readLine_keeps {s0 s : State} (h0 : Keeps s0 s) (l : _) (req : _) :
    Keeps s0 (State.readLine s l req).2 := by
  unfold State.readLine
  repeat' (first
    | with_reducible (first
      | assumption | apply State.fixLine_keeps | apply State.countCorrection_keeps | apply State.reportUe_keeps)
    | split)

theorem State.readLines_keeps {s0 s : State} (h0 : Keeps s0 s) (l : _) (n : _) (req : _) :
    Keeps s0 (State.readLines s l n req).2 := by
  induction n generalizing s l with
  | zero => exact h0
  | succ k ih =>
    unfold State.readLines
    have hl := State.readLine_keeps h0 l req
    revert hl
    generalize s.readLine l req = p
    obtain ⟨a, s1⟩ := p
    intro hl
    have h2 := ih hl (l + 1)
    revert h2
    dsimp only
    generalize s1.readLines (l + 1) k req = p
    obtain ⟨b, s2⟩ := p
    intro h2
    cases a <;> cases b <;> exact h2

theorem State.encodeWord_keeps {s0 s : State} (h0 : Keeps s0 s) (l : _) (w : _) :
    Keeps s0 (State.encodeWord s l w) := by
  unfold State.encodeWord
  extract_lets v0 v1 v2
  try clear_value v0; try clear_value v1; try clear_value v2
  repeat' (first | with_reducible assumption | with_reducible apply State.setSymbol_keeps)

theorem State.storeBytes_keeps {s0 s : State} (h0 : Keeps s0 s) (k : _) (b : _) :
    Keeps s0 (State.storeBytes s k b) := by
  induction b generalizing s k with
  | nil => exact h0
  | cons x r ih => exact ih (State.setDramByte_keeps h0 ..) _

theorem State.writeLine_keeps {s0 s : State} (h0 : Keeps s0 s) (l : _) (b : _) :
    Keeps s0 (State.writeLine s l b) := by
  unfold State.writeLine
  repeat' (first
    | with_reducible (first
      | assumption | apply Keeps.forN | apply State.encodeWord_keeps | apply State.storeBytes_keeps)
    | extract_lets | intro _ _ _)

theorem State.writeLines_keeps {s0 s : State} (h0 : Keeps s0 s) (l : _) (n : _) (b : _) :
    Keeps s0 (State.writeLines s l n b) := by
  induction n generalizing s l b with
  | zero => exact h0
  | succ k ih => exact ih (State.writeLine_keeps h0 ..) _ _

theorem State.narrowWrite_keeps {s0 s : State} (h0 : Keeps s0 s) (l : _) (off : _) (b : _) (req : _) :
    Keeps s0 (State.narrowWrite s l off b req).2 := by
  unfold State.narrowWrite
  repeat' (first
    | with_reducible (first
      | assumption | apply State.fire_keeps | apply State.reportUe_keeps | apply State.countCorrection_keeps
      | apply State.fixLine_keeps | apply State.writeLine_keeps)
    | split)

theorem State.countSram_keeps {s0 s : State} (h0 : Keeps s0 s) (g : _) : Keeps s0 (State.countSram s g) := by
  unfold State.countSram
  repeat' (first | with_reducible assumption | with_reducible apply State.bucketAdd_keeps)

theorem State.jump_keeps {s0 s : State} (h0 : Keeps s0 s) (b : _) (data : _) : Keeps s0 (State.jump s b data) := by
  unfold State.jump
  repeat' (first
    | with_reducible (first | assumption | apply State.bump_keeps | apply State.fire_keeps))

theorem State.setTb_keeps {s0 s : State} (h0 : Keeps s0 s) (b : _) (t : _) : Keeps s0 (State.setTb s b t) := by
  unfold State.setTb
  extract_lets v0 v1
  have k1 : Keeps s0 v1 := by
    unfold v1
    repeat' (first
      | with_reducible (first | assumption | apply Keeps.ite)
      | fail_if_no_progress (with_reducible apply Keeps.upd <;> try with_reducible rfl))
  try clear_value v1
  repeat' (first
    | with_reducible (first | assumption | apply State.set_keeps | apply State.setI_keeps))

theorem State.startTb_keeps {s0 s : State} (h0 : Keeps s0 s) (b : _) (v : _) : Keeps s0 (State.startTb s b v) := by
  unfold State.startTb
  repeat' (first
    | with_reducible (first | assumption | apply State.set_keeps | apply State.setTb_keeps))

theorem State.correct_keeps {s0 s : State} (h0 : Keeps s0 s) (b : _) (theta : _) (source : _) :
    Keeps s0 (State.correct s b theta source).2 := by
  unfold State.correct
  extract_lets v0
  repeat' (first
    | with_reducible (first
      | assumption | apply State.jump_keeps | apply State.setTb_keeps | apply State.startTb_keeps)
    | split)

theorem State.setHold_keeps {s0 s : State} (h0 : Keeps s0 s) (b : _) (h : _) : Keeps s0 (State.setHold s b h) := by
  unfold State.setHold
  repeat' (first
    | with_reducible (first | assumption | apply State.fire_keeps | apply State.set_keeps | apply Keeps.ite))

theorem State.advanceTb_keeps {s0 s : State} (h0 : Keeps s0 s) (b : _) (n : _) :
    Keeps s0 (State.advanceTb s b n) := by
  unfold State.advanceTb
  extract_lets v0 v1
  try clear_value v0; try clear_value v1
  repeat' (first
    | with_reducible (first | assumption | apply State.setTb_keeps | apply Keeps.ite))

theorem State.advancePt_keeps {s0 s : State} (h0 : Keeps s0 s) (n : _) : Keeps s0 (State.advancePt s n) := by
  unfold State.advancePt
  extract_lets v0 v1
  try clear_value v0
  repeat' (first
    | with_reducible (first | assumption | apply State.setI_keeps | apply Keeps.ite)
    | fail_if_no_progress (with_reducible apply Keeps.upd <;> try with_reducible rfl))

theorem State.syncOut_keeps {s0 s : State} (h0 : Keeps s0 s) (src : _) : Keeps s0 (State.syncOut s src) := by
  unfold State.syncOut
  extract_lets v0
  repeat' (first
    | with_reducible (first | assumption | apply State.fire_keeps | apply Keeps.ite)
    | fail_if_no_progress (with_reducible apply Keeps.upd <;> try with_reducible rfl))

theorem State.sfCrossing_keeps {s0 s : State} (h0 : Keeps s0 s) (at_ : _) (ok : _) :
    Keeps s0 (State.sfCrossing s at_ ok) := by
  unfold State.sfCrossing
  extract_lets v0 v1
  have k1 : Keeps s0 v1 := by
    unfold v1
    repeat' (first
      | with_reducible assumption
      | fail_if_no_progress (with_reducible apply Keeps.upd <;> try with_reducible rfl))
  try clear_value v1
  repeat' (first | with_reducible assumption | with_reducible apply State.set_keeps | with_reducible apply Keeps.ite)

theorem State.tb3Crossing_keeps {s0 s : State} (h0 : Keeps s0 s) (at_ : _) (ok : _) :
    Keeps s0 (State.tb3Crossing s at_ ok) := by
  unfold State.tb3Crossing
  extract_lets v0 v1 v2
  try clear_value v0; try clear_value v2
  repeat' (first
    | with_reducible (first | assumption | apply State.fire_keeps | apply State.set_keeps | apply Keeps.ite)
    | fail_if_no_progress (with_reducible apply Keeps.upd <;> try with_reducible rfl) | split)

theorem State.showCyc_keeps {s0 s : State} (h0 : Keeps s0 s)  : Keeps s0 (State.showCyc s) := by
  unfold State.showCyc
  repeat' (first | with_reducible assumption | with_reducible apply State.set_keeps)

theorem State.setCsma_keeps {s0 s : State} (h0 : Keeps s0 s) (n : _) (c : _) : Keeps s0 (State.setCsma s n c) := by
  unfold State.setCsma
  extract_lets v0
  repeat' (first
    | with_reducible assumption
    | fail_if_no_progress (with_reducible apply Keeps.upd <;> try with_reducible rfl))

theorem State.readRec_keeps {s0 s : State} (h0 : Keeps s0 s) (k : _) (x : _) : Keeps s0 (State.readRec s k x).2 := by
  unfold State.readRec
  extract_lets v0 v1
  try clear_value v0; try clear_value v1
  repeat' (first | with_reducible assumption | with_reducible apply State.readLines_keeps | split)

theorem State.writeRec_keeps {s0 s : State} (h0 : Keeps s0 s) (k : _) (x : _) (b : _) :
    Keeps s0 (State.writeRec s k x b) := by
  unfold State.writeRec
  extract_lets v0 v1
  try clear_value v0; try clear_value v1
  repeat' (first
    | with_reducible (first | assumption | apply State.writeLines_keeps | apply Keeps.ite))

theorem State.delayOf_keeps {s0 s : State} (h0 : Keeps s0 s) (n : _) (k : _) (t : _) (swk : _) :
    Keeps s0 (State.delayOf s n k t swk).2 := by
  unfold State.delayOf
  repeat' (first
    | with_reducible (first | assumption | apply State.readRec_keeps | refine Keeps.snd (by assumption) ?_)
    | split)

theorem State.chooseMap_keeps {s0 s : State} (h0 : Keeps s0 s) (n : _) (k : _) (tl : _) (grouped : _) :
    Keeps s0 (State.chooseMap s n k tl grouped).2.2 := by
  unfold State.chooseMap
  extract_lets v0
  try clear_value v0
  repeat' (first
    | with_reducible (first
      | assumption | apply State.delayOf_keeps | apply State.readRec_keeps | refine Keeps.snd (by assumption) ?_)
    | split | extract_lets)

theorem State.setArc_keeps {s0 s : State} (h0 : Keeps s0 s) (i : _) (a : _) : Keeps s0 (State.setArc s i a) := by
  unfold State.setArc
  repeat' (first
    | with_reducible assumption
    | fail_if_no_progress (with_reducible apply Keeps.upd <;> try with_reducible rfl))

theorem State.arcFire_keeps {s0 s : State} (h0 : Keeps s0 s) (i : _) (bit : _) :
    Keeps s0 (State.arcFire s i bit) := by
  unfold State.arcFire
  extract_lets v0
  repeat' (first
    | with_reducible (first | assumption | apply State.fire_keeps | apply Keeps.ite)
    | fail_if_no_progress (with_reducible apply Keeps.upd <;> try with_reducible rfl) | split)

theorem State.arcHandOver_keeps {s0 s : State} (h0 : Keeps s0 s) (i : _) : Keeps s0 (State.arcHandOver s i) := by
  unfold State.arcHandOver
  extract_lets v0 v1 v2 v3
  try clear_value v0; try clear_value v1; try clear_value v3
  have k2 : Keeps s0 v2 := by
    unfold v2
    repeat' (first | with_reducible assumption | with_reducible apply State.setArc_keeps)
  try clear_value v2
  repeat' (first
    | with_reducible (first | assumption | apply State.arcFire_keeps | apply Keeps.ite))

theorem State.arcOpen_keeps {s0 s : State} (h0 : Keeps s0 s) (i : _) : Keeps s0 (State.arcOpen s i) := by
  unfold State.arcOpen
  extract_lets v0 v1 v2
  try clear_value v2
  have k1 : Keeps s0 v1 := by
    unfold v1
    repeat' (first
      | with_reducible (first | assumption | apply State.arcHandOver_keeps | apply Keeps.ite))
  try clear_value v1
  repeat' (first
    | with_reducible (first | assumption | apply State.setArc_keeps | apply Keeps.ite))

theorem State.arcRewind_keeps {s0 s : State} (h0 : Keeps s0 s) (i : _) : Keeps s0 (State.arcRewind s i) := by
  unfold State.arcRewind
  extract_lets v0
  try clear_value v0
  repeat' (first
    | with_reducible (first | assumption | apply State.bump_keeps | apply State.setArc_keeps | apply Keeps.ite))

theorem State.arcRead_keeps {s0 s : State} (h0 : Keeps s0 s) (i : _) : Keeps s0 (State.arcRead s i) := by
  unfold State.arcRead
  extract_lets v0
  try clear_value v0
  repeat' (first | with_reducible assumption | with_reducible apply State.setArc_keeps | split)

theorem State.arcCommit_keeps {s0 s : State} (h0 : Keeps s0 s) (i : _) (words : _) (l : _) :
    Keeps s0 (State.arcCommit s i words l) := by
  unfold State.arcCommit
  extract_lets v0
  try clear_value v0
  repeat' (first
    | with_reducible (first
      | assumption | apply State.setArc_keeps | apply State.bump_keeps | apply State.arcFire_keeps | apply Keeps.ite))

theorem State.arcEmpty_keeps {s0 s : State} (h0 : Keeps s0 s) (i : _) : Keeps s0 (State.arcEmpty s i) := by
  unfold State.arcEmpty
  extract_lets v0 v1
  try clear_value v0; try clear_value v1
  repeat' (first
    | with_reducible (first | assumption | apply State.bump_keeps | apply State.setArc_keeps))

theorem State.arcPass_keeps {s0 s : State} (h0 : Keeps s0 s) (i : _) : Keeps s0 (State.arcPass s i) := by
  unfold State.arcPass
  repeat' (first | with_reducible assumption | with_reducible apply State.bump_keeps)

theorem State.arcReleaseBank_keeps {s0 s : State} (h0 : Keeps s0 s) (i : _) :
    Keeps s0 (State.arcReleaseBank s i) := by
  unfold State.arcReleaseBank
  extract_lets v0
  try clear_value v0
  repeat' (first
    | with_reducible (first | assumption | apply State.setArc_keeps | apply Keeps.ite))

theorem State.showCph_keeps {s0 s : State} (h0 : Keeps s0 s)  : Keeps s0 (State.showCph s) := by
  unfold State.showCph
  repeat' (first | with_reducible assumption | with_reducible apply State.set_keeps)

theorem State.refDown_keeps {s0 s : State} (h0 : Keeps s0 s) (k : _) : Keeps s0 (State.refDown s k) := by
  unfold State.refDown
  repeat' (first | with_reducible assumption | with_reducible apply State.set_keeps)

theorem State.cphEnd_keeps {s0 s : State} (h0 : Keeps s0 s) (use : _) : Keeps s0 (State.cphEnd s use) := by
  unfold State.cphEnd
  extract_lets v0 v1 v2
  try clear_value v0
  have k2 : Keeps s0 v2 := by
    unfold v2
    repeat' (first
      | with_reducible assumption
      | fail_if_no_progress (with_reducible apply Keeps.upd <;> try with_reducible rfl))
  try clear_value v2
  repeat' (first
    | with_reducible (first
      | assumption | apply State.showCph_keeps | apply Keeps.forEach | apply State.refDown_keeps)
    | extract_lets | intro _ _ _)

theorem State.cacheKey_keeps {s0 s : State} (h0 : Keeps s0 s) (ses : _) (key : _) (kek : _) :
    Keeps s0 (State.cacheKey s ses key kek) := by
  unfold State.cacheKey
  extract_lets v0 v1 v2 v3
  try clear_value v0; try clear_value v1; try clear_value v2
  repeat' (first
    | with_reducible (first | assumption | apply State.set_keeps)
    | fail_if_no_progress (with_reducible apply Keeps.upd <;> try with_reducible rfl))

theorem State.obtainKey_keeps {s0 s : State} (h0 : Keeps s0 s) (ses : _) : Keeps s0 (State.obtainKey s ses).2 := by
  unfold State.obtainKey
  extract_lets v0 v1
  try clear_value v0; try clear_value v1
  repeat' (first | with_reducible assumption | with_reducible apply State.cacheKey_keeps | split)

theorem State.keyFail_keeps {s0 s : State} (h0 : Keeps s0 s) (ses : _) (path : _) :
    Keeps s0 (State.keyFail s ses path) := by
  unfold State.keyFail
  extract_lets v0
  have k0 : Keeps s0 v0 := by
    unfold v0
    repeat' (first
      | with_reducible (first | assumption | apply State.bump_keeps | apply State.fire_keeps))
  try clear_value v0
  repeat' (first | with_reducible assumption | with_reducible apply State.setSes_keeps)

theorem State.setSlot_keeps {s0 s : State} (h0 : Keeps s0 s) (k : _) (st : _) (usage : _) (size : _)
    (key : _) : Keeps s0 (State.setSlot s k st usage size key) := by
  unfold State.setSlot
  extract_lets v0 v1 v2 v3 v4
  try clear_value v0
  have k1 : Keeps s0 v1 := by
    unfold v1
    repeat' (first | with_reducible assumption | with_reducible apply State.set_keeps)
  try clear_value v1
  have k2 : Keeps s0 v2 := by
    unfold v2
    repeat' (first | with_reducible assumption | with_reducible apply State.set_keeps)
  try clear_value v2
  have k3 : Keeps s0 v3 := by
    unfold v3
    repeat' (first | with_reducible assumption | with_reducible apply State.set_keeps)
  try clear_value v3
  repeat' (first
    | with_reducible assumption
    | fail_if_no_progress (with_reducible apply Keeps.upd <;> try with_reducible rfl))

theorem State.redrawDirKey_keeps {s0 s : State} (h0 : Keeps s0 s)  : Keeps s0 (State.redrawDirKey s) := by
  unfold State.redrawDirKey
  repeat' (first
    | with_reducible (first | assumption | apply State.takeFree_keeps | apply State.setSlot_keeps)
    | fail_if_no_progress (with_reducible apply Keeps.upd <;> try with_reducible rfl))

theorem State.refUp_keeps {s0 s : State} (h0 : Keeps s0 s) (k : _) : Keeps s0 (State.refUp s k) := by
  unfold State.refUp
  repeat' (first | with_reducible assumption | with_reducible apply State.set_keeps)

theorem State.cphRequest_keeps {s0 s : State} (h0 : Keeps s0 s) (use : _) (ses : _) (prio : _) (bytes : _) :
    Keeps s0 (State.cphRequest s use ses prio bytes) := by
  unfold State.cphRequest
  extract_lets v0 v1 v2
  try clear_value v0
  have k2 : Keeps s0 v2 := by
    unfold v2
    repeat' (first
      | with_reducible assumption
      | fail_if_no_progress (with_reducible apply Keeps.upd <;> try with_reducible rfl))
  try clear_value v2
  repeat' (first
    | with_reducible (first | assumption | apply State.showCph_keeps | apply State.refUp_keeps))

theorem State.takeCounter_keeps {s0 s : State} (h0 : Keeps s0 s) (ses : _) :
    Keeps s0 (State.takeCounter s ses).2 := by
  unfold State.takeCounter
  extract_lets v0 v1 v2 v3 v4 v5 v6
  try clear_value v0; try clear_value v2; try clear_value v3; try clear_value v4; try clear_value v5
  have k6 : Keeps s0 v6 := by
    unfold v6
    repeat' (first
      | with_reducible (first | assumption | apply State.fire_keeps | apply State.setSes_keeps | apply Keeps.ite))
  try clear_value v6
  repeat' (first
    | with_reducible (first | assumption | apply State.fire_keeps | apply State.setSes_keeps | apply Keeps.ite)
    | fail_if_no_progress (with_reducible apply Keeps.upd <;> try with_reducible rfl) | split)

end Sys2Proof.Machine
end

