-- ==== Sys2Proof/Laws/KeepsLine.lean ====
section
/-! SUPPORT. One lemma per operation: what Keeps names is kept by the receiver, the transmitter, the front end and Burin. -/

namespace Sys2Proof.Machine

theorem State.poisonRelay_keeps {s0 s : State} (h0 : Keeps s0 s) (id : _) : Keeps s0 (State.poisonRelay s id) := by
  unfold State.poisonRelay
  extract_lets v0 v1
  try clear_value v0
  repeat' (first
    | with_reducible (first | assumption | apply State.bump_keeps | apply Keeps.ite)
    | fail_if_no_progress (with_reducible apply Keeps.upd <;> try with_reducible rfl))

theorem State.setRxPort_keeps {s0 s : State} (h0 : Keeps s0 s) (n : _) (p : _) :
    Keeps s0 (State.setRxPort s n p) := by
  unfold State.setRxPort
  extract_lets v0
  repeat' (first
    | with_reducible assumption
    | fail_if_no_progress (with_reducible apply Keeps.upd <;> try with_reducible rfl))

theorem State.rxBlankUntil_keeps {s0 s : State} (h0 : Keeps s0 s) (n : _) : Keeps s0 (State.rxBlankUntil s n) := by
  unfold State.rxBlankUntil
  extract_lets v0
  repeat' (first | with_reducible assumption | with_reducible apply State.setRxPort_keeps)

theorem State.setRxState_keeps {s0 s : State} (h0 : Keeps s0 s) (n : _) (v : _) :
    Keeps s0 (State.setRxState s n v) := by
  unfold State.setRxState
  refine State.set_keeps ?_ _ _
  exact Keeps.ite (State.setRxPort_keeps h0 _ _) h0

theorem State.dropAcq_keeps {s0 s : State} (h0 : Keeps s0 s) (n : _) (id : _) : Keeps s0 (State.dropAcq s n id) := by
  unfold State.dropAcq
  extract_lets v0 v1
  try clear_value v0; try clear_value v1
  repeat' (first | with_reducible assumption | with_reducible apply State.setRxPort_keeps)

theorem State.showPool_keeps {s0 s : State} (h0 : Keeps s0 s)  : Keeps s0 (State.showPool s) := by
  unfold State.showPool
  extract_lets v0
  try clear_value v0
  repeat' (first | with_reducible assumption | with_reducible apply State.set_keeps)

theorem State.dropBlocks_keeps {s0 s : State} (h0 : Keeps s0 s) (n : _) (id : _) :
    Keeps s0 (State.dropBlocks s n id) := by
  unfold State.dropBlocks
  extract_lets v0
  repeat' (first
    | with_reducible (first | assumption | apply State.showPool_keeps)
    | fail_if_no_progress (with_reducible apply Keeps.upd <;> try with_reducible rfl))

theorem State.latchOffsets_keeps {s0 s : State} (h0 : Keeps s0 s) (n : _) (a : _) :
    Keeps s0 (State.latchOffsets s n a) := by
  unfold State.latchOffsets
  repeat' (first | with_reducible assumption | with_reducible apply State.set_keeps)

theorem State.rxOpenNext_keeps {s0 s : State} (h0 : Keeps s0 s) (n : _) : Keeps s0 (State.rxOpenNext s n) := by
  unfold State.rxOpenNext
  repeat' (first
    | with_reducible (first | assumption | apply State.arcOpen_keeps | apply Keeps.ite))

theorem State.busyNow_keeps {s0 s : State} (h0 : Keeps s0 s) (n : _) : Keeps s0 (State.busyNow s n) := by
  unfold State.busyNow
  extract_lets v0
  try clear_value v0
  repeat' (first | with_reducible assumption | with_reducible apply State.setCsma_keeps)

theorem State.toSearch_keeps {s0 s : State} (h0 : Keeps s0 s) (n : _) : Keeps s0 (State.toSearch s n) := by
  unfold State.toSearch
  repeat' (first | with_reducible assumption | with_reducible apply State.setRxState_keeps)

theorem State.rxEnd_keeps {s0 s : State} (h0 : Keeps s0 s) (n : _) (a : _) (reason : _) :
    Keeps s0 (State.rxEnd s n a reason) := by
  unfold State.rxEnd
  extract_lets v0 v1 v2 v3 v4 v5
  try clear_value v0; try clear_value v1; try clear_value v2
  have k3 : Keeps s0 v3 := by
    unfold v3
    repeat' (first
      | with_reducible (first
        | assumption | apply State.dropAcq_keeps | apply State.dropBlocks_keeps | apply State.latchOffsets_keeps
        | apply Keeps.ite))
  try clear_value v3
  have k4 : Keeps s0 v4 := by
    unfold v4
    repeat' (first
      | with_reducible (first
        | assumption | apply State.rxOpenNext_keeps | apply State.arcRewind_keeps | apply Keeps.ite))
  try clear_value v4
  have k5 : Keeps s0 v5 := by
    unfold v5
    repeat' (first
      | with_reducible (first | assumption | apply State.poisonRelay_keeps | apply State.bump_keeps))
  try clear_value v5
  repeat' (first
    | with_reducible (first | assumption | apply State.busyNow_keeps | apply State.toSearch_keeps | apply Keeps.ite))

theorem State.rxFail_keeps {s0 s : State} (h0 : Keeps s0 s) (n : _) (a : _) (reason : _) :
    Keeps s0 (State.rxFail s n a reason) := by
  unfold State.rxFail
  repeat' (first
    | with_reducible (first | assumption | apply State.fire_keeps | apply State.rxEnd_keeps))

theorem State.setAcq_keeps {s0 s : State} (h0 : Keeps s0 s) (n : _) (a : _) : Keeps s0 (State.setAcq s n a) := by
  unfold State.setAcq
  extract_lets v0
  try clear_value v0
  repeat' (first | with_reducible assumption | with_reducible apply State.setRxPort_keeps)

theorem State.nextCseq_keeps {s0 s : State} (h0 : Keeps s0 s) (addr : _) : Keeps s0 (State.nextCseq s addr).2 := by
  unfold State.nextCseq
  extract_lets v0 v1
  try clear_value v0; try clear_value v1
  repeat' (first | with_reducible assumption | with_reducible apply State.setDirOf_keeps)

theorem State.sendCtrl_keeps {s0 s : State} (h0 : Keeps s0 s) (n : _) (dst : _) (ackreq : _) (body : _) :
    Keeps s0 (State.sendCtrl s n dst ackreq body) := by
  unfold State.sendCtrl
  extract_lets v0
  try clear_value v0
  repeat' (first
    | with_reducible (first
      | assumption | apply State.nextCseq_keeps | apply State.linkFrame_keeps | apply State.takeCells_keeps
      | apply State.countNoCell_keeps | apply Keeps.ite)
    | split)

theorem State.retireRec_keeps {s0 s : State} (h0 : Keeps s0 s) (k : _) (slot : _) (gen : _) :
    Keeps s0 (State.retireRec s k slot gen) := by
  unfold State.retireRec
  extract_lets v0
  try clear_value v0
  repeat' (first
    | with_reducible (first
      | assumption | apply State.readRec_keeps | apply State.writeRec_keeps | refine Keeps.snd (by assumption) ?_
      | apply Keeps.ite)
    | split)

theorem State.readSnr_keeps {s0 s : State} (h0 : Keeps s0 s) (k : _) (slot : _) (stream : _) :
    Keeps s0 (State.readSnr s k slot stream).2 := by
  unfold State.readSnr
  extract_lets v0
  try clear_value v0
  repeat' (first | with_reducible assumption | with_reducible apply State.readLines_keeps)

theorem State.writeSnr_keeps {s0 s : State} (h0 : Keeps s0 s) (k : _) (slot : _) (stream : _) (b : _) :
    Keeps s0 (State.writeSnr s k slot stream b) := by
  unfold State.writeSnr
  extract_lets v0
  try clear_value v0
  repeat' (first | with_reducible assumption | with_reducible apply State.writeLines_keeps)

theorem State.generate_keeps {s0 s : State} (h0 : Keeps s0 s) (n : _) (k : _) (slot : _) (m : _) :
    Keeps s0 (State.generate s n k slot m) := by
  unfold State.generate
  extract_lets v0 v1 v2 v3 v4 v5
  try clear_value v0; try clear_value v1; try clear_value v2; try clear_value v3; try clear_value v4;
      try clear_value v5
  repeat' (first
    | with_reducible (first
      | assumption | apply State.readSnr_keeps | apply State.readRec_keeps | apply State.writeRec_keeps
      | apply State.writeSnr_keeps | apply State.sendCtrl_keeps | apply Keeps.ite))

theorem State.updateSnr_keeps {s0 s : State} (h0 : Keeps s0 s) (n : _) (k : _) (slot : _) (m : _) :
    Keeps s0 (State.updateSnr s n k slot m) := by
  unfold State.updateSnr
  extract_lets v0 v1 v2 v3 v4
  try clear_value v0; try clear_value v1; try clear_value v2; try clear_value v3
  repeat' (first
    | with_reducible (first
      | assumption | apply State.readSnr_keeps | apply State.writeSnr_keeps | apply State.generate_keeps
      | apply Keeps.forN | apply Keeps.ite)
    | extract_lets | intro _ _ _)

theorem State.rxGood_keeps {s0 s : State} (h0 : Keeps s0 s) (n : _) (a : _) (h : _) (f : _) :
    Keeps s0 (State.rxGood s n a h f) := by
  unfold State.rxGood
  extract_lets v0 v1 v2
  have k0 : Keeps s0 v0 := by
    unfold v0
    repeat' (first
      | with_reducible (first | assumption | apply State.bump_keeps | apply State.arcCommit_keeps))
  try clear_value v0
  have k1 : Keeps s0 v1 := by
    unfold v1
    repeat' (first | with_reducible assumption | with_reducible apply State.fire_keeps)
  try clear_value v1
  have k2 : Keeps s0 v2 := by
    unfold v2
    repeat' (first
      | with_reducible (first
        | assumption | apply State.rxOpenNext_keeps | apply State.dropAcq_keeps | apply State.dropBlocks_keeps))
  try clear_value v2
  repeat' (first
    | with_reducible (first
      | assumption | apply State.retireRec_keeps | apply State.updateSnr_keeps | apply Keeps.ite)
    | split)

theorem State.rxFinish_keeps {s0 s : State} (h0 : Keeps s0 s) (n : _) (a : _) (h : _) (er : _) :
    Keeps s0 (State.rxFinish s n a h er) := by
  unfold State.rxFinish
  extract_lets v0 v1
  try clear_value v0; try clear_value v1
  repeat' (first
    | with_reducible (first
      | assumption | apply State.rxFail_keeps | apply State.rxGood_keeps | apply State.arcCommit_keeps
      | apply Keeps.ite))

theorem State.rxProgress_keeps {s0 s : State} (h0 : Keeps s0 s) (n : _) (fuel : _) :
    Keeps s0 (State.rxProgress s n fuel) := by
  induction fuel generalizing s with
  | zero => exact h0
  | succ k ih =>
    unfold State.rxProgress
    have ho : Keeps s0 (if s.arcIsOpen (2 * n) then s else s.arcOpen (2 * n)) :=
      Keeps.ite h0 (State.arcOpen_keeps h0 ..)
    split
    · exact h0
    · split
      · extract_lets s1
        have k1 : Keeps s0 s1 := ho
        clear_value s1
        exact Keeps.ite h0 (Keeps.ite (ih (State.rxFinish_keeps k1 ..)) k1)
      · exact h0

theorem State.rxAbandonCur_keeps {s0 s : State} (h0 : Keeps s0 s) (n : _) (reason : _) :
    Keeps s0 (State.rxAbandonCur s n reason) := by
  unfold State.rxAbandonCur
  repeat' (first | with_reducible assumption | with_reducible apply State.rxFail_keeps | split)

theorem State.rxAbandon_keeps {s0 s : State} (h0 : Keeps s0 s) (n : _) (reason : _) :
    Keeps s0 (State.rxAbandon s n reason) := by
  unfold State.rxAbandon
  repeat' (first
    | with_reducible (first | assumption | apply Keeps.forEach | apply State.rxFail_keeps)
    | extract_lets | intro _ _ _)

theorem State.stepGain_keeps {s0 s : State} (h0 : Keeps s0 s) (n : _) (d : _) : Keeps s0 (State.stepGain s n d) := by
  unfold State.stepGain
  repeat' (first | with_reducible assumption | with_reducible apply State.set_keeps)

theorem State.rxBlank_keeps {s0 s : State} (h0 : Keeps s0 s) (n : _) (reason : _) :
    Keeps s0 (State.rxBlank s n reason) := by
  unfold State.rxBlank
  repeat' (first
    | with_reducible (first
      | assumption | apply State.setRxState_keeps | apply State.rxAbandonCur_keeps | apply Keeps.ite))

theorem State.refreshLd_keeps {s0 s : State} (h0 : Keeps s0 s) (n : _) : Keeps s0 (State.refreshLd s n) := by
  unfold State.refreshLd
  extract_lets v0 v1 v2
  try clear_value v0
  have k1 : Keeps s0 v1 := by
    unfold v1
    repeat' (first | with_reducible assumption | with_reducible apply State.set_keeps)
  try clear_value v1
  repeat' (first
    | with_reducible (first | assumption | apply State.set_keeps | apply State.setTxPort_keeps | apply Keeps.ite))

theorem State.trimOn_keeps {s0 s : State} (h0 : Keeps s0 s) (n : _) (k : _) (a : _) (b : _) (e : _) :
    Keeps s0 (State.trimOn s n k a b e) := by
  unfold State.trimOn
  extract_lets v0 v1 v2
  try clear_value v0; try clear_value v1; try clear_value v2
  repeat' (first
    | with_reducible (first | assumption | apply State.setTxPort_keeps | apply Keeps.ite))

theorem State.trimOnTime_keeps {s0 s : State} (h0 : Keeps s0 s) (n : _) (a : _) (b : _) (e : _) :
    Keeps s0 (State.trimOnTime s n a b e) := by
  unfold State.trimOnTime
  repeat' (first
    | with_reducible (first | assumption | apply Keeps.forN | apply State.trimOn_keeps)
    | extract_lets | intro _ _ _)

theorem State.airEnd_keeps {s0 s : State} (h0 : Keeps s0 s) (n : _) (a : _) (outcome : _) (e : _) :
    Keeps s0 (State.airEnd s n a outcome e) := by
  unfold State.airEnd
  extract_lets v0 v1 v2 v3
  try clear_value v0
  have k2 : Keeps s0 v2 := by
    unfold v2
    repeat' (first
      | with_reducible (first | assumption | apply State.setCsma_keeps | apply State.setTxPort_keeps))
  try clear_value v2
  have k3 : Keeps s0 v3 := by
    unfold v3
    repeat' (first | with_reducible assumption | with_reducible apply State.fire_keeps)
  try clear_value v3
  repeat' (first
    | with_reducible (first
      | assumption | apply State.setTxPort_keeps | apply Keeps.forEach | apply State.trimOnTime_keeps
      | apply State.rxBlankUntil_keeps | apply State.refreshLd_keeps)
    | split | intro _ _ _)

theorem State.dropRelay_keeps {s0 s : State} (h0 : Keeps s0 s) (q : _) (f : _) :
    Keeps s0 (State.dropRelay s q f) := by
  unfold State.dropRelay
  extract_lets v0
  have k0 : Keeps s0 v0 := by
    unfold v0
    repeat' (first | with_reducible assumption | with_reducible apply State.setFrames_keeps)
  try clear_value v0
  repeat' (first
    | with_reducible (first
      | assumption | apply State.returnRx_keeps | apply State.forget_keeps | apply State.unlinkCounts_keeps))

theorem State.failAttempt_keeps {s0 s : State} (h0 : Keeps s0 s) (q : _) (f : _) :
    Keeps s0 (State.failAttempt s q f) := by
  unfold State.failAttempt
  repeat' (first
    | with_reducible (first
      | assumption | apply State.bump_keeps | apply State.completeTx_keeps | apply State.setFrame_keeps
      | apply Keeps.ite))

theorem State.attemptEnd_keeps {s0 s : State} (h0 : Keeps s0 s) (q : _) (id : _) (outcome : _) :
    Keeps s0 (State.attemptEnd s q id outcome) := by
  unfold State.attemptEnd
  repeat' (first
    | with_reducible (first
      | assumption | apply State.dropRelay_keeps | apply State.failAttempt_keeps | apply State.setFrame_keeps
      | apply Keeps.ite)
    | split)

theorem State.setBurPort_keeps {s0 s : State} (h0 : Keeps s0 s) (n : _) (p : _) :
    Keeps s0 (State.setBurPort s n p) := by
  unfold State.setBurPort
  extract_lets v0
  repeat' (first
    | with_reducible assumption
    | fail_if_no_progress (with_reducible apply Keeps.upd <;> try with_reducible rfl))

theorem State.sendAgain_keeps {s0 s : State} (h0 : Keeps s0 s) (n : _) (q : _) (id : _) (outcome : _) :
    Keeps s0 (State.sendAgain s n q id outcome) := by
  unfold State.sendAgain
  repeat' (first
    | with_reducible (first
      | assumption | apply State.dropRelay_keeps | apply State.completeTx_keeps | apply State.setFrame_keeps
      | apply State.setTxPort_keeps | apply Keeps.ite)
    | split)

theorem State.cutAir_keeps {s0 s : State} (h0 : Keeps s0 s) (n : _) (a : _) (outcome : _) :
    Keeps s0 (State.cutAir s n a outcome) := by
  unfold State.cutAir
  extract_lets v0
  have k0 : Keeps s0 v0 := by
    unfold v0
    repeat' (first | with_reducible assumption | with_reducible apply State.airEnd_keeps)
  try clear_value v0
  repeat' (first | with_reducible assumption | with_reducible apply State.sendAgain_keeps | split)

theorem State.resend_keeps {s0 s : State} (h0 : Keeps s0 s) (n : _) (l : _) : Keeps s0 (State.resend s n l) := by
  unfold State.resend
  repeat' (first
    | with_reducible (first | assumption | apply Keeps.forEach | apply State.sendAgain_keeps)
    | split | extract_lets | intro _ _ _)

theorem State.flushTx_keeps {s0 s : State} (h0 : Keeps s0 s) (n : _) : Keeps s0 (State.flushTx s n) := by
  unfold State.flushTx
  extract_lets v0
  try clear_value v0
  repeat' (first
    | with_reducible (first | assumption | apply State.resend_keeps | apply State.arcEmpty_keeps))

theorem State.addOn_keeps {s0 s : State} (h0 : Keeps s0 s) (n : _) (k : _) (a : _) (b : _) :
    Keeps s0 (State.addOn s n k a b) := by
  unfold State.addOn
  extract_lets v0 v1
  try clear_value v0; try clear_value v1
  repeat' (first | with_reducible assumption | with_reducible apply State.setTxPort_keeps)

theorem State.addOnTime_keeps {s0 s : State} (h0 : Keeps s0 s) (n : _) (lo : _) (hi : _) (a : _) (b : _) :
    Keeps s0 (State.addOnTime s n lo hi a b) := by
  unfold State.addOnTime
  repeat' (first
    | with_reducible (first | assumption | apply Keeps.forN | apply State.addOn_keeps | apply Keeps.ite)
    | extract_lets | intro _ _ _)

theorem State.retrunc_keeps {s0 s : State} (h0 : Keeps s0 s) (n : _) : Keeps s0 (State.retrunc s n) := by
  unfold State.retrunc
  extract_lets v0
  repeat' (first
    | with_reducible (first | assumption | apply State.setTxPort_keeps | apply Keeps.ite)
    | split)

theorem State.airBegin_keeps {s0 s : State} (h0 : Keeps s0 s) (n : _) (a : _) (data : _) :
    Keeps s0 (State.airBegin s n a data) := by
  unfold State.airBegin
  extract_lets v0 v1 v2 v3
  have k1 : Keeps s0 v1 := by
    unfold v1
    repeat' (first
      | with_reducible (first | assumption | apply State.bump_keeps | apply State.setTxPort_keeps))
  try clear_value v1
  have k2 : Keeps s0 v2 := by
    unfold v2
    repeat' (first | with_reducible assumption | with_reducible apply State.fire_keeps)
  try clear_value v2
  have k3 : Keeps s0 v3 := by
    unfold v3
    repeat' (first
      | with_reducible (first
        | assumption | apply State.setTxPort_keeps | apply Keeps.forEach | apply State.addOnTime_keeps
        | apply State.rxBlank_keeps | apply State.refreshLd_keeps)
      | extract_lets | intro _ _ _)
  try clear_value v3
  repeat' (first | with_reducible (first | assumption | apply State.retrunc_keeps | apply Keeps.ite))

theorem State.flushDone_keeps {s0 s : State} (h0 : Keeps s0 s) (i : _) : Keeps s0 (State.flushDone s i) := by
  unfold State.flushDone
  repeat' (first
    | with_reducible (first | assumption | apply State.arcFire_keeps | apply State.set_keeps))

theorem State.addBurst_keeps {s0 s : State} (h0 : Keeps s0 s) (n : _) (lo : _) (hi : _) (a : _) (b : _) :
    Keeps s0 (State.addBurst s n lo hi a b) := by
  unfold State.addBurst
  extract_lets v0
  have k0 : Keeps s0 v0 := by
    unfold v0
    repeat' (first | with_reducible assumption | with_reducible apply State.addOnTime_keeps)
  try clear_value v0
  repeat' (first
    | with_reducible (first | assumption | apply Keeps.forN | apply State.fire_keeps | apply Keeps.ite)
    | extract_lets | intro _ _ _)

theorem State.ldPlanLaunch_keeps {s0 s : State} (h0 : Keeps s0 s) (n : _) : Keeps s0 (State.ldPlanLaunch s n) := by
  unfold State.ldPlanLaunch
  extract_lets v0
  repeat' (first
    | with_reducible (first | assumption | apply State.refreshLd_keeps | apply State.setTxPort_keeps))

theorem State.stopAir_keeps {s0 s : State} (h0 : Keeps s0 s) (i : _) : Keeps s0 (State.stopAir s i) := by
  unfold State.stopAir
  repeat' (first
    | with_reducible (first | assumption | apply State.cutAir_keeps | apply Keeps.ite)
    | split)

theorem State.failOpen_keeps {s0 s : State} (h0 : Keeps s0 s) (n : _) : Keeps s0 (State.failOpen s n) := by
  unfold State.failOpen
  repeat' (first | with_reducible assumption | with_reducible apply State.rxFail_keeps | split)

theorem State.arcDiscard_keeps {s0 s : State} (h0 : Keeps s0 s) (i : _) : Keeps s0 (State.arcDiscard s i) := by
  unfold State.arcDiscard
  extract_lets v0
  try clear_value v0
  repeat' (first
    | with_reducible (first
      | assumption | apply State.arcEmpty_keeps | apply State.flushTx_keeps | apply State.failOpen_keeps
      | apply Keeps.ite))

theorem State.arcMismatch_keeps {s0 s : State} (h0 : Keeps s0 s) (i : _) : Keeps s0 (State.arcMismatch s i) := by
  unfold State.arcMismatch
  repeat' (first
    | with_reducible (first
      | assumption | apply State.stopAir_keeps | apply State.arcDiscard_keeps | apply State.bump_keeps
      | apply State.fire_keeps))

theorem State.arcFlush_keeps {s0 s : State} (h0 : Keeps s0 s) (i : _) : Keeps s0 (State.arcFlush s i) := by
  unfold State.arcFlush
  extract_lets v0
  have k0 : Keeps s0 v0 := by
    unfold v0
    repeat' (first | with_reducible assumption | with_reducible apply State.set_keeps)
  try clear_value v0
  repeat' (first
    | with_reducible (first | assumption | apply State.arcDiscard_keeps | apply Keeps.ite))

theorem State.arcCfgWrite_keeps {s0 s : State} (h0 : Keeps s0 s) (i : _) (data : _) :
    Keeps s0 (State.arcCfgWrite s i data) := by
  unfold State.arcCfgWrite
  extract_lets v0 v1
  have k0 : Keeps s0 v0 := by
    unfold v0
    repeat' (first | with_reducible assumption | with_reducible apply State.set_keeps)
  try clear_value v0
  have k1 : Keeps s0 v1 := by
    unfold v1
    repeat' (first | with_reducible assumption | with_reducible apply State.set_keeps)
  try clear_value v1
  repeat' (first
    | with_reducible (first | assumption | apply State.arcFlush_keeps | apply Keeps.ite))

theorem execArcadeFlush_keeps {s0 s : State} (h0 : Keeps s0 s) (i : _) (data : _) :
    OutKeeps s0 (execArcadeFlush i data s) := by
  unfold execArcadeFlush
  repeat' (first
    | with_reducible (first | assumption | apply State.hostWrite_keeps | apply State.arcCfgWrite_keeps)
    | extract_lets
    | with_reducible apply OutKeeps.next
    | intro _ _ _)

theorem execArcadePointerMismatch_keeps {s0 s : State} (h0 : Keeps s0 s) (i : _) :
    OutKeeps s0 (execArcadePointerMismatch i s) := by
  unfold execArcadePointerMismatch
  repeat' (first
    | with_reducible (first | assumption | apply State.arcMismatch_keeps)
    | split
    | with_reducible apply OutKeeps.next)

theorem execArcadeHandover_keeps {s0 s : State} (h0 : Keeps s0 s) (i : _) : OutKeeps s0 (execArcadeHandover i s) := by
  unfold execArcadeHandover
  repeat' (first
    | with_reducible (first | assumption | apply State.arcHandOver_keeps)
    | split
    | with_reducible apply OutKeeps.next)

theorem State.arcFlushEnd_keeps {s0 s : State} (h0 : Keeps s0 s) (i : _) : Keeps s0 (State.arcFlushEnd s i) := by
  unfold State.arcFlushEnd
  repeat' (first
    | with_reducible (first
      | assumption | apply State.flushDone_keeps | apply State.arcDiscard_keeps | apply Keeps.ite))

theorem State.arcFree_keeps {s0 s : State} (h0 : Keeps s0 s) (i : _) : Keeps s0 (State.arcFree s i) := by
  unfold State.arcFree
  extract_lets v0
  have k0 : Keeps s0 v0 := by
    unfold v0
    repeat' (first | with_reducible assumption | with_reducible apply State.arcReleaseBank_keeps)
  try clear_value v0
  repeat' (first
    | with_reducible (first | assumption | apply State.rxProgress_keeps | apply Keeps.ite))

theorem execArcadeRelease_keeps {s0 s : State} (h0 : Keeps s0 s) (i : _) : OutKeeps s0 (execArcadeRelease i s) := by
  unfold execArcadeRelease
  repeat' (first
    | with_reducible (first | assumption | apply State.arcFree_keeps)
    | split
    | with_reducible apply OutKeeps.next)

theorem execArcadeFlushComplete_keeps {s0 s : State} (h0 : Keeps s0 s) (i : _) :
    OutKeeps s0 (execArcadeFlushComplete i s) := by
  unfold execArcadeFlushComplete
  repeat' (first
    | with_reducible (first | assumption | apply State.arcFlushEnd_keeps)
    | split
    | with_reducible apply OutKeeps.next)

theorem State.dropRepeats_keeps {s0 s : State} (h0 : Keeps s0 s)  : Keeps s0 (State.dropRepeats s) := by
  unfold State.dropRepeats
  repeat' (first
    | with_reducible (first | assumption | apply Keeps.forN | apply State.setBurPort_keeps)
    | extract_lets | intro _ _ _)

theorem State.setBit_keeps {s0 s : State} (h0 : Keeps s0 s) (f : _) (i : _) (b : _) :
    Keeps s0 (State.setBit s f i b) := by
  unfold State.setBit
  repeat' (first | with_reducible assumption | with_reducible apply State.set_keeps)

theorem State.raiseStuck_keeps {s0 s : State} (h0 : Keeps s0 s) (i : _) : Keeps s0 (State.raiseStuck s i) := by
  unfold State.raiseStuck
  repeat' (first
    | with_reducible (first
      | assumption | apply State.dropRepeats_keeps | apply State.fire_keeps | apply State.setBit_keeps))

theorem State.setTrip_keeps {s0 s : State} (h0 : Keeps s0 s) (i : _) (t : _) : Keeps s0 (State.setTrip s i t) := by
  unfold State.setTrip
  extract_lets v0
  repeat' (first
    | with_reducible assumption
    | fail_if_no_progress (with_reducible apply Keeps.upd <;> try with_reducible rfl))

theorem State.rearmTrip_keeps {s0 s : State} (h0 : Keeps s0 s) (i : _) : Keeps s0 (State.rearmTrip s i) := by
  unfold State.rearmTrip
  extract_lets v0
  repeat' (first
    | with_reducible (first
      | assumption | apply State.fire_keeps | apply State.setBit_keeps | apply State.setTrip_keeps))

theorem State.tripDue_keeps {s0 s : State} (h0 : Keeps s0 s) (i : _) : Keeps s0 (State.tripDue s i) := by
  unfold State.tripDue
  extract_lets v0 v1
  try clear_value v0
  have k1 : Keeps s0 v1 := by
    unfold v1
    repeat' (first
      | with_reducible (first
        | assumption | apply State.raiseStuck_keeps | apply State.setTrip_keeps | apply Keeps.ite)
      | split)
  try clear_value v1
  repeat' (first
    | with_reducible (first | assumption | apply State.rearmTrip_keeps | apply Keeps.ite)
    | split)

theorem State.burChoose_keeps {s0 s : State} (h0 : Keeps s0 s) (n : _) : Keeps s0 (State.burChoose s n) := by
  unfold State.burChoose
  extract_lets v0 v1 v2
  try clear_value v0; try clear_value v1; try clear_value v2
  repeat' (first
    | with_reducible (first | assumption | apply State.setBurPort_keeps | apply Keeps.ite)
    | split)

theorem State.reqNew_keeps {s0 s : State} (h0 : Keeps s0 s) (n : _) (c : _) (i : _) :
    Keeps s0 (State.reqNew s n c i) := by
  unfold State.reqNew
  extract_lets v0
  try clear_value v0
  repeat' (first
    | with_reducible (first | assumption | apply State.burChoose_keeps | apply State.setBurPort_keeps))

theorem State.tripAssert_keeps {s0 s : State} (h0 : Keeps s0 s) (i : _) : Keeps s0 (State.tripAssert s i) := by
  unfold State.tripAssert
  extract_lets v0 v1 v2 v3 v4 v5
  try clear_value v3
  have k1 : Keeps s0 v1 := by
    unfold v1
    repeat' (first
      | with_reducible (first | assumption | apply State.setBit_keeps | apply State.setTrip_keeps))
  try clear_value v1
  have k2 : Keeps s0 v2 := by
    unfold v2
    repeat' (first | with_reducible assumption | with_reducible apply State.fire_keeps)
  try clear_value v2
  have k5 : Keeps s0 v5 := by
    unfold v5
    repeat' (first | with_reducible assumption | with_reducible apply State.setTrip_keeps)
  try clear_value v5
  repeat' (first
    | with_reducible (first | assumption | apply Keeps.forN | apply State.reqNew_keeps | apply Keeps.ite)
    | extract_lets | intro _ _ _)

theorem State.tripRelease_keeps {s0 s : State} (h0 : Keeps s0 s) (i : _) : Keeps s0 (State.tripRelease s i) := by
  unfold State.tripRelease
  extract_lets v0 v1
  have k1 : Keeps s0 v1 := by
    unfold v1
    repeat' (first
      | with_reducible (first | assumption | apply State.setBit_keeps | apply State.setTrip_keeps))
  try clear_value v1
  repeat' (first | with_reducible assumption | with_reducible apply State.fire_keeps)

theorem State.refreshTrip_keeps {s0 s : State} (h0 : Keeps s0 s) (i : _) : Keeps s0 (State.refreshTrip s i) := by
  unfold State.refreshTrip
  extract_lets v0 v1 v2 v3 v4
  try clear_value v0
  have k1 : Keeps s0 v1 := by
    unfold v1
    repeat' (first | with_reducible assumption | with_reducible apply State.tripDue_keeps)
  try clear_value v1
  have k2 : Keeps s0 v2 := by
    unfold v2
    repeat' (first
      | with_reducible (first
        | assumption | apply State.tripAssert_keeps | apply State.tripRelease_keeps | apply Keeps.ite))
  try clear_value v2
  have k4 : Keeps s0 v4 := by
    unfold v4
    repeat' (first | with_reducible assumption | with_reducible apply State.setTrip_keeps)
  try clear_value v4
  repeat' (first
    | with_reducible (first | assumption | apply State.rearmTrip_keeps | apply Keeps.ite))

theorem State.showPending_keeps {s0 s : State} (h0 : Keeps s0 s)  : Keeps s0 (State.showPending s) := by
  unfold State.showPending
  extract_lets v0
  try clear_value v0
  repeat' (first | with_reducible assumption | with_reducible apply State.set_keeps)

theorem State.burApplyTx_keeps {s0 s : State} (h0 : Keeps s0 s) (n : _) : Keeps s0 (State.burApplyTx s n) := by
  unfold State.burApplyTx
  extract_lets v0 v1
  try clear_value v0
  repeat' (first
    | with_reducible (first | assumption | apply State.refreshLd_keeps | apply State.setBurPort_keeps))

theorem State.burChange_keeps {s0 s : State} (h0 : Keeps s0 s)  : Keeps s0 (State.burChange s) := by
  unfold State.burChange
  extract_lets v0 v1
  try clear_value v0
  repeat' (first
    | with_reducible (first
      | assumption | apply State.showPending_keeps | apply Keeps.forN | apply State.burApplyTx_keeps
      | apply Keeps.ite)
    | fail_if_no_progress (with_reducible apply Keeps.upd <;> try with_reducible rfl) | extract_lets | intro _ _ _)

theorem State.tripOut_keeps {s0 s : State} (h0 : Keeps s0 s) (j : _) (c : _) (n : _) :
    Keeps s0 (State.tripOut s j c n) := by
  unfold State.tripOut
  extract_lets v0 v1 v2 v3 v4 v5 v6
  try clear_value v0; try clear_value v1; try clear_value v2; try clear_value v3
  have k5 : Keeps s0 v5 := by
    unfold v5
    repeat' (first
      | with_reducible assumption
      | fail_if_no_progress (with_reducible apply Keeps.upd <;> try with_reducible rfl))
  try clear_value v5
  repeat' (first
    | with_reducible (first | assumption | apply State.fire_keeps | apply State.setBit_keeps | apply Keeps.ite)
    | fail_if_no_progress (with_reducible apply Keeps.upd <;> try with_reducible rfl) | split)

theorem State.reqRegen_keeps {s0 s : State} (h0 : Keeps s0 s) (m : _) (c : _) (n : _) :
    Keeps s0 (State.reqRegen s m c n) := by
  unfold State.reqRegen
  extract_lets v0
  try clear_value v0
  repeat' (first
    | with_reducible (first | assumption | apply State.burChoose_keeps | apply State.setBurPort_keeps))

theorem State.burMark_keeps {s0 s : State} (h0 : Keeps s0 s) (n : _) (c : _) : Keeps s0 (State.burMark s n c) := by
  unfold State.burMark
  extract_lets v0 v1
  try clear_value v0; try clear_value v1
  repeat' (first | with_reducible assumption | with_reducible apply State.setBurPort_keeps)

theorem State.burAccept_keeps {s0 s : State} (h0 : Keeps s0 s) (n : _) (c : _) :
    Keeps s0 (State.burAccept s n c) := by
  unfold State.burAccept
  extract_lets v0 v1 v2
  try clear_value v0
  have k1 : Keeps s0 v1 := by
    unfold v1
    repeat' (first
      | with_reducible (first | assumption | apply State.tripOut_keeps | apply Keeps.ite))
  try clear_value v1
  have k2 : Keeps s0 v2 := by
    unfold v2
    repeat' (first
      | with_reducible (first | assumption | apply Keeps.forN | apply State.reqRegen_keeps | apply Keeps.ite)
      | extract_lets | intro _ _ _)
  try clear_value v2
  repeat' (first | with_reducible assumption | with_reducible apply State.burMark_keeps)

theorem State.burStart_keeps {s0 s : State} (h0 : Keeps s0 s)  : Keeps s0 (State.burStart s) := by
  unfold State.burStart
  extract_lets v0 v1
  have k0 : Keeps s0 v0 := by
    unfold v0
    repeat' (first | with_reducible assumption | with_reducible apply State.burChange_keeps)
  try clear_value v0
  repeat' (first
    | with_reducible (first
      | assumption | apply State.set_keeps | apply Keeps.forN | apply State.setFePort_keeps
      | apply State.showPending_keeps | apply State.refreshTrip_keeps)
    | fail_if_no_progress (with_reducible apply Keeps.upd <;> try with_reducible rfl) | split | extract_lets
    | intro _ _ _)

theorem State.loadSafe_keeps {s0 s : State} (h0 : Keeps s0 s) (w : _) (src : _) :
    Keeps s0 (State.loadSafe s w src) := by
  unfold State.loadSafe
  extract_lets v0
  repeat' (first
    | with_reducible (first | assumption | apply State.burChange_keeps | apply State.set_keeps)
    | fail_if_no_progress (with_reducible apply Keeps.upd <;> try with_reducible rfl))

theorem State.burDetChange_keeps {s0 s : State} (h0 : Keeps s0 s) (old : _) (n : _) :
    Keeps s0 (State.burDetChange s old n) := by
  unfold State.burDetChange
  extract_lets v0 v1 v2 v3
  try clear_value v0; try clear_value v1
  have k2 : Keeps s0 v2 := by
    unfold v2
    repeat' (first
      | with_reducible (first | assumption | apply State.addEdge_keeps | apply Keeps.ite))
  try clear_value v2
  repeat' (first
    | with_reducible (first | assumption | apply State.setBurPort_keeps | apply Keeps.ite))

theorem State.burSettle_keeps {s0 s : State} (h0 : Keeps s0 s)  : Keeps s0 (State.burSettle s) := by
  unfold State.burSettle
  extract_lets v0 v1 v2
  try clear_value v0; try clear_value v1
  repeat' (first
    | with_reducible (first
      | assumption | apply State.set_keeps | apply State.fire_keeps | apply Keeps.forN
      | apply State.burDetChange_keeps | apply State.showPending_keeps | apply State.refreshTrip_keeps
      | apply Keeps.ite)
    | fail_if_no_progress (with_reducible apply Keeps.upd <;> try with_reducible rfl) | split | extract_lets
    | intro _ _ _)

theorem State.loadSuccessor_keeps {s0 s : State} (h0 : Keeps s0 s)  : Keeps s0 (State.loadSuccessor s).2 := by
  unfold State.loadSuccessor
  repeat' (first | with_reducible assumption | with_reducible apply State.loadSafe_keeps | split | extract_lets)

theorem State.burDecide_keeps {s0 s : State} (h0 : Keeps s0 s) (n : _) (x : _) :
    Keeps s0 (State.burDecide s n x) := by
  unfold State.burDecide
  extract_lets v0
  try clear_value v0
  repeat' (first
    | with_reducible (first
      | assumption | apply State.setBurPort_keeps | apply State.bump_keeps | apply State.fire_keeps
      | apply State.burAccept_keeps | apply Keeps.ite)
    | split)

theorem execBurinDecision_keeps {s0 s : State} (h0 : Keeps s0 s) (n : _) : OutKeeps s0 (execBurinDecision n s) := by
  unfold execBurinDecision
  extract_lets v0 v1
  try clear_value v1
  repeat' (first
    | with_reducible (first | assumption | apply State.setBurPort_keeps | apply State.burDecide_keeps)
    | split | extract_lets
    | with_reducible apply OutKeeps.next)

theorem State.burRepeat_keeps {s0 s : State} (h0 : Keeps s0 s) (n : _) (c : _) :
    Keeps s0 (State.burRepeat s n c) := by
  unfold State.burRepeat
  repeat' (first
    | with_reducible (first | assumption | apply State.setBurPort_keeps | apply Keeps.ite)
    | split)

theorem State.burFinish_keeps {s0 s : State} (h0 : Keeps s0 s) (n : _) (b : _) :
    Keeps s0 (State.burFinish s n b) := by
  unfold State.burFinish
  extract_lets v0 v1 v2 v3 v4
  try clear_value v0
  have k1 : Keeps s0 v1 := by
    unfold v1
    repeat' (first | with_reducible assumption | with_reducible apply State.set_keeps | split)
  try clear_value v1
  have k2 : Keeps s0 v2 := by
    unfold v2
    repeat' (first | with_reducible assumption | with_reducible apply State.setBurPort_keeps)
  try clear_value v2
  have k4 : Keeps s0 v4 := by
    unfold v4
    repeat' (first | with_reducible assumption | with_reducible apply State.setRxPort_keeps)
  try clear_value v4
  repeat' (first
    | with_reducible (first
      | assumption | apply State.burChoose_keeps | apply State.burRepeat_keeps | apply State.showPending_keeps
      | apply State.burApplyTx_keeps))

theorem execBurinBurstEnd_keeps {s0 s : State} (h0 : Keeps s0 s) (n : _) : OutKeeps s0 (execBurinBurstEnd n s) := by
  unfold execBurinBurstEnd
  repeat' (first
    | with_reducible (first | assumption | apply State.burFinish_keeps)
    | split
    | with_reducible apply OutKeeps.next)

theorem State.burCtl_keeps {s0 s : State} (h0 : Keeps s0 s) (en : _) (lock : _) :
    Keeps s0 (State.burCtl s en lock) := by
  unfold State.burCtl
  extract_lets v0
  have k0 : Keeps s0 v0 := by
    unfold v0
    repeat' (first
      | with_reducible (first | assumption | apply State.burChange_keeps | apply State.set_keeps | apply Keeps.ite))
  try clear_value v0
  repeat' (first | with_reducible assumption | with_reducible apply State.set_keeps | with_reducible apply Keeps.ite)

theorem State.burRegWrite_keeps {s0 s : State} (h0 : Keeps s0 s) (r : _) (data : _) :
    Keeps s0 (State.burRegWrite s r data) := by
  unfold State.burRegWrite
  repeat' (first
    | with_reducible (first | assumption | apply State.burChange_keeps | apply State.setReg_keeps | apply Keeps.ite))

theorem State.burCut_keeps {s0 s : State} (h0 : Keeps s0 s) (n : _) : Keeps s0 (State.burCut s n) := by
  unfold State.burCut
  repeat' (first
    | with_reducible (first
      | assumption | apply State.cutAir_keeps | apply State.flushDone_keeps | apply State.flushTx_keeps)
    | split)

theorem State.burGain_keeps {s0 s : State} (h0 : Keeps s0 s) (n : _) : Keeps s0 (State.burGain s n) := by
  unfold State.burGain
  extract_lets v0
  try clear_value v0
  repeat' (first
    | with_reducible (first | assumption | apply State.set_keeps | apply State.setBurPort_keeps | apply Keeps.ite))

theorem State.burBegin_keeps {s0 s : State} (h0 : Keeps s0 s) (n : _) (b : _) : Keeps s0 (State.burBegin s n b) := by
  unfold State.burBegin
  extract_lets v0 v1 v2 v3 v4 v5 v6
  try clear_value v0; try clear_value v1; try clear_value v6
  have k2 : Keeps s0 v2 := by
    unfold v2
    repeat' (first | with_reducible assumption | with_reducible apply State.setBurPort_keeps)
  try clear_value v2
  have k3 : Keeps s0 v3 := by
    unfold v3
    repeat' (first
      | with_reducible (first
        | assumption | apply State.fire_keeps | apply State.bump_keeps | apply State.burMark_keeps))
  try clear_value v3
  have k4 : Keeps s0 v4 := by
    unfold v4
    repeat' (first
      | with_reducible (first | assumption | apply State.burCut_keeps | apply Keeps.ite))
  try clear_value v4
  have k5 : Keeps s0 v5 := by
    unfold v5
    repeat' (first
      | with_reducible (first | assumption | apply State.refreshLd_keeps | apply State.rxBlank_keeps))
  try clear_value v5
  repeat' (first
    | with_reducible (first | assumption | apply State.burGain_keeps | apply State.addBurst_keeps))

theorem execBurinBurstStart_keeps {s0 s : State} (h0 : Keeps s0 s) (n : _) :
    OutKeeps s0 (execBurinBurstStart n s) := by
  unfold execBurinBurstStart
  repeat' (first
    | with_reducible (first | assumption | apply State.burBegin_keeps)
    | split
    | with_reducible apply OutKeeps.next)

theorem execTripStuck_keeps {s0 s : State} (h0 : Keeps s0 s) (i : _) : OutKeeps s0 (execTripStuck i s) := by
  unfold execTripStuck
  repeat' (first
    | with_reducible (first | assumption | apply State.tripDue_keeps | apply OutKeeps.next))

theorem execSafeProfileSuccessorLoad_keeps {s0 s : State} (h0 : Keeps s0 s)  :
    OutKeeps s0 (execSafeProfileSuccessorLoad s) := by
  unfold execSafeProfileSuccessorLoad
  repeat' (first
    | with_reducible (first | assumption | apply State.loadSuccessor_keeps)
    | split
    | with_reducible apply OutKeeps.next)

theorem State.tripLevel_keeps {s0 s : State} (h0 : Keeps s0 s) (i : _) (high : _) :
    Keeps s0 (State.tripLevel s i high) := by
  unfold State.tripLevel
  extract_lets v0
  repeat' (first
    | with_reducible (first
      | assumption | apply State.refreshTrip_keeps | apply State.setTrip_keeps | apply State.tripDue_keeps))

theorem execTripInputEdge_keeps {s0 s : State} (h0 : Keeps s0 s) (i : _) (high : _) :
    OutKeeps s0 (execTripInputEdge i high s) := by
  unfold execTripInputEdge
  extract_lets v0
  repeat' (first
    | with_reducible (first | assumption | apply State.tripLevel_keeps | apply State.setTrip_keeps)
    | split
    | with_reducible apply OutKeeps.next)

theorem State.detHop_keeps {s0 s : State} (h0 : Keeps s0 s) (n : _) (up : _) (down : _) :
    Keeps s0 (State.detHop s n up down) := by
  unfold State.detHop
  extract_lets v0 v1 v2 v3 v4 v5
  try clear_value v0; try clear_value v1; try clear_value v2; try clear_value v3; try clear_value v4;
      try clear_value v5
  repeat' (first | with_reducible assumption | with_reducible apply State.setBurPort_keeps)

theorem execBurinEnWrite_keeps {s0 s : State} (h0 : Keeps s0 s) (en : _) : OutKeeps s0 (execBurinEnWrite en s) := by
  unfold execBurinEnWrite
  repeat' (first
    | with_reducible (first | assumption | apply State.hostWrite_keeps | apply State.burCtl_keeps)
    | extract_lets
    | with_reducible apply OutKeeps.next
    | intro _ _ _)

theorem execBurinConfigWrite_keeps {s0 s : State} (h0 : Keeps s0 s) (r : _) (data : _) :
    OutKeeps s0 (execBurinConfigWrite r data s) := by
  unfold execBurinConfigWrite
  repeat' (first
    | with_reducible (first | assumption | apply State.hostWrite_keeps | apply State.burRegWrite_keeps)
    | extract_lets
    | with_reducible apply OutKeeps.next
    | intro _ _ _)

theorem execBurinLock_keeps {s0 s : State} (h0 : Keeps s0 s) (en : _) : OutKeeps s0 (execBurinLock en s) := by
  unfold execBurinLock
  repeat' (first
    | with_reducible (first | assumption | apply State.hostWrite_keeps | apply State.burCtl_keeps)
    | extract_lets
    | with_reducible apply OutKeeps.next
    | intro _ _ _)

theorem execTripRearm_keeps {s0 s : State} (h0 : Keeps s0 s) (i : _) : OutKeeps s0 (execTripRearm i s) := by
  unfold execTripRearm
  repeat' (first
    | with_reducible (first | assumption | apply State.rearmTrip_keeps)
    | split
    | with_reducible apply OutKeeps.next)

theorem execDetectorHop_keeps {s0 s : State} (h0 : Keeps s0 s) (n : _) (up : _) (down : _) :
    OutKeeps s0 (execDetectorHop n up down s) := by
  unfold execDetectorHop
  repeat' (first
    | with_reducible (first | assumption | apply State.detHop_keeps)
    | split
    | with_reducible apply OutKeeps.next)

theorem State.tripOutEnd_keeps {s0 s : State} (h0 : Keeps s0 s) (j : _) : Keeps s0 (State.tripOutEnd s j) := by
  unfold State.tripOutEnd
  extract_lets v0
  try clear_value v0
  repeat' (first
    | with_reducible (first | assumption | apply State.fire_keeps | apply State.setBit_keeps | apply Keeps.ite))

theorem execTripOutHoldExpiry_keeps {s0 s : State} (h0 : Keeps s0 s) (j : _) :
    OutKeeps s0 (execTripOutHoldExpiry j s) := by
  unfold execTripOutHoldExpiry
  repeat' (first
    | with_reducible (first | assumption | apply State.tripOutEnd_keeps | apply OutKeeps.next))

theorem execDetectorWindowEnd_keeps {s0 s : State} (h0 : Keeps s0 s) (n : _) (mags : _) :
    OutKeeps s0 (execDetectorWindowEnd n mags s) := by
  unfold execDetectorWindowEnd
  extract_lets v0 v1 v2 v3 v4 v5 v6 v7 v8
  try clear_value v0; try clear_value v1; try clear_value v2; try clear_value v3
  have k4 : Keeps s0 v4 := by
    unfold v4
    repeat' (first | with_reducible assumption | with_reducible apply State.set_keeps)
  try clear_value v4
  have k5 : Keeps s0 v5 := by
    unfold v5
    repeat' (first | with_reducible assumption | with_reducible apply State.set_keeps)
  try clear_value v5
  have k6 : Keeps s0 v6 := by
    unfold v6
    repeat' (first | with_reducible assumption | with_reducible apply State.set_keeps)
  try clear_value v6
  have k7 : Keeps s0 v7 := by
    unfold v7
    repeat' (first
      | with_reducible (first | assumption | apply State.set_keeps | apply State.count_keeps))
  try clear_value v7
  repeat' (first
    | with_reducible (first | assumption | apply State.setFePort_keeps)
    | split
    | with_reducible apply OutKeeps.next)

theorem execHarmonicAverageEnd_keeps {s0 s : State} (h0 : Keeps s0 s) (i : _) (h : _) :
    OutKeeps s0 (execHarmonicAverageEnd i h s) := by
  unfold execHarmonicAverageEnd
  extract_lets v0 v1 v2 v3 v4 v5 v6
  try clear_value v0; try clear_value v1; try clear_value v4; try clear_value v5
  have k2 : Keeps s0 v2 := by
    unfold v2
    repeat' (first
      | with_reducible (first | assumption | apply Keeps.forN | apply State.set_keeps)
      | extract_lets | intro _ _ _)
  try clear_value v2
  have k3 : Keeps s0 v3 := by
    unfold v3
    repeat' (first | with_reducible assumption | with_reducible apply State.set_keeps)
  try clear_value v3
  repeat' (first
    | with_reducible (first | assumption | apply State.telemetry_keeps | apply State.setMs_keeps)
    | split
    | with_reducible apply OutKeeps.next)

theorem State.decsyncCmd_keeps {s0 s : State} (h0 : Keeps s0 s)  : Keeps s0 (State.decsyncCmd s) := by
  unfold State.decsyncCmd
  extract_lets v0 v1 v2
  try clear_value v0
  repeat' (first
    | with_reducible (first | assumption | apply State.addEdge_keeps | apply Keeps.ite)
    | fail_if_no_progress (with_reducible apply Keeps.upd <;> try with_reducible rfl))

theorem execDecsyncCmd_keeps {s0 s : State} (h0 : Keeps s0 s)  : OutKeeps s0 (execDecsyncCmd s) := by
  unfold execDecsyncCmd
  repeat' (first
    | with_reducible (first
      | assumption | apply State.hostWrite_keeps | apply State.decsyncCmd_keeps | apply OutKeeps.next))

theorem State.setOor_keeps {s0 s : State} (h0 : Keeps s0 s) (i : _) : Keeps s0 (State.setOor s i) := by
  unfold State.setOor
  repeat' (first
    | with_reducible (first | assumption | apply State.fire_keeps | apply State.set_keeps | apply Keeps.ite))

theorem State.closeCycle_keeps {s0 s : State} (h0 : Keeps s0 s) (i : _) (t0 : _) (t : _) (rms : _)
    (peak : _) : Keeps s0 (State.closeCycle s i t0 t rms peak) := by
  unfold State.closeCycle
  extract_lets v0 v1 v2 v3
  try clear_value v0; try clear_value v3
  have k1 : Keeps s0 v1 := by
    unfold v1
    repeat' (first
      | with_reducible (first | assumption | apply State.set_keeps | apply Keeps.ite))
  try clear_value v1
  have k2 : Keeps s0 v2 := by
    unfold v2
    repeat' (first
      | with_reducible (first | assumption | apply State.setOor_keeps | apply Keeps.ite))
  try clear_value v2
  repeat' (first | with_reducible assumption | with_reducible apply State.setMs_keeps)

theorem State.showMsSettle_keeps {s0 s : State} (h0 : Keeps s0 s) (i : _) : Keeps s0 (State.showMsSettle s i) := by
  unfold State.showMsSettle
  repeat' (first | with_reducible assumption | with_reducible apply State.set_keeps | with_reducible apply Keeps.ite)

theorem State.showSettle_keeps {s0 s : State} (h0 : Keeps s0 s) (n : _) : Keeps s0 (State.showSettle s n) := by
  unfold State.showSettle
  extract_lets v0
  try clear_value v0
  repeat' (first | with_reducible assumption | with_reducible apply State.set_keeps | with_reducible apply Keeps.ite)

theorem State.showSettles_keeps {s0 s : State} (h0 : Keeps s0 s)  : Keeps s0 (State.showSettles s) := by
  unfold State.showSettles
  repeat' (first
    | with_reducible (first
      | assumption | apply Keeps.forN | apply State.showMsSettle_keeps | apply State.showSettle_keeps)
    | extract_lets | intro _ _ _)

theorem State.resetChain_keeps {s0 s : State} (h0 : Keeps s0 s) (e : _) (n : _) :
    Keeps s0 (State.resetChain s e n) := by
  unfold State.resetChain
  extract_lets v0 v1 v2 v3 v4
  try clear_value v0; try clear_value v1
  have k3 : Keeps s0 v3 := by
    unfold v3
    repeat' (first | with_reducible assumption | with_reducible apply State.setFePort_keeps)
  try clear_value v3
  have k4 : Keeps s0 v4 := by
    unfold v4
    repeat' (first | with_reducible assumption | with_reducible apply State.set_keeps)
  try clear_value v4
  repeat' (first
    | with_reducible (first | assumption | apply State.rxAbandonCur_keeps | apply Keeps.ite))

theorem State.resetBurDec_keeps {s0 s : State} (h0 : Keeps s0 s) (e : _) (n : _) :
    Keeps s0 (State.resetBurDec s e n) := by
  unfold State.resetBurDec
  extract_lets v0
  repeat' (first
    | with_reducible (first | assumption | apply State.setFePort_keeps | apply Keeps.ite))

theorem State.resetMains_keeps {s0 s : State} (h0 : Keeps s0 s) (e : _) (i : _) :
    Keeps s0 (State.resetMains s e i) := by
  unfold State.resetMains
  extract_lets v0
  repeat' (first
    | with_reducible (first | assumption | apply State.set_keeps | apply State.setMs_keeps | apply Keeps.ite))

theorem State.applyTarget_keeps {s0 s : State} (h0 : Keeps s0 s) (e : _) (t : _) :
    Keeps s0 (State.applyTarget s e t) := by
  unfold State.applyTarget
  extract_lets v0 v1
  have k0 : Keeps s0 v0 := by
    unfold v0
    repeat' (first
      | with_reducible (first | assumption | apply Keeps.forN | apply State.resetChain_keeps)
      | extract_lets | intro _ _ _)
  try clear_value v0
  have k1 : Keeps s0 v1 := by
    unfold v1
    repeat' (first
      | with_reducible (first | assumption | apply Keeps.forN | apply State.resetBurDec_keeps)
      | extract_lets | intro _ _ _)
  try clear_value v1
  repeat' (first
    | with_reducible (first
      | assumption | apply Keeps.forN | apply State.resetChain_keeps | apply State.resetBurDec_keeps
      | apply State.resetMains_keeps)
    | split | extract_lets | intro _ _ _)

theorem execDecimatorReset_keeps {s0 s : State} (h0 : Keeps s0 s)  : OutKeeps s0 (execDecimatorReset s) := by
  unfold execDecimatorReset
  extract_lets v0
  repeat' (first
    | with_reducible (first
      | assumption | apply Keeps.forEach | apply State.applyTarget_keeps | apply State.set_keeps
      | apply State.count_keeps | apply State.syncOut_keeps)
    | fail_if_no_progress (with_reducible apply Keeps.upd <;> try with_reducible rfl) | split | extract_lets
    | with_reducible apply OutKeeps.next
    | intro _ _ _)

theorem execZeroCrossing_keeps {s0 s : State} (h0 : Keeps s0 s) (i : _) (positive : _) (t : _) (frac : _)
    (rms : _) (peak : _) (env : _) : OutKeeps s0 (execZeroCrossing i positive t frac rms peak env s) := by
  unfold execZeroCrossing
  extract_lets v0 v1 v2 v3 v4 v5 v6 v7 v8 v9
  try clear_value v0; try clear_value v1; try clear_value v2
  have k3 : Keeps s0 v3 := by
    unfold v3
    repeat' (first
      | with_reducible (first | assumption | apply State.set_keeps | apply Keeps.ite))
  try clear_value v3
  have k4 : Keeps s0 v4 := by
    unfold v4
    repeat' (first | with_reducible assumption | with_reducible apply State.set_keeps)
  try clear_value v4
  have k5 : Keeps s0 v5 := by
    unfold v5
    repeat' (first | with_reducible assumption | with_reducible apply State.closeCycle_keeps | split)
  try clear_value v5
  have k7 : Keeps s0 v7 := by
    unfold v7
    repeat' (first | with_reducible assumption | with_reducible apply State.setMs_keeps)
  try clear_value v7
  have k8 : Keeps s0 v8 := by
    unfold v8
    repeat' (first
      | with_reducible (first
        | assumption | apply State.sfCrossing_keeps | apply State.tb3Crossing_keeps | apply Keeps.ite))
  try clear_value v8
  repeat' (first
    | with_reducible (first | assumption | apply State.setMs_keeps | apply State.fire_keeps)
    | split
    | with_reducible apply OutKeeps.next)

theorem execCalibrationPassStart_keeps {s0 s : State} (h0 : Keeps s0 s) (n : _) :
    OutKeeps s0 (execCalibrationPassStart n s) := by
  unfold execCalibrationPassStart
  extract_lets v0
  repeat' (first
    | with_reducible (first | assumption | apply State.setFePort_keeps)
    | split
    | with_reducible apply OutKeeps.next)

theorem execCalibrationPassEnd_keeps {s0 s : State} (h0 : Keeps s0 s) (n : _) (limit : _) :
    OutKeeps s0 (execCalibrationPassEnd n limit s) := by
  unfold execCalibrationPassEnd
  extract_lets v0 v1
  have k1 : Keeps s0 v1 := by
    unfold v1
    repeat' (first
      | with_reducible (first | assumption | apply State.fire_keeps | apply State.setFePort_keeps))
  try clear_value v1
  repeat' (first
    | with_reducible (first | assumption | apply State.raiseFlag_keeps)
    | split
    | with_reducible apply OutKeeps.next)

theorem execSyncInEdge_keeps {s0 s : State} (h0 : Keeps s0 s) (e : _) : OutKeeps s0 (execSyncInEdge e s) := by
  unfold execSyncInEdge
  extract_lets v0
  have k0 : Keeps s0 v0 := by
    unfold v0
    repeat' (first | with_reducible assumption | with_reducible apply State.fire_keeps)
  try clear_value v0
  repeat' (first
    | with_reducible (first | assumption | apply State.addEdge_keeps)
    | split
    | with_reducible apply OutKeeps.next)

theorem execMainsCrossingTimeout_keeps {s0 s : State} (h0 : Keeps s0 s) (i : _) :
    OutKeeps s0 (execMainsCrossingTimeout i s) := by
  unfold execMainsCrossingTimeout
  extract_lets v0
  try clear_value v0
  repeat' (first
    | with_reducible (first | assumption | apply State.setOor_keeps)
    | split
    | with_reducible apply OutKeeps.next)

theorem execModulatorOverload_keeps {s0 s : State} (h0 : Keeps s0 s) (i : _) :
    OutKeeps s0 (execModulatorOverload i s) := by
  unfold execModulatorOverload
  extract_lets v0
  repeat' (first
    | with_reducible (first | assumption | apply State.raiseFlag_keeps | apply State.setMs_keeps)
    | split
    | with_reducible apply OutKeeps.next)

theorem State.track_keeps {s0 s : State} (h0 : Keeps s0 s) (n : _) (a : _) (large : _) (phase : _)
    (slope : _) : Keeps s0 (State.track s n a large phase slope) := by
  unfold State.track
  extract_lets v0 v1
  try clear_value v0
  have k1 : Keeps s0 v1 := by
    unfold v1
    repeat' (first
      | with_reducible (first | assumption | apply State.setRxState_keeps | apply Keeps.ite))
  try clear_value v1
  repeat' (first
    | with_reducible (first | assumption | apply State.rxFail_keeps | apply State.setAcq_keeps | apply Keeps.ite))

theorem execSymbolTrackingUpdate_keeps {s0 s : State} (h0 : Keeps s0 s) (n : _) (large : _) (phase : _)
    (slope : _) : OutKeeps s0 (execSymbolTrackingUpdate n large phase slope s) := by
  unfold execSymbolTrackingUpdate
  repeat' (first
    | with_reducible (first | assumption | apply State.track_keeps)
    | split
    | with_reducible apply OutKeeps.next)

theorem State.freeDecoder_keeps {s0 s : State} (h0 : Keeps s0 s) (d : _) : Keeps s0 (State.freeDecoder s d) := by
  unfold State.freeDecoder
  extract_lets v0
  repeat' (first
    | with_reducible assumption
    | fail_if_no_progress (with_reducible apply Keeps.upd <;> try with_reducible rfl))

theorem State.mapKnown_keeps {s0 s : State} (h0 : Keeps s0 s) (a : _) (h : _) :
    Keeps s0 (State.mapKnown s a h).2 := by
  unfold State.mapKnown
  repeat' (first | with_reducible assumption | with_reducible apply State.readRec_keeps | split)

theorem State.headerGood_keeps {s0 s : State} (h0 : Keeps s0 s) (n : _) (a : _) (h : _) :
    Keeps s0 (State.headerGood s n a h) := by
  unfold State.headerGood
  repeat' (first
    | with_reducible (first
      | assumption | apply State.mapKnown_keeps | apply State.rxFail_keeps | apply State.setAcq_keeps
      | apply State.rxProgress_keeps | apply State.setRxState_keeps | apply Keeps.ite))

theorem State.busyHeader_keeps {s0 s : State} (h0 : Keeps s0 s) (n : _) : Keeps s0 (State.busyHeader s n) := by
  unfold State.busyHeader
  extract_lets v0
  repeat' (first | with_reducible assumption | with_reducible apply State.setCsma_keeps)

theorem execHeaderDecodeComplete_keeps {s0 s : State} (h0 : Keeps s0 s) (d : _) (bits : _) :
    OutKeeps s0 (execHeaderDecodeComplete d bits s) := by
  unfold execHeaderDecodeComplete
  extract_lets v0
  have k0 : Keeps s0 v0 := by
    unfold v0
    repeat' (first | with_reducible assumption | with_reducible apply State.freeDecoder_keeps)
  try clear_value v0
  repeat' (first
    | with_reducible (first
      | assumption | apply State.headerGood_keeps | apply State.busyHeader_keeps | apply State.rxFail_keeps)
    | split | extract_lets
    | with_reducible apply OutKeeps.next
    | clear_value *)

theorem State.endOpportunity_keeps {s0 s : State} (h0 : Keeps s0 s) (n : _) :
    Keeps s0 (State.endOpportunity s n) := by
  unfold State.endOpportunity
  extract_lets v0
  repeat' (first | with_reducible assumption | with_reducible apply State.setCsma_keeps)

theorem State.acquire_keeps {s0 s : State} (h0 : Keeps s0 s) (n : _) (snr : _) (sweepK : _) (at_ : _)
    (capt : _) : Keeps s0 (State.acquire s n snr sweepK at_ capt) := by
  unfold State.acquire
  extract_lets v0 v1 v2 v3 v4 v5 v6
  try clear_value v0; try clear_value v1
  have k4 : Keeps s0 v4 := by
    unfold v4
    repeat' (first
      | with_reducible (first | assumption | apply State.setRxPort_keeps)
      | fail_if_no_progress (with_reducible apply Keeps.upd <;> try with_reducible rfl))
  try clear_value v4
  have k5 : Keeps s0 v5 := by
    unfold v5
    repeat' (first
      | with_reducible (first
        | assumption | apply State.bump_keeps | apply State.set_keeps | apply State.setRxState_keeps))
  try clear_value v5
  have k6 : Keeps s0 v6 := by
    unfold v6
    repeat' (first
      | with_reducible (first | assumption | apply State.endOpportunity_keeps | apply State.fire_keeps))
  try clear_value v6
  repeat' (first
    | with_reducible (first | assumption | apply State.arcOpen_keeps | apply Keeps.ite))

theorem State.restage_keeps {s0 s : State} (h0 : Keeps s0 s) (e : _) (f : _) :
    Keeps s0 (State.restage s e f) := by
  unfold State.restage
  repeat' (first
    | with_reducible assumption
    | fail_if_no_progress (with_reducible apply Keeps.upd <;> try with_reducible rfl) | split)

theorem State.rival_keeps {s0 s : State} (h0 : Keeps s0 s) (n : _) (a : _) (snr : _) (sweepK : _) (at_ : _) :
    Keeps s0 (State.rival s n a snr sweepK at_) := by
  unfold State.rival
  extract_lets v0 v1 v2 v3
  have k2 : Keeps s0 v2 := by
    unfold v2
    repeat' (first
      | with_reducible (first | assumption | apply State.set_keeps | apply State.setAcq_keeps))
  try clear_value v2
  have k3 : Keeps s0 v3 := by
    unfold v3
    repeat' (first | with_reducible (first | assumption | apply State.restage_keeps))
  try clear_value v3
  repeat' (first
    | with_reducible (first | assumption | apply State.restage_keeps | apply State.stepGain_keeps | apply Keeps.ite))

theorem State.capture_keeps {s0 s : State} (h0 : Keeps s0 s) (n : _) (a : _) (snr : _) (sweepK : _) (at_ : _) :
    Keeps s0 (State.capture s n a snr sweepK at_) := by
  unfold State.capture
  extract_lets v0 v1 v2
  try clear_value v0
  have k1 : Keeps s0 v1 := by
    unfold v1
    repeat' (first | with_reducible assumption | with_reducible apply State.rxEnd_keeps)
  try clear_value v1
  have k2 : Keeps s0 v2 := by
    unfold v2
    repeat' (first
      | with_reducible (first | assumption | apply State.stepGain_keeps | apply Keeps.ite))
  try clear_value v2
  repeat' (first
    | with_reducible (first | assumption | apply State.fire_keeps | apply State.acquire_keeps))

theorem State.preamble_keeps {s0 s : State} (h0 : Keeps s0 s) (n : _) (snr : _) (sweepK : _) (at_ : _) :
    Keeps s0 (State.preamble s n snr sweepK at_) := by
  unfold State.preamble
  extract_lets v0
  try clear_value v0
  repeat' (first
    | with_reducible (first
      | assumption | apply State.acquire_keeps | apply State.rival_keeps | apply State.capture_keeps
      | apply State.bump_keeps | apply Keeps.ite)
    | split)

theorem execPreambleDetected_keeps {s0 s : State} (h0 : Keeps s0 s) (n : _) (snr : _) (sweepK : _)
    (at_ : _) : OutKeeps s0 (execPreambleDetected n snr sweepK at_ s) := by
  unfold execPreambleDetected
  repeat' (first
    | with_reducible (first | assumption | apply State.preamble_keeps)
    | split
    | with_reducible apply OutKeeps.next)

theorem execBlankEnd_keeps {s0 s : State} (h0 : Keeps s0 s) (n : _) : OutKeeps s0 (execBlankEnd n s) := by
  unfold execBlankEnd
  repeat' (first
    | with_reducible (first | assumption | apply State.setRxState_keeps)
    | split
    | with_reducible apply OutKeeps.next)

theorem State.busyAfter_keeps {s0 s : State} (h0 : Keeps s0 s) (n : _) (h : _) (sweepK : _) :
    Keeps s0 (State.busyAfter s n h sweepK) := by
  unfold State.busyAfter
  extract_lets v0 v1 v2
  try clear_value v0
  repeat' (first
    | with_reducible (first | assumption | apply State.setCsma_keeps | apply State.busyNow_keeps | apply Keeps.ite))

theorem execDecoderTakeBlock_keeps {s0 s : State} (h0 : Keeps s0 s) (d : _) :
    OutKeeps s0 (execDecoderTakeBlock d s) := by
  unfold execDecoderTakeBlock
  extract_lets v0 v1
  try clear_value v0
  repeat' (first
    | with_reducible (first | assumption | apply State.showPool_keeps)
    | fail_if_no_progress (with_reducible apply Keeps.upd <;> try with_reducible rfl) | split
    | with_reducible apply OutKeeps.next)

theorem execBlockEnqueue_keeps {s0 s : State} (h0 : Keeps s0 s) (n : _) : OutKeeps s0 (execBlockEnqueue n s) := by
  unfold execBlockEnqueue
  repeat' (first
    | with_reducible (first
      | assumption | apply State.rxFail_keeps | apply State.bump_keeps | apply State.setAcq_keeps
      | apply State.showPool_keeps | apply State.setRxState_keeps)
    | fail_if_no_progress (with_reducible apply Keeps.upd <;> try with_reducible rfl) | split | extract_lets
    | with_reducible apply OutKeeps.next)

theorem execReceiveRecordRetire_keeps {s0 s : State} (h0 : Keeps s0 s) (grouped : _) (link : _) (slot : _) :
    OutKeeps s0 (execReceiveRecordRetire grouped link slot s) := by
  unfold execReceiveRecordRetire
  repeat' (first
    | with_reducible (first
      | assumption | apply State.readSnr_keeps | apply State.readRec_keeps | apply State.retireRec_keeps
      | refine Keeps.snd (by assumption) ?_)
    | split | extract_lets
    | with_reducible apply OutKeeps.next)

theorem execAgcWindow_keeps {s0 s : State} (h0 : Keeps s0 s) (n : _) (level : _) (floor : _) :
    OutKeeps s0 (execAgcWindow n level floor s) := by
  unfold execAgcWindow
  extract_lets v0 v1
  try clear_value v1
  have k0 : Keeps s0 v0 := by
    unfold v0
    repeat' (first | with_reducible assumption | with_reducible apply State.set_keeps)
  try clear_value v0
  repeat' (first
    | with_reducible (first | assumption | apply State.stepGain_keeps)
    | split
    | with_reducible apply OutKeeps.next)

theorem State.samplesEnd_keeps {s0 s : State} (h0 : Keeps s0 s) (n : _) (a : _) (m : _) :
    Keeps s0 (State.samplesEnd s n a m) := by
  unfold State.samplesEnd
  extract_lets v0 v1 v2 v3
  try clear_value v0; try clear_value v1
  have k2 : Keeps s0 v2 := by
    unfold v2
    repeat' (first
      | with_reducible (first
        | assumption | apply State.setRxState_keeps | apply State.setRxPort_keeps | apply State.latchOffsets_keeps))
  try clear_value v2
  have k3 : Keeps s0 v3 := by
    unfold v3
    repeat' (first | with_reducible assumption | with_reducible apply State.busyAfter_keeps | split)
  try clear_value v3
  repeat' (first | with_reducible assumption | with_reducible apply State.rxProgress_keeps)

theorem execReceiveSamplesEnd_keeps {s0 s : State} (h0 : Keeps s0 s) (n : _) (m : _) :
    OutKeeps s0 (execReceiveSamplesEnd n m s) := by
  unfold execReceiveSamplesEnd
  repeat' (first
    | with_reducible (first | assumption | apply State.samplesEnd_keeps)
    | split
    | with_reducible apply OutKeeps.next)

theorem execBlockDecodeComplete_keeps {s0 s : State} (h0 : Keeps s0 s) (d : _) (ok : _) (data : _) :
    OutKeeps s0 (execBlockDecodeComplete d ok data s) := by
  unfold execBlockDecodeComplete
  extract_lets v0
  have k0 : Keeps s0 v0 := by
    unfold v0
    repeat' (first | with_reducible assumption | with_reducible apply State.freeDecoder_keeps)
  try clear_value v0
  repeat' (first
    | with_reducible (first
      | assumption | apply State.rxProgress_keeps | apply State.setAcq_keeps | apply State.rxFail_keeps)
    | split
    | with_reducible apply OutKeeps.next)

theorem State.noiseSlot_keeps {s0 s : State} (h0 : Keeps s0 s) (n : _) (k : _) (b : _) :
    Keeps s0 (State.noiseSlot s n k b) := by
  unfold State.noiseSlot
  extract_lets v0 v1 v2
  try clear_value v0; try clear_value v1; try clear_value v2
  repeat' (first | with_reducible assumption | with_reducible apply State.telemetry_keeps)

theorem execNoiseTelemetry_keeps {s0 s : State} (h0 : Keeps s0 s) (n : _) (spectra : _) :
    OutKeeps s0 (execNoiseTelemetry n spectra s) := by
  unfold execNoiseTelemetry
  extract_lets v0 v1 v2 v3
  try clear_value v0; try clear_value v1
  have k3 : Keeps s0 v3 := by
    unfold v3
    repeat' (first
      | with_reducible assumption
      | fail_if_no_progress (with_reducible apply Keeps.upd <;> try with_reducible rfl))
  try clear_value v3
  repeat' (first
    | with_reducible (first | assumption | apply Keeps.forEach | apply State.noiseSlot_keeps)
    | split | extract_lets
    | with_reducible apply OutKeeps.next
    | intro _ _ _)

end Sys2Proof.Machine
end

