-- ==== Sys2Proof/Laws/KeepsMac.lean ====
section
/-! SUPPORT. One lemma per operation: what Keeps names is kept by the superframe, the join and the link. -/

namespace Sys2Proof.Machine

theorem State.tableIn_keeps {s0 s : State} (h0 : Keeps s0 s) (c : _) (t : _) (gen : _) :
    Keeps s0 (State.tableIn s c t gen) := by
  unfold State.tableIn
  extract_lets v0
  repeat' (first
    | with_reducible (first | assumption | apply State.set_keeps)
    | fail_if_no_progress (with_reducible apply Keeps.upd <;> try with_reducible rfl))

theorem State.toHost_keeps {s0 s : State} (h0 : Keeps s0 s) (f : _) (body : _) (cls : _) (ses : _)
    (failed : _) : Keeps s0 (State.toHost s f body cls ses failed) := by
  unfold State.toHost
  extract_lets v0
  repeat' (first
    | with_reducible assumption
    | fail_if_no_progress (with_reducible apply Keeps.upd <;> try with_reducible rfl))

theorem State.setPresence_keeps {s0 s : State} (h0 : Keeps s0 s) (addr : _) (st : _) :
    Keeps s0 (State.setPresence s addr st) := by
  unfold State.setPresence
  extract_lets v0 v1 v2 v3
  try clear_value v0; try clear_value v1
  have k2 : Keeps s0 v2 := by
    unfold v2
    repeat' (first | with_reducible assumption | with_reducible apply State.setDirOf_keeps)
  try clear_value v2
  have k3 : Keeps s0 v3 := by
    unfold v3
    repeat' (first
      | with_reducible (first | assumption | apply State.setSes_keeps | apply Keeps.ite))
  try clear_value v3
  repeat' (first | with_reducible assumption | with_reducible apply State.notifyPresence_keeps)

theorem State.heard_keeps {s0 s : State} (h0 : Keeps s0 s) (addr : _) : Keeps s0 (State.heard s addr) := by
  unfold State.heard
  extract_lets v0
  try clear_value v0
  repeat' (first | with_reducible (first | assumption | apply State.setDirOf_keeps | apply Keeps.ite))

theorem State.proved_keeps {s0 s : State} (h0 : Keeps s0 s) (addr : _) : Keeps s0 (State.proved s addr) := by
  unfold State.proved
  repeat' (first | with_reducible (first | assumption | apply State.setPresence_keeps | apply Keeps.ite))

theorem State.proven_keeps {s0 s : State} (h0 : Keeps s0 s) (f : _) : Keeps s0 (State.proven s f) := by
  unfold State.proven
  repeat' (first | with_reducible (first | assumption | apply State.proved_keeps | apply Keeps.ite))

theorem State.setSfState_keeps {s0 s : State} (h0 : Keeps s0 s) (v : _) : Keeps s0 (State.setSfState s v) := by
  unfold State.setSfState
  repeat' (first | with_reducible assumption | with_reducible apply State.set_keeps)

theorem State.noTable_keeps {s0 s : State} (h0 : Keeps s0 s) : Keeps s0 (State.noTable s) := by
  unfold State.noTable
  extract_lets v0
  repeat' (first
    | with_reducible (first | assumption | apply State.set_keeps)
    | fail_if_no_progress (with_reducible apply Keeps.upd <;> try with_reducible rfl))

theorem State.setPt_keeps {s0 s : State} (h0 : Keeps s0 s) (p : _) : Keeps s0 (State.setPt s p) := by
  unfold State.setPt
  extract_lets v0
  repeat' (first
    | with_reducible (first | assumption | apply State.setI_keeps)
    | fail_if_no_progress (with_reducible apply Keeps.upd <;> try with_reducible rfl))

theorem State.sfEnter_keeps {s0 s : State} (h0 : Keeps s0 s) (st : _) : Keeps s0 (State.sfEnter s st) := by
  unfold State.sfEnter
  extract_lets v0
  repeat' (first
    | with_reducible (first | assumption | apply State.set_keeps | apply State.setSfState_keeps |
      apply State.noTable_keeps)
    | fail_if_no_progress (with_reducible apply Keeps.upd <;> try with_reducible rfl))

theorem State.takeRx_keeps {s0 s : State} (h0 : Keeps s0 s) (n : _) (want : _) (act : _)
    (h_act : ∀ s0 a t, Keeps s0 t → Keeps s0 (act a t)) : Keeps s0 (State.takeRx s n want act) := by
  unfold State.takeRx
  repeat' (first
    | with_reducible (first | assumption | apply State.arcRead_keeps | apply State.heard_keeps | apply h_act | apply Keeps.ite)
    | split)

theorem State.sendKeepalive_keeps {s0 s : State} (h0 : Keeps s0 s)  : Keeps s0 (State.sendKeepalive s) := by
  unfold State.sendKeepalive
  extract_lets v0 v1
  have k0 : Keeps s0 v0 := by
    unfold v0
    repeat' (first | with_reducible assumption | with_reducible apply State.sendCtrl_keeps)
  try clear_value v0
  repeat' (first
    | with_reducible assumption
    | fail_if_no_progress (with_reducible apply Keeps.upd <;> try with_reducible rfl))

theorem State.joinFail_keeps {s0 s : State} (h0 : Keeps s0 s) (why : _) : Keeps s0 (State.joinFail s why) := by
  unfold State.joinFail
  extract_lets v0 v1 v2
  have k0 : Keeps s0 v0 := State.noTable_keeps (State.notify_keeps h0 ..)
  try clear_value v0
  have k2 : Keeps s0 v2 := by
    unfold v2
    repeat' (first
      | with_reducible (first | assumption | apply State.notify_keeps)
      | fail_if_no_progress (with_reducible apply Keeps.upd <;> try with_reducible rfl))
  try clear_value v2
  repeat' (first
    | with_reducible (first | assumption | apply State.set_keeps | apply State.setSfState_keeps))

theorem State.tableNow_keeps {s0 s : State} (h0 : Keeps s0 s) (t : _) (gen : _) :
    Keeps s0 (State.tableNow s t gen) := by
  unfold State.tableNow
  extract_lets v0
  repeat' (first
    | with_reducible (first | assumption | apply State.set_keeps)
    | fail_if_no_progress (with_reducible apply Keeps.upd <;> try with_reducible rfl))

theorem State.admitRx_keeps {s0 s : State} (h0 : Keeps s0 s) (c : _) (len : _) :
    Keeps s0 (State.admitRx s c len).2 := by
  unfold State.admitRx
  extract_lets v0
  try clear_value v0
  repeat' (first
    | with_reducible (first | assumption | apply State.takeCells_keeps | apply State.countNoCell_keeps)
    | split)

theorem State.tunnel_keeps {s0 s : State} (h0 : Keeps s0 s) (f : _) (cls : _) : Keeps s0 (State.tunnel s f cls) := by
  unfold State.tunnel
  repeat' (first
    | with_reducible (first | assumption | apply State.admitRx_keeps | apply State.toHost_keeps | apply Keeps.ite))

theorem State.notifyParent_keeps {s0 s : State} (h0 : Keeps s0 s) (addr : _) (hop : _) :
    Keeps s0 (State.notifyParent s addr hop) := by
  unfold State.notifyParent
  repeat' (first | with_reducible assumption | with_reducible apply State.notify_keeps)

theorem State.judgeSeq_keeps {s0 s : State} (h0 : Keeps s0 s) (addr : _) (x : _) :
    Keeps s0 (State.judgeSeq s addr x).2 := by
  unfold State.judgeSeq
  extract_lets v0 v1 v2 v3 v4
  try clear_value v0; try clear_value v1; try clear_value v2; try clear_value v3; try clear_value v4
  repeat' (first
    | with_reducible (first | assumption | apply State.setDirOf_keeps | apply State.fire_keeps)
    | split)

theorem State.planAck_keeps {s0 s : State} (h0 : Keeps s0 s) (n : _) (f : _) (dup : _) (poll : _) :
    Keeps s0 (State.planAck s n f dup poll) := by
  unfold State.planAck
  extract_lets v0 v1
  try clear_value v0
  repeat' (first
    | with_reducible (first | assumption | apply State.setTxPort_keeps | apply Keeps.ite))

theorem State.sendMac_keeps {s0 s : State} (h0 : Keeps s0 s) (n : _) (phy : _) (l : _) (body : _) :
    Keeps s0 (State.sendMac s n phy l body) := by
  unfold State.sendMac
  extract_lets v0
  try clear_value v0
  repeat' (first
    | with_reducible (first
      | assumption | apply State.linkFrame_keeps | apply State.takeCells_keeps | apply State.countNoCell_keeps
      | apply Keeps.ite))

theorem State.sendKnock_keeps {s0 s : State} (h0 : Keeps s0 s) (n : _) (to_ : _) (knockId : _) :
    Keeps s0 (State.sendKnock s n to_ knockId) := by
  unfold State.sendKnock
  extract_lets v0
  try clear_value v0
  repeat' (first | with_reducible assumption | with_reducible apply State.sendMac_keeps)

theorem State.sendAnswer_keeps {s0 s : State} (h0 : Keeps s0 s) (n : _) (subtype : _) (eui : _) (rest : _) :
    Keeps s0 (State.sendAnswer s n subtype eui rest) := by
  unfold State.sendAnswer
  repeat' (first | with_reducible assumption | with_reducible apply State.sendCtrl_keeps)

theorem State.sfJudge_keeps {s0 s : State} (h0 : Keeps s0 s) (a : _) : Keeps s0 (State.sfJudge s a) := by
  unfold State.sfJudge
  extract_lets v0
  repeat' (first
    | with_reducible (first | assumption | apply State.set_keeps | apply Keeps.ite)
    | fail_if_no_progress (with_reducible apply Keeps.upd <;> try with_reducible rfl) | split)

theorem State.autoMode_keeps {s0 s : State} (h0 : Keeps s0 s) (m : _) : Keeps s0 (State.autoMode s m) := by
  unfold State.autoMode
  repeat' (first
    | with_reducible (first | assumption | apply State.fire_keeps | apply State.set_keeps))

theorem State.toIsland_keeps {s0 s : State} (h0 : Keeps s0 s)  : Keeps s0 (State.toIsland s) := by
  unfold State.toIsland
  extract_lets v0
  repeat' (first
    | with_reducible (first
      | assumption | apply State.autoMode_keeps | apply State.setSfState_keeps | apply Keeps.ite)
    | fail_if_no_progress (with_reducible apply Keeps.upd <;> try with_reducible rfl))

theorem State.correctTb1_keeps {s0 s : State} (h0 : Keeps s0 s) (n : _) (tdet : _) (b : _) :
    Keeps s0 (State.correctTb1 s n tdet b) := by
  unfold State.correctTb1
  extract_lets v0 v1 v2
  try clear_value v0; try clear_value v1; try clear_value v2
  repeat' (first
    | with_reducible (first
      | assumption | apply State.setPt_keeps | apply State.correct_keeps | apply State.setI_keeps | apply State.setTb_keeps | apply Keeps.ite))

theorem State.takeTable_keeps {s0 s : State} (h0 : Keeps s0 s) (b : _) (orphan : _) :
    Keeps s0 (State.takeTable s b orphan) := by
  unfold State.takeTable
  extract_lets v0 v1
  have k0 : Keeps s0 v0 := Keeps.ite (State.tableNow_keeps h0 ..) (State.tableIn_keeps h0 ..)
  clear_value v0
  repeat' (first
    | with_reducible (first | assumption | apply State.tableIn_keeps | apply State.tableNow_keeps | apply Keeps.ite)
    | fail_if_no_progress (with_reducible apply Keeps.upd <;> try with_reducible rfl))

theorem State.takeDelta_keeps {s0 s : State} (h0 : Keeps s0 s) (b : _) : Keeps s0 (State.takeDelta s b) := by
  unfold State.takeDelta
  extract_lets v0 v1 v2
  try clear_value v0; try clear_value v1
  repeat' (first
    | with_reducible assumption
    | fail_if_no_progress (with_reducible apply Keeps.upd <;> try with_reducible rfl) | split)

theorem State.takeBeacon_keeps {s0 s : State} (h0 : Keeps s0 s) (n : _) (tdet : _) (b : _) (adopting : _) :
    Keeps s0 (State.takeBeacon s n tdet b adopting) := by
  unfold State.takeBeacon
  extract_lets v0 v1
  have k1 : Keeps s0 v1 := by
    unfold v1
    repeat' (first
      | with_reducible (first | assumption | apply State.correctTb1_keeps | apply State.takeTable_keeps)
      | fail_if_no_progress (with_reducible apply Keeps.upd <;> try with_reducible rfl))
  try clear_value v1
  repeat' (first
    | with_reducible (first | assumption | apply State.set_keeps | apply State.takeDelta_keeps))

theorem State.parentBeacon_keeps {s0 s : State} (h0 : Keeps s0 s) (n : _) (tdet : _) (b : _) :
    Keeps s0 (State.parentBeacon s n tdet b) := by
  unfold State.parentBeacon
  extract_lets v0 v1
  have k1 : Keeps s0 v1 := by
    unfold v1
    repeat' (first
      | with_reducible (first | assumption | apply State.bump_keeps | apply State.set_keeps | apply State.fire_keeps)
      | fail_if_no_progress (with_reducible apply Keeps.upd <;> try with_reducible rfl))
  try clear_value v1
  repeat' (first | with_reducible assumption | with_reducible apply State.takeBeacon_keeps)

theorem State.commitRefused_keeps {s0 s : State} (h0 : Keeps s0 s)  : Keeps s0 (State.commitRefused s) := by
  unfold State.commitRefused
  repeat' (first
    | with_reducible (first
      | assumption | apply State.set_keeps | apply State.raiseFlag_keeps | apply State.takeFree_keeps)
    | split)

theorem State.allocCommit_keeps {s0 s : State} (h0 : Keeps s0 s)  : Keeps s0 (State.allocCommit s) := by
  unfold State.allocCommit
  repeat' (first
    | with_reducible (first
      | assumption | apply State.commitRefused_keeps | apply State.set_keeps | apply State.tableIn_keeps
      | apply Keeps.ite))

theorem State.adopt_keeps {s0 s : State} (h0 : Keeps s0 s) (b : _) : Keeps s0 (State.adopt s b) := by
  unfold State.adopt
  repeat' (first
    | with_reducible (first | assumption | apply State.set_keeps | apply State.setSfState_keeps))

theorem State.rejoinNow_keeps {s0 s : State} (h0 : Keeps s0 s) (b : _) : Keeps s0 (State.rejoinNow s b) := by
  unfold State.rejoinNow
  extract_lets v0 v1 v2 v3 v4 v5
  try clear_value v0; try clear_value v1; try clear_value v2
  have k3 : Keeps s0 v3 := by
    unfold v3
    repeat' (first
      | with_reducible (first | assumption | apply State.autoMode_keeps | apply State.adopt_keeps))
  try clear_value v3
  have k5 : Keeps s0 v5 := by
    unfold v5
    repeat' (first
      | with_reducible (first | assumption | apply State.set_keeps)
      | fail_if_no_progress (with_reducible apply Keeps.upd <;> try with_reducible rfl))
  try clear_value v5
  repeat' (first
    | with_reducible (first | assumption | apply State.notifyParent_keeps | apply State.setHold_keeps |
      apply State.takeDelta_keeps))

theorem State.rejoinStep_keeps {s0 s : State} (h0 : Keeps s0 s)  : Keeps s0 (State.rejoinStep s) := by
  unfold State.rejoinStep
  extract_lets v0
  repeat' (first
    | with_reducible (first | assumption | apply State.rejoinNow_keeps | apply Keeps.ite)
    | fail_if_no_progress (with_reducible apply Keeps.upd <;> try with_reducible rfl) | split)

theorem State.keep_keeps {s0 s : State} (h0 : Keeps s0 s) (f : _) (w : _) (bad : _) :
    Keeps s0 (State.keep s f w bad) := by
  unfold State.keep
  extract_lets v0
  try clear_value v0
  repeat' (first | with_reducible assumption | with_reducible apply State.set_keeps | with_reducible apply Keeps.ite)

theorem State.macStore_keeps {s0 s : State} (h0 : Keeps s0 s) (r : _) (w : _) : Keeps s0 (State.macStore s r w) := by
  unfold State.macStore
  extract_lets v0 v1
  try clear_value v0
  have k1 : Keeps s0 v1 := by
    unfold v1
    repeat' (first | with_reducible assumption | with_reducible apply State.keep_keeps)
  try clear_value v1
  repeat' (first | with_reducible assumption | with_reducible apply State.keep_keeps | split)

theorem State.macWrite_keeps {s0 s : State} (h0 : Keeps s0 s) (r : _) (w : _) : Keeps s0 (State.macWrite s r w) := by
  unfold State.macWrite
  extract_lets v0
  have k0 : Keeps s0 v0 := by
    unfold v0
    repeat' (first | with_reducible assumption | with_reducible apply State.keep_keeps)
  try clear_value v0
  repeat' (first
    | with_reducible (first
      | assumption | apply State.macStore_keeps | apply State.raiseFlag_keeps | apply Keeps.ite))

theorem State.orphanScan_keeps {s0 s : State} (h0 : Keeps s0 s)  : Keeps s0 (State.orphanScan s) := by
  unfold State.orphanScan
  repeat' (first
    | with_reducible (first
      | assumption | apply State.setHold_keeps | apply State.setSfState_keeps | apply Keeps.ite))

theorem State.missBeacon_keeps {s0 s : State} (h0 : Keeps s0 s)  : Keeps s0 (State.missBeacon s) := by
  unfold State.missBeacon
  extract_lets v0 v1 v2
  try clear_value v0
  have k1 : Keeps s0 v1 := by
    unfold v1
    repeat' (first
      | with_reducible (first | assumption | apply State.fire_keeps | apply State.bump_keeps | apply State.set_keeps))
  try clear_value v1
  repeat' (first
    | with_reducible assumption
    | fail_if_no_progress (with_reducible apply Keeps.upd <;> try with_reducible rfl))

theorem State.decideMiss_keeps {s0 s : State} (h0 : Keeps s0 s)  : Keeps s0 (State.decideMiss s) := by
  unfold State.decideMiss
  repeat' (first
    | with_reducible (first
      | assumption | apply State.orphanScan_keeps | apply State.missBeacon_keeps | apply Keeps.ite))

theorem State.islandBeacon_keeps {s0 s : State} (h0 : Keeps s0 s) (n : _) (f : _) (b : _) :
    Keeps s0 (State.islandBeacon s n f b) := by
  unfold State.islandBeacon
  extract_lets v0
  repeat' (first
    | with_reducible (first | assumption | apply State.setPt_keeps | apply Keeps.ite)
    | fail_if_no_progress (with_reducible apply Keeps.upd <;> try with_reducible rfl))

theorem State.scanBeacon_keeps {s0 s : State} (h0 : Keeps s0 s) (n : _) (tdet : _) (b : _) :
    Keeps s0 (State.scanBeacon s n tdet b) := by
  unfold State.scanBeacon
  extract_lets v0
  have k0 : Keeps s0 v0 := by
    unfold v0
    repeat' (first
      | with_reducible (first
        | assumption | apply State.adopt_keeps | apply State.bump_keeps | apply State.fire_keeps))
  try clear_value v0
  repeat' (first
    | with_reducible (first
      | assumption | apply State.notifyParent_keeps | apply State.takeBeacon_keeps | apply State.takeFree_keeps
      | apply State.setSfState_keeps | apply State.set_keeps | apply State.sendKnock_keeps | apply Keeps.ite)
    | fail_if_no_progress (with_reducible apply Keeps.upd <;> try with_reducible rfl))

theorem State.orphanBeacon_keeps {s0 s : State} (h0 : Keeps s0 s) (n : _) (tdet : _) (b : _) :
    Keeps s0 (State.orphanBeacon s n tdet b) := by
  unfold State.orphanBeacon
  extract_lets v0 v1
  have k1 : Keeps s0 v1 := by
    unfold v1
    repeat' (first
      | with_reducible (first
        | assumption | apply State.adopt_keeps | apply State.bump_keeps | apply State.fire_keeps)
      | fail_if_no_progress (with_reducible apply Keeps.upd <;> try with_reducible rfl))
  try clear_value v1
  repeat' (first
    | with_reducible (first
      | assumption | apply State.notifyParent_keeps | apply State.takeBeacon_keeps | apply State.setHold_keeps
      | apply Keeps.ite))

theorem State.gotBeacon_keeps {s0 s : State} (h0 : Keeps s0 s) (n : _) (f : _) (b : _) :
    Keeps s0 (State.gotBeacon s n f b) := by
  unfold State.gotBeacon
  extract_lets v0 v1
  try clear_value v0; try clear_value v1
  repeat' (first
    | with_reducible (first
      | assumption | apply State.islandBeacon_keeps | apply State.scanBeacon_keeps | apply State.takeBeacon_keeps
      | apply State.orphanBeacon_keeps | apply State.parentBeacon_keeps | apply Keeps.ite))

theorem execBeaconReceived_keeps {s0 s : State} (h0 : Keeps s0 s) (n : _) : OutKeeps s0 (execBeaconReceived n s) := by
  unfold execBeaconReceived
  repeat' (first
    | with_reducible (first
      | assumption | apply State.takeRx_keeps | apply State.decideMiss_keeps | apply State.gotBeacon_keeps)
    | split | extract_lets
    | with_reducible apply OutKeeps.next
    | intro _ _ _ | intro _)

theorem State.orphanDecide_keeps {s0 s : State} (h0 : Keeps s0 s)  : Keeps s0 (State.orphanDecide s) := by
  unfold State.orphanDecide
  extract_lets v0 v1
  repeat' (first
    | with_reducible (first
      | assumption | apply State.toIsland_keeps | apply State.missBeacon_keeps | apply Keeps.ite)
    | fail_if_no_progress (with_reducible apply Keeps.upd <;> try with_reducible rfl))

theorem State.orphanMiss_keeps {s0 s : State} (h0 : Keeps s0 s) (ended : _) :
    Keeps s0 (State.orphanMiss s ended) := by
  unfold State.orphanMiss
  extract_lets v0
  repeat' (first
    | with_reducible (first | assumption | apply Keeps.ite)
    | fail_if_no_progress (with_reducible apply Keeps.upd <;> try with_reducible rfl))

theorem State.knockPeriod_keeps {s0 s : State} (h0 : Keeps s0 s)  : Keeps s0 (State.knockPeriod s) := by
  unfold State.knockPeriod
  extract_lets v0
  repeat' (first
    | with_reducible assumption
    | fail_if_no_progress (with_reducible apply Keeps.upd <;> try with_reducible rfl))

theorem State.countDown_keeps {s0 s : State} (h0 : Keeps s0 s)  : Keeps s0 (State.countDown s) := by
  unfold State.countDown
  extract_lets
  repeat' (first
    | with_reducible (first | assumption | apply State.tableNow_keeps | apply State.tableIn_keeps | apply Keeps.ite)
    | fail_if_no_progress (with_reducible apply Keeps.upd <;> try with_reducible rfl) | split)

theorem State.periodBegins_keeps {s0 s : State} (h0 : Keeps s0 s)  : Keeps s0 (State.periodBegins s) := by
  unfold State.periodBegins
  extract_lets v0 v1 v2 v3 v4
  try clear_value v0
  have k2 : Keeps s0 v2 := by
    unfold v2
    repeat' (first
      | with_reducible (first | assumption | apply State.fire_keeps)
      | fail_if_no_progress (with_reducible apply Keeps.upd <;> try with_reducible rfl))
  try clear_value v2
  have k3 : Keeps s0 v3 := by
    unfold v3
    repeat' (first
      | with_reducible (first
        | assumption | apply State.orphanMiss_keeps | apply State.knockPeriod_keeps | apply State.countDown_keeps))
  try clear_value v3
  repeat' (first
    | with_reducible (first | assumption | apply State.rejoinStep_keeps)
    | fail_if_no_progress (with_reducible apply Keeps.upd <;> try with_reducible rfl))

theorem State.sfStart_keeps {s0 s : State} (h0 : Keeps s0 s)  : Keeps s0 (State.sfStart s) := by
  unfold State.sfStart
  extract_lets v0 v1 v2 v3 v4 v5 v6
  try clear_value v0
  have k1 : Keeps s0 v1 := by
    unfold v1
    repeat' (first | with_reducible assumption | with_reducible apply State.sfJudge_keeps | split)
  try clear_value v1
  have k3 : Keeps s0 v3 := by
    unfold v3
    repeat' (first
      | with_reducible (first | assumption | apply Keeps.ite)
      | fail_if_no_progress (with_reducible apply Keeps.upd <;> try with_reducible rfl))
  try clear_value v3
  have k5 : Keeps s0 v5 := by
    unfold v5
    repeat' (first
      | with_reducible assumption
      | fail_if_no_progress (with_reducible apply Keeps.upd <;> try with_reducible rfl))
  try clear_value v5
  have k6 : Keeps s0 v6 := by
    unfold v6
    repeat' (first
      | with_reducible (first
        | assumption | apply State.syncOut_keeps | apply State.fire_keeps | apply State.set_keeps))
  try clear_value v6
  repeat' (first
    | with_reducible (first | assumption | apply State.periodBegins_keeps | apply Keeps.ite))

theorem State.sendBeacon_keeps {s0 s : State} (h0 : Keeps s0 s) (n : _) : Keeps s0 (State.sendBeacon s n) := by
  unfold State.sendBeacon
  extract_lets v0 v1 v2 v3 v4 v5 v6
  try clear_value v0; try clear_value v1; try clear_value v2; try clear_value v3; try clear_value v4;
      try clear_value v5; try clear_value v6
  repeat' (first
    | with_reducible (first | assumption | apply State.set_keeps | apply State.bump_keeps | apply State.airBegin_keeps | apply Keeps.ite))

theorem execMacConfigWrite_keeps {s0 s : State} (h0 : Keeps s0 s) (r : _) (data : _) :
    OutKeeps s0 (execMacConfigWrite r data s) := by
  unfold execMacConfigWrite
  repeat' (first
    | with_reducible (first | assumption | apply State.hostWrite_keeps | apply State.macWrite_keeps)
    | extract_lets
    | with_reducible apply OutKeeps.next
    | intro _ _ _)

theorem execBeaconLaunch_keeps {s0 s : State} (h0 : Keeps s0 s) (n : _) : OutKeeps s0 (execBeaconLaunch n s) := by
  unfold execBeaconLaunch
  extract_lets v0
  try clear_value v0
  repeat' (first
    | with_reducible (first | assumption | apply State.sendBeacon_keeps)
    | split
    | with_reducible apply OutKeeps.next)

theorem execBeaconWindowClose_keeps {s0 s : State} (h0 : Keeps s0 s)  : OutKeeps s0 (execBeaconWindowClose s) := by
  unfold execBeaconWindowClose
  extract_lets v0
  repeat' (first
    | with_reducible (first
      | assumption | apply State.decideMiss_keeps | apply State.fire_keeps | apply State.orphanDecide_keeps)
    | fail_if_no_progress (with_reducible apply Keeps.upd <;> try with_reducible rfl) | split
    | with_reducible apply OutKeeps.next)

theorem execBeaconWindowOpen_keeps {s0 s : State} (h0 : Keeps s0 s)  : OutKeeps s0 (execBeaconWindowOpen s) := by
  unfold execBeaconWindowOpen
  extract_lets v0
  repeat' (first
    | with_reducible (first | assumption | apply State.fire_keeps)
    | fail_if_no_progress (with_reducible apply Keeps.upd <;> try with_reducible rfl) | split
    | with_reducible apply OutKeeps.next)

theorem execAllocCommit_keeps {s0 s : State} (h0 : Keeps s0 s)  : OutKeeps s0 (execAllocCommit s) := by
  unfold execAllocCommit
  repeat' (first
    | with_reducible (first
      | assumption | apply State.hostWrite_keeps | apply State.allocCommit_keeps | apply OutKeeps.next))

theorem execSuperframeStart_keeps {s0 s : State} (h0 : Keeps s0 s)  : OutKeeps s0 (execSuperframeStart s) := by
  unfold execSuperframeStart
  repeat' (first
    | with_reducible (first | assumption | apply State.sfStart_keeps)
    | split
    | with_reducible apply OutKeeps.next)

theorem execSlotBoundary_keeps {s0 s : State} (h0 : Keeps s0 s)  : OutKeeps s0 (execSlotBoundary s) := by
  unfold execSlotBoundary
  extract_lets v0
  try clear_value v0
  repeat' (first
    | with_reducible (first | assumption | apply State.fire_keeps | apply State.set_keeps)
    | split
    | with_reducible apply OutKeeps.next)

theorem State.faultAir_keeps {s0 s : State} (h0 : Keeps s0 s) (n : _) : Keeps s0 (State.faultAir s n) := by
  unfold State.faultAir
  repeat' (first
    | with_reducible (first | assumption | apply State.airEnd_keeps | apply State.attemptEnd_keeps)
    | split)

theorem State.ldFault_keeps {s0 s : State} (h0 : Keeps s0 s) (n : _) : Keeps s0 (State.ldFault s n) := by
  unfold State.ldFault
  extract_lets v0
  have k0 : Keeps s0 v0 := by
    unfold v0
    repeat' (first
      | with_reducible (first | assumption | apply State.bump_keeps | apply State.fire_keeps | apply State.set_keeps))
  try clear_value v0
  repeat' (first
    | with_reducible (first
      | assumption | apply State.refreshLd_keeps | apply State.faultAir_keeps | apply Keeps.ite))

theorem execLineDriverFault_keeps {s0 s : State} (h0 : Keeps s0 s) (n : _) :
    OutKeeps s0 (execLineDriverFault n s) := by
  unfold execLineDriverFault
  repeat' (first
    | with_reducible (first | assumption | apply State.ldFault_keeps)
    | split
    | with_reducible apply OutKeeps.next)

theorem execLineDriverFaultRelease_keeps {s0 s : State} (h0 : Keeps s0 s) (n : _) :
    OutKeeps s0 (execLineDriverFaultRelease n s) := by
  unfold execLineDriverFaultRelease
  extract_lets v0 v1
  have k0 : Keeps s0 v0 := by
    unfold v0
    repeat' (first
      | with_reducible (first | assumption | apply State.fire_keeps | apply State.set_keeps))
  try clear_value v0
  repeat' (first
    | with_reducible (first | assumption | apply State.refreshLd_keeps | apply State.setTxPort_keeps)
    | split
    | with_reducible apply OutKeeps.next)

theorem State.showMask_keeps {s0 s : State} (h0 : Keeps s0 s) (n : _) : Keeps s0 (State.showMask s n) := by
  unfold State.showMask
  extract_lets v0 v1 v2
  try clear_value v0; try clear_value v1; try clear_value v2
  repeat' (first | with_reducible assumption | with_reducible apply State.set_keeps)

theorem State.dropFront_keeps {s0 s : State} (h0 : Keeps s0 s) (n : _) (q : _) (id : _) :
    Keeps s0 (State.dropFront s n q id) := by
  unfold State.dropFront
  extract_lets v0 v1
  try clear_value v1
  have k0 : Keeps s0 v0 := by
    unfold v0
    repeat' (first | with_reducible assumption | with_reducible apply State.arcRead_keeps)
  try clear_value v0
  repeat' (first | with_reducible assumption | with_reducible apply State.setTxPort_keeps)

theorem State.txRefuse_keeps {s0 s : State} (h0 : Keeps s0 s) (n : _) (q : _) (f : _) (status : _) :
    Keeps s0 (State.txRefuse s n q f status) := by
  unfold State.txRefuse
  repeat' (first
    | with_reducible (first | assumption | apply State.completeTx_keeps | apply State.dropFront_keeps))

theorem State.txLate_keeps {s0 s : State} (h0 : Keeps s0 s) (n : _) (q : _) (f : _) :
    Keeps s0 (State.txLate s n q f) := by
  unfold State.txLate
  repeat' (first
    | with_reducible (first | assumption | apply State.bump_keeps | apply State.txRefuse_keeps))

theorem State.txDefer_keeps {s0 s : State} (h0 : Keeps s0 s) (n : _) (q : _) (f : _) (t : _) (band : _)
    (rule : _) : Keeps s0 (State.txDefer s n q f t band rule) := by
  unfold State.txDefer
  extract_lets v0
  have k0 : Keeps s0 v0 := by
    unfold v0
    repeat' (first
      | with_reducible (first | assumption | apply State.bump_keeps | apply State.fire_keeps | apply Keeps.ite))
  try clear_value v0
  repeat' (first
    | with_reducible (first
      | assumption | apply State.txLate_keeps | apply State.setFrame_keeps | apply State.dropFront_keeps
      | apply Keeps.ite))

theorem State.noteRange_keeps {s0 s : State} (h0 : Keeps s0 s) (f : _) : Keeps s0 (State.noteRange s f) := by
  unfold State.noteRange
  extract_lets v0
  repeat' (first
    | with_reducible (first | assumption | apply Keeps.ite)
    | fail_if_no_progress (with_reducible apply Keeps.upd <;> try with_reducible rfl))

theorem State.mapOf_keeps {s0 s : State} (h0 : Keeps s0 s) (n : _) (q : _) (f : _) (grouped : _) :
    Keeps s0 (State.mapOf s n q f grouped).2.2 := by
  unfold State.mapOf
  repeat' (first | with_reducible assumption | with_reducible apply State.chooseMap_keeps | split)

theorem State.windowOf_keeps {s0 s : State} (h0 : Keeps s0 s) (n : _) (q : _) (f : _) (m : _) :
    Keeps s0 (State.windowOf s n q f m).2 := by
  unfold State.windowOf
  repeat' (first | with_reducible assumption | with_reducible apply State.delayOf_keeps | split)

theorem execFaultHoldEnd_keeps {s0 s : State} (h0 : Keeps s0 s) (n : _) : OutKeeps s0 (execFaultHoldEnd n s) := by
  unfold execFaultHoldEnd
  extract_lets v0
  repeat' (first
    | with_reducible (first | assumption | apply State.setTxPort_keeps)
    | split
    | with_reducible apply OutKeeps.next)

theorem State.maskSet_keeps {s0 s : State} (h0 : Keeps s0 s) (n : _) (k : _) (data : _) :
    Keeps s0 (State.maskSet s n k data) := by
  unfold State.maskSet
  extract_lets v0 v1 v2
  try clear_value v0; try clear_value v1
  have k2 : Keeps s0 v2 := by
    unfold v2
    repeat' (first | with_reducible assumption | with_reducible apply State.setReg_keeps)
  try clear_value v2
  repeat' (first
    | with_reducible (first
      | assumption | apply State.showMask_keeps | apply State.raiseFlag_keeps | apply Keeps.ite))

theorem State.dwWrite_keeps {s0 s : State} (h0 : Keeps s0 s) (b : _) (k : _) (data : _) :
    Keeps s0 (State.dwWrite s b k data) := by
  unfold State.dwWrite
  extract_lets v0 v1 v2 v3
  try clear_value v0; try clear_value v1
  have k3 : Keeps s0 v3 := by
    unfold v3
    repeat' (first
      | with_reducible (first | assumption | apply State.setReg_keeps)
      | fail_if_no_progress (with_reducible apply Keeps.upd <;> try with_reducible rfl))
  try clear_value v3
  repeat' (first
    | with_reducible (first | assumption | apply Keeps.forN | apply State.retrunc_keeps)
    | extract_lets | intro _ _ _)

theorem State.ldTailEnd_keeps {s0 s : State} (h0 : Keeps s0 s) (n : _) : Keeps s0 (State.ldTailEnd s n) := by
  unfold State.ldTailEnd
  extract_lets v0 v1 v2
  try clear_value v0; try clear_value v1; try clear_value v2
  repeat' (first
    | with_reducible (first | assumption | apply State.refreshLd_keeps | apply State.setTxPort_keeps))

theorem execLdenTailExpiry_keeps {s0 s : State} (h0 : Keeps s0 s) (n : _) : OutKeeps s0 (execLdenTailExpiry n s) := by
  unfold execLdenTailExpiry
  repeat' (first
    | with_reducible (first | assumption | apply State.ldTailEnd_keeps | apply OutKeeps.next))

theorem execDwellWrite_keeps {s0 s : State} (h0 : Keeps s0 s) (b : _) (k : _) (data : _) :
    OutKeeps s0 (execDwellWrite b k data s) := by
  unfold execDwellWrite
  repeat' (first
    | with_reducible (first | assumption | apply State.hostWrite_keeps | apply State.dwWrite_keeps)
    | extract_lets
    | with_reducible apply OutKeeps.next
    | intro _ _ _)

theorem State.sentWhole_keeps {s0 s : State} (h0 : Keeps s0 s) (n : _) (q : _) (id : _) (a : _) :
    Keeps s0 (State.sentWhole s n q id a) := by
  unfold State.sentWhole
  repeat' (first
    | with_reducible (first
      | assumption | apply State.setFrame_keeps | apply State.dropRelay_keeps | apply State.bump_keeps
      | apply State.completeTx_keeps | apply State.setTxPort_keeps | apply Keeps.ite)
    | split)

theorem State.reportTrunc_keeps {s0 s : State} (h0 : Keeps s0 s) (n : _) (a : _) :
    Keeps s0 (State.reportTrunc s n a) := by
  unfold State.reportTrunc
  split
  · apply State.bump_keeps
    rename_i t b _
    have k := State.fire_keeps (Keeps.refl { s with tick := t }) (esPort n 6) (dwData b 1 0)
    exact h0.trans ⟨k.pending, rfl, k.fuses, k.field, k.counter, k.mem, k.regs⟩
  · exact h0

theorem State.txEnd_keeps {s0 s : State} (h0 : Keeps s0 s) (n : _) (a : _) : Keeps s0 (State.txEnd s n a) := by
  unfold State.txEnd
  extract_lets v0
  have k0 : Keeps s0 v0 := by
    unfold v0
    repeat' (first
      | with_reducible (first | assumption | apply State.airEnd_keeps | apply State.reportTrunc_keeps))
  try clear_value v0
  repeat' (first
    | with_reducible (first
      | assumption | apply State.sentWhole_keeps | apply State.attemptEnd_keeps | apply Keeps.ite)
    | split)

theorem execMaskWrite_keeps {s0 s : State} (h0 : Keeps s0 s) (n : _) (k : _) (data : _) :
    OutKeeps s0 (execMaskWrite n k data s) := by
  unfold execMaskWrite
  repeat' (first
    | with_reducible (first | assumption | apply State.hostWrite_keeps | apply State.maskSet_keeps)
    | extract_lets
    | with_reducible apply OutKeeps.next
    | intro _ _ _)

theorem execDwellDeferralExpiry_keeps {s0 s : State} (h0 : Keeps s0 s) (n : _) :
    OutKeeps s0 (execDwellDeferralExpiry n s) := by
  unfold execDwellDeferralExpiry
  extract_lets v0 v1
  try clear_value v0; try clear_value v1
  repeat' (first
    | with_reducible (first | assumption | apply State.setTxPort_keeps | apply OutKeeps.next))

theorem State.txLaunch_keeps {s0 s : State} (h0 : Keeps s0 s) (n : _) (q : _) (f : _) (m : _) (grouped : _)
    (dur : _) : Keeps s0 (State.txLaunch s n q f m grouped dur) := by
  unfold State.txLaunch
  extract_lets v0 v1
  try clear_value v0
  repeat' (first
    | with_reducible (first
      | assumption | apply State.windowOf_keeps | apply State.setFrame_keeps | apply State.noteRange_keeps
      | apply State.dropFront_keeps | apply State.setCsma_keeps | apply State.airBegin_keeps)
    | fail_if_no_progress (with_reducible apply Keeps.upd <;> try with_reducible rfl))

theorem State.txTry_keeps {s0 s : State} (h0 : Keeps s0 s) (n : _) (q : _) (f : _) (m : _) (grouped : _) :
    Keeps s0 (State.txTry s n q f m grouped) := by
  unfold State.txTry
  extract_lets v0 v1 v2
  try clear_value v0; try clear_value v1; try clear_value v2
  repeat' (first
    | with_reducible (first
      | assumption | apply State.txRefuse_keeps | apply State.fire_keeps | apply State.txDefer_keeps
      | apply State.txLaunch_keeps | apply Keeps.forEach | apply State.ldPlanLaunch_keeps | apply Keeps.ite)
    | split | extract_lets | intro _ _ _)

theorem State.txConsider_keeps {s0 s : State} (h0 : Keeps s0 s) (n : _) (q : _) (f : _) :
    Keeps s0 (State.txConsider s n q f) := by
  unfold State.txConsider
  extract_lets v0
  try clear_value v0
  repeat' (first
    | with_reducible (first
      | assumption | apply State.txLate_keeps | apply State.txRefuse_keeps | apply State.mapOf_keeps
      | apply State.bump_keeps | apply State.txTry_keeps | refine Keeps.snd2 (by assumption) ?_ | apply Keeps.ite)
    | split | extract_lets)

theorem execFrameLaunch_keeps {s0 s : State} (h0 : Keeps s0 s) (n : _) : OutKeeps s0 (execFrameLaunch n s) := by
  unfold execFrameLaunch
  repeat' (first
    | with_reducible (first
      | assumption | apply State.txConsider_keeps | apply State.dropFront_keeps | apply State.arcRead_keeps)
    | split
    | with_reducible apply OutKeeps.next)

theorem execTransmitEnd_keeps {s0 s : State} (h0 : Keeps s0 s) (n : _) : OutKeeps s0 (execTransmitEnd n s) := by
  unfold execTransmitEnd
  repeat' (first
    | with_reducible (first | assumption | apply State.txEnd_keeps)
    | split
    | with_reducible apply OutKeeps.next)

theorem State.answerDown_keeps {s0 s : State} (h0 : Keeps s0 s) (f : _) : Keeps s0 (State.answerDown s f) := by
  unfold State.answerDown
  extract_lets v0
  try clear_value v0
  repeat' (first
    | with_reducible (first | assumption | apply State.sendCtrl_keeps | apply Keeps.ite)
    | fail_if_no_progress (with_reducible apply Keeps.upd <;> try with_reducible rfl) | split)

theorem State.admitted_keeps {s0 s : State} (h0 : Keeps s0 s) (n : _) (a : _) : Keeps s0 (State.admitted s n a) := by
  unfold State.admitted
  extract_lets v0 v1 v2 v3 m v4 v5 v6 v7
  try clear_value v1
  have k0 : Keeps s0 v0 := by
    unfold v0
    repeat' (first | with_reducible assumption | with_reducible apply State.setDirEnt_keeps)
  try clear_value v0
  have k2 : Keeps s0 v2 := by
    unfold v2
    repeat' (first | with_reducible assumption | with_reducible apply State.setDirOf_keeps)
  try clear_value v2
  have k3 : Keeps s0 v3 := by
    unfold v3
    repeat' (first
      | with_reducible (first | assumption | apply State.setSfState_keeps | apply State.set_keeps))
  try clear_value v3
  have k4 : Keeps s0 v4 := by
    unfold v4
    repeat' (first
      | with_reducible (first | assumption | apply State.set_keeps | apply Keeps.ite)
      | fail_if_no_progress (with_reducible apply Keeps.upd <;> try with_reducible rfl))
  try clear_value v4
  have k5 : Keeps s0 v5 := by
    unfold v5
    repeat' (first
      | with_reducible (first | assumption | apply State.set_keeps | apply Keeps.ite))
  try clear_value v5
  repeat' (first
    | with_reducible (first | assumption | apply State.sendKeepalive_keeps)
    | fail_if_no_progress (with_reducible apply Keeps.upd <;> try with_reducible rfl))

theorem State.joinAnswer_keeps {s0 s : State} (h0 : Keeps s0 s) (n : _) (f : _) :
    Keeps s0 (State.joinAnswer s n f) := by
  unfold State.joinAnswer
  extract_lets v0 v1
  try clear_value v0
  repeat' (first
    | with_reducible (first
      | assumption | apply State.answerDown_keeps | apply State.admitted_keeps | apply State.joinFail_keeps
      | apply Keeps.ite)
    | fail_if_no_progress (with_reducible apply Keeps.upd <;> try with_reducible rfl) | split)

theorem execAdmitReceived_keeps {s0 s : State} (h0 : Keeps s0 s) (n : _) : OutKeeps s0 (execAdmitReceived n s) := by
  unfold execAdmitReceived
  repeat' (first
    | with_reducible (first | assumption | apply State.takeRx_keeps | apply State.joinAnswer_keeps)
    | extract_lets
    | with_reducible apply OutKeeps.next
    | intro _ _ _ | intro _)

theorem State.deferSlot_keeps {s0 s : State} (h0 : Keeps s0 s) (n : _) : Keeps s0 (State.deferSlot s n) := by
  unfold State.deferSlot
  repeat' (first | with_reducible assumption | with_reducible apply State.setCsma_keeps)

theorem State.prioritySymbol_keeps {s0 s : State} (h0 : Keeps s0 s) (n : _) :
    Keeps s0 (State.prioritySymbol s n) := by
  unfold State.prioritySymbol
  extract_lets v0
  try clear_value v0
  repeat' (first | with_reducible assumption | with_reducible apply State.addOnTime_keeps)

theorem State.beginBackoff_keeps {s0 s : State} (h0 : Keeps s0 s) (n : _) (q : _) (f : _) :
    Keeps s0 (State.beginBackoff s n q f) := by
  unfold State.beginBackoff
  extract_lets v0
  try clear_value v0
  repeat' (first
    | with_reducible (first
      | assumption | apply State.takeFree_keeps | apply State.setFrame_keeps | apply State.setCsma_keeps)
    | split)

theorem State.prioStep_keeps {s0 s : State} (h0 : Keeps s0 s) (n : _) (k : _) (q : _) (f : _) (heard : _) :
    Keeps s0 (State.prioStep s n k q f heard) := by
  unfold State.prioStep
  extract_lets v0 v1 v2 v3
  try clear_value v0; try clear_value v1
  have k2 : Keeps s0 v2 := by
    unfold v2
    repeat' (first
      | with_reducible (first | assumption | apply State.prioritySymbol_keeps | apply Keeps.ite))
  try clear_value v2
  repeat' (first
    | with_reducible (first
      | assumption | apply State.deferSlot_keeps | apply State.setCsma_keeps | apply State.beginBackoff_keeps
      | apply Keeps.ite))

theorem execPrioritySlot_keeps {s0 s : State} (h0 : Keeps s0 s) (n : _) (heard : _) :
    OutKeeps s0 (execPrioritySlot n heard s) := by
  unfold execPrioritySlot
  repeat' (first
    | with_reducible (first | assumption | apply State.prioStep_keeps)
    | split
    | with_reducible apply OutKeeps.next)

theorem execPartnerAbsent_keeps {s0 s : State} (h0 : Keeps s0 s) (addr : _) :
    OutKeeps s0 (execPartnerAbsent addr s) := by
  unfold execPartnerAbsent
  extract_lets v0 v1
  try clear_value v0; try clear_value v1
  repeat' (first
    | with_reducible (first | assumption | apply State.setPresence_keeps)
    | split
    | with_reducible apply OutKeeps.next)

theorem execBackoffSlot_keeps {s0 s : State} (h0 : Keeps s0 s) (n : _) (idle : _) :
    OutKeeps s0 (execBackoffSlot n idle s) := by
  unfold execBackoffSlot
  extract_lets v0
  repeat' (first
    | with_reducible (first | assumption | apply State.setCsma_keeps | apply State.setFrame_keeps)
    | split | extract_lets
    | with_reducible apply OutKeeps.next)

theorem State.relayKnock_keeps {s0 s : State} (h0 : Keeps s0 s) (n : _) (f : _) :
    Keeps s0 (State.relayKnock s n f) := by
  unfold State.relayKnock
  extract_lets v0 v1
  try clear_value v0
  repeat' (first
    | with_reducible (first | assumption | apply State.sendCtrl_keeps | apply Keeps.ite)
    | fail_if_no_progress (with_reducible apply Keeps.upd <;> try with_reducible rfl))

theorem State.authDown_keeps {s0 s : State} (h0 : Keeps s0 s) (body : _) : Keeps s0 (State.authDown s body) := by
  unfold State.authDown
  repeat' (first | with_reducible assumption | with_reducible apply State.sendMac_keeps | split)

theorem State.joinRequest_keeps {s0 s : State} (h0 : Keeps s0 s) (r : _) : Keeps s0 (State.joinRequest s r) := by
  unfold State.joinRequest
  extract_lets v0 v1 v2
  try clear_value v0
  have k2 : Keeps s0 v2 := by
    unfold v2
    repeat' (first
      | with_reducible assumption
      | fail_if_no_progress (with_reducible apply Keeps.upd <;> try with_reducible rfl))
  try clear_value v2
  repeat' (first | with_reducible assumption | with_reducible apply State.notify_keeps)

theorem State.knockAt_keeps {s0 s : State} (h0 : Keeps s0 s) (n : _) (r : _) (domain : _) :
    Keeps s0 (State.knockAt s n r domain) := by
  unfold State.knockAt
  extract_lets v0
  repeat' (first
    | with_reducible (first
      | assumption | apply State.sendAnswer_keeps | apply State.joinRequest_keeps | apply Keeps.ite)
    | fail_if_no_progress (with_reducible apply Keeps.upd <;> try with_reducible rfl))

theorem State.knockFwd_keeps {s0 s : State} (h0 : Keeps s0 s) (n : _) (f : _) : Keeps s0 (State.knockFwd s n f) := by
  unfold State.knockFwd
  extract_lets v0
  try clear_value v0
  repeat' (first
    | with_reducible (first
      | assumption | apply State.authDown_keeps | apply State.sendCtrl_keeps | apply State.knockAt_keeps
      | apply State.tunnel_keeps | apply Keeps.ite))

theorem State.knockIn_keeps {s0 s : State} (h0 : Keeps s0 s) (n : _) (f : _) : Keeps s0 (State.knockIn s n f) := by
  unfold State.knockIn
  repeat' (first
    | with_reducible (first
      | assumption | apply State.relayKnock_keeps | apply State.knockAt_keeps | apply Keeps.ite))

theorem execKnockTimeout_keeps {s0 s : State} (h0 : Keeps s0 s)  : OutKeeps s0 (execKnockTimeout s) := by
  unfold execKnockTimeout
  extract_lets v0
  repeat' (first
    | with_reducible (first | assumption | apply State.sendKnock_keeps | apply State.joinFail_keeps)
    | fail_if_no_progress (with_reducible apply Keeps.upd <;> try with_reducible rfl) | split
    | with_reducible apply OutKeeps.next)

theorem execRejectReceived_keeps {s0 s : State} (h0 : Keeps s0 s) (n : _) : OutKeeps s0 (execRejectReceived n s) := by
  unfold execRejectReceived
  repeat' (first
    | with_reducible (first | assumption | apply State.takeRx_keeps | apply State.joinAnswer_keeps)
    | extract_lets
    | with_reducible apply OutKeeps.next
    | intro _ _ _ | intro _)

theorem State.authIn_keeps {s0 s : State} (h0 : Keeps s0 s) (f : _) : Keeps s0 (State.authIn s f) := by
  unfold State.authIn
  repeat' (first
    | with_reducible (first | assumption | apply State.sendCtrl_keeps | apply State.tunnel_keeps | apply Keeps.ite))

theorem execKnockReceived_keeps {s0 s : State} (h0 : Keeps s0 s) (n : _) : OutKeeps s0 (execKnockReceived n s) := by
  unfold execKnockReceived
  repeat' (first
    | with_reducible (first | assumption | apply State.takeRx_keeps | apply State.knockIn_keeps)
    | extract_lets
    | with_reducible apply OutKeeps.next
    | intro _ _ _ | intro _)

theorem execPendingReceived_keeps {s0 s : State} (h0 : Keeps s0 s) (n : _) :
    OutKeeps s0 (execPendingReceived n s) := by
  unfold execPendingReceived
  repeat' (first
    | with_reducible (first | assumption | apply State.takeRx_keeps | apply State.joinAnswer_keeps)
    | extract_lets
    | with_reducible apply OutKeeps.next
    | intro _ _ _ | intro _)

theorem execAuthFrameReceived_keeps {s0 s : State} (h0 : Keeps s0 s) (n : _) :
    OutKeeps s0 (execAuthFrameReceived n s) := by
  unfold execAuthFrameReceived
  repeat' (first
    | with_reducible (first | assumption | apply State.takeRx_keeps | apply State.authIn_keeps)
    | extract_lets
    | with_reducible apply OutKeeps.next
    | intro _ _ _ | intro _)

theorem execKeepaliveDue_keeps {s0 s : State} (h0 : Keeps s0 s)  : OutKeeps s0 (execKeepaliveDue s) := by
  unfold execKeepaliveDue
  extract_lets v0
  try clear_value v0
  repeat' (first
    | with_reducible (first | assumption | apply State.sendKeepalive_keeps)
    | split
    | with_reducible apply OutKeeps.next)

theorem State.broadcastCopy_keeps {s0 s : State} (h0 : Keeps s0 s) (n : _) (f : _) (body : _) :
    Keeps s0 (State.broadcastCopy s n f body) := by
  unfold State.broadcastCopy
  extract_lets v0 v1 v2
  try clear_value v0; try clear_value v1
  repeat' (first
    | with_reducible (first
      | assumption | apply State.linkFrame_keeps | apply State.takeCells_keeps | apply State.countNoCell_keeps
      | apply Keeps.ite))

theorem State.broadcast_keeps {s0 s : State} (h0 : Keeps s0 s) (f : _) (body : _) :
    Keeps s0 (State.broadcast s f body) := by
  unfold State.broadcast
  repeat' (first
    | with_reducible (first
      | assumption | apply State.bump_keeps | apply Keeps.forN | apply State.broadcastCopy_keeps | apply Keeps.ite)
    | extract_lets | intro _ _ _)

theorem State.relayProven_keeps {s0 s : State} (h0 : Keeps s0 s) (q : _) (g : _) (body : _) :
    Keeps s0 (State.relayProven s q g body) := by
  unfold State.relayProven
  extract_lets v0
  try clear_value v0
  repeat' (first
    | with_reducible (first | assumption | apply State.obtainKey_keeps | apply State.setFrame_keeps)
    | fail_if_no_progress (with_reducible apply Keeps.upd <;> try with_reducible rfl))

theorem State.dropSource_keeps {s0 s : State} (h0 : Keeps s0 s) (src : _) : Keeps s0 (State.dropSource s src) := by
  unfold State.dropSource
  repeat' (first
    | with_reducible (first | assumption | apply State.bump_keeps | apply Keeps.ite))

theorem State.relay_keeps {s0 s : State} (h0 : Keeps s0 s) (f : _) (body : _) : Keeps s0 (State.relay s f body) := by
  unfold State.relay
  extract_lets v0 v1
  try clear_value v1
  repeat' (first
    | with_reducible (first
      | assumption | apply State.relayProven_keeps | apply State.returnRx_keeps | apply State.bump_keeps
      | apply State.dropSource_keeps | apply State.linkFrame_keeps | apply Keeps.ite)
    | split)

theorem State.deliver_keeps {s0 s : State} (h0 : Keeps s0 s) (f : _) (body : _) (ses : _) :
    Keeps s0 (State.deliver s f body ses) := by
  unfold State.deliver
  repeat' (first
    | with_reducible (first
      | assumption | apply State.toHost_keeps | apply State.broadcast_keeps | apply State.relay_keeps
      | apply Keeps.ite))

theorem State.refuseRx_keeps {s0 s : State} (h0 : Keeps s0 s) (f : _) : Keeps s0 (State.refuseRx s f) := by
  unfold State.refuseRx
  repeat' (first | with_reducible assumption | with_reducible apply State.poisonRelay_keeps)

theorem State.loseRx_keeps {s0 s : State} (h0 : Keeps s0 s) (f : _) : Keeps s0 (State.loseRx s f) := by
  unfold State.loseRx
  repeat' (first
    | with_reducible (first | assumption | apply State.refuseRx_keeps | apply State.returnRx_keeps | apply Keeps.ite))

theorem State.verified_keeps {s0 s : State} (h0 : Keeps s0 s) (f : _) (ses : _) (body : _) :
    Keeps s0 (State.verified s f ses body) := by
  unfold State.verified
  repeat' (first
    | with_reducible (first
      | assumption | apply State.deliver_keeps | apply State.proven_keeps | apply State.setSes_keeps
      | apply State.loseRx_keeps | apply State.bump_keeps | apply Keeps.ite)
    | split)

theorem State.admitData_keeps {s0 s : State} (h0 : Keeps s0 s) (f : _) : Keeps s0 (State.admitData s f).2 := by
  unfold State.admitData
  repeat' (first | with_reducible assumption | with_reducible apply State.admitRx_keeps | split)

theorem State.dispatch_keeps {s0 s : State} (h0 : Keeps s0 s) (f : _) (ses : _) :
    Keeps s0 (State.dispatch s f ses) := by
  unfold State.dispatch
  extract_lets v0
  repeat' (first
    | with_reducible (first
      | assumption | apply State.cphRequest_keeps | apply State.verified_keeps | apply Keeps.ite)
    | fail_if_no_progress (with_reducible apply Keeps.upd <;> try with_reducible rfl) | split)

theorem State.judge_keeps {s0 s : State} (h0 : Keeps s0 s) (n : _) (f : _) (k : _) :
    Keeps s0 (State.judge s n f k) := by
  unfold State.judge
  repeat' (first
    | with_reducible (first
      | assumption | apply State.loseRx_keeps | apply State.fire_keeps | apply State.bump_keeps
      | apply State.planAck_keeps | apply State.dispatch_keeps | apply State.setSes_keeps)
    | split)

theorem State.dataIn_keeps {s0 s : State} (h0 : Keeps s0 s) (n : _) (f : _) : Keeps s0 (State.dataIn s n f) := by
  unfold State.dataIn
  extract_lets v0 v1 v2
  try clear_value v0; try clear_value v1; try clear_value v2
  repeat' (first
    | with_reducible (first
      | assumption | apply State.loseRx_keeps | apply State.dropSource_keeps | apply State.bump_keeps
      | apply State.admitData_keeps | apply State.dispatch_keeps | apply State.judge_keeps
      | apply State.planAck_keeps | apply Keeps.ite)
    | split)

theorem State.takeStream_keeps {s0 s t : State} (h0 : Keeps s0 s) {e : Nat} {d : Dispatch}
    (h : s.takeStream e = some (d, t)) : Keeps s0 t := by
  unfold State.takeStream at h
  split at h
  · split at h
    · rw [Option.map_eq_some_iff] at h
      obtain ⟨x, -, hx⟩ := h
      cases hx
      exact (State.cphEnd_keeps h0 _).upd _ _ _ _ _ _ _ _ _ _ _ _ _ _ _ _ _ _ rfl rfl rfl
    · cases h
  · cases h

theorem State.tagGood_keeps {s0 s : State} (h0 : Keeps s0 s) (d : _) : Keeps s0 (State.tagGood s d) := by
  unfold State.tagGood
  repeat' (first
    | with_reducible (first
      | assumption | apply State.obtainKey_keeps | apply State.verified_keeps | apply State.loseRx_keeps
      | apply State.keyFail_keeps | refine Keeps.snd (by assumption) ?_)
    | split)

theorem execTagVerified_keeps {s0 s : State} (h0 : Keeps s0 s) (e : _) : OutKeeps s0 (execTagVerified e s) := by
  unfold execTagVerified
  repeat' (first
    | with_reducible assumption
    | exact State.takeStream_keeps h0 (by assumption)
    | with_reducible apply State.tagGood_keeps
    | split
    | with_reducible apply OutKeeps.next)

theorem State.cutLaunch_keeps {s0 s : State} (h0 : Keeps s0 s) (n : _) (out : _) (o : _) (q : _) (a : _) (f : _)
    (m : _) (dur : _) : Keeps s0 (State.cutLaunch s n out o q a f m dur) := by
  unfold State.cutLaunch
  extract_lets v0
  repeat' (first
    | with_reducible (first
      | assumption | apply State.takeCounter_keeps | apply State.setFrames_keeps | apply State.takeCells_keeps
      | apply State.bump_keeps | apply State.setQueue_keeps | apply State.windowOf_keeps | apply State.busyNow_keeps
      | apply State.airBegin_keeps | apply State.setCsma_keeps | refine Keeps.snd (by assumption) ?_)
    | fail_if_no_progress (with_reducible apply Keeps.upd <;> try with_reducible rfl) | split)

theorem State.leaveP_keeps {s0 s : State} (h0 : Keeps s0 s) (d : _) : Keeps s0 (State.leaveP s d) := by
  unfold State.leaveP
  repeat' (first | with_reducible assumption | with_reducible apply State.setSes_keeps)

theorem State.tagBad_keeps {s0 s : State} (h0 : Keeps s0 s) (d : _) : Keeps s0 (State.tagBad s d) := by
  unfold State.tagBad
  extract_lets v0 v1 v2
  try clear_value v1; try clear_value v2
  have k0 : Keeps s0 v0 := by
    unfold v0
    repeat' (first
      | with_reducible (first
        | assumption | apply State.bump_keeps | apply State.fire_keeps | apply State.leaveP_keeps))
  try clear_value v0
  repeat' (first
    | with_reducible (first | assumption | apply State.toHost_keeps | apply State.loseRx_keeps | apply Keeps.ite))

theorem execAuthFail_keeps {s0 s : State} (h0 : Keeps s0 s) (e : _) : OutKeeps s0 (execAuthFail e s) := by
  unfold execAuthFail
  repeat' (first
    | with_reducible assumption
    | exact State.takeStream_keeps h0 (by assumption)
    | with_reducible apply State.tagBad_keeps
    | split
    | with_reducible apply OutKeeps.next)

theorem State.judged_keeps {s0 s : State} (h0 : Keeps s0 s) (n : _) (f : _) (poll : _) (act : _)
    (h_act : ∀ s0 t, Keeps s0 t → Keeps s0 (act t)) : Keeps s0 (State.judged s n f poll act) := by
  unfold State.judged
  repeat' (first
    | with_reducible (first
      | assumption | apply State.dropSource_keeps | apply State.judgeSeq_keeps
      | apply State.planAck_keeps | apply h_act | refine Keeps.snd (by assumption) ?_ | apply Keeps.ite)
    | split)

theorem execCtrlFrameReceived_keeps {s0 s : State} (h0 : Keeps s0 s) (n : _) :
    OutKeeps s0 (execCtrlFrameReceived n s) := by
  unfold execCtrlFrameReceived
  repeat' (first
    | with_reducible (first | assumption | apply State.takeRx_keeps | apply State.judged_keeps)
    | extract_lets
    | with_reducible apply OutKeeps.next
    | intro _ _ _ | intro _ | simp only [id_eq])

theorem execHoldExpiry_keeps {s0 s : State} (h0 : Keeps s0 s) (q : _) : OutKeeps s0 (execHoldExpiry q s) := by
  unfold execHoldExpiry
  extract_lets v0 v1
  try clear_value v0; try clear_value v1
  repeat' (first
    | with_reducible (first
      | assumption | apply Keeps.forEach | apply State.bump_keeps | apply State.completeTx_keeps)
    | split | extract_lets
    | with_reducible apply OutKeeps.next
    | intro _ _ _)

theorem execPollReceived_keeps {s0 s : State} (h0 : Keeps s0 s) (n : _) : OutKeeps s0 (execPollReceived n s) := by
  unfold execPollReceived
  repeat' (first
    | with_reducible (first | assumption | apply State.takeRx_keeps | apply State.judged_keeps)
    | extract_lets
    | with_reducible apply OutKeeps.next
    | intro _ _ _ | intro _ | simp only [id_eq])

theorem execServicePeriodEnd_keeps {s0 s : State} (h0 : Keeps s0 s) (addr : _) :
    OutKeeps s0 (execServicePeriodEnd addr s) := by
  unfold execServicePeriodEnd
  extract_lets v0
  repeat' (first
    | with_reducible assumption
    | fail_if_no_progress (with_reducible apply Keeps.upd <;> try with_reducible rfl) | split
    | with_reducible apply OutKeeps.next)

theorem State.openService_keeps {s0 s : State} (h0 : Keeps s0 s) (addr : _) (stop : _) :
    Keeps s0 (State.openService s addr stop) := by
  unfold State.openService
  extract_lets v0
  repeat' (first
    | with_reducible assumption
    | fail_if_no_progress (with_reducible apply Keeps.upd <;> try with_reducible rfl))

theorem State.launchAck_keeps {s0 s : State} (h0 : Keeps s0 s) (n : _) (k : _) :
    Keeps s0 (State.launchAck s n k) := by
  unfold State.launchAck
  extract_lets v0 v1 v2 v3 v4 v5 v6 v7 v8 v9 v10 v11
  try clear_value v0; try clear_value v1; try clear_value v2; try clear_value v3; try clear_value v5;
      try clear_value v6
  have k8 : Keeps s0 v8 := by
    unfold v8
    repeat' (first | with_reducible assumption | with_reducible apply State.setTxPort_keeps)
  try clear_value v8
  have k9 : Keeps s0 v9 := by
    unfold v9
    repeat' (first | with_reducible assumption | with_reducible apply State.airBegin_keeps)
  try clear_value v9
  have k11 : Keeps s0 v11 := by
    unfold v11
    repeat' (first
      | with_reducible assumption
      | fail_if_no_progress (with_reducible apply Keeps.upd <;> try with_reducible rfl))
  try clear_value v11
  repeat' (first
    | with_reducible (first | assumption | apply State.openService_keeps | apply Keeps.ite))

theorem State.tryAck_keeps {s0 s : State} (h0 : Keeps s0 s) (n : _) (k : _) : Keeps s0 (State.tryAck s n k) := by
  unfold State.tryAck
  extract_lets v0 v1 v2 v3 v4
  try clear_value v0; try clear_value v1; try clear_value v2; try clear_value v3
  repeat' (first
    | with_reducible (first
      | assumption | apply State.setTxPort_keeps | apply State.launchAck_keeps | apply State.ldPlanLaunch_keeps
      | apply Keeps.ite))

theorem execAckWindowClose_keeps {s0 s : State} (h0 : Keeps s0 s) (n : _) : OutKeeps s0 (execAckWindowClose n s) := by
  unfold execAckWindowClose
  extract_lets v0 v1
  have k1 : Keeps s0 v1 := by
    unfold v1
    repeat' (first | with_reducible assumption | with_reducible apply State.setTxPort_keeps)
  try clear_value v1
  repeat' (first
    | with_reducible (first | assumption | apply State.failAttempt_keeps)
    | split
    | with_reducible apply OutKeeps.next)

theorem execDataFrameReceived_keeps {s0 s : State} (h0 : Keeps s0 s) (n : _) :
    OutKeeps s0 (execDataFrameReceived n s) := by
  unfold execDataFrameReceived
  repeat' (first
    | with_reducible (first | assumption | apply State.takeRx_keeps | apply State.dataIn_keeps)
    | extract_lets
    | with_reducible apply OutKeeps.next
    | intro _ _ _ | intro _)

theorem State.endService_keeps {s0 s : State} (h0 : Keeps s0 s) (f : _) : Keeps s0 (State.endService s f) := by
  unfold State.endService
  extract_lets v0
  repeat' (first
    | with_reducible (first | assumption | apply Keeps.ite)
    | fail_if_no_progress (with_reducible apply Keeps.upd <;> try with_reducible rfl))

theorem State.ackIn_keeps {s0 s : State} (h0 : Keeps s0 s) (n : _) (f : _) : Keeps s0 (State.ackIn s n f) := by
  unfold State.ackIn
  extract_lets v0
  try clear_value v0
  repeat' (first
    | with_reducible (first
      | assumption | apply State.completeTx_keeps | apply State.endService_keeps
      | apply State.bump_keeps | apply Keeps.ite)
    | split)

theorem execAckLaunch_keeps {s0 s : State} (h0 : Keeps s0 s) (n : _) : OutKeeps s0 (execAckLaunch n s) := by
  unfold execAckLaunch
  repeat' (first
    | with_reducible (first | assumption | apply State.tryAck_keeps)
    | split
    | with_reducible apply OutKeeps.next)

theorem State.tmfb_keeps {s0 s : State} (h0 : Keeps s0 s) (n : _) (f : _) : Keeps s0 (State.tmfb s n f) := by
  unfold State.tmfb
  extract_lets v0 v1 v2 v3 v4 v5
  try clear_value v0; try clear_value v1; try clear_value v2; try clear_value v3; try clear_value v4;
      try clear_value v5
  repeat' (first
    | with_reducible (first | assumption | apply State.writeRec_keeps | apply State.bump_keeps | apply Keeps.ite)
    | split)

theorem execKnockfwdReceived_keeps {s0 s : State} (h0 : Keeps s0 s) (n : _) :
    OutKeeps s0 (execKnockfwdReceived n s) := by
  unfold execKnockfwdReceived
  repeat' (first
    | with_reducible (first
      | assumption | apply State.takeRx_keeps | apply State.judged_keeps | apply State.knockFwd_keeps)
    | extract_lets
    | with_reducible apply OutKeeps.next
    | intro _ _ _ | intro _)

theorem execAckReceived_keeps {s0 s : State} (h0 : Keeps s0 s) (n : _) : OutKeeps s0 (execAckReceived n s) := by
  unfold execAckReceived
  repeat' (first
    | with_reducible (first | assumption | apply State.takeRx_keeps | apply State.ackIn_keeps)
    | extract_lets
    | with_reducible apply OutKeeps.next
    | intro _ _ _ | intro _)

theorem execTmfbReceived_keeps {s0 s : State} (h0 : Keeps s0 s) (n : _) : OutKeeps s0 (execTmfbReceived n s) := by
  unfold execTmfbReceived
  repeat' (first
    | with_reducible (first
      | assumption | apply State.takeRx_keeps | apply State.judged_keeps | apply State.tmfb_keeps)
    | extract_lets
    | with_reducible apply OutKeeps.next
    | intro _ _ _ | intro _)

theorem State.cutStart_keeps {s0 s : State} (h0 : Keeps s0 s) (n : _) (out : _) (a : _) (h : _) :
    Keeps s0 (State.cutStart s n out a h) := by
  unfold State.cutStart
  extract_lets v0
  try clear_value v0
  repeat' (first
    | with_reducible (first
      | assumption | apply State.mapOf_keeps | apply State.cutLaunch_keeps | refine Keeps.snd2 (by assumption) ?_
      | apply Keeps.ite)
    | split | extract_lets)

theorem execCutThroughRelayStart_keeps {s0 s : State} (h0 : Keeps s0 s) (n : _) (out : _) :
    OutKeeps s0 (execCutThroughRelayStart n out s) := by
  unfold execCutThroughRelayStart
  extract_lets v0
  try clear_value v0
  repeat' (first
    | with_reducible (first | assumption | apply State.cutStart_keeps)
    | split
    | with_reducible apply OutKeeps.next)

theorem State.noteHop_keeps {s0 s : State} (h0 : Keeps s0 s) (d : _) : Keeps s0 (State.noteHop s d) := by
  unfold State.noteHop
  extract_lets v0 v1
  try clear_value v0
  repeat' (first
    | with_reducible (first | assumption | apply State.set_keeps)
    | fail_if_no_progress (with_reducible apply Keeps.upd <;> try with_reducible rfl))

theorem State.rangeAnswer_keeps {s0 s : State} (h0 : Keeps s0 s) (n : _) (f : _) :
    Keeps s0 (State.rangeAnswer s n f) := by
  unfold State.rangeAnswer
  extract_lets v0 v1 v2
  try clear_value v0
  have k2 : Keeps s0 v2 := by
    unfold v2
    repeat' (first
      | with_reducible assumption
      | fail_if_no_progress (with_reducible apply Keeps.upd <;> try with_reducible rfl))
  try clear_value v2
  repeat' (first
    | with_reducible (first | assumption | apply State.noteHop_keeps | apply Keeps.ite)
    | split)

theorem State.impedance_keeps {s0 s : State} (h0 : Keeps s0 s) (n : _) (f : _) :
    Keeps s0 (State.impedance s n f) := by
  unfold State.impedance
  repeat' (first
    | with_reducible (first
      | assumption | apply State.takeFree_keeps | apply State.telemetry_keeps | apply Keeps.ite))

theorem State.noteDelay_keeps {s0 s : State} (h0 : Keeps s0 s) (n : _) (f : _) :
    Keeps s0 (State.noteDelay s n f) := by
  unfold State.noteDelay
  extract_lets v0
  repeat' (first
    | with_reducible assumption
    | fail_if_no_progress (with_reducible apply Keeps.upd <;> try with_reducible rfl) | split)

theorem State.sounded_keeps {s0 s : State} (h0 : Keeps s0 s) (n : _) (f : _) : Keeps s0 (State.sounded s n f) := by
  unfold State.sounded
  repeat' (first
    | with_reducible (first
      | assumption | apply State.impedance_keeps | apply State.noteDelay_keeps))

theorem State.g3Ack_keeps {s0 s : State} (h0 : Keeps s0 s) (n : _) (t : _) (f : _) :
    Keeps s0 (State.g3Ack s n t f) := by
  unfold State.g3Ack
  repeat' (first
    | with_reducible (first | assumption | apply State.completeTx_keeps | apply Keeps.ite)
    | split)

theorem State.g3Accept_keeps {s0 s : State} (h0 : Keeps s0 s) (n : _) (f : _) (r : _) :
    Keeps s0 (State.g3Accept s n f r) := by
  unfold State.g3Accept
  extract_lets v0 v1 v2 v3 v4
  try clear_value v0
  have k2 : Keeps s0 v2 := by
    unfold v2
    repeat' (first
      | with_reducible assumption
      | fail_if_no_progress (with_reducible apply Keeps.upd <;> try with_reducible rfl))
  try clear_value v2
  have k4 : Keeps s0 v4 := by
    unfold v4
    repeat' (first
      | with_reducible (first | assumption | apply Keeps.ite)
      | fail_if_no_progress (with_reducible apply Keeps.upd <;> try with_reducible rfl))
  try clear_value v4
  repeat' (first
    | with_reducible (first | assumption | apply State.tunnel_keeps | apply Keeps.ite))

theorem State.g3In_keeps {s0 s : State} (h0 : Keeps s0 s) (n : _) (f : _) (r : _) :
    Keeps s0 (State.g3In s n f r) := by
  unfold State.g3In
  extract_lets v0 v1 v2
  try clear_value v0
  have k2 : Keeps s0 v2 := by
    unfold v2
    repeat' (first
      | with_reducible (first | assumption | apply State.setTxPort_keeps | apply Keeps.ite))
  try clear_value v2
  repeat' (first
    | with_reducible (first
      | assumption | apply State.g3Ack_keeps | apply State.g3Accept_keeps | apply State.bump_keeps | apply Keeps.ite)
    | split)

theorem State.soundIn_keeps {s0 s : State} (h0 : Keeps s0 s) (n : _) (f : _) (act : _)
    (h_act : ∀ s0 t, Keeps s0 t → Keeps s0 (act t)) : Keeps s0 (State.soundIn s n f act) := by
  unfold State.soundIn
  repeat' (first
    | with_reducible (first
      | assumption | apply State.dropSource_keeps | apply State.sounded_keeps | apply h_act | apply Keeps.ite))

theorem State.g3Good_keeps {s0 s : State} (h0 : Keeps s0 s) (n : _) (a : _) (f : _) :
    Keeps s0 (State.g3Good s n a f) := by
  unfold State.g3Good
  extract_lets v0 v1 v2 v3
  try clear_value v0
  have k2 : Keeps s0 v2 := by
    unfold v2
    repeat' (first
      | with_reducible (first
        | assumption | apply State.bump_keeps | apply State.setArc_keeps | apply State.arcPass_keeps
        | apply Keeps.ite))
  try clear_value v2
  have k3 : Keeps s0 v3 := by
    unfold v3
    repeat' (first
      | with_reducible (first
        | assumption | apply State.bump_keeps | apply State.dropAcq_keeps | apply State.fire_keeps))
  try clear_value v3
  repeat' (first | with_reducible assumption | with_reducible apply State.rxOpenNext_keeps)

theorem execG9903FrameReceived_keeps {s0 s : State} (h0 : Keeps s0 s) (n : _) (f : _) :
    OutKeeps s0 (execG9903FrameReceived n f s) := by
  unfold execG9903FrameReceived
  extract_lets v0 v1
  try clear_value v0
  have k1 : Keeps s0 v1 := by
    unfold v1
    repeat' (first
      | with_reducible (first | assumption | apply Keeps.forEach | apply State.rxFail_keeps)
      | extract_lets | intro _ _ _)
  try clear_value v1
  repeat' (first
    | with_reducible (first | assumption | apply State.g3In_keeps | apply State.g3Good_keeps)
    | split | extract_lets
    | with_reducible apply OutKeeps.next)

theorem State.sendSounding_keeps {s0 s : State} (h0 : Keeps s0 s) (n : _) (to_ : _) (type : _) (rseq : _)
    (turn : _) : Keeps s0 (State.sendSounding s n to_ type rseq turn) := by
  unfold State.sendSounding
  repeat' (first | with_reducible assumption | with_reducible apply State.sendMac_keeps)

theorem execRangingDue_keeps {s0 s : State} (h0 : Keeps s0 s)  : OutKeeps s0 (execRangingDue s) := by
  unfold execRangingDue
  extract_lets v0 v1
  have k1 : Keeps s0 v1 := by
    unfold v1
    repeat' (first
      | with_reducible assumption
      | fail_if_no_progress (with_reducible apply Keeps.upd <;> try with_reducible rfl))
  try clear_value v1
  repeat' (first
    | with_reducible (first | assumption | apply State.sendSounding_keeps)
    | split
    | with_reducible apply OutKeeps.next)

theorem execSoundingFrameReceived_keeps {s0 s : State} (h0 : Keeps s0 s) (n : _) :
    OutKeeps s0 (execSoundingFrameReceived n s) := by
  unfold execSoundingFrameReceived
  repeat' (first
    | with_reducible (first | assumption | apply State.takeRx_keeps | apply State.soundIn_keeps)
    | extract_lets
    | with_reducible apply OutKeeps.next
    | intro _ _ _ | intro _ | simp only [id_eq])

theorem execRangeReqReceived_keeps {s0 s : State} (h0 : Keeps s0 s) (n : _) :
    OutKeeps s0 (execRangeReqReceived n s) := by
  unfold execRangeReqReceived
  repeat' (first
    | with_reducible (first
      | assumption | apply State.takeRx_keeps | apply State.soundIn_keeps | apply State.sendSounding_keeps
      | apply Keeps.ite)
    | extract_lets
    | with_reducible apply OutKeeps.next
    | intro _ _ _ | intro _)

theorem execRangeRspReceived_keeps {s0 s : State} (h0 : Keeps s0 s) (n : _) :
    OutKeeps s0 (execRangeRspReceived n s) := by
  unfold execRangeRspReceived
  repeat' (first
    | with_reducible (first
      | assumption | apply State.takeRx_keeps | apply State.soundIn_keeps | apply State.rangeAnswer_keeps)
    | extract_lets
    | with_reducible apply OutKeeps.next
    | intro _ _ _ | intro _)

end Sys2Proof.Machine
end

