-- ==== Sys2Proof/Laws/KeepsHost.lean ====
section
/-! SUPPORT. One lemma per operation: what Keeps names is kept by the Boulevard, the cipher engines, the memories and the host interface. -/

namespace Sys2Proof.Machine

theorem State.rebuildNow_keeps {s0 s : State} (h0 : Keeps s0 s)  : Keeps s0 (State.rebuildNow s) := by
  unfold State.rebuildNow
  repeat' (first
    | with_reducible (first
      | assumption | apply State.startRebuild_keeps | apply State.raiseFlag_keeps | apply Keeps.ite))

theorem State.poolcfgWrite_keeps {s0 s : State} (h0 : Keeps s0 s) (data : _) :
    Keeps s0 (State.poolcfgWrite s data) := by
  unfold State.poolcfgWrite
  extract_lets v0 v1
  try clear_value v0
  have k1 : Keeps s0 v1 := by
    unfold v1
    repeat' (first
      | with_reducible (first
        | assumption | apply State.showAct_keeps | apply State.set_keeps | apply State.clearW1c_keeps))
  try clear_value v1
  repeat' (first
    | with_reducible (first
      | assumption | apply State.raiseFlag_keeps | apply State.rebuildNow_keeps | apply Keeps.ite))

theorem State.poolWrite_keeps {s0 s : State} (h0 : Keeps s0 s) (k : _) (data : _) :
    Keeps s0 (State.poolWrite s k data) := by
  unfold State.poolWrite
  repeat' (first
    | with_reducible (first | assumption | apply State.setReg_keeps | apply State.raiseFlag_keeps | apply Keeps.ite))

theorem execPoolConfigWrite_keeps {s0 s : State} (h0 : Keeps s0 s) (k : _) (data : _) :
    OutKeeps s0 (execPoolConfigWrite k data s) := by
  unfold execPoolConfigWrite
  repeat' (first
    | with_reducible (first
      | assumption | apply State.hostWrite_keeps | apply State.poolcfgWrite_keeps | apply State.poolWrite_keeps)
    | split | extract_lets
    | with_reducible apply OutKeeps.next
    | intro _ _ _)

theorem State.toQuar_keeps {s0 s : State} (h0 : Keeps s0 s) (m : _) : Keeps s0 (State.toQuar s m) := by
  unfold State.toQuar
  extract_lets v0 v1
  repeat' (first
    | with_reducible assumption
    | fail_if_no_progress (with_reducible apply Keeps.upd <;> try with_reducible rfl))

theorem State.txLost_keeps {s0 s : State} (h0 : Keeps s0 s) (n q : _) (f : _) :
    Keeps s0 (State.txLost s n q f) := by
  unfold State.txLost
  repeat' (first
    | with_reducible (first
      | assumption | apply State.completeTx_keeps | apply State.cphEnd_keeps | apply State.bump_keeps
      | apply State.setArc_keeps))

theorem State.txMemErr_keeps {s0 s : State} (h0 : Keeps s0 s) (n q : _) (f : _) :
    Keeps s0 (State.txMemErr s n q f) := by
  unfold State.txMemErr
  repeat' (first
    | with_reducible (first
      | assumption | apply State.toQuar_keeps | apply State.txLost_keeps)
    | fail_if_no_progress (with_reducible apply Keeps.upd <;> try with_reducible rfl))

theorem State.rxMemErr_keeps {s0 s : State} (h0 : Keeps s0 s) (id : _) : Keeps s0 (State.rxMemErr s id) := by
  unfold State.rxMemErr
  extract_lets v0 v1 v2 v3 v4
  have k3 : Keeps s0 v3 := by
    unfold v3
    repeat' (first
      | with_reducible (first | assumption | apply State.cphEnd_keeps)
      | fail_if_no_progress (with_reducible apply Keeps.upd <;> try with_reducible rfl))
  try clear_value v3
  repeat' (first
    | with_reducible (first
      | assumption | apply State.toQuar_keeps | apply State.returnRx_keeps | apply State.setSes_keeps
      | apply State.poisonRelay_keeps | apply Keeps.ite)
    | fail_if_no_progress (with_reducible apply Keeps.upd <;> try with_reducible rfl) | split)

theorem State.recordPoisoned_keeps {s0 s : State} (h0 : Keeps s0 s) (q : _) :
    Keeps s0 (State.recordPoisoned s q) := by
  unfold State.recordPoisoned
  extract_lets v0 v1 v2
  have k0 : Keeps s0 v0 := by
    unfold v0
    repeat' (first | with_reducible assumption | with_reducible apply State.quarantineQueue_keeps)
  try clear_value v0
  repeat' (first
    | with_reducible (first | assumption | apply Keeps.ite)
    | fail_if_no_progress (with_reducible apply Keeps.upd <;> try with_reducible rfl) | split)

theorem State.walkPoisoned_keeps {s0 s : State} (h0 : Keeps s0 s) (lost : _) :
    Keeps s0 (State.walkPoisoned s lost) := by
  unfold State.walkPoisoned
  extract_lets v0 v1
  repeat' (first
    | with_reducible assumption
    | fail_if_no_progress (with_reducible apply Keeps.upd <;> try with_reducible rfl) | split)

theorem State.sweepDone_keeps {s0 s : State} (h0 : Keeps s0 s) (w : _) : Keeps s0 (State.sweepDone s w) := by
  unfold State.sweepDone
  extract_lets v0 v1
  repeat' (first
    | with_reducible (first | assumption | apply State.notify_keeps)
    | fail_if_no_progress (with_reducible apply Keeps.upd <;> try with_reducible rfl))

theorem State.sweepEnd_keeps {s0 s : State} (h0 : Keeps s0 s) (q : _) : Keeps s0 (State.sweepEnd s q) := by
  unfold State.sweepEnd
  repeat' (first | with_reducible assumption | with_reducible apply State.sweepDone_keeps | split)

theorem State.dropCand_keeps {s0 s : State} (h0 : Keeps s0 s) (n : _) : Keeps s0 (State.dropCand s n) := by
  unfold State.dropCand
  extract_lets v0
  repeat' (first | with_reducible assumption | with_reducible apply State.setBlvPort_keeps)

theorem State.toPort_keeps {s0 s : State} (h0 : Keeps s0 s) (n : _) (q : _) (f : _) :
    Keeps s0 (State.toPort s n q f) := by
  unfold State.toPort
  extract_lets v0 v1 v2 v3
  try clear_value v0; try clear_value v3
  have k1 : Keeps s0 v1 := by
    unfold v1
    repeat' (first
      | with_reducible (first | assumption | apply State.arcCommit_keeps | apply State.arcOpen_keeps))
  try clear_value v1
  have k2 : Keeps s0 v2 := by
    unfold v2
    repeat' (first | with_reducible assumption | with_reducible apply State.setFrame_keeps)
  try clear_value v2
  repeat' (first | with_reducible assumption | with_reducible apply State.setTxPort_keeps)

theorem State.g3Counter_keeps {s0 s : State} (h0 : Keeps s0 s) (n : _) (f : _) :
    Keeps s0 (State.g3Counter s n f).2 := by
  unfold State.g3Counter
  extract_lets v0 v1
  try clear_value v0
  repeat' (first | with_reducible assumption | with_reducible apply State.set_keeps)

theorem State.takeTokens_keeps {s0 s : State} (h0 : Keeps s0 s) (q : _) (len : _) :
    Keeps s0 (State.takeTokens s q len) := by
  unfold State.takeTokens
  extract_lets v0 v1 v2 v3 v4 v5
  try clear_value v1; try clear_value v3; try clear_value v5
  have k0 : Keeps s0 v0 := by
    unfold v0
    repeat' (first | with_reducible assumption | with_reducible apply State.refillQueue_keeps)
  try clear_value v0
  have k2 : Keeps s0 v2 := by
    unfold v2
    repeat' (first
      | with_reducible (first | assumption | apply State.setQueue_keeps | apply Keeps.ite))
  try clear_value v2
  have k4 : Keeps s0 v4 := by
    unfold v4
    repeat' (first | with_reducible assumption | with_reducible apply State.refillSes_keeps)
  try clear_value v4
  repeat' (first
    | with_reducible (first | assumption | apply State.setSes_keeps | apply Keeps.ite))

theorem State.retain_keeps {s0 s : State} (h0 : Keeps s0 s) (q : _) (f : _) : Keeps s0 (State.retain s q f) := by
  unfold State.retain
  extract_lets v0 v1 v2 v3 v4 v5
  try clear_value v0; try clear_value v5
  have k3 : Keeps s0 v3 := by
    unfold v3
    repeat' (first
      | with_reducible assumption
      | fail_if_no_progress (with_reducible apply Keeps.upd <;> try with_reducible rfl))
  try clear_value v3
  have k4 : Keeps s0 v4 := by
    unfold v4
    repeat' (first | with_reducible assumption | with_reducible apply State.setFrame_keeps)
  try clear_value v4
  repeat' (first
    | with_reducible (first | assumption | apply State.setQueue_keeps | apply Keeps.ite))

theorem State.dequeue_keeps {s0 s : State} (h0 : Keeps s0 s) (n : _) (q : _) (key : _) (f : _) :
    Keeps s0 (State.dequeue s n q key f) := by
  unfold State.dequeue
  extract_lets v0 v1 v2 v3
  try clear_value v0; try clear_value v1
  have k2 : Keeps s0 v2 := by
    unfold v2
    repeat' (first
      | with_reducible (first | assumption | apply State.takeTokens_keeps | apply Keeps.ite))
  try clear_value v2
  have k3 : Keeps s0 v3 := by
    unfold v3
    repeat' (first
      | with_reducible (first
        | assumption | apply State.dropCand_keeps | apply State.toPort_keeps | apply State.retain_keeps))
  try clear_value v3
  repeat' (first
    | with_reducible (first | assumption | apply State.cphRequest_keeps | apply Keeps.ite))

theorem State.fetchCounted_keeps {s0 s : State} (h0 : Keeps s0 s) (n : _) (q : _) (key : _) (f : _) :
    Keeps s0 (State.fetchCounted s n q key f) := by
  unfold State.fetchCounted
  extract_lets v0
  repeat' (first
    | with_reducible (first
      | assumption | apply State.takeCounter_keeps | apply State.dropCand_keeps | apply State.dequeue_keeps
      | refine Keeps.snd (by assumption) ?_)
    | split)

theorem State.fetchFirst_keeps {s0 s : State} (h0 : Keeps s0 s) (n : _) (q : _) (f : _) :
    Keeps s0 (State.fetchFirst s n q f) := by
  unfold State.fetchFirst
  extract_lets v0
  try clear_value v0
  repeat' (first
    | with_reducible (first
      | assumption | apply State.dropCand_keeps | apply State.completeTx_keeps | apply State.g3Counter_keeps
      | apply State.dequeue_keeps | apply State.obtainKey_keeps | apply State.fetchCounted_keeps
      | apply State.keyFail_keeps | refine Keeps.snd (by assumption) ?_ | apply Keeps.ite)
    | split)

theorem State.fetch_keeps {s0 s : State} (h0 : Keeps s0 s) (n : _) (q : _) (f : _) :
    Keeps s0 (State.fetch s n q f) := by
  unfold State.fetch
  repeat' (first
    | with_reducible (first
      | assumption | apply State.dropRelay_keeps | apply State.bump_keeps | apply State.completeTx_keeps
      | apply State.dropCand_keeps | apply State.toPort_keeps | apply State.fetchFirst_keeps | apply Keeps.ite))

theorem State.latchLedger_keeps {s0 s : State} (h0 : Keeps s0 s)  : Keeps s0 (State.latchLedger s) := by
  unfold State.latchLedger
  extract_lets v0 v1 v2 v3 v4 v5
  try clear_value v0; try clear_value v3
  have k1 : Keeps s0 v1 := by
    unfold v1
    repeat' (first | with_reducible assumption | with_reducible apply State.set_keeps)
  try clear_value v1
  have k2 : Keeps s0 v2 := by
    unfold v2
    repeat' (first | with_reducible assumption | with_reducible apply State.set_keeps)
  try clear_value v2
  have k4 : Keeps s0 v4 := by
    unfold v4
    repeat' (first | with_reducible assumption | with_reducible apply State.set_keeps)
  try clear_value v4
  have k5 : Keeps s0 v5 := by
    unfold v5
    repeat' (first | with_reducible assumption | with_reducible apply State.set_keeps)
  try clear_value v5
  repeat' (first
    | with_reducible (first | assumption | apply State.set_keeps | apply State.post_keeps))

theorem execRebuildComplete_keeps {s0 s : State} (h0 : Keeps s0 s)  : OutKeeps s0 (execRebuildComplete s) := by
  unfold execRebuildComplete
  repeat' (first
    | with_reducible (first | assumption | apply State.endRebuild_keeps | apply OutKeeps.next))

theorem execShaperRefillVisit_keeps {s0 s : State} (h0 : Keeps s0 s) (session : _) (index : _) :
    OutKeeps s0 (execShaperRefillVisit session index s) := by
  unfold execShaperRefillVisit
  repeat' (first
    | with_reducible (first | assumption | apply State.refillSes_keeps | apply State.refillQueue_keeps)
    | split
    | with_reducible apply OutKeeps.next)

theorem State.tableError_keeps {s0 s : State} (h0 : Keeps s0 s) (onDie : _) (line : _) (req : _) :
    Keeps s0 (State.tableError s onDie line req) := by
  unfold State.tableError
  repeat' (first
    | with_reducible (first
      | assumption | apply State.takeFree_keeps | apply State.fire_keeps | apply State.reportUe_keeps
      | apply Keeps.ite))

theorem State.cellError_keeps {s0 s : State} (h0 : Keeps s0 s) (base : _) (size : _) (req : _) :
    Keeps s0 (State.cellError s base size req) := by
  unfold State.cellError
  repeat' (first
    | with_reducible (first | assumption | apply State.takeFree_keeps | apply State.tableError_keeps))

theorem State.poisoned_keeps {s0 s : State} (h0 : Keeps s0 s) (p : _) : Keeps s0 (State.poisoned s p) := by
  unfold State.poisoned
  repeat' (first
    | with_reducible (first
      | assumption | apply State.quarantineQueue_keeps | apply State.tableError_keeps
      | apply State.quarantineSes_keeps | apply State.quarantinePage_keeps | apply State.txMemErr_keeps
      | apply State.cellError_keeps | apply State.rxMemErr_keeps | apply State.recordPoisoned_keeps
      | apply State.walkPoisoned_keeps | apply Keeps.ite)
    | fail_if_no_progress (with_reducible apply Keeps.upd <;> try with_reducible rfl) | split)

theorem execPoisonedCompletion_keeps {s0 s : State} (h0 : Keeps s0 s) (p : _) :
    OutKeeps s0 (execPoisonedCompletion p s) := by
  unfold execPoisonedCompletion
  repeat' (first
    | with_reducible (first | assumption | apply State.poisoned_keeps | apply OutKeeps.next))

theorem State.exhaust_keeps {s0 s : State} (h0 : Keeps s0 s) (k : _) : Keeps s0 (State.exhaust s k) := by
  unfold State.exhaust
  extract_lets v0
  repeat' (first
    | with_reducible (first | assumption | apply Keeps.forEach | apply State.completeTx_keeps)
    | fail_if_no_progress (with_reducible apply Keeps.upd <;> try with_reducible rfl) | extract_lets | intro _ _ _)

theorem execCandidateFetch_keeps {s0 s : State} (h0 : Keeps s0 s) (n : _) : OutKeeps s0 (execCandidateFetch n s) := by
  unfold execCandidateFetch
  extract_lets v0
  have k0 : Keeps s0 v0 := by
    unfold v0
    repeat' (first | with_reducible assumption | with_reducible apply State.arcOpen_keeps)
  try clear_value v0
  repeat' (first
    | with_reducible (first | assumption | apply State.dropCand_keeps | apply State.fetch_keeps)
    | split | extract_lets
    | with_reducible apply OutKeeps.next)

theorem execRebuild_keeps {s0 s : State} (h0 : Keeps s0 s)  : OutKeeps s0 (execRebuild s) := by
  unfold execRebuild
  repeat' (first
    | with_reducible (first
      | assumption | apply State.hostWrite_keeps | apply State.rebuildNow_keeps | apply OutKeeps.next))

theorem execLedgerReadLatch_keeps {s0 s : State} (h0 : Keeps s0 s)  : OutKeeps s0 (execLedgerReadLatch s) := by
  unfold execLedgerReadLatch
  repeat' (first
    | with_reducible (first
      | assumption | apply State.hostRead_keeps | apply State.latchLedger_keeps | apply OutKeeps.next))

theorem State.nextCandidate_keeps {s0 s : State} (h0 : Keeps s0 s) (n : _) : Keeps s0 (State.nextCandidate s n) := by
  unfold State.nextCandidate
  extract_lets v0
  try clear_value v0
  repeat' (first
    | with_reducible (first | assumption | apply State.setBlvPort_keeps | apply Keeps.ite))

theorem execSchedulerDecision_keeps {s0 s : State} (h0 : Keeps s0 s) (n : _) :
    OutKeeps s0 (execSchedulerDecision n s) := by
  unfold execSchedulerDecision
  repeat' (first
    | with_reducible (first | assumption | apply State.nextCandidate_keeps)
    | split
    | with_reducible apply OutKeeps.next)

theorem execExhTimeout_keeps {s0 s : State} (h0 : Keeps s0 s) (session : _) :
    OutKeeps s0 (execExhTimeout session s) := by
  unfold execExhTimeout
  extract_lets v0 v1
  try clear_value v0; try clear_value v1
  repeat' (first
    | with_reducible (first | assumption | apply State.exhaust_keeps)
    | split
    | with_reducible apply OutKeeps.next)

theorem State.endReturn_keeps {s0 s : State} (h0 : Keeps s0 s) (r : _) (rest : _) :
    Keeps s0 (State.endReturn s r rest) := by
  unfold State.endReturn
  extract_lets v0 v1
  repeat' (first
    | with_reducible (first | assumption | apply State.postComplO_keeps)
    | fail_if_no_progress (with_reducible apply Keeps.upd <;> try with_reducible rfl))

theorem execCellReturnComplete_keeps {s0 s : State} (h0 : Keeps s0 s)  : OutKeeps s0 (execCellReturnComplete s) := by
  unfold execCellReturnComplete
  repeat' (first
    | with_reducible (first | assumption | apply State.endReturn_keeps)
    | split
    | with_reducible apply OutKeeps.next)

theorem execQuarantineSweepComplete_keeps {s0 s : State} (h0 : Keeps s0 s) (q : _) :
    OutKeeps s0 (execQuarantineSweepComplete q s) := by
  unfold execQuarantineSweepComplete
  repeat' (first
    | with_reducible (first | assumption | apply State.sweepEnd_keeps | apply OutKeeps.next))

theorem State.clearDin_keeps {s0 s : State} (h0 : Keeps s0 s)  : Keeps s0 (State.clearDin s) := by
  unfold State.clearDin
  repeat' (first
    | with_reducible (first | assumption | apply Keeps.forN | apply State.set_keeps)
    | extract_lets | intro _ _ _)

theorem State.keyEnd_keeps {s0 s : State} (h0 : Keeps s0 s) (result : _) : Keeps s0 (State.keyEnd s result) := by
  unfold State.keyEnd
  repeat' (first
    | with_reducible (first | assumption | apply State.clearDin_keeps | apply State.set_keeps))

theorem State.eraseSlot_keeps {s0 s : State} (h0 : Keeps s0 s) (k : _) : Keeps s0 (State.eraseSlot s k) := by
  unfold State.eraseSlot
  extract_lets v0 v1 v2
  try clear_value v1
  have k0 : Keeps s0 v0 := by
    unfold v0
    repeat' (first | with_reducible assumption | with_reducible apply State.setSlot_keeps)
  try clear_value v0
  repeat' (first
    | with_reducible (first | assumption | apply State.set_keeps)
    | fail_if_no_progress (with_reducible apply Keeps.upd <;> try with_reducible rfl))

theorem execEraseComplete_keeps {s0 s : State} (h0 : Keeps s0 s)  : OutKeeps s0 (execEraseComplete s) := by
  unfold execEraseComplete
  repeat' (first
    | with_reducible (first | assumption | apply State.keyEnd_keeps | apply State.eraseSlot_keeps)
    | split
    | with_reducible apply OutKeeps.next)

theorem State.setDout_keeps {s0 s : State} (h0 : Keeps s0 s) (b : _) : Keeps s0 (State.setDout s b) := by
  unfold State.setDout
  repeat' (first
    | with_reducible (first | assumption | apply Keeps.forN | apply State.set_keeps)
    | extract_lets | intro _ _ _)

theorem State.keyWrite_keeps {s0 s : State} (h0 : Keeps s0 s) (act : _)
    (h_act : ∀ s0 t, Keeps s0 t → Keeps s0 (act t)) : Keeps s0 (State.keyWrite s act) := by
  unfold State.keyWrite
  repeat' (first
    | with_reducible (first
      | assumption | apply State.hostWrite_keeps | apply State.setDout_keeps | apply h_act | apply Keeps.ite)
    | extract_lets | intro _ _ _)

theorem State.keyLoad_keeps {s0 s : State} (h0 : Keeps s0 s) (w : _) : Keeps s0 (State.keyLoad s w) := by
  unfold State.keyLoad
  extract_lets v0 v1
  try clear_value v0; try clear_value v1
  repeat' (first
    | with_reducible (first
      | assumption | apply State.keyEnd_keeps | apply State.setSlot_keeps | apply State.fire_keeps | apply Keeps.ite)
    | split)

theorem execLoad_keeps {s0 s : State} (h0 : Keeps s0 s) (cmd : _) : OutKeeps s0 (execLoad cmd s) := by
  unfold execLoad
  repeat' (first
    | with_reducible (first | assumption | apply State.keyWrite_keeps | apply State.keyLoad_keeps)
    | extract_lets
    | with_reducible apply OutKeeps.next
    | intro _ _ _)

theorem State.keyErase_keeps {s0 s : State} (h0 : Keeps s0 s) (w : _) : Keeps s0 (State.keyErase s w) := by
  unfold State.keyErase
  extract_lets v0 v1
  try clear_value v0
  repeat' (first
    | with_reducible (first
      | assumption | apply State.keyEnd_keeps | apply State.eraseSlot_keeps | apply State.set_keeps
      | apply Keeps.ite)
    | fail_if_no_progress (with_reducible apply Keeps.upd <;> try with_reducible rfl))

theorem State.keyWrap_keeps {s0 s : State} (h0 : Keeps s0 s) (w : _) : Keeps s0 (State.keyWrap s w) := by
  unfold State.keyWrap
  extract_lets v0 v1
  try clear_value v0; try clear_value v1
  repeat' (first
    | with_reducible (first | assumption | apply State.keyEnd_keeps | apply State.setDout_keeps | apply Keeps.ite))

theorem State.keyOtp_keeps {s0 s : State} (h0 : Keeps s0 s) (w : _) : Keeps s0 (State.keyOtp s w) := by
  unfold State.keyOtp
  extract_lets r
  repeat' split
  · exact State.keyEnd_keeps h0 ..
  · exact State.keyEnd_keeps h0 ..
  · exact State.keyEnd_keeps h0 ..
  · exact State.keyEnd_keeps h0 ..
  · apply State.keyEnd_keeps
    apply State.fire_keeps
    exact Keeps.keys h0 _ _ _ _ _ _ _ _ _ _ _ _ _ _ _ _ _ _ _ ⟨rfl, rfl, rfl⟩ id (Nat.le_refl _) rfl rfl rfl

theorem State.keyCommand_keeps {s0 s : State} (h0 : Keeps s0 s) (w : _) : Keeps s0 (State.keyCommand s w) := by
  unfold State.keyCommand
  extract_lets v0
  try clear_value v0
  repeat' (first
    | with_reducible (first
      | assumption | apply State.keyWrite_keeps | apply State.keyLoad_keeps | apply State.keyErase_keeps
      | apply State.keyWrap_keeps | apply State.keyOtp_keeps | apply State.hostWrite_keeps | apply Keeps.ite)
    | extract_lets | intro _ _ _ | simp only [id_eq])

theorem State.rxDropped_keeps {s0 s : State} (h0 : Keeps s0 s) (id : _) :
    Keeps s0 (State.rxDropped s id) := by
  unfold State.rxDropped
  repeat' (first
    | with_reducible (first
      | assumption | apply State.loseRx_keeps | apply State.setSes_keeps)
    | fail_if_no_progress (with_reducible apply Keeps.upd <;> try with_reducible rfl)
    | split)

theorem State.rxKeyFail_keeps {s0 s : State} (h0 : Keeps s0 s) (ses id path : _) :
    Keeps s0 (State.rxKeyFail s ses id path) := by
  unfold State.rxKeyFail
  repeat' (first
    | with_reducible (first
      | assumption | apply State.rxDropped_keeps | apply State.keyFail_keeps))

theorem State.streamLost_keeps {s0 s : State} (h0 : Keeps s0 s) (r : _) :
    Keeps s0 (State.streamLost s r) := by
  unfold State.streamLost
  repeat' (first
    | with_reducible (first
      | assumption | apply State.txLost_keeps | apply State.cphEnd_keeps | apply State.rxDropped_keeps)
    | fail_if_no_progress (with_reducible apply Keeps.upd <;> try with_reducible rfl)
    | split)

theorem State.ctxFail_keeps {s0 s : State} (h0 : Keeps s0 s) (e : _) (r : _) :
    Keeps s0 (State.ctxFail s e r) := by
  unfold State.ctxFail
  repeat' (first
    | with_reducible (first
      | assumption | apply State.streamLost_keeps | apply State.bump_keeps | apply State.fire_keeps))

theorem State.engineRun_keeps {s0 s : State} (h0 : Keeps s0 s) (e : _) (r : _) :
    Keeps s0 (State.engineRun s e r) := by
  unfold State.engineRun
  repeat' (first
    | with_reducible (first
      | assumption | apply State.showCph_keeps)
    | fail_if_no_progress (with_reducible apply Keeps.upd <;> try with_reducible rfl))

theorem State.engineKey_keeps {s0 s : State} (h0 : Keeps s0 s) (e : _) (r : _) :
    Keeps s0 (State.engineKey s e r) := by
  unfold State.engineKey
  repeat' (first
    | with_reducible (first
      | assumption | apply State.engineRun_keeps | apply State.streamLost_keeps | apply State.keyFail_keeps
      | apply State.rxKeyFail_keeps | apply State.cphEnd_keeps | apply State.obtainKey_keeps
      | refine Keeps.snd (by assumption) ?_)
    | fail_if_no_progress (with_reducible apply Keeps.upd <;> try with_reducible rfl)
    | split)

theorem State.engineTake_keeps {s0 s : State} (h0 : Keeps s0 s) (e : _) (r : _) (u : _) :
    Keeps s0 (State.engineTake s e r u) := by
  unfold State.engineTake
  repeat' (first
    | with_reducible (first
      | assumption | apply State.ctxFail_keeps | apply State.engineKey_keeps | apply State.engineRun_keeps
      | apply Keeps.ite)
    | fail_if_no_progress (with_reducible apply Keeps.upd <;> try with_reducible rfl)
    | split)

theorem execErase_keeps {s0 s : State} (h0 : Keeps s0 s) (cmd : _) : OutKeeps s0 (execErase cmd s) := by
  unfold execErase
  repeat' (first
    | with_reducible (first | assumption | apply State.keyWrite_keeps | apply State.keyErase_keeps)
    | extract_lets
    | with_reducible apply OutKeeps.next
    | intro _ _ _)

theorem State.saveStream_keeps {s0 s : State} (h0 : Keeps s0 s) (e : _) (v : _) :
    Keeps s0 (State.saveStream s e v) := by
  unfold State.saveStream
  extract_lets v0 v1
  try clear_value v0
  repeat' (first
    | with_reducible (first | assumption | apply State.bump_keeps)
    | fail_if_no_progress (with_reducible apply Keeps.upd <;> try with_reducible rfl))

theorem execPreemption_keeps {s0 s : State} (h0 : Keeps s0 s) (e : _) (u : _) :
    OutKeeps s0 (execPreemption e u s) := by
  unfold execPreemption
  repeat' (first
    | with_reducible (first | assumption | apply State.engineTake_keeps | apply State.saveStream_keeps)
    | split
    | with_reducible apply OutKeeps.next)

theorem execOtpProg_keeps {s0 s : State} (h0 : Keeps s0 s) (cmd : _) : OutKeeps s0 (execOtpProg cmd s) := by
  unfold execOtpProg
  repeat' (first
    | with_reducible (first | assumption | apply State.keyWrite_keeps | apply State.keyOtp_keeps)
    | extract_lets
    | with_reducible apply OutKeeps.next
    | intro _ _ _)

theorem State.engineFree_keeps {s0 s : State} (h0 : Keeps s0 s) (e : _) : Keeps s0 (State.engineFree s e) := by
  unfold State.engineFree
  repeat' (first | with_reducible assumption | with_reducible apply State.cphEnd_keeps | split)

theorem execEngineTakeRequest_keeps {s0 s : State} (h0 : Keeps s0 s) (e : _) (u : _) :
    OutKeeps s0 (execEngineTakeRequest e u s) := by
  unfold execEngineTakeRequest
  extract_lets v0
  have k0 : Keeps s0 v0 := by
    unfold v0
    repeat' (first | with_reducible assumption | with_reducible apply State.engineFree_keeps)
  try clear_value v0
  repeat' (first
    | with_reducible (first | assumption | apply State.engineTake_keeps)
    | split
    | with_reducible apply OutKeeps.next)

theorem execJtagDebugAccess_keeps {s0 s : State} (h0 : Keeps s0 s) (addr : _) (write : _) :
    OutKeeps s0 (execJtagDebugAccess addr write s) := by
  unfold execJtagDebugAccess
  repeat' (first
    | with_reducible (first | assumption | apply State.violate_keeps | apply State.fire_keeps)
    | split
    | with_reducible (first | apply OutKeeps.next | exact OutKeeps.refused _ _))

theorem execRngHealthFail_keeps {s0 s : State} (h0 : Keeps s0 s)  : OutKeeps s0 (execRngHealthFail s) := by
  unfold execRngHealthFail
  repeat' (first
    | with_reducible (first | assumption | apply State.set_keeps)
    | split
    | with_reducible apply OutKeeps.next)

theorem execWrap_keeps {s0 s : State} (h0 : Keeps s0 s) (cmd : _) : OutKeeps s0 (execWrap cmd s) := by
  unfold execWrap
  repeat' (first
    | with_reducible (first | assumption | apply State.keyWrite_keeps | apply State.keyWrap_keeps)
    | extract_lets
    | with_reducible apply OutKeeps.next
    | intro _ _ _)

theorem execRngReseed_keeps {s0 s : State} (h0 : Keeps s0 s)  : OutKeeps s0 (execRngReseed s) := by
  unfold execRngReseed
  extract_lets v0
  repeat' (first
    | with_reducible assumption
    | fail_if_no_progress (with_reducible apply Keeps.upd <;> try with_reducible rfl) | split
    | with_reducible apply OutKeeps.next)

theorem State.debugRead_keeps {s0 s : State} (h0 : Keeps s0 s) (off : _) (n : _) :
    Keeps s0 (State.debugRead s off n) := by
  unfold State.debugRead
  extract_lets v0
  try clear_value v0
  repeat' (first
    | with_reducible (first
      | assumption | apply State.readLine_keeps | apply State.post_keeps | refine Keeps.snd (by assumption) ?_)
    | split)

theorem State.diag_keeps {s0 s : State} (h0 : Keeps s0 s) (sram : _) (act : _)
    (h_act : ∀ s0 t, Keeps s0 t → Keeps s0 (act t)) : Keeps s0 (State.diag s sram act) := by
  unfold State.diag
  extract_lets v0
  try clear_value v0
  repeat' (first
    | with_reducible (first | assumption | apply State.set_keeps | apply h_act | apply Keeps.ite))

theorem State.groupSilent_keeps {s0 s : State} (h0 : Keeps s0 s) (write : _) :
    Keeps s0 (State.groupSilent s write) := by
  unfold State.groupSilent
  repeat' (first
    | with_reducible (first | assumption | apply State.takeFree_keeps | apply State.violate_keeps))

theorem State.readRawSram_keeps {s0 s : State} (h0 : Keeps s0 s) (g : _) (w : _) :
    Keeps s0 (State.readRawSram s g w) := by
  unfold State.readRawSram
  extract_lets v0 v1
  try clear_value v0
  have k1 : Keeps s0 v1 := by
    unfold v1
    repeat' (first
      | with_reducible (first | assumption | apply State.groupSilent_keeps | apply Keeps.ite))
  try clear_value v1
  repeat' (first | with_reducible assumption | with_reducible apply State.setReg_keeps)

theorem State.showChk_keeps {s0 s : State} (h0 : Keeps s0 s) (t : State) (l : _) :
    Keeps s0 (State.showChk s t l) := by
  unfold State.showChk
  repeat' (first
    | with_reducible (first | assumption | apply Keeps.forN | apply State.setReg_keeps)
    | extract_lets | intro _ _ _)

theorem State.readRawLine_keeps {s0 s : State} (h0 : Keeps s0 s) (l : _) : Keeps s0 (State.readRawLine s l) := by
  unfold State.readRawLine
  extract_lets v0
  try clear_value v0
  repeat' (first
    | with_reducible (first | assumption | apply State.showChk_keeps | apply Keeps.forN | apply State.setReg_keeps)
    | extract_lets | intro _ _ _)

theorem State.readRaw_keeps {s0 s : State} (h0 : Keeps s0 s) (sram : _) : Keeps s0 (State.readRaw s sram) := by
  unfold State.readRaw
  repeat' (first
    | with_reducible (first
      | assumption | apply State.diag_keeps | apply State.readRawSram_keeps | apply State.readRawLine_keeps)
    | split | intro _ _ _)

theorem State.objectLost_keeps {s0 s : State} (h0 : Keeps s0 s) (p : _) : Keeps s0 (State.objectLost s p) := by
  unfold State.objectLost
  repeat' (first
    | with_reducible (first
      | assumption | apply State.quarantineQueue_keeps | apply State.quarantineSes_keeps
      | apply State.quarantinePage_keeps | apply State.txMemErr_keeps | apply State.rxMemErr_keeps
      | apply State.recordPoisoned_keeps | apply State.walkPoisoned_keeps)
    | split)

theorem State.loseBlock_keeps {s0 s : State} (h0 : Keeps s0 s) (n : _) : Keeps s0 (State.loseBlock s n) := by
  unfold State.loseBlock
  repeat' (first | with_reducible assumption | with_reducible apply State.rxFail_keeps | split)

theorem State.sramLost_keeps {s0 s : State} (h0 : Keeps s0 s) (h : _) : Keeps s0 (State.sramLost s h) := by
  unfold State.sramLost
  extract_lets v0 v1
  repeat' (first
    | with_reducible (first
      | assumption | apply State.objectLost_keeps | apply State.arcMismatch_keeps | apply State.loseBlock_keeps
      | apply State.stopAir_keeps | apply State.rxAbandonCur_keeps | apply Keeps.forN
      | apply State.quarantinePage_keeps)
    | fail_if_no_progress (with_reducible apply Keeps.upd <;> try with_reducible rfl) | split | extract_lets
    | intro _ _ _)

theorem State.endPass_keeps {s0 s : State} (h0 : Keeps s0 s)  : Keeps s0 (State.endPass s) := by
  have t : ∀ s2, Keeps s0 s2 → Keeps s0 { s2 with mem.line := 0, mem.lineStart := s.tick, mem.byRow := [] } :=
    fun s2 h => h.upd _ _ _ _ _ _ _ _ _ _ _ _ _ _ _ _ _ _ rfl rfl rfl
  have k1 := State.fire_keeps (State.count_keeps h0 MEM_SWPSTAT_DPASS) 463 1
  exact t _ (Keeps.ite (State.raiseFlag_keeps k1 MEM_SWPSTAT_LATE) k1)

theorem State.sweepLine_keeps {s0 s : State} (h0 : Keeps s0 s)  : Keeps s0 (State.sweepLine s) := by
  unfold State.sweepLine
  extract_lets v0 v1 v2
  try clear_value v0
  have k1 : Keeps s0 v1 := by
    unfold v1
    repeat' (first
      | with_reducible (first | assumption | apply State.readLine_keeps | apply Keeps.ite))
  try clear_value v1
  repeat' (first
    | with_reducible (first | assumption | apply State.endPass_keeps | apply Keeps.ite)
    | fail_if_no_progress (with_reducible apply Keeps.upd <;> try with_reducible rfl))

theorem execSweeperLineRead_keeps {s0 s : State} (h0 : Keeps s0 s)  : OutKeeps s0 (execSweeperLineRead s) := by
  unfold execSweeperLineRead
  repeat' (first
    | with_reducible (first | assumption | apply State.sweepLine_keeps)
    | split
    | with_reducible apply OutKeeps.next)

theorem State.reportSram_keeps {s0 s : State} (h0 : Keeps s0 s) (g : _) (w : _) (req : _) :
    Keeps s0 (State.reportSram s g w req) := by
  unfold State.reportSram
  repeat' (first
    | with_reducible (first | assumption | apply State.logUe_keeps | apply State.fire_keeps))

theorem State.writeRawLine_keeps {s0 s : State} (h0 : Keeps s0 s) (l : _) : Keeps s0 (State.writeRawLine s l) := by
  unfold State.writeRawLine
  repeat' (first
    | with_reducible (first
      | assumption | apply Keeps.forN | apply State.setSymbol_keeps | apply State.storeBytes_keeps)
    | extract_lets | intro _ _ _)

theorem State.debugAccess_keeps {s0 s : State} (h0 : Keeps s0 s) (off : _) (wide : _) (write : _) (zero : _)
    (act : _) (h_zero : ∀ s0 t, Keeps s0 t → Keeps s0 (zero t))
    (h_act : ∀ s0 t, Keeps s0 t → Keeps s0 (act t)) : Keeps s0 (State.debugAccess s off wide write zero act) := by
  unfold State.debugAccess
  repeat' (first
    | with_reducible (first
      | assumption | apply State.post_keeps | apply State.violate_keeps | apply h_zero | apply h_act
      | apply Keeps.ite)
    | fail_if_no_progress (with_reducible apply Keeps.upd <;> try with_reducible rfl) | split)

theorem State.debugWrite_keeps {s0 s : State} (h0 : Keeps s0 s) (off : _) (n : _) (data : _) :
    Keeps s0 (State.debugWrite s off n data) := by
  unfold State.debugWrite
  extract_lets v0
  try clear_value v0
  repeat' (first
    | with_reducible (first
      | assumption | apply State.narrowWrite_keeps | apply State.raiseFlag_keeps
      | refine Keeps.snd (by assumption) ?_)
    | split)

theorem State.writeRawSram_keeps {s0 s : State} (h0 : Keeps s0 s) (g : _) (w : _) :
    Keeps s0 (State.writeRawSram s g w) := by
  unfold State.writeRawSram
  repeat' (first
    | with_reducible (first
      | assumption | apply State.setSramWord_keeps | apply State.groupSilent_keeps | apply Keeps.ite))

theorem State.writeRaw_keeps {s0 s : State} (h0 : Keeps s0 s) (sram : _) : Keeps s0 (State.writeRaw s sram) := by
  unfold State.writeRaw
  repeat' (first
    | with_reducible (first
      | assumption | apply State.diag_keeps | apply State.writeRawSram_keeps | apply State.writeRawLine_keeps)
    | split | intro _ _ _)

theorem State.encodeDiag_keeps {s0 s : State} (h0 : Keeps s0 s) (sram : _) : Keeps s0 (State.encodeDiag s sram) := by
  unfold State.encodeDiag
  repeat' (first
    | with_reducible (first
      | assumption | apply State.set_keeps | apply State.setReg_keeps | apply State.showChk_keeps | apply Keeps.ite))

theorem State.diagCommand_keeps {s0 s : State} (h0 : Keeps s0 s) (data : _) :
    Keeps s0 (State.diagCommand s data) := by
  unfold State.diagCommand
  extract_lets v0
  try clear_value v0
  repeat' (first
    | with_reducible (first
      | assumption | apply State.readRaw_keeps | apply State.writeRaw_keeps | apply State.encodeDiag_keeps)
    | split)

theorem execDebugWindowRead_keeps {s0 s : State} (h0 : Keeps s0 s) (offset : _) (wide : _) :
    OutKeeps s0 (execDebugWindowRead offset wide s) := by
  unfold execDebugWindowRead
  repeat' (first
    | with_reducible (first
      | assumption | apply State.debugAccess_keeps | apply State.post_keeps | apply State.debugRead_keeps)
    | extract_lets
    | with_reducible apply OutKeeps.next
    | intro _ _ _)

theorem execWriteRaw_keeps {s0 s : State} (h0 : Keeps s0 s) (sram : _) : OutKeeps s0 (execWriteRaw sram s) := by
  unfold execWriteRaw
  repeat' (first
    | with_reducible (first | assumption | apply State.hostWrite_keeps | apply State.writeRaw_keeps)
    | extract_lets
    | with_reducible apply OutKeeps.next
    | intro _ _ _)

theorem State.sweepWord_keeps {s0 s : State} (h0 : Keeps s0 s) (g : _) (w : _) :
    Keeps s0 (State.sweepWord s g w) := by
  unfold State.sweepWord
  extract_lets v0
  try clear_value v0
  repeat' (first
    | with_reducible (first
      | assumption | apply State.reportSram_keeps | apply State.countSram_keeps | apply State.setSramWord_keeps
      | apply Keeps.ite)
    | split)

theorem State.sweepSram_keeps {s0 s : State} (h0 : Keeps s0 s)  : Keeps s0 (State.sweepSram s) := by
  unfold State.sweepSram
  extract_lets v0 v1 v2 v3 v4 v5
  try clear_value v0; try clear_value v1
  have k2 : Keeps s0 v2 := by
    unfold v2
    repeat' (first
      | with_reducible (first | assumption | apply State.sweepWord_keeps | apply Keeps.ite))
  try clear_value v2
  repeat' (first
    | with_reducible (first | assumption | apply State.fire_keeps | apply State.count_keeps | apply Keeps.ite)
    | fail_if_no_progress (with_reducible apply Keeps.upd <;> try with_reducible rfl) | split)

theorem execReadRaw_keeps {s0 s : State} (h0 : Keeps s0 s) (sram : _) : OutKeeps s0 (execReadRaw sram s) := by
  unfold execReadRaw
  repeat' (first
    | with_reducible (first | assumption | apply State.hostWrite_keeps | apply State.readRaw_keeps)
    | extract_lets
    | with_reducible apply OutKeeps.next
    | intro _ _ _)

theorem execEncode_keeps {s0 s : State} (h0 : Keeps s0 s) (sram : _) : OutKeeps s0 (execEncode sram s) := by
  unfold execEncode
  repeat' (first
    | with_reducible (first | assumption | apply State.hostWrite_keeps | apply State.encodeDiag_keeps)
    | extract_lets
    | with_reducible apply OutKeeps.next
    | intro _ _ _)

theorem State.leak_keeps {s0 s : State} (h0 : Keeps s0 s) (k : _) (leak : _) (cnt : _) :
    Keeps s0 (State.leak s k leak cnt) := by
  unfold State.leak
  extract_lets v0 v1
  repeat' (first
    | with_reducible (first | assumption | apply State.set_keeps | apply Keeps.ite)
    | fail_if_no_progress (with_reducible apply Keeps.upd <;> try with_reducible rfl))

theorem execBucketLeak_keeps {s0 s : State} (h0 : Keeps s0 s) (sram : _) (i : _) :
    OutKeeps s0 (execBucketLeak sram i s) := by
  unfold execBucketLeak
  repeat' (first
    | with_reducible (first | assumption | apply State.leak_keeps)
    | split
    | with_reducible apply OutKeeps.next)

theorem execSramSweepWord_keeps {s0 s : State} (h0 : Keeps s0 s)  : OutKeeps s0 (execSramSweepWord s) := by
  unfold execSramSweepWord
  repeat' (first
    | with_reducible (first | assumption | apply State.sweepSram_keeps)
    | split
    | with_reducible apply OutKeeps.next)

theorem State.sramBad_keeps {s0 s : State} (h0 : Keeps s0 s) (g : _) (w : _) (h : _) :
    Keeps s0 (State.sramBad s g w h) := by
  unfold State.sramBad
  extract_lets v0
  have k0 : Keeps s0 v0 := by
    unfold v0
    repeat' (first
      | with_reducible (first | assumption | apply State.reportSram_keeps | apply State.takeFree_keeps)
      | split)
  try clear_value v0
  repeat' (first
    | with_reducible (first | assumption | apply State.sramLost_keeps | apply Keeps.ite))

theorem execSramUncorrectable_keeps {s0 s : State} (h0 : Keeps s0 s) (g : _) (w : _) (h : _) :
    OutKeeps s0 (execSramUncorrectable g w h s) := by
  unfold execSramUncorrectable
  repeat' (first
    | with_reducible (first | assumption | apply State.sramBad_keeps)
    | split
    | with_reducible apply OutKeeps.next)

theorem execDebugWindowWrite_keeps {s0 s : State} (h0 : Keeps s0 s) (offset : _) (wide : _) (data : _) :
    OutKeeps s0 (execDebugWindowWrite offset wide data s) := by
  unfold execDebugWindowWrite
  repeat' (first
    | with_reducible (first | assumption | apply State.debugAccess_keeps | apply State.debugWrite_keeps)
    | extract_lets
    | with_reducible apply OutKeeps.next
    | intro _ _ _)

theorem State.objWrite_keeps {s0 s : State} (h0 : Keeps s0 s) (act : _)
    (h_act : ∀ s0 t, Keeps s0 t → Keeps s0 (act t)) : Keeps s0 (State.objWrite s act) := by
  unfold State.objWrite
  repeat' (first
    | with_reducible (first | assumption | apply State.hostWrite_keeps | apply h_act | apply Keeps.ite)
    | extract_lets | intro _ _ _)

theorem State.sesExh_keeps {s0 s : State} (h0 : Keeps s0 s) (k : _) (was : _) : Keeps s0 (State.sesExh s k was) := by
  unfold State.sesExh
  extract_lets v0
  repeat' (first
    | with_reducible (first | assumption | apply Keeps.ite)
    | fail_if_no_progress (with_reducible apply Keeps.upd <;> try with_reducible rfl))

theorem State.healLine_keeps {s0 s : State} (h0 : Keeps s0 s) (q : _) : Keeps s0 (State.healLine s q) := by
  unfold State.healLine
  extract_lets v0 v1 v2 v3
  try clear_value v0; try clear_value v1
  have k3 : Keeps s0 v3 := by
    unfold v3
    repeat' (first
      | with_reducible assumption
      | fail_if_no_progress (with_reducible apply Keeps.upd <;> try with_reducible rfl))
  try clear_value v3
  repeat' (first
    | with_reducible (first
      | assumption | apply State.setQueue_keeps | apply State.quarantineQueue_keeps | apply Keeps.ite))

theorem State.objEnd_keeps {s0 s : State} (h0 : Keeps s0 s) (result : _) (quar : _) :
    Keeps s0 (State.objEnd s result quar) := by
  unfold State.objEnd
  repeat' (first | with_reducible assumption | with_reducible apply State.set_keeps)

theorem State.objOn_keeps {s0 s : State} (h0 : Keeps s0 s) (index : _) (first : _) (count : _) (act : _)
    (h_act : ∀ s0 t, Keeps s0 t → Keeps s0 (act t)) : Keeps s0 (State.objOn s index first count act) := by
  unfold State.objOn
  repeat' (first
    | with_reducible (first | assumption | apply State.objEnd_keeps | apply h_act | apply Keeps.ite))

theorem State.queueRelease_keeps {s0 s : State} (h0 : Keeps s0 s) (q : _) : Keeps s0 (State.queueRelease s q) := by
  unfold State.queueRelease
  repeat' (first
    | with_reducible (first
      | assumption | apply State.objOn_keeps | apply State.sweepEnd_keeps | apply State.objEnd_keeps
      | apply State.healLine_keeps | apply State.setQueue_keeps | apply Keeps.ite)
    | fail_if_no_progress (with_reducible apply Keeps.upd <;> try with_reducible rfl) | extract_lets | intro _ _ _)

theorem State.queueFlush_keeps {s0 s : State} (h0 : Keeps s0 s) (q : _) : Keeps s0 (State.queueFlush s q) := by
  unfold State.queueFlush
  repeat' (first
    | with_reducible (first
      | assumption | apply State.objOn_keeps | apply State.objEnd_keeps | apply State.completeAll_keeps
      | apply State.set_keeps | apply Keeps.ite)
    | fail_if_no_progress (with_reducible apply Keeps.upd <;> try with_reducible rfl) | extract_lets | intro _ _ _)

theorem State.setObjData_keeps {s0 s : State} (h0 : Keeps s0 s) (n : _) (v : _) :
    Keeps s0 (State.setObjData s n v) := by
  unfold State.setObjData
  repeat' (first
    | with_reducible (first | assumption | apply Keeps.forN | apply State.set_keeps)
    | extract_lets | intro _ _ _)

theorem State.objRead_keeps {s0 s : State} (h0 : Keeps s0 s) (n : _) (v : _) (quar : _) :
    Keeps s0 (State.objRead s n v quar) := by
  unfold State.objRead
  repeat' (first
    | with_reducible (first | assumption | apply State.objEnd_keeps | apply State.setObjData_keeps | apply Keeps.ite)
    | fail_if_no_progress (with_reducible apply Keeps.upd <;> try with_reducible rfl))

theorem State.queueRead_keeps {s0 s : State} (h0 : Keeps s0 s) (q : _) : Keeps s0 (State.queueRead s q) := by
  unfold State.queueRead
  repeat' (first
    | with_reducible (first | assumption | apply State.objOn_keeps | apply State.objRead_keeps)
    | extract_lets | intro _ _ _)

theorem State.queueWrite_keeps {s0 s : State} (h0 : Keeps s0 s) (q : _) : Keeps s0 (State.queueWrite s q) := by
  unfold State.queueWrite
  repeat' (first
    | with_reducible (first
      | assumption | apply State.objOn_keeps | apply State.objEnd_keeps | apply State.healLine_keeps
      | apply State.setQueue_keeps | apply Keeps.ite)
    | extract_lets | intro _ _ _)

theorem State.sesRead_keeps {s0 s : State} (h0 : Keeps s0 s) (k : _) : Keeps s0 (State.sesRead s k) := by
  unfold State.sesRead
  repeat' (first
    | with_reducible (first | assumption | apply State.objOn_keeps | apply State.objRead_keeps)
    | extract_lets | intro _ _ _)

theorem State.sesStore_keeps {s0 s : State} (h0 : Keeps s0 s) (k : _) (v : _) : Keeps s0 (State.sesStore s k v) := by
  unfold State.sesStore
  extract_lets v0 v1
  repeat' (first
    | with_reducible (first | assumption | apply State.uncache_keeps | apply State.setSes_keeps)
    | fail_if_no_progress (with_reducible apply Keeps.upd <;> try with_reducible rfl))

theorem State.sesWrite_keeps {s0 s : State} (h0 : Keeps s0 s) (k : _) : Keeps s0 (State.sesWrite s k) := by
  unfold State.sesWrite
  repeat' (first
    | with_reducible (first
      | assumption | apply State.objOn_keeps | apply State.objEnd_keeps | apply State.sesExh_keeps
      | apply State.sesStore_keeps | apply Keeps.ite)
    | extract_lets | intro _ _ _)

theorem State.sesRelease_keeps {s0 s : State} (h0 : Keeps s0 s) (k : _) : Keeps s0 (State.sesRelease s k) := by
  unfold State.sesRelease
  repeat' (first
    | with_reducible (first
      | assumption | apply State.objOn_keeps | apply State.objEnd_keeps | apply State.sesExh_keeps
      | apply State.sesStore_keeps)
    | extract_lets | intro _ _ _)

theorem State.entRead_keeps {s0 s : State} (h0 : Keeps s0 s) (i : _) : Keeps s0 (State.entRead s i) := by
  unfold State.entRead
  repeat' (first
    | with_reducible (first | assumption | apply State.objOn_keeps | apply State.objRead_keeps)
    | extract_lets | intro _ _ _)

theorem State.entWrite_keeps {s0 s : State} (h0 : Keeps s0 s) (i : _) : Keeps s0 (State.entWrite s i) := by
  unfold State.entWrite
  repeat' (first
    | with_reducible (first
      | assumption | apply State.objOn_keeps | apply State.objEnd_keeps | apply State.setDirEnt_keeps
      | apply Keeps.ite)
    | extract_lets | intro _ _ _)

theorem State.pageRelease_keeps {s0 s : State} (h0 : Keeps s0 s) (p : _) : Keeps s0 (State.pageRelease s p) := by
  unfold State.pageRelease
  extract_lets v0
  try clear_value v0
  repeat' (first
    | with_reducible (first | assumption | apply State.objOn_keeps | apply State.objEnd_keeps)
    | fail_if_no_progress (with_reducible apply Keeps.upd <;> try with_reducible rfl) | extract_lets | intro _ _ _)

theorem State.objBadOp_keeps {s0 s : State} (h0 : Keeps s0 s) (type : _) (i : _) :
    Keeps s0 (State.objBadOp s type i) := by
  unfold State.objBadOp
  repeat' (first
    | with_reducible (first | assumption | apply State.objOn_keeps | apply State.objEnd_keeps | apply Keeps.ite)
    | extract_lets | intro _ _ _)

theorem State.objectCommand_keeps {s0 s : State} (h0 : Keeps s0 s) (cmd : _) :
    Keeps s0 (State.objectCommand s cmd) := by
  unfold State.objectCommand
  extract_lets v0 v1 v2
  try clear_value v0; try clear_value v1; try clear_value v2
  repeat' (first
    | with_reducible (first
      | assumption | apply State.queueRead_keeps | apply State.queueWrite_keeps | apply State.queueFlush_keeps
      | apply State.queueRelease_keeps | apply State.sesRead_keeps | apply State.sesWrite_keeps
      | apply State.sesRelease_keeps | apply State.entRead_keeps | apply State.entWrite_keeps
      | apply State.pageRelease_keeps | apply State.objBadOp_keeps | apply Keeps.ite)
    | split)

theorem execDirectoryEntryRead_keeps {s0 s : State} (h0 : Keeps s0 s) (index : _) :
    OutKeeps s0 (execDirectoryEntryRead index s) := by
  unfold execDirectoryEntryRead
  repeat' (first
    | with_reducible (first | assumption | apply State.objWrite_keeps | apply State.entRead_keeps)
    | extract_lets
    | with_reducible apply OutKeeps.next
    | intro _ _ _)

theorem execSessionRelease_keeps {s0 s : State} (h0 : Keeps s0 s) (index : _) :
    OutKeeps s0 (execSessionRelease index s) := by
  unfold execSessionRelease
  repeat' (first
    | with_reducible (first | assumption | apply State.objWrite_keeps | apply State.sesRelease_keeps)
    | extract_lets
    | with_reducible apply OutKeeps.next
    | intro _ _ _)

theorem execQueueFlush_keeps {s0 s : State} (h0 : Keeps s0 s) (index : _) : OutKeeps s0 (execQueueFlush index s) := by
  unfold execQueueFlush
  repeat' (first
    | with_reducible (first | assumption | apply State.objWrite_keeps | apply State.queueFlush_keeps)
    | extract_lets
    | with_reducible apply OutKeeps.next
    | intro _ _ _)

theorem execQueueRead_keeps {s0 s : State} (h0 : Keeps s0 s) (index : _) : OutKeeps s0 (execQueueRead index s) := by
  unfold execQueueRead
  repeat' (first
    | with_reducible (first | assumption | apply State.objWrite_keeps | apply State.queueRead_keeps)
    | extract_lets
    | with_reducible apply OutKeeps.next
    | intro _ _ _)

theorem execSessionRead_keeps {s0 s : State} (h0 : Keeps s0 s) (index : _) :
    OutKeeps s0 (execSessionRead index s) := by
  unfold execSessionRead
  repeat' (first
    | with_reducible (first | assumption | apply State.objWrite_keeps | apply State.sesRead_keeps)
    | extract_lets
    | with_reducible apply OutKeeps.next
    | intro _ _ _)

theorem execFlushComplete_keeps {s0 s : State} (h0 : Keeps s0 s)  : OutKeeps s0 (execFlushComplete s) := by
  unfold execFlushComplete
  extract_lets v0
  repeat' (first
    | with_reducible (first | assumption | apply State.objEnd_keeps)
    | fail_if_no_progress (with_reducible apply Keeps.upd <;> try with_reducible rfl) | split
    | with_reducible apply OutKeeps.next)

theorem execObjectCommandBadOp_keeps {s0 s : State} (h0 : Keeps s0 s) (cmd : _) :
    OutKeeps s0 (execObjectCommandBadOp cmd s) := by
  unfold execObjectCommandBadOp
  repeat' (first
    | with_reducible (first | assumption | apply State.objWrite_keeps | apply State.objectCommand_keeps)
    | extract_lets
    | with_reducible apply OutKeeps.next
    | intro _ _ _)

theorem execQueueWrite_keeps {s0 s : State} (h0 : Keeps s0 s) (index : _) : OutKeeps s0 (execQueueWrite index s) := by
  unfold execQueueWrite
  repeat' (first
    | with_reducible (first | assumption | apply State.objWrite_keeps | apply State.queueWrite_keeps)
    | extract_lets
    | with_reducible apply OutKeeps.next
    | intro _ _ _)

theorem execQueueRelease_keeps {s0 s : State} (h0 : Keeps s0 s) (index : _) :
    OutKeeps s0 (execQueueRelease index s) := by
  unfold execQueueRelease
  repeat' (first
    | with_reducible (first | assumption | apply State.objWrite_keeps | apply State.queueRelease_keeps)
    | extract_lets
    | with_reducible apply OutKeeps.next
    | intro _ _ _)

theorem execSessionWrite_keeps {s0 s : State} (h0 : Keeps s0 s) (index : _) :
    OutKeeps s0 (execSessionWrite index s) := by
  unfold execSessionWrite
  repeat' (first
    | with_reducible (first | assumption | apply State.objWrite_keeps | apply State.sesWrite_keeps)
    | extract_lets
    | with_reducible apply OutKeeps.next
    | intro _ _ _)

theorem execDirectoryEntryWrite_keeps {s0 s : State} (h0 : Keeps s0 s) (index : _) :
    OutKeeps s0 (execDirectoryEntryWrite index s) := by
  unfold execDirectoryEntryWrite
  repeat' (first
    | with_reducible (first | assumption | apply State.objWrite_keeps | apply State.entWrite_keeps)
    | extract_lets
    | with_reducible apply OutKeeps.next
    | intro _ _ _)

theorem execDirectoryPageRelease_keeps {s0 s : State} (h0 : Keeps s0 s) (index : _) :
    OutKeeps s0 (execDirectoryPageRelease index s) := by
  unfold execDirectoryPageRelease
  repeat' (first
    | with_reducible (first | assumption | apply State.objWrite_keeps | apply State.pageRelease_keeps)
    | extract_lets
    | with_reducible apply OutKeeps.next
    | intro _ _ _)

theorem State.submitError_keeps {s0 s : State} (h0 : Keeps s0 s) (r : _) (d : _) :
    Keeps s0 (State.submitError s r d) := by
  unfold State.submitError
  extract_lets v0
  try clear_value v0
  repeat' (first
    | with_reducible (first
      | assumption | apply State.postCompl_keeps | apply State.returnRx_keeps | apply State.takeCells_keeps
      | apply State.countNoCell_keeps | apply Keeps.ite)
    | split)

theorem State.undeliver_keeps {s0 s : State} (h0 : Keeps s0 s) (c : _) : Keeps s0 (State.undeliver s c) := by
  unfold State.undeliver
  extract_lets v0
  repeat' (first
    | with_reducible assumption
    | fail_if_no_progress (with_reducible apply Keeps.upd <;> try with_reducible rfl))

theorem execRxBufferWaitExpiry_keeps {s0 s : State} (h0 : Keeps s0 s) (c : _) :
    OutKeeps s0 (execRxBufferWaitExpiry c s) := by
  unfold execRxBufferWaitExpiry
  extract_lets v0
  try clear_value v0
  repeat' (first
    | with_reducible (first
      | assumption | apply State.returnRx_keeps | apply State.bump_keeps | apply State.undeliver_keeps)
    | split
    | with_reducible apply OutKeeps.next)

theorem State.intoBuf_keeps {s0 s : State} (h0 : Keeps s0 s) (d : _) (r : _) (b : _) :
    Keeps s0 (State.intoBuf s d r b) := by
  unfold State.intoBuf
  extract_lets v0 v1 v2
  try clear_value v0; try clear_value v1; try clear_value v2
  repeat' (first
    | with_reducible (first
      | assumption | apply State.returnRx_keeps | apply State.post_keeps | apply State.arcPass_keeps
      | apply Keeps.ite))

theorem State.deliverHead_keeps {s0 s : State} (h0 : Keeps s0 s) (c : _) (d : _) :
    Keeps s0 (State.deliverHead s c d) := by
  unfold State.deliverHead
  extract_lets v0 v1 v2
  try clear_value v0
  repeat' (first
    | with_reducible (first
      | assumption | apply State.returnRx_keeps | apply State.bump_keeps | apply State.undeliver_keeps
      | apply State.intoBuf_keeps | apply Keeps.ite)
    | fail_if_no_progress (with_reducible apply Keeps.upd <;> try with_reducible rfl) | split)

theorem execRxDelivery_keeps {s0 s : State} (h0 : Keeps s0 s) (c : _) : OutKeeps s0 (execRxDelivery c s) := by
  unfold execRxDelivery
  repeat' (first
    | with_reducible (first | assumption | apply State.deliverHead_keeps)
    | split
    | with_reducible apply OutKeeps.next)

theorem State.takeBuf_keeps {s0 s : State} (h0 : Keeps s0 s) (r : _) (d : _) : Keeps s0 (State.takeBuf s r d) := by
  unfold State.takeBuf
  extract_lets v0 v1
  try clear_value v0
  repeat' (first
    | with_reducible (first | assumption | apply State.postCompl_keeps | apply Keeps.ite)
    | fail_if_no_progress (with_reducible apply Keeps.upd <;> try with_reducible rfl))

theorem State.take1_keeps {s0 s : State} (h0 : Keeps s0 s) (r : _) : Keeps s0 (State.take1 s r) := by
  unfold State.take1
  extract_lets v0 v1 v2
  try clear_value v0
  have k1 : Keeps s0 v1 := by
    unfold v1
    repeat' (first | with_reducible assumption | with_reducible apply State.set_keeps)
  try clear_value v1
  repeat' (first
    | with_reducible assumption
    | fail_if_no_progress (with_reducible apply Keeps.upd <;> try with_reducible rfl))

theorem execRxPostDescriptor_keeps {s0 s : State} (h0 : Keeps s0 s) (r : _) (d : _) :
    OutKeeps s0 (execRxPostDescriptor r d s) := by
  unfold execRxPostDescriptor
  repeat' (first
    | with_reducible (first | assumption | apply State.takeBuf_keeps | apply State.take1_keeps)
    | split
    | with_reducible apply OutKeeps.next)

theorem State.authFrame_keeps {s0 s : State} (h0 : Keeps s0 s) (d : _) (f : _) :
    Keeps s0 (State.authFrame s d f).2 := by
  unfold State.authFrame
  repeat' (first | with_reducible assumption | with_reducible apply State.nextCseq_keeps | split)

theorem State.submitLink_keeps {s0 s : State} (h0 : Keeps s0 s) (r : _) (q : _) (d : _) (f : _) :
    Keeps s0 (State.submitLink s r q d f) := by
  unfold State.submitLink
  repeat' (first
    | with_reducible (first
      | assumption | apply State.linkFrame_keeps | apply State.arcPass_keeps | apply State.takeCells_keeps
      | apply State.postCompl_keeps | apply State.countNoCell_keeps | apply Keeps.ite))

theorem State.submit_keeps {s0 s : State} (h0 : Keeps s0 s) (r : _) (d : _) (body : _) :
    Keeps s0 (State.submit s r d body) := by
  unfold State.submit
  extract_lets v0 v1
  try clear_value v0; try clear_value v1
  repeat' (first
    | with_reducible (first
      | assumption | apply State.postCompl_keeps | apply State.authFrame_keeps | apply State.submitLink_keeps
      | apply Keeps.ite)
    | split)

theorem execTxSubmitDescriptor_keeps {s0 s : State} (h0 : Keeps s0 s) (r : _) (d : _) (body : _) :
    OutKeeps s0 (execTxSubmitDescriptor r d body s) := by
  unfold execTxSubmitDescriptor
  extract_lets v0 v1
  try clear_value v0; try clear_value v1
  repeat' (first
    | with_reducible (first | assumption | apply State.submit_keeps | apply State.take1_keeps)
    | split
    | with_reducible apply OutKeeps.next)

theorem execHostBodyReadError_keeps {s0 s : State} (h0 : Keeps s0 s) (e : _) :
    OutKeeps s0 (execHostBodyReadError e s) := by
  unfold execHostBodyReadError
  repeat' (first
    | with_reducible (first
      | assumption | apply State.submitError_keeps | apply State.take1_keeps | apply State.completeTx_keeps)
    | split
    | with_reducible apply OutKeeps.next)

theorem execDescriptorReadError_keeps {s0 s : State} (h0 : Keeps s0 s) (r : _) :
    OutKeeps s0 (execDescriptorReadError r s) := by
  unfold execDescriptorReadError
  extract_lets v0
  try clear_value v0
  repeat' (first
    | with_reducible (first | assumption | apply State.stopRing_keeps)
    | split
    | with_reducible apply OutKeeps.next)

theorem State.ringOn_keeps {s0 s : State} (h0 : Keeps s0 s) (f : _) (r : _) : Keeps s0 (State.ringOn s f r) := by
  unfold State.ringOn
  repeat' (first | with_reducible assumption | with_reducible apply State.set_keeps)

theorem State.flushBufs_keeps {s0 s : State} (h0 : Keeps s0 s) (r : _) : Keeps s0 (State.flushBufs s r) := by
  unfold State.flushBufs
  extract_lets v0 v1
  try clear_value v0
  repeat' (first
    | with_reducible (first | assumption | apply Keeps.forEach | apply State.postCompl_keeps)
    | fail_if_no_progress (with_reducible apply Keeps.upd <;> try with_reducible rfl) | extract_lets | intro _ _ _)

theorem State.ringOff_keeps {s0 s : State} (h0 : Keeps s0 s) (f : _) (r : _) : Keeps s0 (State.ringOff s f r) := by
  unfold State.ringOff
  extract_lets v0
  have k0 : Keeps s0 v0 := by
    unfold v0
    repeat' (first | with_reducible assumption | with_reducible apply State.set_keeps)
  try clear_value v0
  repeat' (first
    | with_reducible (first
      | assumption | apply State.refreshIdle_keeps | apply State.flushBufs_keeps | apply Keeps.ite))

theorem State.rcfgWrite_keeps {s0 s : State} (h0 : Keeps s0 s) (f : _) (r : _) (v : _) :
    Keeps s0 (State.rcfgWrite s f r v) := by
  unfold State.rcfgWrite
  extract_lets v0 v1 v2 v3 v4 v5
  try clear_value v0; try clear_value v2; try clear_value v3; try clear_value v4
  have k1 : Keeps s0 v1 := by
    unfold v1
    repeat' (first | with_reducible assumption | with_reducible apply State.clearW1c_keeps)
  try clear_value v1
  have k5 : Keeps s0 v5 := by
    unfold v5
    repeat' (first | with_reducible assumption | with_reducible apply State.setReg_keeps)
  try clear_value v5
  repeat' (first
    | with_reducible (first
      | assumption | apply State.raiseFlag_keeps | apply State.refreshIdle_keeps | apply State.ringOn_keeps
      | apply State.ringOff_keeps | apply Keeps.ite))

theorem State.baseWrite_keeps {s0 s : State} (h0 : Keeps s0 s) (f : _) (r : _) (k : _) (v : _) :
    Keeps s0 (State.baseWrite s f r k v) := by
  unfold State.baseWrite
  extract_lets v0 v1
  try clear_value v0; try clear_value v1
  repeat' (first
    | with_reducible (first | assumption | apply State.setReg_keeps | apply State.raiseFlag_keeps | apply Keeps.ite))

theorem State.ringWrite_keeps {s0 s : State} (h0 : Keeps s0 s) (f : _) (r : _) (k : _) (v : _) :
    Keeps s0 (State.ringWrite s f r k v) := by
  unfold State.ringWrite
  repeat' (first
    | with_reducible (first
      | assumption | apply State.hostWrite_keeps | apply State.rcfgWrite_keeps | apply State.baseWrite_keeps
      | apply Keeps.ite)
    | split | intro _ _ _)

theorem State.ringBell_keeps {s0 s : State} (h0 : Keeps s0 s) (f : _) (r : _) (n : _) :
    Keeps s0 (State.ringBell s f r n) := by
  unfold State.ringBell
  extract_lets v0
  try clear_value v0
  repeat' (first
    | with_reducible (first | assumption | apply State.set_keeps | apply State.stopRing_keeps | apply Keeps.ite))

theorem State.unmask_keeps {s0 s : State} (h0 : Keeps s0 s) (f : _) (v : _) : Keeps s0 (State.unmask s f v) := by
  unfold State.unmask
  extract_lets v0
  have k0 : Keeps s0 v0 := by
    unfold v0
    repeat' (first | with_reducible assumption | with_reducible apply State.set_keeps)
  try clear_value v0
  repeat' (first
    | with_reducible (first | assumption | apply State.set_keeps | apply State.requestVector_keeps | apply Keeps.ite))

theorem State.macEnd_keeps {s0 s : State} (h0 : Keeps s0 s) (result : _) : Keeps s0 (State.macEnd s result) := by
  unfold State.macEnd
  repeat' (first | with_reducible assumption | with_reducible apply State.set_keeps)

theorem State.admitSession_keeps {s0 s : State} (h0 : Keeps s0 s) (k : _) (neigh : _) (j : _) :
    Keeps s0 (State.admitSession s k neigh j) := by
  unfold State.admitSession
  extract_lets v0
  try clear_value v0
  repeat' (first | with_reducible assumption | with_reducible apply State.setSes_keeps)

theorem State.admitJoin_keeps {s0 s : State} (h0 : Keeps s0 s) (j : _) (addr : _) (k : _) :
    Keeps s0 (State.admitJoin s j addr k) := by
  unfold State.admitJoin
  extract_lets v0 v1 v2 v3 v4 v5 v6 v7 v8 v9 v10
  try clear_value v0; try clear_value v1; try clear_value v2; try clear_value v3; try clear_value v4;
      try clear_value v7
  have k5 : Keeps s0 v5 := by
    unfold v5
    repeat' (first
      | with_reducible (first | assumption | apply State.admitSession_keeps | apply State.setDirOf_keeps))
  try clear_value v5
  have k6 : Keeps s0 v6 := by
    unfold v6
    repeat' (first
      | with_reducible (first | assumption | apply State.notifyPresence_keeps | apply Keeps.ite))
  try clear_value v6
  have k8 : Keeps s0 v8 := by
    unfold v8
    repeat' (first | with_reducible assumption | with_reducible apply State.sendAnswer_keeps)
  try clear_value v8
  have k10 : Keeps s0 v10 := by
    unfold v10
    repeat' (first
      | with_reducible assumption
      | fail_if_no_progress (with_reducible apply Keeps.upd <;> try with_reducible rfl))
  try clear_value v10
  repeat' (first
    | with_reducible (first | assumption | apply State.macEnd_keeps | apply State.set_keeps))

theorem State.admitCmd_keeps {s0 s : State} (h0 : Keeps s0 s)  : Keeps s0 (State.admitCmd s) := by
  unfold State.admitCmd
  repeat' (first
    | with_reducible (first | assumption | apply State.macEnd_keeps | apply State.admitJoin_keeps)
    | split)

theorem State.rejectCmd_keeps {s0 s : State} (h0 : Keeps s0 s)  : Keeps s0 (State.rejectCmd s) := by
  unfold State.rejectCmd
  repeat' (first
    | with_reducible (first | assumption | apply State.macEnd_keeps | apply State.sendAnswer_keeps)
    | fail_if_no_progress (with_reducible apply Keeps.upd <;> try with_reducible rfl) | split)

theorem State.macCommand_keeps {s0 s : State} (h0 : Keeps s0 s) (op : _) : Keeps s0 (State.macCommand s op) := by
  unfold State.macCommand
  repeat' (first
    | with_reducible (first
      | assumption | apply State.admitCmd_keeps | apply State.rejectCmd_keeps | apply Keeps.ite))

theorem State.holdoffEnd_keeps {s0 s : State} (h0 : Keeps s0 s) (f : _) (v : _) :
    Keeps s0 (State.holdoffEnd s f v) := by
  unfold State.holdoffEnd
  extract_lets v0
  repeat' (first
    | with_reducible (first | assumption | apply State.sendVector_keeps | apply Keeps.ite)
    | fail_if_no_progress (with_reducible apply Keeps.upd <;> try with_reducible rfl) | split)

theorem execRingEnable_keeps {s0 s : State} (h0 : Keeps s0 s) (func : _) (r : _) (data : _) :
    OutKeeps s0 (execRingEnable func r data s) := by
  unfold execRingEnable
  repeat' (first
    | with_reducible (first | assumption | apply State.ringWrite_keeps | apply OutKeeps.next))

theorem State.doorbell_keeps {s0 s : State} (h0 : Keeps s0 s) (f : _) (r : _) (v : _) :
    Keeps s0 (State.doorbell s f r v) := by
  unfold State.doorbell
  repeat' (first
    | with_reducible (first
      | assumption | apply State.violate_keeps | apply State.ringBell_keeps | apply State.fire_keeps
      | apply State.hostWrite_keeps | apply Keeps.ite)
    | fail_if_no_progress (with_reducible apply Keeps.upd <;> try with_reducible rfl) | split | extract_lets
    | intro _ _ _)

theorem execDoorbellWrite_keeps {s0 s : State} (h0 : Keeps s0 s) (func : _) (r : _) (v : _) :
    OutKeeps s0 (execDoorbellWrite func r v s) := by
  unfold execDoorbellWrite
  repeat' (first
    | with_reducible (first | assumption | apply State.doorbell_keeps | apply OutKeeps.next))

theorem execAdmitCommand_keeps {s0 s : State} (h0 : Keeps s0 s)  : OutKeeps s0 (execAdmitCommand s) := by
  unfold execAdmitCommand
  repeat' (first
    | with_reducible (first | assumption | apply State.hostWrite_keeps | apply State.macCommand_keeps)
    | extract_lets
    | with_reducible apply OutKeeps.next
    | intro _ _ _)

theorem execVectorUnmask_keeps {s0 s : State} (h0 : Keeps s0 s) (func : _) (v : _) :
    OutKeeps s0 (execVectorUnmask func v s) := by
  unfold execVectorUnmask
  repeat' (first
    | with_reducible (first | assumption | apply State.hostWrite_keeps | apply State.unmask_keeps)
    | extract_lets
    | with_reducible apply OutKeeps.next
    | intro _ _ _)

theorem execRingConfigWrite_keeps {s0 s : State} (h0 : Keeps s0 s) (func : _) (r : _) (k : _) (data : _) :
    OutKeeps s0 (execRingConfigWrite func r k data s) := by
  unfold execRingConfigWrite
  repeat' (first
    | with_reducible (first | assumption | apply State.ringWrite_keeps | apply OutKeeps.next))

theorem execLinkTrained_keeps {s0 s : State} (h0 : Keeps s0 s) (rate : _) (x8 : _) :
    OutKeeps s0 (execLinkTrained rate x8 s) := by
  unfold execLinkTrained
  extract_lets v0
  repeat' (first
    | with_reducible (first | assumption | apply State.set_keeps)
    | fail_if_no_progress (with_reducible apply Keeps.upd <;> try with_reducible rfl) | split
    | with_reducible apply OutKeeps.next)

theorem execVectorHoldoffExpiry_keeps {s0 s : State} (h0 : Keeps s0 s) (func : _) (v : _) :
    OutKeeps s0 (execVectorHoldoffExpiry func v s) := by
  unfold execVectorHoldoffExpiry
  repeat' (first
    | with_reducible (first | assumption | apply State.holdoffEnd_keeps | apply OutKeeps.next))

theorem execRingDisable_keeps {s0 s : State} (h0 : Keeps s0 s) (func : _) (r : _) (data : _) :
    OutKeeps s0 (execRingDisable func r data s) := by
  unfold execRingDisable
  repeat' (first
    | with_reducible (first | assumption | apply State.ringWrite_keeps | apply OutKeeps.next))

theorem execRejectCommand_keeps {s0 s : State} (h0 : Keeps s0 s)  : OutKeeps s0 (execRejectCommand s) := by
  unfold execRejectCommand
  repeat' (first
    | with_reducible (first | assumption | apply State.hostWrite_keeps | apply State.macCommand_keeps)
    | extract_lets
    | with_reducible apply OutKeeps.next
    | intro _ _ _)

end Sys2Proof.Machine
end

