-- ==== Sys2Proof/Laws/KeepsParts.lean ====
section
/-! SUPPORT. One lemma per operation: what Keeps names is kept by the peripherals, the mailbox, the Square and time. -/

namespace Sys2Proof.Machine

theorem State.flashNext_keeps {s0 s : State} (h0 : Keeps s0 s)  : Keeps s0 (State.flashNext s) := by
  unfold State.flashNext
  extract_lets v0
  repeat' (first
    | with_reducible (first | assumption | apply State.set_keeps)
    | fail_if_no_progress (with_reducible apply Keeps.upd <;> try with_reducible rfl) | split)

theorem State.flashErase_keeps {s0 s : State} (h0 : Keeps s0 s) (a : _) (len : _) :
    Keeps s0 (State.flashErase s a len) := by
  unfold State.flashErase
  extract_lets c src s1 s2
  have k1 : Keeps s0 s1 := .memo h0 _ _ _ _ _ _ _ _ _ _ _ _ _ _ _ _ _ _ (by
    simp only [Memory.wf, Bool.and_eq_true]
    exact fun h => ⟨h.1, filter_wfFrom _ h.2⟩)
  clear_value s1
  have k2 : Keeps s0 s2 := State.set_keeps k1 ..
  clear_value s2
  exact Keeps.ite (State.fire_keeps k2 ..) k2

theorem State.appendRepair_keeps {s0 s : State} (h0 : Keeps s0 s) (a0 : _) : Keeps s0 (State.appendRepair s a0) := by
  unfold State.appendRepair
  extract_lets v0 v1 v2 v3 v4 v5 v6
  try clear_value v2; try clear_value v3
  have k4 : Keeps s0 v4 := by
    unfold v4
    repeat' (first
      | with_reducible (first | assumption | apply State.flashPut_keeps | apply State.flashErase_keeps))
  try clear_value v4
  have k5 : Keeps s0 v5 := by
    unfold v5
    repeat' (first | with_reducible assumption | with_reducible apply State.flashErase_keeps)
  try clear_value v5
  repeat' (first
    | with_reducible (first | assumption | apply State.flashPut_keeps | apply Keeps.ite)
    | fail_if_no_progress (with_reducible apply Keeps.upd <;> try with_reducible rfl))

theorem State.flashStart_keeps {s0 s : State} (h0 : Keeps s0 s) (o : _) : Keeps s0 (State.flashStart s o) := by
  unfold State.flashStart
  extract_lets v0
  repeat' (first
    | with_reducible (first | assumption | apply State.set_keeps)
    | fail_if_no_progress (with_reducible apply Keeps.upd <;> try with_reducible rfl) | split)

theorem State.logRecord_keeps {s0 s : State} (h0 : Keeps s0 s) (r : _) : Keeps s0 (State.logRecord s r) := by
  unfold State.logRecord
  extract_lets v0 v1 v2
  try clear_value v0; try clear_value v1
  repeat' (first
    | with_reducible (first | assumption | apply Keeps.ite)
    | fail_if_no_progress (with_reducible apply Keeps.upd <;> try with_reducible rfl))

theorem State.writeBoot_keeps {s0 s : State} (h0 : Keeps s0 s) (b : _) : Keeps s0 (State.writeBoot s b) := by
  unfold State.writeBoot
  repeat' (first
    | with_reducible (first | assumption | apply State.flashErase_keeps | apply State.flashPut_keeps))

theorem State.writeUnit_keeps {s0 s : State} (h0 : Keeps s0 s) (a : _) (b : _) :
    Keeps s0 (State.writeUnit s a b) := by
  unfold State.writeUnit
  repeat' (first
    | with_reducible (first | assumption | apply State.flashPut_keeps | apply State.flashErase_keeps))

theorem State.writeLog_keeps {s0 s : State} (h0 : Keeps s0 s) (l : _) : Keeps s0 (State.writeLog s l) := by
  unfold State.writeLog
  extract_lets v0 v1 v2 v3 v4 v5 v6
  try clear_value v0; try clear_value v1; try clear_value v3; try clear_value v4
  have k2 : Keeps s0 v2 := by
    unfold v2
    repeat' (first
      | with_reducible (first | assumption | apply State.flashErase_keeps | apply Keeps.ite))
  try clear_value v2
  have k5 : Keeps s0 v5 := by
    unfold v5
    repeat' (first | with_reducible assumption | with_reducible apply State.flashPut_keeps)
  try clear_value v5
  repeat' (first
    | with_reducible assumption
    | fail_if_no_progress (with_reducible apply Keeps.upd <;> try with_reducible rfl))

theorem State.putMbx_keeps {s0 s : State} (h0 : Keeps s0 s) (b : _) : Keeps s0 (State.putMbx s b) := by
  unfold State.putMbx
  repeat' (first
    | with_reducible (first | assumption | apply Keeps.forN | apply State.set_keeps)
    | extract_lets | intro _ _ _)

theorem State.setUart_keeps {s0 s : State} (h0 : Keeps s0 s) (u : _) (x : _) : Keeps s0 (State.setUart s u x) := by
  unfold State.setUart
  repeat' (first
    | with_reducible assumption
    | fail_if_no_progress (with_reducible apply Keeps.upd <;> try with_reducible rfl))

theorem State.uartGo_keeps {s0 s : State} (h0 : Keeps s0 s) (u : _) : Keeps s0 (State.uartGo s u) := by
  unfold State.uartGo
  extract_lets v0
  try clear_value v0
  repeat' (first
    | with_reducible (first | assumption | apply State.setUart_keeps | apply Keeps.ite)
    | split)

theorem State.uartSet_keeps {s0 s : State} (h0 : Keeps s0 s) (u : _) (b : _) : Keeps s0 (State.uartSet s u b) := by
  unfold State.uartSet
  extract_lets v0 v1 v2 v3
  try clear_value v0; try clear_value v2
  have k1 : Keeps s0 v1 := by
    unfold v1
    repeat' (first | with_reducible assumption | with_reducible apply State.raiseFlag_keeps)
  try clear_value v1
  repeat' (first
    | with_reducible (first | assumption | apply State.fire_keeps | apply Keeps.ite)
    | fail_if_no_progress (with_reducible apply Keeps.upd <;> try with_reducible rfl) | split)

theorem execUartCtsChange_keeps {s0 s : State} (h0 : Keeps s0 s) (u : _) (high : _) :
    OutKeeps s0 (execUartCtsChange u high s) := by
  unfold execUartCtsChange
  extract_lets v0 v1
  try clear_value v0
  have k1 : Keeps s0 v1 := by
    unfold v1
    repeat' (first | with_reducible assumption | with_reducible apply State.setUart_keeps)
  try clear_value v1
  repeat' (first
    | with_reducible (first | assumption | apply State.uartGo_keeps | apply State.uartSet_keeps)
    | split
    | with_reducible apply OutKeeps.next)

theorem State.uartRts_keeps {s0 s : State} (h0 : Keeps s0 s) (u : _) : Keeps s0 (State.uartRts s u) := by
  unfold State.uartRts
  extract_lets v0 v1 v2
  try clear_value v0; try clear_value v1; try clear_value v2
  repeat' (first | with_reducible assumption | with_reducible apply State.setUart_keeps)

theorem State.uartRx_keeps {s0 s : State} (h0 : Keeps s0 s) (u : _) (q : _) : Keeps s0 (State.uartRx s u q) := by
  unfold State.uartRx
  extract_lets v0 v1 v2 v3
  try clear_value v0; try clear_value v1
  have k2 : Keeps s0 v2 := by
    unfold v2
    repeat' (first
      | with_reducible (first | assumption | apply State.set_keeps | apply State.setUart_keeps))
  try clear_value v2
  have k3 : Keeps s0 v3 := by
    unfold v3
    repeat' (first
      | with_reducible (first | assumption | apply State.uartSet_keeps | apply Keeps.ite))
  try clear_value v3
  repeat' (first | with_reducible assumption | with_reducible apply State.uartRts_keeps)

theorem State.uartRxFlush_keeps {s0 s : State} (h0 : Keeps s0 s) (u : _) : Keeps s0 (State.uartRxFlush s u) := by
  unfold State.uartRxFlush
  extract_lets v0
  try clear_value v0
  repeat' (first | with_reducible assumption | with_reducible apply State.uartRx_keeps)

theorem State.uartTx_keeps {s0 s : State} (h0 : Keeps s0 s) (u : _) (q : _) : Keeps s0 (State.uartTx s u q) := by
  unfold State.uartTx
  extract_lets v0 v1 v2
  try clear_value v0; try clear_value v1
  have k2 : Keeps s0 v2 := by
    unfold v2
    repeat' (first
      | with_reducible (first | assumption | apply State.set_keeps | apply State.setUart_keeps))
  try clear_value v2
  repeat' (first
    | with_reducible (first | assumption | apply State.uartSet_keeps | apply Keeps.ite))

theorem State.uartTxFlush_keeps {s0 s : State} (h0 : Keeps s0 s) (u : _) : Keeps s0 (State.uartTxFlush s u) := by
  unfold State.uartTxFlush
  extract_lets v0
  try clear_value v0
  repeat' (first
    | with_reducible (first | assumption | apply State.uartTx_keeps | apply State.setUart_keeps))

theorem State.uartQcfg_keeps {s0 s : State} (h0 : Keeps s0 s) (u : _) (data : _) :
    Keeps s0 (State.uartQcfg s u data) := by
  unfold State.uartQcfg
  extract_lets v0 v1 v2
  try clear_value v0
  have k1 : Keeps s0 v1 := by
    unfold v1
    repeat' (first | with_reducible assumption | with_reducible apply State.setReg_keeps)
  try clear_value v1
  have k2 : Keeps s0 v2 := by
    unfold v2
    repeat' (first
      | with_reducible (first | assumption | apply State.uartRxFlush_keeps | apply Keeps.ite))
  try clear_value v2
  repeat' (first
    | with_reducible (first
      | assumption | apply State.uartRts_keeps | apply State.uartTxFlush_keeps | apply Keeps.ite))

theorem execTxflush_keeps {s0 s : State} (h0 : Keeps s0 s) (u : _) (data : _) :
    OutKeeps s0 (execTxflush u data s) := by
  unfold execTxflush
  repeat' (first
    | with_reducible (first | assumption | apply State.hostWrite_keeps | apply State.uartQcfg_keeps)
    | extract_lets
    | with_reducible apply OutKeeps.next
    | intro _ _ _)

theorem execUartReceiveTimeout_keeps {s0 s : State} (h0 : Keeps s0 s) (u : _) :
    OutKeeps s0 (execUartReceiveTimeout u s) := by
  unfold execUartReceiveTimeout
  extract_lets v0
  try clear_value v0
  repeat' (first
    | with_reducible (first | assumption | apply State.uartSet_keeps | apply State.setUart_keeps)
    | split
    | with_reducible apply OutKeeps.next)

theorem State.logCmd_keeps {s0 s : State} (h0 : Keeps s0 s) (unit : _) : Keeps s0 (State.logCmd s unit) := by
  unfold State.logCmd
  repeat' (first
    | with_reducible (first
      | assumption | apply State.fire_keeps | apply State.set_keeps | apply State.flashStart_keeps | apply Keeps.ite))

theorem execLogRead_keeps {s0 s : State} (h0 : Keeps s0 s) (unit : _) : OutKeeps s0 (execLogRead unit s) := by
  unfold execLogRead
  repeat' (first
    | with_reducible (first | assumption | apply State.hostWrite_keeps | apply State.logCmd_keeps)
    | extract_lets
    | with_reducible apply OutKeeps.next
    | intro _ _ _)

theorem State.uartWrite_keeps {s0 s : State} (h0 : Keeps s0 s) (u : _) (b : _) :
    Keeps s0 (State.uartWrite s u b) := by
  unfold State.uartWrite
  extract_lets v0
  try clear_value v0
  repeat' (first
    | with_reducible (first
      | assumption | apply State.uartSet_keeps | apply State.uartGo_keeps | apply State.uartTx_keeps
      | apply Keeps.ite))

theorem execRepairRecordCopy_keeps {s0 s : State} (h0 : Keeps s0 s)  : OutKeeps s0 (execRepairRecordCopy s) := by
  unfold execRepairRecordCopy
  extract_lets v0
  repeat' (first
    | with_reducible (first | assumption | apply State.flashStart_keeps)
    | fail_if_no_progress (with_reducible apply Keeps.upd <;> try with_reducible rfl) | split | extract_lets
    | with_reducible apply OutKeeps.next)

theorem State.gpioEdge_keeps {s0 s : State} (h0 : Keeps s0 s) (i : _) (high : _) :
    Keeps s0 (State.gpioEdge s i high) := by
  unfold State.gpioEdge
  extract_lets v0 v1 v2
  try clear_value v0; try clear_value v2
  have k1 : Keeps s0 v1 := by
    unfold v1
    repeat' (first | with_reducible assumption | with_reducible apply State.setBit_keeps)
  try clear_value v1
  repeat' (first
    | with_reducible (first | assumption | apply State.fire_keeps | apply Keeps.ite))

theorem State.uartHalt_keeps {s0 s : State} (h0 : Keeps s0 s) (u : _) (bit : _) :
    Keeps s0 (State.uartHalt s u bit) := by
  unfold State.uartHalt
  extract_lets v0
  repeat' (first
    | with_reducible (first
      | assumption | apply State.uartSet_keeps | apply State.set_keeps | apply State.setUart_keeps))

theorem State.mbxFlash_keeps {s0 s : State} (h0 : Keeps s0 s) (op : _) (region : _) (offset : _) (len : _) :
    Keeps s0 (State.mbxFlash s op region offset len).2 := by
  unfold State.mbxFlash
  extract_lets v0 v1 v2 v3 v4 v5 v6
  try clear_value v0; try clear_value v1; try clear_value v2; try clear_value v3; try clear_value v4
  have k5 : Keeps s0 v5 := by
    unfold v5
    repeat' (first
      | with_reducible (first | assumption | apply State.flashPut_keeps | apply State.flashErase_keeps))
  try clear_value v5
  have k6 : Keeps s0 v6 := by
    unfold v6
    repeat' (first | with_reducible assumption | with_reducible apply State.flashErase_keeps | split)
  try clear_value v6
  repeat' (first
    | with_reducible (first
      | assumption | apply State.set_keeps | apply State.writeBoot_keeps | apply State.writeUnit_keeps
      | apply State.putMbx_keeps | apply State.loadSafe_keeps)
    | split)

theorem State.endMbxFlash_keeps {s0 s : State} (h0 : Keeps s0 s) (op : _) (region : _) (offset : _) (len : _)
    (failed : _) : Keeps s0 (State.endMbxFlash s op region offset len failed) := by
  unfold State.endMbxFlash
  repeat' (first
    | with_reducible (first | assumption | apply State.mbxFlash_keeps | apply State.fire_keeps)
    | fail_if_no_progress (with_reducible apply Keeps.upd <;> try with_reducible rfl) | split)

theorem execGpioEdge_keeps {s0 s : State} (h0 : Keeps s0 s) (i : _) (high : _) :
    OutKeeps s0 (execGpioEdge i high s) := by
  unfold execGpioEdge
  repeat' (first
    | with_reducible (first | assumption | apply State.gpioEdge_keeps)
    | split
    | with_reducible apply OutKeeps.next)

theorem State.uartStore_keeps {s0 s : State} (h0 : Keeps s0 s) (u : _) (entry : _) :
    Keeps s0 (State.uartStore s u entry) := by
  unfold State.uartStore
  extract_lets v0 v1 v2 v3 v4
  try clear_value v0
  have k1 : Keeps s0 v1 := by
    unfold v1
    repeat' (first | with_reducible assumption | with_reducible apply State.uartRx_keeps)
  try clear_value v1
  have k3 : Keeps s0 v3 := by
    unfold v3
    repeat' (first | with_reducible assumption | with_reducible apply State.setUart_keeps)
  try clear_value v3
  have k4 : Keeps s0 v4 := by
    unfold v4
    repeat' (first
      | with_reducible (first | assumption | apply State.uartSet_keeps | apply Keeps.ite))
  try clear_value v4
  repeat' (first
    | with_reducible (first | assumption | apply State.uartSet_keeps | apply Keeps.ite))

theorem execUartLineClear_keeps {s0 s : State} (h0 : Keeps s0 s) (u : _) : OutKeeps s0 (execUartLineClear u s) := by
  unfold execUartLineClear
  extract_lets v0 v1
  try clear_value v0
  have k1 : Keeps s0 v1 := by
    unfold v1
    repeat' (first
      | with_reducible (first | assumption | apply State.set_keeps | apply State.setUart_keeps))
  try clear_value v1
  repeat' (first
    | with_reducible (first | assumption | apply State.set_keeps | apply State.uartSet_keeps)
    | split
    | with_reducible apply OutKeeps.next)

theorem execRxflush_keeps {s0 s : State} (h0 : Keeps s0 s) (u : _) (data : _) :
    OutKeeps s0 (execRxflush u data s) := by
  unfold execRxflush
  repeat' (first
    | with_reducible (first | assumption | apply State.hostWrite_keeps | apply State.uartQcfg_keeps)
    | extract_lets
    | with_reducible apply OutKeeps.next
    | intro _ _ _)

theorem State.endLogRead_keeps {s0 s : State} (h0 : Keeps s0 s) (k : _) (failed : _) :
    Keeps s0 (State.endLogRead s k failed) := by
  unfold State.endLogRead
  extract_lets v0 v1
  try clear_value v0
  have k1 : Keeps s0 v1 := by
    unfold v1
    repeat' (first
      | with_reducible (first | assumption | apply State.set_keeps | apply Keeps.forN)
      | extract_lets | intro _ _ _)
  try clear_value v1
  repeat' (first
    | with_reducible (first | assumption | apply State.fire_keeps | apply State.set_keeps | apply Keeps.ite))

theorem State.endRepair_keeps {s0 s : State} (h0 : Keeps s0 s) (a0 : _) (k : _) (mark : _) (failed : _) :
    Keeps s0 (State.endRepair s a0 k mark failed) := by
  unfold State.endRepair
  extract_lets v0 v1 v2 v3
  have k1 : Keeps s0 v1 := by
    unfold v1
    repeat' (first | with_reducible assumption | with_reducible apply State.appendRepair_keeps)
  try clear_value v1
  repeat' (first
    | with_reducible (first | assumption | apply State.setReg_keeps | apply Keeps.ite)
    | fail_if_no_progress (with_reducible apply Keeps.upd <;> try with_reducible rfl))

theorem State.endFlash_keeps {s0 s : State} (h0 : Keeps s0 s) (o : _) (failed : _) :
    Keeps s0 (State.endFlash s o failed) := by
  unfold State.endFlash
  repeat' (first
    | with_reducible (first
      | assumption | apply State.endRepair_keeps | apply State.endMbxFlash_keeps | apply State.endLogRead_keeps
      | apply State.writeLog_keeps | apply Keeps.ite)
    | split)

theorem execFlashOperationComplete_keeps {s0 s : State} (h0 : Keeps s0 s) (failed : _) :
    OutKeeps s0 (execFlashOperationComplete failed s) := by
  unfold execFlashOperationComplete
  repeat' (first
    | with_reducible (first | assumption | apply State.flashNext_keeps | apply State.endFlash_keeps)
    | split
    | with_reducible apply OutKeeps.next)

theorem State.uartTake_keeps {s0 s : State} (h0 : Keeps s0 s) (u : _) (c : _) : Keeps s0 (State.uartTake s u c) := by
  unfold State.uartTake
  extract_lets v0 v1 v2
  try clear_value v0; try clear_value v1; try clear_value v2
  repeat' (first
    | with_reducible (first | assumption | apply State.uartStore_keeps | apply State.setUart_keeps | apply Keeps.ite))

theorem execUartDataWrite_keeps {s0 s : State} (h0 : Keeps s0 s) (u : _) (data : _) :
    OutKeeps s0 (execUartDataWrite u data s) := by
  unfold execUartDataWrite
  repeat' (first
    | with_reducible (first | assumption | apply State.hostWrite_keeps | apply State.uartWrite_keeps)
    | extract_lets
    | with_reducible apply OutKeeps.next
    | intro _ _ _)

theorem execLogUnitWrite_keeps {s0 s : State} (h0 : Keeps s0 s)  : OutKeeps s0 (execLogUnitWrite s) := by
  unfold execLogUnitWrite
  extract_lets v0
  repeat' (first
    | with_reducible (first | assumption | apply State.flashStart_keeps)
    | fail_if_no_progress (with_reducible apply Keeps.upd <;> try with_reducible rfl) | split
    | with_reducible apply OutKeeps.next)

theorem execUartCharacterReceived_keeps {s0 s : State} (h0 : Keeps s0 s) (u : _) (c : _) :
    OutKeeps s0 (execUartCharacterReceived u c s) := by
  unfold execUartCharacterReceived
  extract_lets v0
  try clear_value v0
  repeat' (first
    | with_reducible (first | assumption | apply State.uartTake_keeps)
    | split
    | with_reducible apply OutKeeps.next)

theorem execUartLineStuck_keeps {s0 s : State} (h0 : Keeps s0 s) (u : _) : OutKeeps s0 (execUartLineStuck u s) := by
  unfold execUartLineStuck
  extract_lets v0
  try clear_value v0
  repeat' (first
    | with_reducible (first | assumption | apply State.uartSet_keeps | apply State.set_keeps)
    | split
    | with_reducible apply OutKeeps.next)

theorem State.uartRead_keeps {s0 s : State} (h0 : Keeps s0 s) (u : _) : Keeps s0 (State.uartRead s u) := by
  unfold State.uartRead
  extract_lets v0
  try clear_value v0
  repeat' (first
    | with_reducible (first
      | assumption | apply State.post_keeps | apply State.uartRx_keeps | apply State.setUart_keeps | apply Keeps.ite)
    | split)

theorem execUartDataRead_keeps {s0 s : State} (h0 : Keeps s0 s) (u : _) : OutKeeps s0 (execUartDataRead u s) := by
  unfold execUartDataRead
  repeat' (first
    | with_reducible (first | assumption | apply State.hostRead_keeps | apply State.uartRead_keeps)
    | extract_lets
    | with_reducible apply OutKeeps.next
    | intro _ _ _)

theorem State.uartClash_keeps {s0 s : State} (h0 : Keeps s0 s) (u : _) : Keeps s0 (State.uartClash s u) := by
  unfold State.uartClash
  extract_lets v0
  repeat' (first
    | with_reducible (first | assumption | apply State.setUart_keeps | apply State.uartHalt_keeps | apply Keeps.ite))

theorem State.uartDone_keeps {s0 s : State} (h0 : Keeps s0 s) (u : _) (inQueue : _) :
    Keeps s0 (State.uartDone s u inQueue) := by
  unfold State.uartDone
  extract_lets v0 v1
  try clear_value v0
  have k1 : Keeps s0 v1 := by
    unfold v1
    repeat' (first | with_reducible assumption | with_reducible apply State.setUart_keeps)
  try clear_value v1
  repeat' (first
    | with_reducible (first | assumption | apply State.uartGo_keeps | apply State.uartTx_keeps | apply Keeps.ite))

theorem execUartCharacterSent_keeps {s0 s : State} (h0 : Keeps s0 s) (u : _) (clash : _) :
    OutKeeps s0 (execUartCharacterSent u clash s) := by
  unfold execUartCharacterSent
  repeat' (first
    | with_reducible (first | assumption | apply State.uartClash_keeps | apply State.uartDone_keeps)
    | split
    | with_reducible apply OutKeeps.next)

theorem State.mbxNow_keeps {s0 s : State} (h0 : Keeps s0 s) (seq : _) (result : _) :
    Keeps s0 (State.mbxNow s seq result) := by
  unfold State.mbxNow
  repeat' (first | with_reducible assumption | with_reducible apply State.set_keeps)

theorem State.mbxWrite_keeps {s0 s : State} (h0 : Keeps s0 s) (op : _) (seq : _) (excluded : _) (f : _)
    (h_f : ∀ s0 t, Keeps s0 t → Keeps s0 (f t)) : Keeps s0 (State.mbxWrite s op seq excluded f) := by
  unfold State.mbxWrite
  extract_lets v0
  have k0 : Keeps s0 v0 := by
    unfold v0
    repeat' (first
      | with_reducible (first | assumption | apply State.fire_keeps | apply State.set_keeps))
  try clear_value v0
  repeat' (first
    | with_reducible (first | assumption | apply State.mbxNow_keeps | apply h_f | apply Keeps.ite))

theorem State.mbxCmd_keeps {s0 s : State} (h0 : Keeps s0 s) (op : _) (seq : _) (excluded : _) (f : _)
    (h_f : ∀ s0 t, Keeps s0 t → Keeps s0 (f t)) : Keeps s0 (State.mbxCmd s op seq excluded f) := by
  unfold State.mbxCmd
  repeat' (first
    | with_reducible (first | assumption | apply State.hostWrite_keeps | apply State.mbxWrite_keeps)
    | extract_lets | intro _ _ _)

theorem State.mbxJob_keeps {s0 s : State} (h0 : Keeps s0 s) (j : _) : Keeps s0 (State.mbxJob s j) := by
  unfold State.mbxJob
  extract_lets v0
  repeat' (first
    | with_reducible (first | assumption | apply State.set_keeps)
    | fail_if_no_progress (with_reducible apply Keeps.upd <;> try with_reducible rfl))

theorem State.mbxStatus_keeps {s0 s : State} (h0 : Keeps s0 s) (seq : _) : Keeps s0 (State.mbxStatus s seq) := by
  unfold State.mbxStatus
  repeat' (first | with_reducible assumption | with_reducible apply State.mbxJob_keeps)

theorem execStatus_keeps {s0 s : State} (h0 : Keeps s0 s) (seq : _) : OutKeeps s0 (execStatus seq s) := by
  unfold execStatus
  repeat' (first
    | with_reducible (first
      | assumption | apply State.mbxWrite_keeps | apply State.mbxStatus_keeps | apply State.mbxCmd_keeps)
    | split | extract_lets
    | with_reducible apply OutKeeps.next
    | intro _ _ _)

theorem State.mbxViaFlash_keeps {s0 s : State} (h0 : Keeps s0 s) (seq : _) (op : _) (region : _) (offset : _)
    (len : _) : Keeps s0 (State.mbxViaFlash s seq op region offset len) := by
  unfold State.mbxViaFlash
  repeat' (first
    | with_reducible (first | assumption | apply State.flashStart_keeps | apply State.mbxJob_keeps))

theorem State.mbxConfirm_keeps {s0 s : State} (h0 : Keeps s0 s) (seq : _) : Keeps s0 (State.mbxConfirm s seq) := by
  unfold State.mbxConfirm
  repeat' (first
    | with_reducible (first
      | assumption | apply State.mbxViaFlash_keeps | apply State.mbxJob_keeps | apply Keeps.ite))

theorem State.mbxCommit_keeps {s0 s : State} (h0 : Keeps s0 s) (seq : _) : Keeps s0 (State.mbxCommit s seq) := by
  unfold State.mbxCommit
  split
  · exact State.mbxJob_keeps h0 ..
  · extract_lets s1 src
    split
    · apply State.fire_keeps
      apply State.set_keeps
      exact Keeps.keys (State.mbxJob_keeps h0 _) _ _ _ _ _ _ _ _ _ _ _ _ _ _ _ _ _ _ _ ⟨rfl, rfl, rfl⟩ id
        (Nat.le_of_lt (by assumption)) rfl rfl rfl
    · exact State.mbxJob_keeps h0 ..

theorem State.fireNext_keeps {s0 s : State} (h0 : Keeps s0 s) (src : _) (data : _) :
    Keeps s0 (State.fireNext s src data) := by
  have k := State.fire_keeps (Keeps.refl { s with tick := s.tick + 1 }) src data
  exact h0.trans ⟨k.pending, rfl, k.fuses, k.field, k.counter, k.mem, k.regs⟩

theorem State.mbxRestart_keeps {s0 s : State} (h0 : Keeps s0 s)  : Keeps s0 (State.mbxRestart s) := by
  unfold State.mbxRestart
  extract_lets v0 v1
  repeat' (first
    | with_reducible (first | assumption | apply State.fireNext_keeps | apply State.set_keeps)
    | fail_if_no_progress (with_reducible apply Keeps.upd <;> try with_reducible rfl))

theorem State.mbxFlashWrite_keeps {s0 s : State} (h0 : Keeps s0 s) (seq : _) :
    Keeps s0 (State.mbxFlashWrite s seq) := by
  unfold State.mbxFlashWrite
  extract_lets v0 v1 v2
  try clear_value v0; try clear_value v1; try clear_value v2
  repeat' (first
    | with_reducible (first
      | assumption | apply State.mbxJob_keeps | apply State.mbxViaFlash_keeps | apply Keeps.ite))

theorem State.mbxFlashRead_keeps {s0 s : State} (h0 : Keeps s0 s) (seq : _) :
    Keeps s0 (State.mbxFlashRead s seq) := by
  unfold State.mbxFlashRead
  extract_lets v0 v1 v2
  try clear_value v0; try clear_value v1; try clear_value v2
  repeat' (first
    | with_reducible (first
      | assumption | apply State.mbxJob_keeps | apply State.mbxViaFlash_keeps | apply Keeps.ite))

theorem State.mbxHistory_keeps {s0 s : State} (h0 : Keeps s0 s) (seq : _) : Keeps s0 (State.mbxHistory s seq) := by
  unfold State.mbxHistory
  extract_lets v0
  try clear_value v0
  repeat' (first
    | with_reducible (first | assumption | apply State.mbxJob_keeps | apply State.putMbx_keeps))

theorem State.mbxLifecycle_keeps {s0 s : State} (h0 : Keeps s0 s) (seq : _) :
    Keeps s0 (State.mbxLifecycle s seq) := by
  unfold State.mbxLifecycle
  split
  · exact State.mbxJob_keeps h0 ..
  · split
    · exact State.mbxJob_keeps h0 ..
    · apply State.mbxJob_keeps
      apply State.fire_keeps
      exact Keeps.keys h0 _ _ _ _ _ _ _ _ _ _ _ _ _ _ _ _ _ _ _ ⟨rfl, rfl, rfl⟩ (fun _ => rfl)
          (Nat.le_refl _) rfl rfl rfl

theorem State.mailbox_keeps {s0 s : State} (h0 : Keeps s0 s) (op : _) (seq : _) :
    Keeps s0 (State.mailbox s op seq) := by
  unfold State.mailbox
  extract_lets v0
  try clear_value v0
  repeat' (first
    | with_reducible (first
      | assumption | apply State.mbxCmd_keeps | apply State.mbxStatus_keeps | apply State.mbxConfirm_keeps
      | apply State.mbxCommit_keeps | apply State.mbxRestart_keeps | apply State.mbxFlashWrite_keeps
      | apply State.mbxFlashRead_keeps | apply State.mbxViaFlash_keeps | apply State.mbxHistory_keeps
      | apply State.mbxLifecycle_keeps | apply State.mbxNow_keeps)
    | split | extract_lets | intro _ _ _)

theorem execSetBoot_keeps {s0 s : State} (h0 : Keeps s0 s) (seq : _) : OutKeeps s0 (execSetBoot seq s) := by
  unfold execSetBoot
  repeat' (first
    | with_reducible (first | assumption | apply State.mbxCmd_keeps | apply State.mbxViaFlash_keeps)
    | extract_lets
    | with_reducible apply OutKeeps.next
    | intro _ _ _)

theorem execSafeprof_keeps {s0 s : State} (h0 : Keeps s0 s) (seq : _) : OutKeeps s0 (execSafeprof seq s) := by
  unfold execSafeprof
  repeat' (first
    | with_reducible (first | assumption | apply State.mbxCmd_keeps | apply State.mbxViaFlash_keeps)
    | extract_lets
    | with_reducible apply OutKeeps.next
    | intro _ _ _)

theorem execHistory_keeps {s0 s : State} (h0 : Keeps s0 s) (seq : _) : OutKeeps s0 (execHistory seq s) := by
  unfold execHistory
  repeat' (first
    | with_reducible (first | assumption | apply State.mbxCmd_keeps | apply State.mbxHistory_keeps)
    | extract_lets
    | with_reducible apply OutKeeps.next
    | intro _ _ _)

theorem State.putArg_keeps {s0 s : State} (h0 : Keeps s0 s) (i : _) (v : _) : Keeps s0 (State.putArg s i v) := by
  unfold State.putArg
  repeat' (first | with_reducible assumption | with_reducible apply State.set_keeps | split)

theorem execConfirm_keeps {s0 s : State} (h0 : Keeps s0 s) (seq : _) : OutKeeps s0 (execConfirm seq s) := by
  unfold execConfirm
  repeat' (first
    | with_reducible (first | assumption | apply State.mbxCmd_keeps | apply State.mbxConfirm_keeps)
    | extract_lets
    | with_reducible apply OutKeeps.next
    | intro _ _ _)

theorem execCommit_keeps {s0 s : State} (h0 : Keeps s0 s) (seq : _) : OutKeeps s0 (execCommit seq s) := by
  unfold execCommit
  repeat' (first
    | with_reducible (first | assumption | apply State.mbxCmd_keeps | apply State.mbxCommit_keeps)
    | extract_lets
    | with_reducible apply OutKeeps.next
    | intro _ _ _)

theorem execRestart_keeps {s0 s : State} (h0 : Keeps s0 s) (seq : _) : OutKeeps s0 (execRestart seq s) := by
  unfold execRestart
  repeat' (first
    | with_reducible (first
      | assumption | apply State.mbxCmd_keeps | apply State.mbxRestart_keeps | apply OutKeeps.next))

theorem execFlashWrite_keeps {s0 s : State} (h0 : Keeps s0 s) (seq : _) : OutKeeps s0 (execFlashWrite seq s) := by
  unfold execFlashWrite
  repeat' (first
    | with_reducible (first | assumption | apply State.mbxCmd_keeps | apply State.mbxFlashWrite_keeps)
    | extract_lets
    | with_reducible apply OutKeeps.next
    | intro _ _ _)

theorem execFlashRead_keeps {s0 s : State} (h0 : Keeps s0 s) (seq : _) : OutKeeps s0 (execFlashRead seq s) := by
  unfold execFlashRead
  repeat' (first
    | with_reducible (first | assumption | apply State.mbxCmd_keeps | apply State.mbxFlashRead_keeps)
    | extract_lets
    | with_reducible apply OutKeeps.next
    | intro _ _ _)

theorem execLifecycle_keeps {s0 s : State} (h0 : Keeps s0 s) (seq : _) : OutKeeps s0 (execLifecycle seq s) := by
  unfold execLifecycle
  repeat' (first
    | with_reducible (first | assumption | apply State.mbxCmd_keeps | apply State.mbxLifecycle_keeps)
    | extract_lets
    | with_reducible apply OutKeeps.next
    | intro _ _ _)

theorem execMailboxBadOp_keeps {s0 s : State} (h0 : Keeps s0 s) (op : _) (seq : _) :
    OutKeeps s0 (execMailboxBadOp op seq s) := by
  unfold execMailboxBadOp
  repeat' (first
    | with_reducible (first | assumption | apply State.mbxCmd_keeps | apply State.mbxNow_keeps)
    | split | extract_lets
    | with_reducible apply OutKeeps.next
    | intro _ _ _)

theorem execMailboxCommandEnd_keeps {s0 s : State} (h0 : Keeps s0 s)  : OutKeeps s0 (execMailboxCommandEnd s) := by
  unfold execMailboxCommandEnd
  repeat' (first
    | with_reducible (first
      | assumption | apply State.putArg_keeps | apply State.set_keeps | apply State.mbxNow_keeps)
    | fail_if_no_progress (with_reducible apply Keeps.upd <;> try with_reducible rfl) | split | extract_lets
    | with_reducible apply OutKeeps.next)

theorem State.latchTick_keeps {s0 s : State} (h0 : Keeps s0 s)  : Keeps s0 (State.latchTick s) := by
  unfold State.latchTick
  repeat' (first
    | with_reducible (first | assumption | apply State.post_keeps | apply State.set_keeps))

theorem execTickReadLatch_keeps {s0 s : State} (h0 : Keeps s0 s)  : OutKeeps s0 (execTickReadLatch s) := by
  unfold execTickReadLatch
  repeat' (first
    | with_reducible (first
      | assumption | apply State.hostRead_keeps | apply State.latchTick_keeps | apply OutKeeps.next))

theorem execViolationClear_keeps {s0 s : State} (h0 : Keeps s0 s)  : OutKeeps s0 (execViolationClear s) := by
  unfold execViolationClear
  repeat' (first
    | with_reducible (first
      | assumption | apply State.hostWrite_keeps | apply State.clearViolations_keeps | apply OutKeeps.next))

theorem State.swEvent_keeps {s0 s : State} (h0 : Keeps s0 s) (num : _) (data : _) :
    Keeps s0 (State.swEvent s num data) := by
  unfold State.swEvent
  repeat' (first | with_reducible assumption | with_reducible apply State.fire_keeps)

theorem execSoftwareEvent_keeps {s0 s : State} (h0 : Keeps s0 s) (num : _) (data : _) :
    OutKeeps s0 (execSoftwareEvent num data s) := by
  unfold execSoftwareEvent
  repeat' (first
    | with_reducible (first | assumption | apply State.hostWrite_keeps | apply State.swEvent_keeps)
    | extract_lets
    | with_reducible apply OutKeeps.next
    | intro _ _ _)

theorem State.hostAccess_keeps {s0 s : State} (h0 : Keeps s0 s) (func : _) (bar : _) (offset : _) (write : _)
    (act : _) (h_act : ∀ s0 t, Keeps s0 t → Keeps s0 (act t)) :
    Keeps s0 (State.hostAccess s func bar offset write act) := by
  unfold State.hostAccess
  repeat' (first
    | with_reducible (first
      | assumption | apply State.post_keeps | apply State.violate_keeps | apply h_act | apply Keeps.ite)
    | fail_if_no_progress (with_reducible apply Keeps.upd <;> try with_reducible rfl) | split)

theorem State.recordOut_keeps {s0 s : State} (h0 : Keeps s0 s) (t : _) (r : _) :
    Keeps s0 (State.recordOut s t r) := by
  unfold State.recordOut
  repeat' (first
    | with_reducible (first
      | assumption | apply State.setLost_keeps | apply State.putEvent_keeps | apply State.bump_keeps
      | apply Keeps.ite))

theorem execUnsupportedRequest_keeps {s0 s : State} (h0 : Keeps s0 s) (r : _) :
    OutKeeps s0 (execUnsupportedRequest r s) := by
  unfold execUnsupportedRequest
  repeat' (first
    | with_reducible (first | assumption | apply State.post_keeps)
    | split
    | with_reducible apply OutKeeps.next)

theorem State.drain_keeps {s0 s : State} (h0 : Keeps s0 s) (r : _) : Keeps s0 (State.drain s r) := by
  unfold State.drain
  extract_lets v0 v1 v2 v3
  try clear_value v0
  have k2 : Keeps s0 v2 := by
    unfold v2
    repeat' (first
      | with_reducible (first | assumption | apply State.logRecord_keeps)
      | fail_if_no_progress (with_reducible apply Keeps.upd <;> try with_reducible rfl))
  try clear_value v2
  have k3 : Keeps s0 v3 := by
    unfold v3
    repeat' (first
      | with_reducible (first | assumption | apply State.recordOut_keeps | apply Keeps.ite))
  try clear_value v3
  repeat' (first
    | with_reducible (first | assumption | apply State.requestVector_keeps | apply Keeps.ite))

theorem execRecordDrain_keeps {s0 s : State} (h0 : Keeps s0 s)  : OutKeeps s0 (execRecordDrain s) := by
  unfold execRecordDrain
  repeat' (first
    | with_reducible (first | assumption | apply State.drain_keeps)
    | split
    | with_reducible apply OutKeeps.next)

theorem execPoisonedTlp_keeps {s0 s : State} (h0 : Keeps s0 s) (_func : _) (_bar : _) (_offset : _) :
    OutKeeps s0 (execPoisonedTlp _func _bar _offset s) := by
  unfold execPoisonedTlp
  repeat' (first
    | with_reducible (first | assumption | apply State.post_keeps | apply OutKeeps.next))

theorem execSilentViolation_keeps {s0 s : State} (h0 : Keeps s0 s) (a : _) :
    OutKeeps s0 (execSilentViolation a s) := by
  unfold execSilentViolation
  repeat' (first
    | with_reducible (first | assumption | apply State.hostAccess_keeps | apply State.violate_keeps)
    | split | extract_lets
    | with_reducible apply OutKeeps.next
    | intro _ _ _ | simp only [id_eq])

theorem execSysLockWrite_keeps {s0 s : State} (h0 : Keeps s0 s)  : OutKeeps s0 (execSysLockWrite s) := by
  unfold execSysLockWrite
  repeat' (first
    | with_reducible (first | assumption | apply State.hostWrite_keeps | apply State.set_keeps)
    | extract_lets
    | with_reducible apply OutKeeps.next
    | intro _ _ _)

theorem State.showJoint_keeps {s0 s : State} (h0 : Keeps s0 s) (n : _) : Keeps s0 (State.showJoint s n) := by
  unfold State.showJoint
  repeat' (first | with_reducible assumption | with_reducible apply State.set_keeps)

theorem State.tmsWrite_keeps {s0 s : State} (h0 : Keeps s0 s) (cfg : _) (data : _) :
    Keeps s0 (State.tmsWrite s cfg data) := by
  unfold State.tmsWrite
  extract_lets v0
  have k0 : Keeps s0 v0 := by
    unfold v0
    repeat' (first
      | with_reducible (first | assumption | apply State.clearW1c_keeps | apply Keeps.ite))
  try clear_value v0
  repeat' (first
    | with_reducible (first | assumption | apply State.raiseFlag_keeps | apply State.set_keeps | apply Keeps.ite))

theorem State.snrBaseWrite_keeps {s0 s : State} (h0 : Keeps s0 s) (data : _) :
    Keeps s0 (State.snrBaseWrite s data) := by
  unfold State.snrBaseWrite
  repeat' (first
    | with_reducible (first | assumption | apply State.set_keeps | apply State.raiseFlag_keeps | apply Keeps.ite))

theorem State.setGrpAct_keeps {s0 s : State} (h0 : Keeps s0 s) (g : _) (act : _) :
    Keeps s0 (State.setGrpAct s g act) := by
  unfold State.setGrpAct
  repeat' (first
    | with_reducible (first | assumption | apply Keeps.forN | apply State.showJoint_keeps | apply State.set_keeps)
    | extract_lets | intro _ _ _)

theorem State.grpWrite_keeps {s0 s : State} (h0 : Keeps s0 s) (g : _) (data : _) :
    Keeps s0 (State.grpWrite s g data) := by
  unfold State.grpWrite
  extract_lets v0 v1 v2 v3
  try clear_value v0; try clear_value v1; try clear_value v3
  have k2 : Keeps s0 v2 := by
    unfold v2
    repeat' (first
      | with_reducible (first | assumption | apply State.set_keeps | apply State.clearW1c_keeps))
  try clear_value v2
  repeat' (first
    | with_reducible (first
      | assumption | apply State.set_keeps | apply State.setGrpAct_keeps | apply State.raiseFlag_keeps
      | apply Keeps.ite))

theorem execGroupCfgWrite_keeps {s0 s : State} (h0 : Keeps s0 s) (g : _) (data : _) :
    OutKeeps s0 (execGroupCfgWrite g data s) := by
  unfold execGroupCfgWrite
  repeat' (first
    | with_reducible (first | assumption | apply State.hostWrite_keeps | apply State.grpWrite_keeps)
    | extract_lets
    | with_reducible apply OutKeeps.next
    | intro _ _ _)

theorem execToneMapStoreCfgWrite_keeps {s0 s : State} (h0 : Keeps s0 s) (cfg : _) (data : _) :
    OutKeeps s0 (execToneMapStoreCfgWrite cfg data s) := by
  unfold execToneMapStoreCfgWrite
  repeat' (first
    | with_reducible (first | assumption | apply State.hostWrite_keeps | apply State.tmsWrite_keeps)
    | split | extract_lets
    | with_reducible apply OutKeeps.next
    | intro _ _ _)

theorem execSnrStoreBaseWrite_keeps {s0 s : State} (h0 : Keeps s0 s) (data : _) :
    OutKeeps s0 (execSnrStoreBaseWrite data s) := by
  unfold execSnrStoreBaseWrite
  repeat' (first
    | with_reducible (first | assumption | apply State.hostWrite_keeps | apply State.snrBaseWrite_keeps)
    | extract_lets
    | with_reducible apply OutKeeps.next
    | intro _ _ _)

theorem execPpsOutEdge_keeps {s0 s : State} (h0 : Keeps s0 s)  : OutKeeps s0 (execPpsOutEdge s) := by
  unfold execPpsOutEdge
  extract_lets v0 v1 v2
  try clear_value v0
  have k2 : Keeps s0 v2 := by
    unfold v2
    repeat' (first
      | with_reducible assumption
      | fail_if_no_progress (with_reducible apply Keeps.upd <;> try with_reducible rfl))
  try clear_value v2
  repeat' (first
    | with_reducible (first | assumption | apply State.fire_keeps)
    | split
    | with_reducible apply OutKeeps.next)

theorem State.tb0Set_keeps {s0 s : State} (h0 : Keeps s0 s)  : Keeps s0 (State.tb0Set s) := by
  unfold State.tb0Set
  extract_lets v0 v1 v2 v3
  try clear_value v0; try clear_value v1; try clear_value v2; try clear_value v3
  repeat' (first
    | with_reducible (first | assumption | apply State.set_keeps | apply State.startTb_keeps | apply Keeps.ite))

theorem State.tb0Adj_keeps {s0 s : State} (h0 : Keeps s0 s) (ofs : _) (freq : _) :
    Keeps s0 (State.tb0Adj s ofs freq) := by
  unfold State.tb0Adj
  extract_lets v0 v1 v2 v3 v4 v5 v6 v7 v8 v9 v10 v11
  try clear_value v0; try clear_value v1; try clear_value v2; try clear_value v3; try clear_value v4
  have k5 : Keeps s0 v5 := by
    unfold v5
    repeat' (first
      | with_reducible (first | assumption | apply State.jump_keeps | apply Keeps.ite))
  try clear_value v5
  have k6 : Keeps s0 v6 := by
    unfold v6
    repeat' (first
      | with_reducible (first | assumption | apply State.jump_keeps | apply Keeps.ite))
  try clear_value v6
  have k8 : Keeps s0 v8 := by
    unfold v8
    repeat' (first
      | with_reducible (first | assumption | apply State.setTb_keeps | apply State.startTb_keeps | apply Keeps.ite))
  try clear_value v8
  have k9 : Keeps s0 v9 := by
    unfold v9
    repeat' (first
      | with_reducible (first | assumption | apply State.setI_keeps | apply Keeps.ite))
  try clear_value v9
  have k11 : Keeps s0 v11 := by
    unfold v11
    repeat' (first | with_reducible assumption | with_reducible apply State.setTb_keeps)
  try clear_value v11
  repeat' (first
    | with_reducible (first | assumption | apply State.set_keeps | apply State.setHold_keeps | apply Keeps.ite))

theorem execTb0Adj_keeps {s0 s : State} (h0 : Keeps s0 s) (ofs : _) (freq : _) :
    OutKeeps s0 (execTb0Adj ofs freq s) := by
  unfold execTb0Adj
  repeat' (first
    | with_reducible (first | assumption | apply State.hostWrite_keeps | apply State.tb0Adj_keeps)
    | extract_lets
    | with_reducible apply OutKeeps.next
    | intro _ _ _)

theorem State.compensate_keeps {s0 s : State} (h0 : Keeps s0 s) (moved : _) :
    Keeps s0 (State.compensate s moved) := by
  unfold State.compensate
  extract_lets v0 v1
  try clear_value v0
  have k1 : Keeps s0 v1 := by
    unfold v1
    repeat' (first | with_reducible assumption | with_reducible apply State.setI_keeps)
  try clear_value v1
  repeat' (first | with_reducible assumption | with_reducible apply State.setI_keeps)

theorem execPllTrimStep_keeps {s0 s : State} (h0 : Keeps s0 s)  : OutKeeps s0 (execPllTrimStep s) := by
  unfold execPllTrimStep
  extract_lets v0 v1 v2 v3 v4 v5
  try clear_value v0; try clear_value v1; try clear_value v2; try clear_value v3; try clear_value v4
  repeat' (first
    | with_reducible (first | assumption | apply State.compensate_keeps | apply State.setI_keeps)
    | fail_if_no_progress (with_reducible apply Keeps.upd <;> try with_reducible rfl) | split
    | with_reducible apply OutKeeps.next)

theorem State.rebase_keeps {s0 s : State} (h0 : Keeps s0 s) (b : _) : Keeps s0 (State.rebase s b) := by
  unfold State.rebase
  extract_lets v0 v1 v2
  have k0 : Keeps s0 v0 := by
    unfold v0
    repeat' (first | with_reducible assumption | with_reducible apply State.set_keeps)
  try clear_value v0
  have k1 : Keeps s0 v1 := by
    unfold v1
    repeat' (first
      | with_reducible (first
        | assumption | apply State.set_keeps | apply State.count_keeps | apply State.setTb_keeps))
  try clear_value v1
  repeat' (first
    | with_reducible (first | assumption | apply Keeps.ite)
    | fail_if_no_progress (with_reducible apply Keeps.upd <;> try with_reducible rfl))

theorem State.syncAt_keeps {s0 s : State} (h0 : Keeps s0 s) (tick : _) : Keeps s0 (State.syncAt s tick) := by
  unfold State.syncAt
  split
  · exact State.syncOut_keeps h0 ..
  · have k := State.syncOut_keeps (Keeps.refl { s with tick := tick }) 3
    exact h0.trans ⟨k.pending, rfl, k.fuses, k.field, k.counter, k.mem, k.regs⟩

theorem State.syncSeconds_keeps {s0 : State} (s : State) {later : State} (h0 : Keeps s0 later) :
    Keeps s0 (s.syncSeconds later) := by
  unfold State.syncSeconds
  extract_lets a
  exact Keeps.ite (Keeps.forN h0 (fun _ _ h => State.syncAt_keeps h ..) _) h0

theorem State.advance_keeps {s0 s : State} (n : Nat) (h0 : Keeps s0 { s with tick := s.tick + n }) :
    Keeps s0 (s.advance n) := by
  unfold State.advance
  split
  · subst_vars; exact h0
  · apply State.syncSeconds_keeps
    apply State.showSettles_keeps
    have k1 := State.advanceTb_keeps (State.advanceTb_keeps (State.advancePt_keeps (State.orphanDecide_keeps
      (Keeps.refl s)) n) 0 n) 1 n
    generalize ((s.orphanDecide.advancePt n).advanceTb 0 n).advanceTb 1 n = s1 at k1
    extract_lets q s2
    have k2 := State.burSettle_keeps (Keeps.refl { s1 with tick := s.tick + 1, sq.fresh := [] })
    exact h0.trans ⟨k2.pending.trans k1.pending, rfl, ⟨k2.fuses.1.trans k1.fuses.1, k2.fuses.2.1.trans k1.fuses.2.1,
      k2.fuses.2.2.trans k1.fuses.2.2⟩, fun x => k2.field (k1.field x), le_trans k1.counter k2.counter,
      fun x => k2.mem (k1.mem x), fun x => k2.regs (k1.regs x)⟩

theorem execRebase_keeps {s0 s : State} (h0 : Keeps s0 s) (b : _) : OutKeeps s0 (execRebase b s) := by
  unfold execRebase
  repeat' (first
    | with_reducible (first | assumption | apply State.hostWrite_keeps | apply State.rebase_keeps)
    | extract_lets
    | with_reducible apply OutKeeps.next
    | intro _ _ _)

theorem execPpsInEdge_keeps {s0 s : State} (h0 : Keeps s0 s) (ns : _) : OutKeeps s0 (execPpsInEdge ns s) := by
  unfold execPpsInEdge
  extract_lets v0
  repeat' (first
    | with_reducible (first | assumption | apply State.fire_keeps)
    | fail_if_no_progress (with_reducible apply Keeps.upd <;> try with_reducible rfl)
    | with_reducible apply OutKeeps.next)

theorem State.countClips_keeps {s0 s : State} (h0 : Keeps s0 s) (l : List Clip) : Keeps s0 (s.countClips l) := by
  unfold State.countClips
  exact Keeps.forEach l h0 (fun _ _ h => Keeps.ite (State.bump_keeps (State.bump_keeps h _ _) _ _) h)

theorem Keeps.at_tick {s t : State} (h : Keeps s t) (n : Nat) :
    Keeps { s with tick := s.tick + n } { t with tick := t.tick + n } :=
  ⟨h.pending, congrArg (· + n) h.tick, h.fuses, h.field, h.counter, h.mem, h.regs⟩

theorem execTimeBaseAdvance_keeps {s0 s : State} (n : Nat) (l : List Clip)
    (h0 : Keeps s0 { s with tick := s.tick + n }) : OutKeeps s0 (execTimeBaseAdvance n l s) := by
  unfold execTimeBaseAdvance
  refine OutKeeps.next (State.advance_keeps n ?_)
  split
  · exact h0
  · exact h0.trans ((State.countClips_keeps (Keeps.refl s) l).at_tick n)

theorem execTb3CycleBoundary_keeps {s0 s : State} (h0 : Keeps s0 s)  : OutKeeps s0 (execTb3CycleBoundary s) := by
  unfold execTb3CycleBoundary
  extract_lets v0 v1 v2 v3 v4
  try clear_value v0; try clear_value v1
  have k3 : Keeps s0 v3 := by
    unfold v3
    repeat' (first
      | with_reducible assumption
      | fail_if_no_progress (with_reducible apply Keeps.upd <;> try with_reducible rfl))
  try clear_value v3
  have k4 : Keeps s0 v4 := by
    unfold v4
    repeat' (first | with_reducible assumption | with_reducible apply State.showCyc_keeps)
  try clear_value v4
  repeat' (first
    | with_reducible (first | assumption | apply State.fire_keeps | apply State.set_keeps)
    | split
    | with_reducible apply OutKeeps.next)

theorem State.putStamp_keeps {s0 s : State} (h0 : Keeps s0 s) (f : _) (v : _) : Keeps s0 (State.putStamp s f v) := by
  unfold State.putStamp
  repeat' (first | with_reducible assumption | with_reducible apply State.set_keeps)

theorem execTb0Set_keeps {s0 s : State} (h0 : Keeps s0 s)  : OutKeeps s0 (execTb0Set s) := by
  unfold execTb0Set
  repeat' (first
    | with_reducible (first
      | assumption | apply State.hostWrite_keeps | apply State.tb0Set_keeps | apply OutKeeps.next))

theorem execTb0HoldoverTimeout_keeps {s0 s : State} (h0 : Keeps s0 s)  : OutKeeps s0 (execTb0HoldoverTimeout s) := by
  unfold execTb0HoldoverTimeout
  repeat' (first
    | with_reducible (first | assumption | apply State.setHold_keeps)
    | split
    | with_reducible apply OutKeeps.next)

theorem execTb1Discipline_keeps {s0 s : State} (h0 : Keeps s0 s)  : OutKeeps s0 (execTb1Discipline s) := by
  unfold execTb1Discipline
  extract_lets v0 v1 v2 v3
  try clear_value v0; try clear_value v1
  have k3 : Keeps s0 v3 := by
    unfold v3
    repeat' (first
      | with_reducible (first | assumption | apply State.set_keeps)
      | fail_if_no_progress (with_reducible apply Keeps.upd <;> try with_reducible rfl))
  try clear_value v3
  repeat' (first
    | with_reducible (first | assumption | apply State.correct_keeps)
    | split
    | with_reducible apply OutKeeps.next)

theorem execPpsOutFall_keeps {s0 s : State} (h0 : Keeps s0 s)  : OutKeeps s0 (execPpsOutFall s) := by
  unfold execPpsOutFall
  extract_lets v0
  repeat' (first
    | with_reducible assumption
    | fail_if_no_progress (with_reducible apply Keeps.upd <;> try with_reducible rfl) | split
    | with_reducible apply OutKeeps.next)

theorem execPpsInReadLatch_keeps {s0 s : State} (h0 : Keeps s0 s)  : OutKeeps s0 (execPpsInReadLatch s) := by
  unfold execPpsInReadLatch
  repeat' (first
    | with_reducible (first
      | assumption | apply State.hostRead_keeps | apply State.putStamp_keeps | apply State.post_keeps)
    | extract_lets
    | with_reducible apply OutKeeps.next
    | intro _ _ _)

end Sys2Proof.Machine
end

