-- ==== Sys2Proof/Laws/KeepsModes.lean ====
section
/-! SUPPORT. One lemma per operation: what Keeps names is kept by reset, modes, boot, power and register access. -/

namespace Sys2Proof.Machine

theorem State.arcClear_keeps {s0 s : State} (h0 : Keeps s0 s) (i : _) : Keeps s0 (State.arcClear s i) := by
  unfold State.arcClear
  repeat' (first
    | with_reducible assumption
    | fail_if_no_progress (with_reducible apply Keeps.upd <;> try with_reducible rfl))

theorem State.portLost_keeps {s0 s : State} (h0 : Keeps s0 s) (n : _) : Keeps s0 (State.portLost s n) := by
  unfold State.portLost
  extract_lets v0 v1 v2 v3 v4 v5
  have k1 : Keeps s0 v1 := by
    unfold v1
    repeat' (first
      | with_reducible (first | assumption | apply State.setFePort_keeps | apply State.setTxPort_keeps))
  try clear_value v1
  repeat' (first
    | with_reducible (first | assumption | apply State.arcClear_keeps)
    | fail_if_no_progress (with_reducible apply Keeps.upd <;> try with_reducible rfl))

theorem State.showPower_keeps {s0 s : State} (h0 : Keeps s0 s)  : Keeps s0 (State.showPower s) := by
  unfold State.showPower
  repeat' (first | with_reducible assumption | with_reducible apply State.set_keeps)

theorem State.blocksReset_keeps {s0 s : State} (h0 : Keeps s0 s)  : Keeps s0 (State.blocksReset s) := by
  unfold State.blocksReset
  extract_lets v0 v1
  repeat' (first
    | with_reducible assumption
    | fail_if_no_progress (with_reducible apply Keeps.upd <;> try with_reducible rfl))

theorem State.showProg_keeps {s0 s : State} (h0 : Keeps s0 s)  : Keeps s0 (State.showProg s) := by
  unfold State.showProg
  repeat' (first | with_reducible assumption | with_reducible apply State.set_keeps)

theorem State.setMode_keeps {s0 s : State} (h0 : Keeps s0 s) (m : _) : Keeps s0 (State.setMode s m) := by
  unfold State.setMode
  repeat' (first
    | with_reducible (first | assumption | apply State.showProg_keeps | apply State.set_keeps))

theorem State.automatic_keeps {s0 s : State} (h0 : Keeps s0 s) (safe : _) : Keeps s0 (State.automatic s safe) := by
  unfold State.automatic
  extract_lets v0
  repeat' (first
    | with_reducible assumption
    | fail_if_no_progress (with_reducible apply Keeps.upd <;> try with_reducible rfl))

theorem State.dmaStop_keeps {s0 s : State} (h0 : Keeps s0 s)  : Keeps s0 (State.dmaStop s) := by
  unfold State.dmaStop
  extract_lets v0
  repeat' (first
    | with_reducible assumption
    | fail_if_no_progress (with_reducible apply Keeps.upd <;> try with_reducible rfl))

theorem State.stopLine_keeps {s0 s : State} (h0 : Keeps s0 s) (n : _) : Keeps s0 (State.stopLine s n) := by
  unfold State.stopLine
  repeat' (first | with_reducible assumption | with_reducible apply State.airEnd_keeps | split)

theorem State.refreshLds_keeps {s0 s : State} (h0 : Keeps s0 s)  : Keeps s0 (State.refreshLds s) := by
  unfold State.refreshLds
  repeat' (first
    | with_reducible (first | assumption | apply Keeps.forN | apply State.refreshLd_keeps)
    | extract_lets | intro _ _ _)

theorem State.setOn_keeps {s0 s : State} (h0 : Keeps s0 s) (d : _) (b : _) : Keeps s0 (State.setOn s d b) := by
  unfold State.setOn
  repeat' (first | with_reducible assumption | with_reducible apply State.set_keeps)

theorem State.basesLost_keeps {s0 s : State} (h0 : Keeps s0 s)  : Keeps s0 (State.basesLost s) := by
  unfold State.basesLost
  extract_lets v0 v1 v2
  repeat' (first
    | with_reducible (first | assumption | apply State.set_keeps | apply State.setTb_keeps)
    | fail_if_no_progress (with_reducible apply Keeps.upd <;> try with_reducible rfl))

theorem State.fixAreas_keeps {s0 s : State} (h0 : Keeps s0 s)  : Keeps s0 (State.fixAreas s) := by
  unfold State.fixAreas
  repeat' (first | with_reducible assumption | with_reducible apply State.set_keeps | with_reducible apply Keeps.ite)

theorem State.slotsLost_keeps {s0 s : State} (h0 : Keeps s0 s) (a : _) (b : _) :
    Keeps s0 (State.slotsLost s a b) := by
  unfold State.slotsLost
  repeat' (first
    | with_reducible (first | assumption | apply Keeps.forN | apply State.setSlot_keeps | apply Keeps.ite)
    | extract_lets | intro _ _ _)

theorem State.cphIdle_keeps {s0 s : State} (h0 : Keeps s0 s)  : Keeps s0 (State.cphIdle s) := by
  unfold State.cphIdle
  extract_lets v0 v1
  have k0 : Keeps s0 v0 := by
    unfold v0
    repeat' (first
      | with_reducible (first | assumption | apply Keeps.forN | apply State.set_keeps | apply Keeps.ite)
      | extract_lets | intro _ _ _)
  try clear_value v0
  repeat' (first
    | with_reducible (first | assumption | apply State.set_keeps | apply State.showCph_keeps)
    | fail_if_no_progress (with_reducible apply Keeps.upd <;> try with_reducible rfl))

theorem State.msnLost_keeps {s0 s : State} (h0 : Keeps s0 s)  : Keeps s0 (State.msnLost s) := by
  unfold State.msnLost
  extract_lets v0 v1
  repeat' (first
    | with_reducible assumption
    | fail_if_no_progress (with_reducible apply Keeps.upd <;> try with_reducible rfl))

theorem State.domainLost_keeps {s0 s : State} (h0 : Keeps s0 s) (d : _) : Keeps s0 (State.domainLost s d) := by
  unfold State.domainLost
  extract_lets s1 m s2 fe bur s3 sb cph mem rx
  have k1 : Keeps s0 s1 := State.resetWhere_keeps h0 _
  clear_value s1
  have k2 : Keeps s0 s2 := .memo k1 _ _ _ _ _ _ _ _ _ _ _ _ _ _ _ _ _ _ (by
    simp only [Memory.wf, Bool.and_eq_true]
    exact fun h => ⟨⟨h.1.1, filter_wfFrom _ h.1.2⟩, h.2⟩)
  clear_value s2
  have k3 : Keeps s0 s3 := k2.upd _ _ _ _ _ _ _ _ _ _ _ _ _ _ _ _ _ _ rfl rfl rfl
  clear_value s3
  refine Keeps.ite (State.set_keeps (State.set_keeps (State.set_keeps k3 ..) ..) ..) ?_
  refine Keeps.ite ((State.basesLost_keeps k2).upd _ _ _ _ _ _ _ _ _ _ _ _ _ _ _ _ _ _ rfl rfl rfl) ?_
  refine Keeps.ite (State.fixAreas_keeps (k2.upd _ _ _ _ _ _ _ _ _ _ _ _ _ _ _ _ _ _ rfl rfl rfl)) ?_
  refine Keeps.ite (State.slotsLost_keeps (State.slotsLost_keeps (State.cphIdle_keeps k2) ..) ..) ?_
  refine Keeps.ite (.memo k2 _ _ _ _ _ _ _ _ _ _ _ _ _ _ _ _ _ _ (by
    simp only [Memory.wf, Bool.and_eq_true]
    exact fun h => ⟨⟨rfl, h.1.2⟩, h.2⟩)) ?_
  refine Keeps.ite (k2.upd _ _ _ _ _ _ _ _ _ _ _ _ _ _ _ _ _ _ rfl rfl rfl) ?_
  exact Keeps.ite (State.msnLost_keeps k2) (Keeps.ite (State.portLost_keeps (State.portLost_keeps k2 _) _) k2)

theorem State.settle_keeps {s0 s : State} (h0 : Keeps s0 s) (d : _) : Keeps s0 (State.settle s d) := by
  unfold State.settle
  extract_lets v0
  repeat' (first
    | with_reducible (first | assumption | apply State.showPower_keeps)
    | fail_if_no_progress (with_reducible apply Keeps.upd <;> try with_reducible rfl))

theorem State.domainDown_keeps {s0 s : State} (h0 : Keeps s0 s) (d : _) : Keeps s0 (State.domainDown s d) := by
  unfold State.domainDown
  repeat' (first
    | with_reducible (first
      | assumption | apply State.fire_keeps | apply State.setOn_keeps | apply State.domainLost_keeps
      | apply State.settle_keeps))

theorem State.gateSafe_keeps {s0 s : State} (h0 : Keeps s0 s)  : Keeps s0 (State.gateSafe s) := by
  unfold State.gateSafe
  repeat' (first
    | with_reducible (first
      | assumption | apply Keeps.forN | apply State.domainDown_keeps | apply State.settle_keeps | apply Keeps.ite)
    | extract_lets | intro _ _ _)

theorem State.safeNow_keeps {s0 s : State} (h0 : Keeps s0 s) (reason : _) : Keeps s0 (State.safeNow s reason) := by
  unfold State.safeNow
  extract_lets v0 v1
  have k0 : Keeps s0 v0 := by
    unfold v0
    repeat' (first
      | with_reducible (first
        | assumption | apply State.dmaStop_keeps | apply Keeps.forN | apply State.rxAbandon_keeps
        | apply State.stopLine_keeps)
      | extract_lets | intro _ _ _)
  try clear_value v0
  have k1 : Keeps s0 v1 := by
    unfold v1
    repeat' (first
      | with_reducible (first
        | assumption | apply State.fire_keeps | apply State.setMode_keeps | apply State.set_keeps))
  try clear_value v1
  repeat' (first
    | with_reducible (first
      | assumption | apply State.refreshLds_keeps | apply State.burChange_keeps | apply State.gateSafe_keeps))

theorem State.enterSafe_keeps {s0 s : State} (h0 : Keeps s0 s) (reason : _) :
    Keeps s0 (State.enterSafe s reason) := by
  unfold State.enterSafe
  repeat' (first
    | with_reducible (first | assumption | apply State.automatic_keeps | apply State.safeNow_keeps | apply Keeps.ite))

theorem State.freshTables_keeps {s0 s : State} (h0 : Keeps s0 s)  : Keeps s0 (State.freshTables s) := by
  unfold State.freshTables
  repeat' (first
    | with_reducible (first
      | assumption | apply State.redrawDirKey_keeps | apply State.endRebuild_keeps | apply State.startRebuild_keeps))

theorem State.resetRegs_keeps {s0 s : State} (h0 : Keeps s0 s) (p : _) : Keeps s0 (State.resetRegs s p) := by
  unfold State.resetRegs
  repeat' (first
    | with_reducible (first
      | assumption | apply State.set_keeps | apply State.setReg_keeps | apply State.resetWhere_keeps))

theorem State.loadVault_keeps {s0 s : State} (h0 : Keeps s0 s)  : Keeps s0 (State.loadVault s) := by
  unfold State.loadVault
  extract_lets v0
  have k0 : Keeps s0 v0 := by
    unfold v0
    repeat' (first
      | with_reducible (first
        | assumption | apply Keeps.forEach | apply State.setSlot_keeps | apply State.fire_keeps | apply Keeps.ite)
      | extract_lets | intro _ _ _)
  try clear_value v0
  repeat' (first
    | with_reducible (first | assumption | apply State.setSlot_keeps | apply State.takeFree_keeps))

theorem State.msnBack_keeps {s0 s : State} (h0 : Keeps s0 s)  : Keeps s0 (State.msnBack s) := by
  unfold State.msnBack
  extract_lets v0
  repeat' (first
    | with_reducible assumption
    | fail_if_no_progress (with_reducible apply Keeps.upd <;> try with_reducible rfl) | split)

theorem State.domainStart_keeps {s0 s : State} (h0 : Keeps s0 s) (d : _) : Keeps s0 (State.domainStart s d) := by
  unfold State.domainStart
  extract_lets v0
  have k0 : Keeps s0 v0 := by
    unfold v0
    repeat' (first | with_reducible assumption | with_reducible apply State.showJoint_keeps)
  try clear_value v0
  repeat' (first
    | with_reducible (first
      | assumption | apply State.burStart_keeps | apply State.loadSafe_keeps | apply State.loadVault_keeps
      | apply State.fillDram_keeps | apply Keeps.forN | apply State.addEdge_keeps | apply State.msnBack_keeps
      | apply Keeps.ite)
    | extract_lets | intro _ _ _)

theorem State.discardEvents_keeps {s0 s : State} (h0 : Keeps s0 s) (reach : _) :
    Keeps s0 (State.discardEvents s reach) := by
  unfold State.discardEvents
  extract_lets v0
  repeat' (first
    | with_reducible assumption
    | fail_if_no_progress (with_reducible apply Keeps.upd <;> try with_reducible rfl))

theorem State.flr1_keeps {s0 s : State} (h0 : Keeps s0 s)  : Keeps s0 (State.flr1 s) := by
  unfold State.flr1
  extract_lets v0 v1 v2 v3
  have k0 : Keeps s0 v0 := by
    unfold v0
    repeat' (first
      | with_reducible (first | assumption | apply State.resetRegs_keeps | apply State.discardEvents_keeps))
  try clear_value v0
  repeat' (first
    | with_reducible (first | assumption | apply State.showProg_keeps)
    | fail_if_no_progress (with_reducible apply Keeps.upd <;> try with_reducible rfl))

theorem State.logsReset_keeps {s0 s : State} (h0 : Keeps s0 s)  : Keeps s0 (State.logsReset s) := by
  unfold State.logsReset
  repeat' (first | with_reducible assumption | with_reducible apply State.set_keeps)

theorem State.hostReset0_keeps {s0 s : State} (h0 : Keeps s0 s)  : Keeps s0 (State.hostReset0 s) := by
  unfold State.hostReset0
  extract_lets v0 v1
  have k0 : Keeps s0 v0 := by
    unfold v0
    repeat' (first
      | with_reducible (first | assumption | apply State.logsReset_keeps | apply State.resetRegs_keeps))
  try clear_value v0
  repeat' (first
    | with_reducible assumption
    | fail_if_no_progress (with_reducible apply Keeps.upd <;> try with_reducible rfl))

theorem State.flr0_keeps {s0 s : State} (h0 : Keeps s0 s)  : Keeps s0 (State.flr0 s) := by
  unfold State.flr0
  extract_lets v0 v1 v2 v3
  have k0 : Keeps s0 v0 := by
    unfold v0
    repeat' (first | with_reducible assumption | with_reducible apply State.discardEvents_keeps)
  try clear_value v0
  have k1 : Keeps s0 v1 := by
    unfold v1
    repeat' (first
      | with_reducible (first
        | assumption | apply State.hostReset0_keeps | apply State.blocksReset_keeps | apply State.cphIdle_keeps
        | apply Keeps.forN | apply State.rxAbandon_keeps)
      | extract_lets | intro _ _ _)
  try clear_value v1
  have k3 : Keeps s0 v3 := by
    unfold v3
    repeat' (first
      | with_reducible assumption
      | fail_if_no_progress (with_reducible apply Keeps.upd <;> try with_reducible rfl))
  try clear_value v3
  repeat' (first
    | with_reducible (first
      | assumption | apply State.hostReset0_keeps | apply State.refreshLds_keeps | apply State.fixAreas_keeps
      | apply State.setMode_keeps | apply State.freshTables_keeps | apply Keeps.ite))

theorem State.domainUp_keeps {s0 s : State} (h0 : Keeps s0 s) (d : _) : Keeps s0 (State.domainUp s d) := by
  unfold State.domainUp
  repeat' (first
    | with_reducible (first
      | assumption | apply State.fire_keeps | apply State.domainStart_keeps | apply State.setOn_keeps))

theorem State.cutOnTime_keeps {s0 s : State} (h0 : Keeps s0 s) (n : _) : Keeps s0 (State.cutOnTime s n) := by
  unfold State.cutOnTime
  repeat' (first
    | with_reducible (first | assumption | apply Keeps.forEach | apply State.trimOnTime_keeps)
    | split | extract_lets | intro _ _ _)

theorem State.warmReset_keeps {s0 s : State} (h0 : Keeps s0 s) (cause : _) : Keeps s0 (State.warmReset s cause) := by
  have k0 := State.discardEvents_keeps (Keeps.forN h0 (fun n t h => State.cutOnTime_keeps h n) 16) warmReach
  have k1 := State.logsReset_keeps (State.resetRegs_keeps (State.blocksReset_keeps (State.slotsLost_keeps
    (State.cphIdle_keeps (State.dmaStop_keeps k0)) kPROV kPROV)) (fun _ r _ => decide (2 ≤ r.reach)))
  have t : ∀ s1, Keeps s0 s1 → Keeps s0 { s1 with
      tx := s1.tx.map (fun (e : Nat × TxPort) => (e.1, e.2.kept))
      fe.port := s1.fe.port.map (fun (e : Nat × FePort) => (e.1, e.2.kept))
      fe.ms := []
      hif := { linkUp := s1.hif.linkUp }
      sq.lost := []
      fsp.waiting := s1.fsp.waiting.filter (fun (o : FlashOp) => o.rank != 3)
      boot.step := 6
      boot.running := 3
      boot.warmRestart := false } := fun s2 h => h.upd _ _ _ _ _ _ _ _ _ _ _ _ _ _ _ _ _ _ rfl rfl rfl
  have k3 := fun v => State.setReg_keeps (State.setReg_keeps (State.setReg_keeps (t _ k1) a_PWR_REQ 0xFFFFF)
      a_SYS_MODESTAT
    (resetWord a_SYS_MODESTAT)) a_SYS_BOOTSTAT v
  have k4 := fun v => Keeps.forN (k3 v) (f := fun d t =>
    if bitN t.present d && (!t.domOn d || t.pw.resetting.getLsbD d) then (t.settle d).domainUp d else t)
    (fun d t h => Keeps.ite (State.domainUp_keeps (State.settle_keeps h d) d) h) 20
  exact State.showProg_keeps (State.refreshLds_keeps (State.burChange_keeps (State.fixAreas_keeps (k4 _))))

theorem State.closeLog_keeps {s0 s : State} (h0 : Keeps s0 s)  : Keeps s0 (State.closeLog s) := by
  unfold State.closeLog
  extract_lets v0 v1 v2
  try clear_value v0
  have k2 : Keeps s0 v2 := by
    unfold v2
    repeat' (first
      | with_reducible assumption
      | fail_if_no_progress (with_reducible apply Keeps.upd <;> try with_reducible rfl))
  try clear_value v2
  repeat' (first
    | with_reducible (first | assumption | apply Keeps.forEach | apply State.writeLog_keeps | apply Keeps.ite)
    | extract_lets | intro _ _ _)

theorem State.profileNow_keeps {s0 s : State} (h0 : Keeps s0 s) (n : _) (p : _) :
    Keeps s0 (State.profileNow s n p) := by
  unfold State.profileNow
  extract_lets v0 v1
  have k0 : Keeps s0 v0 := by
    unfold v0
    repeat' (first | with_reducible assumption | with_reducible apply State.set_keeps)
  try clear_value v0
  have k1 : Keeps s0 v1 := by
    unfold v1
    repeat' (first | with_reducible assumption | with_reducible apply State.set_keeps | split)
  try clear_value v1
  repeat' (first
    | with_reducible (first
      | assumption | apply State.toSearch_keeps | apply State.showMask_keeps | apply State.refreshK_keeps
      | apply State.addEdge_keeps | apply Keeps.ite))

theorem execProfileChangeApply_keeps {s0 s : State} (h0 : Keeps s0 s) (n : _) :
    OutKeeps s0 (execProfileChangeApply n s) := by
  unfold execProfileChangeApply
  repeat' (first
    | with_reducible (first | assumption | apply State.profileNow_keeps)
    | split
    | with_reducible apply OutKeeps.next)

theorem State.portsFollow_keeps {s0 s : State} (h0 : Keeps s0 s)  : Keeps s0 (State.portsFollow s) := by
  unfold State.portsFollow
  repeat' (first
    | with_reducible (first
      | assumption | apply Keeps.forN | apply State.toSearch_keeps | apply State.refreshK_keeps)
    | extract_lets | intro _ _ _)

theorem State.arrive_keeps {s0 s : State} (h0 : Keeps s0 s) (m : _) : Keeps s0 (State.arrive s m) := by
  unfold State.arrive
  repeat' (first
    | with_reducible (first
      | assumption | apply State.portsFollow_keeps | apply State.fire_keeps | apply State.setMode_keeps))

theorem State.profileWrite_keeps {s0 s : State} (h0 : Keeps s0 s) (n : _) (data : _) :
    Keeps s0 (State.profileWrite s n data) := by
  unfold State.profileWrite
  extract_lets v0 v1 v2
  try clear_value v0
  have k1 : Keeps s0 v1 := by
    unfold v1
    repeat' (first
      | with_reducible (first | assumption | apply State.set_keeps | apply State.clearW1c_keeps))
  try clear_value v1
  repeat' (first
    | with_reducible (first
      | assumption | apply State.set_keeps | apply State.raiseFlag_keeps | apply State.setFePort_keeps
      | apply State.profileNow_keeps | apply Keeps.ite))

theorem State.beginMode_keeps {s0 s : State} (h0 : Keeps s0 s) (code : _) : Keeps s0 (State.beginMode s code) := by
  unfold State.beginMode
  repeat' (first | with_reducible assumption | with_reducible apply State.set_keeps)

theorem State.modeRequest_keeps {s0 s : State} (h0 : Keeps s0 s) (code : _) :
    Keeps s0 (State.modeRequest s code) := by
  unfold State.modeRequest
  extract_lets v0 v1
  try clear_value v1
  have k0 : Keeps s0 v0 := by
    unfold v0
    repeat' (first | with_reducible assumption | with_reducible apply State.fire_keeps)
  try clear_value v0
  repeat' (first
    | with_reducible (first
      | assumption | apply State.fire_keeps | apply State.set_keeps | apply State.raiseFlag_keeps
      | apply State.beginMode_keeps | apply Keeps.ite))

theorem State.modeWrite_keeps {s0 s : State} (h0 : Keeps s0 s) (code : _) : Keeps s0 (State.modeWrite s code) := by
  unfold State.modeWrite
  repeat' (first
    | with_reducible (first | assumption | apply State.modeRequest_keeps | apply Keeps.ite))

theorem State.enterStandby_keeps {s0 s : State} (h0 : Keeps s0 s)  : Keeps s0 (State.enterStandby s) := by
  unfold State.enterStandby
  extract_lets v0 v1 v2
  try clear_value v0
  have k2 : Keeps s0 v2 := by
    unfold v2
    repeat' (first
      | with_reducible assumption
      | fail_if_no_progress (with_reducible apply Keeps.upd <;> try with_reducible rfl))
  try clear_value v2
  repeat' (first
    | with_reducible (first | assumption | apply State.sfEnter_keeps | apply State.arrive_keeps))

theorem State.startTb1_keeps {s0 s : State} (h0 : Keeps s0 s)  : Keeps s0 (State.startTb1 s) := by
  unfold State.startTb1
  repeat' (first
    | with_reducible (first | assumption | apply State.startTb_keeps | apply Keeps.ite))

theorem execProfileWrite_keeps {s0 s : State} (h0 : Keeps s0 s) (n : _) (data : _) :
    OutKeeps s0 (execProfileWrite n data s) := by
  unfold execProfileWrite
  repeat' (first
    | with_reducible (first | assumption | apply State.hostWrite_keeps | apply State.profileWrite_keeps)
    | extract_lets
    | with_reducible apply OutKeeps.next
    | intro _ _ _)

theorem execModeRequest_keeps {s0 s : State} (h0 : Keeps s0 s) (code : _) : OutKeeps s0 (execModeRequest code s) := by
  unfold execModeRequest
  repeat' (first
    | with_reducible (first | assumption | apply State.hostWrite_keeps | apply State.modeWrite_keeps)
    | extract_lets
    | with_reducible apply OutKeeps.next
    | intro _ _ _)

theorem State.entryTable_keeps {s0 s : State} (h0 : Keeps s0 s)  : Keeps s0 (State.entryTable s) := by
  unfold State.entryTable
  extract_lets v0
  try clear_value v0
  repeat' (first
    | with_reducible (first | assumption | apply State.tableNow_keeps | apply Keeps.ite))

theorem State.enterMode_keeps {s0 s : State} (h0 : Keeps s0 s) (m : _) : Keeps s0 (State.enterMode s m) := by
  unfold State.enterMode
  extract_lets v0 v1 v2
  have k0 : Keeps s0 v0 := by
    unfold v0
    repeat' (first
      | with_reducible (first | assumption | apply State.sfEnter_keeps | apply State.arrive_keeps))
  try clear_value v0
  have k1 : Keeps s0 v1 := by
    unfold v1
    repeat' (first
      | with_reducible (first | assumption | apply State.startTb1_keeps | apply Keeps.ite))
  try clear_value v1
  have k2 : Keeps s0 v2 := by
    unfold v2
    repeat' (first
      | with_reducible (first | assumption | apply State.entryTable_keeps | apply Keeps.ite))
  try clear_value v2
  repeat' (first | with_reducible assumption | with_reducible apply State.set_keeps | with_reducible apply Keeps.ite)

theorem execModeEntryComplete_keeps {s0 s : State} (h0 : Keeps s0 s)  : OutKeeps s0 (execModeEntryComplete s) := by
  unfold execModeEntryComplete
  extract_lets v0
  try clear_value v0
  repeat' (first
    | with_reducible (first
      | assumption | apply State.safeNow_keeps | apply State.closeLog_keeps | apply State.enterMode_keeps)
    | split
    | with_reducible apply OutKeeps.next)

theorem execStandbyTransitionComplete_keeps {s0 s : State} (h0 : Keeps s0 s)  :
    OutKeeps s0 (execStandbyTransitionComplete s) := by
  unfold execStandbyTransitionComplete
  repeat' (first
    | with_reducible (first | assumption | apply State.enterStandby_keeps)
    | split
    | with_reducible apply OutKeeps.next)

theorem State.ready_keeps {s0 s : State} (h0 : Keeps s0 s)  : Keeps s0 (State.ready s) := by
  unfold State.ready
  extract_lets v0 v1
  have k1 : Keeps s0 v1 := by
    unfold v1
    repeat' (first
      | with_reducible (first | assumption | apply State.setMode_keeps)
      | fail_if_no_progress (with_reducible apply Keeps.upd <;> try with_reducible rfl))
  try clear_value v1
  repeat' (first
    | with_reducible (first
      | assumption | apply State.sfEnter_keeps | apply State.fire_keeps | apply State.set_keeps))

theorem State.pllUp_keeps {s0 s : State} (h0 : Keeps s0 s)  : Keeps s0 (State.pllUp s) := by
  unfold State.pllUp
  repeat' (first | with_reducible assumption | with_reducible apply State.set_keeps)

theorem State.repairRow_keeps {s0 s : State} (h0 : Keeps s0 s) (j : _) (r : _) (spare : _) :
    Keeps s0 (State.repairRow s j r spare) := by
  unfold State.repairRow
  extract_lets v0 v1
  try clear_value v0
  have k1 : Keeps s0 v1 := by
    unfold v1
    repeat' (first | with_reducible assumption | with_reducible apply State.appendRepair_keeps)
  try clear_value v1
  repeat' (first
    | with_reducible (first | assumption | apply State.setReg_keeps | apply Keeps.ite))

theorem State.postPackage_keeps {s0 s : State} (h0 : Keeps s0 s) (f : _) : Keeps s0 (State.postPackage s f) := by
  unfold State.postPackage
  extract_lets v0
  try clear_value v0
  repeat' (first
    | with_reducible (first | assumption | apply Keeps.forEach | apply State.repairRow_keeps)
    | split | extract_lets | intro _ _ _)

theorem State.noPair_keeps {s0 s : State} (h0 : Keeps s0 s)  : Keeps s0 (State.noPair s) := by
  unfold State.noPair
  repeat' (first
    | with_reducible (first | assumption | apply State.enterSafe_keeps | apply Keeps.ite))

theorem State.bootStep_keeps {s0 s : State} (h0 : Keeps s0 s) (k : _) : Keeps s0 (State.bootStep s k) := by
  unfold State.bootStep
  extract_lets v0
  repeat' (first
    | with_reducible (first | assumption | apply State.showProg_keeps)
    | fail_if_no_progress (with_reducible apply Keeps.upd <;> try with_reducible rfl))

theorem State.restoreMarks_keeps {s0 s : State} (h0 : Keeps s0 s)  : Keeps s0 (State.restoreMarks s) := by
  unfold State.restoreMarks
  repeat' (first
    | with_reducible (first | assumption | apply Keeps.forEach | apply State.setReg_keeps)
    | extract_lets | intro _ _ _)

theorem State.bootTables_keeps {s0 s : State} (h0 : Keeps s0 s)  : Keeps s0 (State.bootTables s) := by
  unfold State.bootTables
  repeat' (first
    | with_reducible (first
      | assumption | apply State.bootStep_keeps | apply State.restoreMarks_keeps | apply State.freshTables_keeps))

theorem State.bootChosen_keeps {s0 s : State} (h0 : Keeps s0 s)  : Keeps s0 (State.bootChosen s) := by
  unfold State.bootChosen
  repeat' (first
    | with_reducible (first | assumption | apply State.noPair_keeps | apply State.bootTables_keeps | apply Keeps.ite))

theorem execStartUpComplete_keeps {s0 s : State} (h0 : Keeps s0 s)  : OutKeeps s0 (execStartUpComplete s) := by
  unfold execStartUpComplete
  repeat' (first
    | with_reducible (first
      | assumption | apply State.portsFollow_keeps | apply State.automatic_keeps | apply State.ready_keeps)
    | split
    | with_reducible apply OutKeeps.next)

theorem State.coldState_keeps {s0 s : State} (h0 : Keeps s0 { s with tick := 0 }) : Keeps s0 s.coldState := by
  unfold State.coldState
  apply State.setReg_keeps
  refine h0.trans ⟨rfl, rfl, ⟨rfl, rfl, rfl⟩, id, le_refl _, ?_, fun _ => by simp [Registers.wf, tabWf, tabWfFrom,
      State.reset]⟩
  simp only [Memory.wf, Bool.and_eq_true]
  exact fun h => ⟨⟨rfl, rfl⟩, h.2⟩

theorem State.powerOff_keeps {s0 s : State} (h0 : Keeps s0 { s with tick := 0 }) : Keeps s0 s.powerOff :=
  State.setReg_keeps ((State.coldState_keeps h0).upd _ _ _ _ _ _ _ _ _ _ _ _ _ _ _ _ _ _ rfl rfl rfl) _ _

theorem State.linkLoss_keeps {s0 s : State} (h0 : Keeps s0 s)  : Keeps s0 (State.linkLoss s) := by
  unfold State.linkLoss
  extract_lets v0 v1
  repeat' (first
    | with_reducible (first | assumption | apply State.flr1_keeps | apply State.flr0_keeps)
    | fail_if_no_progress (with_reducible apply Keeps.upd <;> try with_reducible rfl))

theorem State.markTrial_keeps {s0 s : State} (h0 : Keeps s0 s)  : Keeps s0 (State.markTrial s) := by
  unfold State.markTrial
  extract_lets v0
  repeat' (first
    | with_reducible (first | assumption | apply Keeps.ite)
    | fail_if_no_progress (with_reducible apply Keeps.upd <;> try with_reducible rfl))

theorem State.retryChosen_keeps {s0 s : State} (h0 : Keeps s0 s)  : Keeps s0 (State.retryChosen s) := by
  unfold State.retryChosen
  repeat' (first
    | with_reducible (first
      | assumption | apply State.noPair_keeps | apply State.bootTables_keeps | apply State.set_keeps
      | apply Keeps.ite))

theorem execFlrFunction1_keeps {s0 s : State} (h0 : Keeps s0 s)  : OutKeeps s0 (execFlrFunction1 s) := by
  unfold execFlrFunction1
  repeat' (first
    | with_reducible (first | assumption | apply State.fire_keeps | apply State.flr1_keeps)
    | split
    | with_reducible apply OutKeeps.next)

theorem State.showFuses_keeps {s0 s : State} (h0 : Keeps s0 s)  : Keeps s0 (State.showFuses s) := by
  unfold State.showFuses
  extract_lets v0 v1 v2
  try clear_value v0
  have k1 : Keeps s0 v1 := by
    unfold v1
    repeat' (first | with_reducible assumption | with_reducible apply State.set_keeps)
  try clear_value v1
  have k2 : Keeps s0 v2 := by
    unfold v2
    repeat' (first | with_reducible assumption | with_reducible apply State.set_keeps)
  try clear_value v2
  repeat' (first | with_reducible assumption | with_reducible apply State.set_keeps)

theorem State.endTrial_keeps {s0 s : State} (h0 : Keeps s0 s)  : Keeps s0 (State.endTrial s) := by
  unfold State.endTrial
  extract_lets v0
  try clear_value v0
  repeat' (first
    | with_reducible (first | assumption | apply State.writeBoot_keeps | apply Keeps.ite)
    | split)

theorem State.tryPair_keeps {s0 s : State} (h0 : Keeps s0 s) (f : _) (p : _) : Keeps s0 (State.tryPair s f p) := by
  unfold State.tryPair
  extract_lets v0 v1 v2
  try clear_value v0
  have k1 : Keeps s0 v1 := by
    unfold v1
    repeat' (first | with_reducible assumption | with_reducible apply State.set_keeps)
  try clear_value v1
  repeat' (first
    | with_reducible (first | assumption | apply State.set_keeps | apply Keeps.ite)
    | fail_if_no_progress (with_reducible apply Keeps.upd <;> try with_reducible rfl))

theorem State.secondPair_keeps {s0 s : State} (h0 : Keeps s0 s) (f : _) (p : _) (trial : _) :
    Keeps s0 (State.secondPair s f p trial) := by
  unfold State.secondPair
  repeat' (first
    | with_reducible (first | assumption | apply State.set_keeps | apply State.tryPair_keeps | apply Keeps.ite))

theorem State.selectPair_keeps {s0 s : State} (h0 : Keeps s0 s) (f : _) : Keeps s0 (State.selectPair s f) := by
  unfold State.selectPair
  extract_lets v0 v1 v2
  try clear_value v1; try clear_value v2
  have k0 : Keeps s0 v0 := by
    unfold v0
    repeat' (first | with_reducible assumption | with_reducible apply State.endTrial_keeps)
  try clear_value v0
  repeat' (first
    | with_reducible (first
      | assumption | apply State.secondPair_keeps | apply State.tryPair_keeps | apply State.markTrial_keeps))

theorem State.bootImages_keeps {s0 s : State} (h0 : Keeps s0 s) (f : _) : Keeps s0 (State.bootImages s f) := by
  unfold State.bootImages
  extract_lets v0
  repeat' (first
    | with_reducible (first
      | assumption | apply State.bootChosen_keeps | apply State.selectPair_keeps | apply State.bootStep_keeps)
    | fail_if_no_progress (with_reducible apply Keeps.upd <;> try with_reducible rfl))

theorem State.bootProven_keeps {s0 s : State} (h0 : Keeps s0 s) (f : _) : Keeps s0 (State.bootProven s f) := by
  unfold State.bootProven
  repeat' (first
    | with_reducible (first
      | assumption | apply State.enterSafe_keeps | apply State.bootStep_keeps | apply State.bootImages_keeps
      | apply Keeps.ite))

theorem State.failProof_keeps {s0 s : State} (h0 : Keeps s0 s) (bits_ : _) : Keeps s0 (State.failProof s bits_) := by
  unfold State.failProof
  repeat' (first | with_reducible assumption | with_reducible apply State.set_keeps)

theorem State.train_keeps {s0 s : State} (h0 : Keeps s0 s) (f : _) : Keeps s0 (State.train s f) := by
  unfold State.train
  extract_lets v0 v1 v2 v3 v4
  try clear_value v0; try clear_value v1; try clear_value v2; try clear_value v3; try clear_value v4
  repeat' (first
    | with_reducible (first | assumption | apply State.failProof_keeps | apply State.set_keeps))

theorem State.bootMemory_keeps {s0 s : State} (h0 : Keeps s0 s) (f : _) : Keeps s0 (State.bootMemory s f) := by
  unfold State.bootMemory
  extract_lets fresh s1 src mem
  have k1 : Keeps s0 s1 := State.train_keeps (Keeps.ite (State.postPackage_keeps h0 ..) h0) ..
  clear_value s1
  refine Keeps.memo (State.fillDram_keeps k1) _ _ _ _ _ _ _ _ _ _ _ _ _ _ _ _ _ _ ?_
  simp only [Memory.wf, Bool.and_eq_true]
  exact fun h => ⟨⟨rfl, filter_wfFrom _ h.1.2⟩, h.2⟩

theorem State.bootLate_keeps {s0 s : State} (h0 : Keeps s0 s) (f : _) : Keeps s0 (State.bootLate s f) := by
  unfold State.bootLate
  repeat' (first
    | with_reducible (first
      | assumption | apply State.bootProven_keeps | apply State.failProof_keeps | apply State.bootMemory_keeps))

theorem execWarmBoot_keeps {s0 s : State} (h0 : Keeps s0 s) (f : _) : OutKeeps s0 (execWarmBoot f s) := by
  unfold execWarmBoot
  extract_lets v0 v1 v2
  have k0 : Keeps s0 v0 := by
    unfold v0
    repeat' (first
      | with_reducible (first | assumption | apply State.warmReset_keeps | apply State.set_keeps | apply Keeps.ite))
  try clear_value v0
  repeat' (first
    | with_reducible (first | assumption | apply State.bootLate_keeps)
    | fail_if_no_progress (with_reducible apply Keeps.upd <;> try with_reducible rfl) | split
    | with_reducible apply OutKeeps.next)

theorem execLinkDown_keeps {s0 s : State} (h0 : Keeps s0 s)  : OutKeeps s0 (execLinkDown s) := by
  unfold execLinkDown
  repeat' (first
    | with_reducible (first | assumption | apply State.linkLoss_keeps)
    | split
    | with_reducible apply OutKeeps.next)

theorem State.bootEarly_keeps {s0 s : State} (h0 : Keeps s0 { s with tick := 0 }) (f : _) :
    Keeps s0 (State.bootEarly s f) := by
  unfold State.bootEarly
  extract_lets v0 v1 v2 v3 v4
  have k0 : Keeps s0 v0 := by
    unfold v0
    repeat' (first
      | with_reducible (first
        | assumption | apply State.fixAreas_keeps | apply State.loadVault_keeps | apply State.set_keeps
        | apply State.showFuses_keeps | apply State.pllUp_keeps | apply State.coldState_keeps))
  try clear_value v0
  have k1 : Keeps s0 v1 := by
    unfold v1
    repeat' (first
      | with_reducible (first | assumption | apply Keeps.forN | apply State.domainStart_keeps | apply Keeps.ite)
      | extract_lets | intro _ _ _)
  try clear_value v1
  have k2 : Keeps s0 v2 := by
    unfold v2
    repeat' (first
      | with_reducible (first | assumption | apply State.set_keeps | apply State.failProof_keeps | apply Keeps.ite))
  try clear_value v2
  have k4 : Keeps s0 v4 := by
    unfold v4
    repeat' (first
      | with_reducible assumption
      | fail_if_no_progress (with_reducible apply Keeps.upd <;> try with_reducible rfl))
  try clear_value v4
  repeat' (first
    | with_reducible (first
      | assumption | apply State.bootStep_keeps | apply State.refreshLds_keeps | apply State.burStart_keeps
      | apply State.loadSafe_keeps))

theorem execColdBoot_keeps {s0 s : State} (f : BootFindings) (h1 : Keeps s0 { s with tick := 0 }) (h0 : Keeps s0 s) :
    OutKeeps s0 (execColdBoot f s) :=
  OutKeeps.next (Keeps.ite (Keeps.ite (State.bootEarly_keeps h1 f)
      (State.bootLate_keeps (State.bootEarly_keeps h1 f) f)) h0)

theorem State.retryPair_keeps {s0 s : State} (h0 : Keeps s0 s) (f : _) : Keeps s0 (State.retryPair s f) := by
  unfold State.retryPair
  extract_lets v0 v1 v2 v3
  try clear_value v0; try clear_value v1
  have k3 : Keeps s0 v3 := by
    unfold v3
    repeat' (first
      | with_reducible (first | assumption | apply State.set_keeps)
      | fail_if_no_progress (with_reducible apply Keeps.upd <;> try with_reducible rfl))
  try clear_value v3
  repeat' (first
    | with_reducible (first
      | assumption | apply State.noPair_keeps | apply State.retryChosen_keeps | apply State.tryPair_keeps
      | apply Keeps.ite))

theorem execWatchdogExpiry_keeps {s0 s : State} (h0 : Keeps s0 s) (core : _) (f : _) :
    OutKeeps s0 (execWatchdogExpiry core f s) := by
  unfold execWatchdogExpiry
  extract_lets v0
  have k0 : Keeps s0 v0 := by
    unfold v0
    repeat' (first | with_reducible assumption | with_reducible apply State.fire_keeps)
  try clear_value v0
  repeat' (first
    | with_reducible (first | assumption | apply State.enterSafe_keeps | apply State.retryPair_keeps)
    | split
    | with_reducible apply OutKeeps.next)

theorem execWarmNAssert_keeps {s0 s : State} (h0 : Keeps s0 s)  : OutKeeps s0 (execWarmNAssert s) := by
  unfold execWarmNAssert
  extract_lets v0 v1
  have k1 : Keeps s0 v1 := by
    unfold v1
    repeat' (first
      | with_reducible assumption
      | fail_if_no_progress (with_reducible apply Keeps.upd <;> try with_reducible rfl))
  try clear_value v1
  repeat' (first
    | with_reducible (first | assumption | apply State.fire_keeps | apply State.warmReset_keeps)
    | split
    | with_reducible apply OutKeeps.next)

theorem execFlrFunction0_keeps {s0 s : State} (h0 : Keeps s0 s)  : OutKeeps s0 (execFlrFunction0 s) := by
  unfold execFlrFunction0
  repeat' (first
    | with_reducible (first | assumption | apply State.fire_keeps | apply State.flr0_keeps)
    | split
    | with_reducible apply OutKeeps.next)

theorem execPorstNAssert_keeps {s0 s : State} (h0 : Keeps s0 { s with tick := 0 })  :
    OutKeeps s0 (execPorstNAssert s) := by
  unfold execPorstNAssert
  repeat' (first
    | with_reducible (first | assumption | apply State.powerOff_keeps | apply OutKeeps.next))

theorem execPllRelock_keeps {s0 s : State} (h0 : Keeps s0 s)  : OutKeeps s0 (execPllRelock s) := by
  unfold execPllRelock
  repeat' (first
    | with_reducible (first | assumption | apply State.pllUp_keeps)
    | split
    | with_reducible apply OutKeeps.next)

theorem State.temperature_keeps {s0 s : State} (h0 : Keeps s0 s) (k : _) (reading : _) :
    Keeps s0 (State.temperature s k reading) := by
  unfold State.temperature
  extract_lets v0 v1 v2 v3
  try clear_value v0; try clear_value v1
  have k2 : Keeps s0 v2 := by
    unfold v2
    repeat' (first | with_reducible assumption | with_reducible apply State.set_keeps)
  try clear_value v2
  have k3 : Keeps s0 v3 := by
    unfold v3
    repeat' (first | with_reducible assumption | with_reducible apply State.fire_keeps)
  try clear_value v3
  repeat' (first
    | with_reducible (first | assumption | apply State.enterSafe_keeps | apply Keeps.ite))

theorem execTemperatureSample_keeps {s0 s : State} (h0 : Keeps s0 s) (sensor : _) (reading : _) :
    OutKeeps s0 (execTemperatureSample sensor reading s) := by
  unfold execTemperatureSample
  repeat' (first
    | with_reducible (first | assumption | apply State.temperature_keeps)
    | split
    | with_reducible apply OutKeeps.next)

theorem execDomainResetComplete_keeps {s0 s : State} (h0 : Keeps s0 s) (d : _) :
    OutKeeps s0 (execDomainResetComplete d s) := by
  unfold execDomainResetComplete
  extract_lets v0
  repeat' (first
    | with_reducible (first
      | assumption | apply State.refreshLds_keeps | apply State.fire_keeps | apply State.domainStart_keeps
      | apply State.showPower_keeps)
    | fail_if_no_progress (with_reducible apply Keeps.upd <;> try with_reducible rfl) | split
    | with_reducible apply OutKeeps.next)

theorem State.setReq_keeps {s0 s : State} (h0 : Keeps s0 s) (d : _) (b : _) : Keeps s0 (State.setReq s d b) := by
  unfold State.setReq
  repeat' (first | with_reducible assumption | with_reducible apply State.set_keeps)

theorem State.onRequest_keeps {s0 s : State} (h0 : Keeps s0 s) (d : _) : Keeps s0 (State.onRequest s d) := by
  unfold State.onRequest
  extract_lets v0 v1
  have k0 : Keeps s0 v0 := by
    unfold v0
    repeat' (first | with_reducible assumption | with_reducible apply State.setReq_keeps)
  try clear_value v0
  repeat' (first
    | with_reducible (first | assumption | apply State.showPower_keeps | apply Keeps.ite)
    | fail_if_no_progress (with_reducible apply Keeps.upd <;> try with_reducible rfl))

theorem State.portStop_keeps {s0 s : State} (h0 : Keeps s0 s) (n : _) : Keeps s0 (State.portStop s n) := by
  unfold State.portStop
  extract_lets v0 v1 v2 v3
  have k0 : Keeps s0 v0 := by
    unfold v0
    repeat' (first | with_reducible assumption | with_reducible apply State.cutAir_keeps | split)
  try clear_value v0
  have k2 : Keeps s0 v2 := by
    unfold v2
    repeat' (first | with_reducible assumption | with_reducible apply State.setTxPort_keeps)
  try clear_value v2
  have k3 : Keeps s0 v3 := by
    unfold v3
    repeat' (first | with_reducible assumption | with_reducible apply State.failAttempt_keeps | split)
  try clear_value v3
  repeat' (first
    | with_reducible (first | assumption | apply State.rxAbandon_keeps | apply State.flushTx_keeps))

theorem State.pairStop_keeps {s0 s : State} (h0 : Keeps s0 s) (d : _) : Keeps s0 (State.pairStop s d) := by
  unfold State.pairStop
  repeat' (first
    | with_reducible (first | assumption | apply State.portStop_keeps | apply Keeps.ite))

theorem State.offRequest_keeps {s0 s : State} (h0 : Keeps s0 s) (d : _) : Keeps s0 (State.offRequest s d) := by
  unfold State.offRequest
  repeat' (first
    | with_reducible (first
      | assumption | apply State.raiseFlag_keeps | apply State.refreshLds_keeps | apply State.domainDown_keeps
      | apply State.pairStop_keeps | apply State.setReq_keeps | apply Keeps.ite))

theorem State.resetRequest_keeps {s0 s : State} (h0 : Keeps s0 s) (d : _) : Keeps s0 (State.resetRequest s d) := by
  unfold State.resetRequest
  extract_lets v0 v1
  have k0 : Keeps s0 v0 := by
    unfold v0
    repeat' (first
      | with_reducible (first | assumption | apply State.domainLost_keeps | apply State.pairStop_keeps))
  try clear_value v0
  repeat' (first
    | with_reducible (first
      | assumption | apply State.raiseFlag_keeps | apply State.refreshLds_keeps | apply State.showPower_keeps
      | apply Keeps.ite)
    | fail_if_no_progress (with_reducible apply Keeps.upd <;> try with_reducible rfl))

theorem State.thermalWrite_keeps {s0 s : State} (h0 : Keeps s0 s) (w : _) : Keeps s0 (State.thermalWrite s w) := by
  unfold State.thermalWrite
  extract_lets v0 v1 v2 v3
  try clear_value v0; try clear_value v1; try clear_value v2
  have k3 : Keeps s0 v3 := by
    unfold v3
    repeat' (first | with_reducible assumption | with_reducible apply State.keep_keeps)
  try clear_value v3
  repeat' (first
    | with_reducible (first | assumption | apply State.set_keeps | apply State.raiseFlag_keeps | apply Keeps.ite))

theorem execDomainPowerOff_keeps {s0 s : State} (h0 : Keeps s0 s) (d : _) : OutKeeps s0 (execDomainPowerOff d s) := by
  unfold execDomainPowerOff
  repeat' (first
    | with_reducible (first | assumption | apply State.hostWrite_keeps | apply State.offRequest_keeps)
    | extract_lets
    | with_reducible apply OutKeeps.next
    | intro _ _ _)

theorem State.supplyAct_keeps {s0 s : State} (i : Nat) (h1 : Keeps s0 { s with tick := 0 }) (h0 : Keeps s0 s) :
    Keeps s0 (s.supplyAct i) :=
  Keeps.ite (State.powerOff_keeps h1) (Keeps.ite (Keeps.ite (State.linkLoss_keeps h0) h0) h0)

theorem execSupplyLow_keeps {s0 s : State} (i : Fin 5) (h1 : Keeps s0 { s with tick := 0 }) (h0 : Keeps s0 s) :
    OutKeeps s0 (execSupplyLow i s) := by
  refine OutKeeps.next (Keeps.ite h0 (State.supplyAct_keeps _ ?_ (State.fire_keeps ?_ _ _)))
  · have k := State.fire_keeps (Keeps.refl { s with pw.supplyLow := withBits s.pw.supplyLow i.val 1 1 }) i.val 1
    exact h1.trans ⟨k.pending, rfl, k.fuses, k.field, k.counter, k.mem, k.regs⟩
  · exact h0.upd _ _ _ _ _ _ _ _ _ _ _ _ _ _ _ _ _ _ rfl rfl rfl

theorem execPllLockLoss_keeps {s0 s : State} (h0 : Keeps s0 s)  : OutKeeps s0 (execPllLockLoss s) := by
  unfold execPllLockLoss
  repeat' (first
    | with_reducible (first | assumption | apply State.fire_keeps | apply State.bump_keeps | apply State.set_keeps)
    | split
    | with_reducible apply OutKeeps.next)

theorem execDomainPowerUpComplete_keeps {s0 s : State} (h0 : Keeps s0 s) (d : _) :
    OutKeeps s0 (execDomainPowerUpComplete d s) := by
  unfold execDomainPowerUpComplete
  extract_lets v0
  repeat' (first
    | with_reducible (first
      | assumption | apply State.refreshLds_keeps | apply State.domainUp_keeps | apply State.showPower_keeps)
    | fail_if_no_progress (with_reducible apply Keeps.upd <;> try with_reducible rfl) | split
    | with_reducible apply OutKeeps.next)

theorem execReferenceLoss_keeps {s0 s : State} (h0 : Keeps s0 s)  : OutKeeps s0 (execReferenceLoss s) := by
  unfold execReferenceLoss
  repeat' (first
    | with_reducible (first | assumption | apply State.fire_keeps | apply State.bump_keeps | apply State.set_keeps)
    | split
    | with_reducible apply OutKeeps.next)

theorem execSupplyRestored_keeps {s0 s : State} (h0 : Keeps s0 s) (i : _) : OutKeeps s0 (execSupplyRestored i s) := by
  unfold execSupplyRestored
  extract_lets v0
  repeat' (first
    | with_reducible (first | assumption | apply State.fire_keeps)
    | fail_if_no_progress (with_reducible apply Keeps.upd <;> try with_reducible rfl) | split
    | with_reducible apply OutKeeps.next)

theorem execDomainPowerUp_keeps {s0 s : State} (h0 : Keeps s0 s) (d : _) : OutKeeps s0 (execDomainPowerUp d s) := by
  unfold execDomainPowerUp
  repeat' (first
    | with_reducible (first | assumption | apply State.hostWrite_keeps | apply State.onRequest_keeps)
    | extract_lets
    | with_reducible apply OutKeeps.next
    | intro _ _ _)

theorem execDomainReset_keeps {s0 s : State} (h0 : Keeps s0 s) (d : _) : OutKeeps s0 (execDomainReset d s) := by
  unfold execDomainReset
  repeat' (first
    | with_reducible (first | assumption | apply State.hostWrite_keeps | apply State.resetRequest_keeps)
    | extract_lets
    | with_reducible apply OutKeeps.next
    | intro _ _ _)

theorem execThermalConfigWrite_keeps {s0 s : State} (h0 : Keeps s0 s) (data : _) :
    OutKeeps s0 (execThermalConfigWrite data s) := by
  unfold execThermalConfigWrite
  repeat' (first
    | with_reducible (first | assumption | apply State.hostWrite_keeps | apply State.thermalWrite_keeps)
    | extract_lets
    | with_reducible apply OutKeeps.next
    | intro _ _ _)

theorem State.tb0Write_keeps {s0 s : State} (h0 : Keeps s0 s) (w : _) : Keeps s0 (State.tb0Write s w) := by
  unfold State.tb0Write
  repeat' (first
    | with_reducible (first | assumption | apply State.tb0Set_keeps | apply State.tb0Adj_keeps | apply Keeps.ite))

theorem State.allocWrite_keeps {s0 s : State} (h0 : Keeps s0 s) (w : _) : Keeps s0 (State.allocWrite s w) := by
  unfold State.allocWrite
  extract_lets v0
  have k0 : Keeps s0 v0 := by
    unfold v0
    repeat' (first | with_reducible assumption | with_reducible apply State.clearW1c_keeps)
  try clear_value v0
  repeat' (first
    | with_reducible (first | assumption | apply State.allocCommit_keeps | apply Keeps.ite))

theorem State.macRegWrite_keeps {s0 s : State} (h0 : Keeps s0 s) (b : _) (i : _) (j : _) (w : _) :
    OptKeeps s0 (State.macRegWrite s b i j w) := by
  unfold State.macRegWrite
  refine OptKeeps.ite (OptKeeps.ite (OptKeeps.some (State.rebase_keeps h0 ..)) (OptKeeps.none _)) ?_
  refine OptKeeps.ite (OptKeeps.some (State.tb0Write_keeps h0 ..)) ?_
  iterate 7 refine OptKeeps.ite (OptKeeps.some (State.macWrite_keeps h0 ..)) ?_
  refine OptKeeps.ite (OptKeeps.some (State.allocWrite_keeps h0 ..)) ?_
  iterate 2 refine OptKeeps.ite (OptKeeps.some (State.tmsWrite_keeps h0 ..)) ?_
  refine OptKeeps.ite (OptKeeps.some (State.snrBaseWrite_keeps h0 ..)) ?_
  refine OptKeeps.ite (OptKeeps.some (State.dwWrite_keeps h0 ..)) ?_
  refine OptKeeps.ite (OptKeeps.some (State.profileWrite_keeps h0 ..)) ?_
  refine OptKeeps.ite (OptKeeps.some (State.maskSet_keeps h0 ..)) ?_
  exact OptKeeps.ite (OptKeeps.some (State.grpWrite_keeps h0 ..)) (OptKeeps.none _)

theorem State.decWrite_keeps {s0 s : State} (h0 : Keeps s0 s) (r : _) (key : _) (w : _) :
    Keeps s0 (State.decWrite s r key w) := by
  unfold State.decWrite
  extract_lets v0
  have k0 : Keeps s0 v0 := by
    unfold v0
    repeat' (first
      | with_reducible (first | assumption | apply State.set_keeps | apply State.storeFields_keeps))
  try clear_value v0
  repeat' (first
    | with_reducible (first | assumption | apply State.decsyncCmd_keeps | apply Keeps.ite))

theorem State.reqWrite_keeps {s0 s : State} (h0 : Keeps s0 s) (w : _) : Keeps s0 (State.reqWrite s w) := by
  unfold State.reqWrite
  repeat' (first
    | with_reducible (first
      | assumption | apply Keeps.forN | apply State.onRequest_keeps | apply State.offRequest_keeps | apply Keeps.ite)
    | extract_lets | intro _ _ _)

theorem State.rstWrite_keeps {s0 s : State} (h0 : Keeps s0 s) (w : _) : Keeps s0 (State.rstWrite s w) := by
  unfold State.rstWrite
  repeat' (first
    | with_reducible (first | assumption | apply Keeps.forN | apply State.resetRequest_keeps | apply Keeps.ite)
    | extract_lets | intro _ _ _)

theorem State.sysWrite_keeps {s0 s : State} (h0 : Keeps s0 s) (b : _) (w : _) :
    OptKeeps s0 (State.sysWrite s b w) := by
  unfold State.sysWrite
  repeat' (first
    | with_reducible (first
      | assumption | apply State.modeWrite_keeps | apply State.clearViolations_keeps | apply State.swEvent_keeps
      | apply State.reqWrite_keeps | apply State.rstWrite_keeps | apply State.thermalWrite_keeps)
    | split
    | with_reducible (first | apply OptKeeps.some | exact OptKeeps.none _))

theorem State.hostRegWrite_keeps {s0 s : State} (h0 : Keeps s0 s) (b : _) (i : _) (w : _) :
    OptKeeps s0 (State.hostRegWrite s b i w) := by
  unfold State.hostRegWrite
  iterate 6 refine OptKeeps.ite (OptKeeps.some (State.ringWrite_keeps h0 ..)) ?_
  refine OptKeeps.ite (OptKeeps.some (State.ringBell_keeps h0 ..)) ?_
  iterate 2 refine OptKeeps.ite (OptKeeps.some (Keeps.ite (State.set_keeps h0 ..) (State.unmask_keeps h0 ..))) ?_
  refine OptKeeps.ite (OptKeeps.some (State.macCommand_keeps h0 ..)) ?_
  refine OptKeeps.ite (OptKeeps.some (State.mailbox_keeps h0 ..)) ?_
  refine OptKeeps.ite (OptKeeps.some (Keeps.ite h0 (State.objectCommand_keeps h0 ..))) ?_
  refine OptKeeps.ite (OptKeeps.some (State.poolWrite_keeps h0 ..)) ?_
  refine OptKeeps.ite (OptKeeps.some (State.poolcfgWrite_keeps h0 ..)) ?_
  refine OptKeeps.ite (OptKeeps.some (State.arcCfgWrite_keeps h0 ..)) ?_
  refine OptKeeps.ite (OptKeeps.some (State.diagCommand_keeps h0 ..)) ?_
  exact OptKeeps.ite (OptKeeps.some (State.keyCommand_keeps h0 ..)) (OptKeeps.none _)

theorem State.perRegWrite_keeps {s0 s : State} (h0 : Keeps s0 s) (b : _) (i : _) (w : _) :
    OptKeeps s0 (State.perRegWrite s b i w) := by
  unfold State.perRegWrite
  repeat' (first
    | with_reducible (first
      | assumption | apply State.uartWrite_keeps | apply State.uartQcfg_keeps | apply State.logCmd_keeps
      | apply State.burCtl_keeps | apply State.burRegWrite_keeps)
    | split
    | with_reducible (first | apply OptKeeps.some | exact OptKeeps.none _))

theorem State.clearUeLog_keeps {s0 s : State} (h0 : Keeps s0 s)  : Keeps s0 (State.clearUeLog s) := by
  unfold State.clearUeLog
  repeat' (first
    | with_reducible (first | assumption | apply State.setReg_keeps | apply Keeps.forN)
    | extract_lets | intro _ _ _)

theorem State.gainFollows_keeps {s0 s : State} (h0 : Keeps s0 s) (n : _) : Keeps s0 (State.gainFollows s n) := by
  unfold State.gainFollows
  extract_lets v0
  repeat' (first
    | with_reducible (first | assumption | apply State.setBurPort_keeps | apply State.set_keeps | apply Keeps.ite)
    | split)

theorem State.mainsFollows_keeps {s0 s : State} (h0 : Keeps s0 s) (i : _) (old : _) :
    Keeps s0 (State.mainsFollows s i old) := by
  unfold State.mainsFollows
  repeat' (first
    | with_reducible (first | assumption | apply State.addEdge_keeps | apply Keeps.ite))

theorem State.follow_keeps {s0 s : State} (h0 : Keeps s0 s) (b : _) (i : _) (old : _) :
    Keeps s0 (State.follow s b i old) := by
  unfold State.follow
  repeat' (first
    | with_reducible (first
      | assumption | apply State.gainFollows_keeps | apply State.refreshK_keeps | apply State.refreshLd_keeps
      | apply State.mainsFollows_keeps | apply State.uartGo_keeps | apply State.uartRts_keeps | apply Keeps.ite))

theorem State.plainWrite_keeps {s0 s : State} (h0 : Keeps s0 s) (r : _) (i : _) (key : _) (w : _) :
    Keeps s0 (State.plainWrite s r i key w) := by
  unfold State.plainWrite
  extract_lets v0 v1 v2
  try clear_value v0
  have k1 : Keeps s0 v1 := by
    unfold v1
    repeat' (first | with_reducible assumption | with_reducible apply State.storeFields_keeps)
  try clear_value v1
  have k2 : Keeps s0 v2 := by
    unfold v2
    repeat' (first
      | with_reducible (first
        | assumption | apply State.clearUeLog_keeps | apply State.setReg_keeps | apply Keeps.ite))
  try clear_value v2
  repeat' (first | with_reducible assumption | with_reducible apply State.follow_keeps)

theorem State.regWrite_keeps {s0 s : State} (h0 : Keeps s0 s) (key : _) (w : _) :
    Keeps s0 (State.regWrite s key w) := by
  unfold State.regWrite
  split
  · exact h0
  · exact Keeps.ite (State.decWrite_keeps h0 ..) (Keeps.getD (OptKeeps.orElse (State.sysWrite_keeps h0 _ _) (fun _ =>
      OptKeeps.orElse (State.hostRegWrite_keeps h0 _ _ _) (fun _ => OptKeeps.orElse (State.macRegWrite_keeps h0 _ _
          _ _)
        (fun _ => State.perRegWrite_keeps h0 _ _ _)))) (State.plainWrite_keeps h0 ..))

theorem State.busWrite_keeps {s0 s : State} (h0 : Keeps s0 s) (func : _) (offset : _) (data : _) :
    Keeps s0 (State.busWrite s func offset data) := by
  unfold State.busWrite
  repeat' (first
    | with_reducible (first
      | assumption | apply State.hostAccess_keeps | apply State.debugAccess_keeps | apply State.debugWrite_keeps
      | apply State.regWrite_keeps)
    | split | extract_lets | intro _ _ _)

theorem execCounterClearWrite_keeps {s0 s : State} (h0 : Keeps s0 s) (func : _) (offset : _) (data : _) :
    OutKeeps s0 (execCounterClearWrite func offset data s) := by
  unfold execCounterClearWrite
  repeat' (first
    | with_reducible (first | assumption | apply State.busWrite_keeps | apply OutKeeps.next))

theorem execRegisterWrite_keeps {s0 s : State} (h0 : Keeps s0 s) (func : _) (offset : _) (data : _) :
    OutKeeps s0 (execRegisterWrite func offset data s) := by
  unfold execRegisterWrite
  repeat' (first
    | with_reducible (first | assumption | apply State.busWrite_keeps | apply OutKeeps.next))

end Sys2Proof.Machine
end

