-- ==== Sys2Proof/Laws/Memory.lean ====
section
/-! SUPPORT. What reading lines of DRAM without an error answers. -/

namespace Sys2Proof.Machine

/-- A line without an error is read as it is stored, and nothing changes. -/
theorem readLine_clean (s : State) (l req : Nat) (h : s.decodeLine l = .clean) :
    s.readLine l req = (some (s.lineBytes l), s) := by
  simp [State.readLine, h]

/-- Lines without errors are read in order, and nothing changes. -/
theorem readLines_clean (s : State) (n l req : Nat) (h : ∀ j, j < n → s.decodeLine (l + j) = .clean) :
    s.readLines l n req = (some ((List.range n).flatMap (fun j => s.lineBytes (l + j))), s) := by
  induction n generalizing l with
  | zero => rfl
  | succ k ih =>
    have h0 := readLine_clean s l req (h 0 (by omega))
    have hr := ih (l + 1) (fun j hj => by
      have := h (j + 1) (by omega)
      rwa [show l + (j + 1) = l + 1 + j by omega] at this)
    simp only [State.readLines, h0, hr, List.range_succ_eq_map, List.flatMap_cons, List.flatMap_map, Nat.add_zero]
    simp only [Nat.succ_eq_add_one, Nat.add_assoc, Nat.add_comm 1]

end Sys2Proof.Machine
end

