-- ==== Sys2Proof/Laws/State.lean ====
section
/-! SUPPORT. One lemma per field of the state and update: what the smallest operations leave unchanged, and what a register
reads after one of them. -/

namespace Sys2Proof.Machine

variable (s : State)

@[simp] theorem State.setReg_tick (a : Nat) (v : Word) : (s.setReg a v).tick = s.tick := rfl
@[simp] theorem State.setReg_sq (a : Nat) (v : Word) : (s.setReg a v).sq = s.sq := rfl
@[simp] theorem State.setReg_otp (a : Nat) (v : Word) : (s.setReg a v).otp = s.otp := rfl
@[simp] theorem State.setReg_boot (a : Nat) (v : Word) : (s.setReg a v).boot = s.boot := rfl
@[simp] theorem State.setReg_pw (a : Nat) (v : Word) : (s.setReg a v).pw = s.pw := rfl
@[simp] theorem State.setReg_fe (a : Nat) (v : Word) : (s.setReg a v).fe = s.fe := rfl
@[simp] theorem State.setReg_rx (a : Nat) (v : Word) : (s.setReg a v).rx = s.rx := rfl
@[simp] theorem State.setReg_tx (a : Nat) (v : Word) : (s.setReg a v).tx = s.tx := rfl
@[simp] theorem State.setReg_arc (a : Nat) (v : Word) : (s.setReg a v).arc = s.arc := rfl
@[simp] theorem State.setReg_blv (a : Nat) (v : Word) : (s.setReg a v).blv = s.blv := rfl
@[simp] theorem State.setReg_hif (a : Nat) (v : Word) : (s.setReg a v).hif = s.hif := rfl
@[simp] theorem State.setReg_cph (a : Nat) (v : Word) : (s.setReg a v).cph = s.cph := rfl
@[simp] theorem State.setReg_mac (a : Nat) (v : Word) : (s.setReg a v).mac = s.mac := rfl
@[simp] theorem State.setReg_time (a : Nat) (v : Word) : (s.setReg a v).time = s.time := rfl
@[simp] theorem State.setReg_mem (a : Nat) (v : Word) : (s.setReg a v).mem = s.mem := rfl
@[simp] theorem State.setReg_bur (a : Nat) (v : Word) : (s.setReg a v).bur = s.bur := rfl
@[simp] theorem State.setReg_uart (a : Nat) (v : Word) : (s.setReg a v).uart = s.uart := rfl
@[simp] theorem State.setReg_fsp (a : Nat) (v : Word) : (s.setReg a v).fsp = s.fsp := rfl
@[simp] theorem State.setReg_free (a : Nat) (v : Word) : (s.setReg a v).free = s.free := rfl
@[simp] theorem State.setReg_posted (a : Nat) (v : Word) : (s.setReg a v).posted = s.posted := rfl
@[simp] theorem State.setReg_pending (a : Nat) (v : Word) : (s.setReg a v).pending = s.pending := rfl

@[simp] theorem State.set_tick (f : Field) (v : Nat) : (s.set f v).tick = s.tick := rfl
@[simp] theorem State.set_sq (f : Field) (v : Nat) : (s.set f v).sq = s.sq := rfl
@[simp] theorem State.set_otp (f : Field) (v : Nat) : (s.set f v).otp = s.otp := rfl
@[simp] theorem State.set_boot (f : Field) (v : Nat) : (s.set f v).boot = s.boot := rfl
@[simp] theorem State.set_pw (f : Field) (v : Nat) : (s.set f v).pw = s.pw := rfl
@[simp] theorem State.set_fe (f : Field) (v : Nat) : (s.set f v).fe = s.fe := rfl
@[simp] theorem State.set_rx (f : Field) (v : Nat) : (s.set f v).rx = s.rx := rfl
@[simp] theorem State.set_tx (f : Field) (v : Nat) : (s.set f v).tx = s.tx := rfl
@[simp] theorem State.set_arc (f : Field) (v : Nat) : (s.set f v).arc = s.arc := rfl
@[simp] theorem State.set_blv (f : Field) (v : Nat) : (s.set f v).blv = s.blv := rfl
@[simp] theorem State.set_hif (f : Field) (v : Nat) : (s.set f v).hif = s.hif := rfl
@[simp] theorem State.set_cph (f : Field) (v : Nat) : (s.set f v).cph = s.cph := rfl
@[simp] theorem State.set_mac (f : Field) (v : Nat) : (s.set f v).mac = s.mac := rfl
@[simp] theorem State.set_time (f : Field) (v : Nat) : (s.set f v).time = s.time := rfl
@[simp] theorem State.set_mem (f : Field) (v : Nat) : (s.set f v).mem = s.mem := rfl
@[simp] theorem State.set_bur (f : Field) (v : Nat) : (s.set f v).bur = s.bur := rfl
@[simp] theorem State.set_uart (f : Field) (v : Nat) : (s.set f v).uart = s.uart := rfl
@[simp] theorem State.set_fsp (f : Field) (v : Nat) : (s.set f v).fsp = s.fsp := rfl
@[simp] theorem State.set_free (f : Field) (v : Nat) : (s.set f v).free = s.free := rfl
@[simp] theorem State.set_posted (f : Field) (v : Nat) : (s.set f v).posted = s.posted := rfl
@[simp] theorem State.set_pending (f : Field) (v : Nat) : (s.set f v).pending = s.pending := rfl

@[simp] theorem State.setI_tick (f : Field) (v : Int) : (s.setI f v).tick = s.tick := rfl
@[simp] theorem State.setI_sq (f : Field) (v : Int) : (s.setI f v).sq = s.sq := rfl
@[simp] theorem State.setI_otp (f : Field) (v : Int) : (s.setI f v).otp = s.otp := rfl
@[simp] theorem State.setI_boot (f : Field) (v : Int) : (s.setI f v).boot = s.boot := rfl
@[simp] theorem State.setI_pw (f : Field) (v : Int) : (s.setI f v).pw = s.pw := rfl
@[simp] theorem State.setI_fe (f : Field) (v : Int) : (s.setI f v).fe = s.fe := rfl
@[simp] theorem State.setI_rx (f : Field) (v : Int) : (s.setI f v).rx = s.rx := rfl
@[simp] theorem State.setI_tx (f : Field) (v : Int) : (s.setI f v).tx = s.tx := rfl
@[simp] theorem State.setI_arc (f : Field) (v : Int) : (s.setI f v).arc = s.arc := rfl
@[simp] theorem State.setI_blv (f : Field) (v : Int) : (s.setI f v).blv = s.blv := rfl
@[simp] theorem State.setI_hif (f : Field) (v : Int) : (s.setI f v).hif = s.hif := rfl
@[simp] theorem State.setI_cph (f : Field) (v : Int) : (s.setI f v).cph = s.cph := rfl
@[simp] theorem State.setI_mac (f : Field) (v : Int) : (s.setI f v).mac = s.mac := rfl
@[simp] theorem State.setI_time (f : Field) (v : Int) : (s.setI f v).time = s.time := rfl
@[simp] theorem State.setI_mem (f : Field) (v : Int) : (s.setI f v).mem = s.mem := rfl
@[simp] theorem State.setI_bur (f : Field) (v : Int) : (s.setI f v).bur = s.bur := rfl
@[simp] theorem State.setI_uart (f : Field) (v : Int) : (s.setI f v).uart = s.uart := rfl
@[simp] theorem State.setI_fsp (f : Field) (v : Int) : (s.setI f v).fsp = s.fsp := rfl
@[simp] theorem State.setI_free (f : Field) (v : Int) : (s.setI f v).free = s.free := rfl
@[simp] theorem State.setI_posted (f : Field) (v : Int) : (s.setI f v).posted = s.posted := rfl
@[simp] theorem State.setI_pending (f : Field) (v : Int) : (s.setI f v).pending = s.pending := rfl

@[simp] theorem State.bump_tick (f : Field) (n : Nat) : (s.bump f n).tick = s.tick := rfl
@[simp] theorem State.bump_sq (f : Field) (n : Nat) : (s.bump f n).sq = s.sq := rfl
@[simp] theorem State.bump_otp (f : Field) (n : Nat) : (s.bump f n).otp = s.otp := rfl
@[simp] theorem State.bump_boot (f : Field) (n : Nat) : (s.bump f n).boot = s.boot := rfl
@[simp] theorem State.bump_pw (f : Field) (n : Nat) : (s.bump f n).pw = s.pw := rfl
@[simp] theorem State.bump_fe (f : Field) (n : Nat) : (s.bump f n).fe = s.fe := rfl
@[simp] theorem State.bump_rx (f : Field) (n : Nat) : (s.bump f n).rx = s.rx := rfl
@[simp] theorem State.bump_tx (f : Field) (n : Nat) : (s.bump f n).tx = s.tx := rfl
@[simp] theorem State.bump_arc (f : Field) (n : Nat) : (s.bump f n).arc = s.arc := rfl
@[simp] theorem State.bump_blv (f : Field) (n : Nat) : (s.bump f n).blv = s.blv := rfl
@[simp] theorem State.bump_hif (f : Field) (n : Nat) : (s.bump f n).hif = s.hif := rfl
@[simp] theorem State.bump_cph (f : Field) (n : Nat) : (s.bump f n).cph = s.cph := rfl
@[simp] theorem State.bump_mac (f : Field) (n : Nat) : (s.bump f n).mac = s.mac := rfl
@[simp] theorem State.bump_time (f : Field) (n : Nat) : (s.bump f n).time = s.time := rfl
@[simp] theorem State.bump_mem (f : Field) (n : Nat) : (s.bump f n).mem = s.mem := rfl
@[simp] theorem State.bump_bur (f : Field) (n : Nat) : (s.bump f n).bur = s.bur := rfl
@[simp] theorem State.bump_uart (f : Field) (n : Nat) : (s.bump f n).uart = s.uart := rfl
@[simp] theorem State.bump_fsp (f : Field) (n : Nat) : (s.bump f n).fsp = s.fsp := rfl
@[simp] theorem State.bump_free (f : Field) (n : Nat) : (s.bump f n).free = s.free := rfl
@[simp] theorem State.bump_posted (f : Field) (n : Nat) : (s.bump f n).posted = s.posted := rfl
@[simp] theorem State.bump_pending (f : Field) (n : Nat) : (s.bump f n).pending = s.pending := rfl

@[simp] theorem State.count_tick (f : Field) : (s.count f).tick = s.tick := rfl
@[simp] theorem State.count_sq (f : Field) : (s.count f).sq = s.sq := rfl
@[simp] theorem State.count_otp (f : Field) : (s.count f).otp = s.otp := rfl
@[simp] theorem State.count_boot (f : Field) : (s.count f).boot = s.boot := rfl
@[simp] theorem State.count_pw (f : Field) : (s.count f).pw = s.pw := rfl
@[simp] theorem State.count_fe (f : Field) : (s.count f).fe = s.fe := rfl
@[simp] theorem State.count_rx (f : Field) : (s.count f).rx = s.rx := rfl
@[simp] theorem State.count_tx (f : Field) : (s.count f).tx = s.tx := rfl
@[simp] theorem State.count_arc (f : Field) : (s.count f).arc = s.arc := rfl
@[simp] theorem State.count_blv (f : Field) : (s.count f).blv = s.blv := rfl
@[simp] theorem State.count_hif (f : Field) : (s.count f).hif = s.hif := rfl
@[simp] theorem State.count_cph (f : Field) : (s.count f).cph = s.cph := rfl
@[simp] theorem State.count_mac (f : Field) : (s.count f).mac = s.mac := rfl
@[simp] theorem State.count_time (f : Field) : (s.count f).time = s.time := rfl
@[simp] theorem State.count_mem (f : Field) : (s.count f).mem = s.mem := rfl
@[simp] theorem State.count_bur (f : Field) : (s.count f).bur = s.bur := rfl
@[simp] theorem State.count_uart (f : Field) : (s.count f).uart = s.uart := rfl
@[simp] theorem State.count_fsp (f : Field) : (s.count f).fsp = s.fsp := rfl
@[simp] theorem State.count_free (f : Field) : (s.count f).free = s.free := rfl
@[simp] theorem State.count_posted (f : Field) : (s.count f).posted = s.posted := rfl
@[simp] theorem State.count_pending (f : Field) : (s.count f).pending = s.pending := rfl

@[simp] theorem State.raiseFlag_tick (f : Field) : (s.raiseFlag f).tick = s.tick := rfl
@[simp] theorem State.raiseFlag_otp (f : Field) : (s.raiseFlag f).otp = s.otp := rfl
@[simp] theorem State.raiseFlag_boot (f : Field) : (s.raiseFlag f).boot = s.boot := rfl
@[simp] theorem State.raiseFlag_pw (f : Field) : (s.raiseFlag f).pw = s.pw := rfl
@[simp] theorem State.raiseFlag_fe (f : Field) : (s.raiseFlag f).fe = s.fe := rfl
@[simp] theorem State.raiseFlag_rx (f : Field) : (s.raiseFlag f).rx = s.rx := rfl
@[simp] theorem State.raiseFlag_tx (f : Field) : (s.raiseFlag f).tx = s.tx := rfl
@[simp] theorem State.raiseFlag_arc (f : Field) : (s.raiseFlag f).arc = s.arc := rfl
@[simp] theorem State.raiseFlag_blv (f : Field) : (s.raiseFlag f).blv = s.blv := rfl
@[simp] theorem State.raiseFlag_hif (f : Field) : (s.raiseFlag f).hif = s.hif := rfl
@[simp] theorem State.raiseFlag_cph (f : Field) : (s.raiseFlag f).cph = s.cph := rfl
@[simp] theorem State.raiseFlag_mac (f : Field) : (s.raiseFlag f).mac = s.mac := rfl
@[simp] theorem State.raiseFlag_time (f : Field) : (s.raiseFlag f).time = s.time := rfl
@[simp] theorem State.raiseFlag_mem (f : Field) : (s.raiseFlag f).mem = s.mem := rfl
@[simp] theorem State.raiseFlag_bur (f : Field) : (s.raiseFlag f).bur = s.bur := rfl
@[simp] theorem State.raiseFlag_uart (f : Field) : (s.raiseFlag f).uart = s.uart := rfl
@[simp] theorem State.raiseFlag_fsp (f : Field) : (s.raiseFlag f).fsp = s.fsp := rfl
@[simp] theorem State.raiseFlag_free (f : Field) : (s.raiseFlag f).free = s.free := rfl
@[simp] theorem State.raiseFlag_posted (f : Field) : (s.raiseFlag f).posted = s.posted := rfl
@[simp] theorem State.raiseFlag_pending (f : Field) : (s.raiseFlag f).pending = s.pending := rfl

@[simp] theorem State.clearW1c_tick (a m : Nat) (w : Word) : (s.clearW1c a m w).tick = s.tick := rfl
@[simp] theorem State.clearW1c_sq (a m : Nat) (w : Word) : (s.clearW1c a m w).sq = s.sq := rfl
@[simp] theorem State.clearW1c_otp (a m : Nat) (w : Word) : (s.clearW1c a m w).otp = s.otp := rfl
@[simp] theorem State.clearW1c_boot (a m : Nat) (w : Word) : (s.clearW1c a m w).boot = s.boot := rfl
@[simp] theorem State.clearW1c_pw (a m : Nat) (w : Word) : (s.clearW1c a m w).pw = s.pw := rfl
@[simp] theorem State.clearW1c_fe (a m : Nat) (w : Word) : (s.clearW1c a m w).fe = s.fe := rfl
@[simp] theorem State.clearW1c_rx (a m : Nat) (w : Word) : (s.clearW1c a m w).rx = s.rx := rfl
@[simp] theorem State.clearW1c_tx (a m : Nat) (w : Word) : (s.clearW1c a m w).tx = s.tx := rfl
@[simp] theorem State.clearW1c_arc (a m : Nat) (w : Word) : (s.clearW1c a m w).arc = s.arc := rfl
@[simp] theorem State.clearW1c_blv (a m : Nat) (w : Word) : (s.clearW1c a m w).blv = s.blv := rfl
@[simp] theorem State.clearW1c_hif (a m : Nat) (w : Word) : (s.clearW1c a m w).hif = s.hif := rfl
@[simp] theorem State.clearW1c_cph (a m : Nat) (w : Word) : (s.clearW1c a m w).cph = s.cph := rfl
@[simp] theorem State.clearW1c_mac (a m : Nat) (w : Word) : (s.clearW1c a m w).mac = s.mac := rfl
@[simp] theorem State.clearW1c_time (a m : Nat) (w : Word) : (s.clearW1c a m w).time = s.time := rfl
@[simp] theorem State.clearW1c_mem (a m : Nat) (w : Word) : (s.clearW1c a m w).mem = s.mem := rfl
@[simp] theorem State.clearW1c_bur (a m : Nat) (w : Word) : (s.clearW1c a m w).bur = s.bur := rfl
@[simp] theorem State.clearW1c_uart (a m : Nat) (w : Word) : (s.clearW1c a m w).uart = s.uart := rfl
@[simp] theorem State.clearW1c_fsp (a m : Nat) (w : Word) : (s.clearW1c a m w).fsp = s.fsp := rfl
@[simp] theorem State.clearW1c_free (a m : Nat) (w : Word) : (s.clearW1c a m w).free = s.free := rfl
@[simp] theorem State.clearW1c_posted (a m : Nat) (w : Word) : (s.clearW1c a m w).posted = s.posted := rfl
@[simp] theorem State.clearW1c_pending (a m : Nat) (w : Word) : (s.clearW1c a m w).pending = s.pending := rfl

@[simp] theorem State.post_regs (o : Output) : (s.post o).regs = s.regs := rfl
@[simp] theorem State.post_tick (o : Output) : (s.post o).tick = s.tick := rfl
@[simp] theorem State.post_sq (o : Output) : (s.post o).sq = s.sq := rfl
@[simp] theorem State.post_otp (o : Output) : (s.post o).otp = s.otp := rfl
@[simp] theorem State.post_boot (o : Output) : (s.post o).boot = s.boot := rfl
@[simp] theorem State.post_pw (o : Output) : (s.post o).pw = s.pw := rfl
@[simp] theorem State.post_fe (o : Output) : (s.post o).fe = s.fe := rfl
@[simp] theorem State.post_rx (o : Output) : (s.post o).rx = s.rx := rfl
@[simp] theorem State.post_tx (o : Output) : (s.post o).tx = s.tx := rfl
@[simp] theorem State.post_arc (o : Output) : (s.post o).arc = s.arc := rfl
@[simp] theorem State.post_blv (o : Output) : (s.post o).blv = s.blv := rfl
@[simp] theorem State.post_hif (o : Output) : (s.post o).hif = s.hif := rfl
@[simp] theorem State.post_cph (o : Output) : (s.post o).cph = s.cph := rfl
@[simp] theorem State.post_mac (o : Output) : (s.post o).mac = s.mac := rfl
@[simp] theorem State.post_time (o : Output) : (s.post o).time = s.time := rfl
@[simp] theorem State.post_mem (o : Output) : (s.post o).mem = s.mem := rfl
@[simp] theorem State.post_bur (o : Output) : (s.post o).bur = s.bur := rfl
@[simp] theorem State.post_uart (o : Output) : (s.post o).uart = s.uart := rfl
@[simp] theorem State.post_fsp (o : Output) : (s.post o).fsp = s.fsp := rfl
@[simp] theorem State.post_free (o : Output) : (s.post o).free = s.free := rfl
@[simp] theorem State.post_pending (o : Output) : (s.post o).pending = s.pending := rfl

@[simp] theorem State.fire_tick (src data : Nat) : (s.fire src data).tick = s.tick := by
  unfold State.fire; split <;> rfl
@[simp] theorem State.fire_otp (src data : Nat) : (s.fire src data).otp = s.otp := by
  unfold State.fire; split <;> rfl
@[simp] theorem State.fire_boot (src data : Nat) : (s.fire src data).boot = s.boot := by
  unfold State.fire; split <;> rfl
@[simp] theorem State.fire_pw (src data : Nat) : (s.fire src data).pw = s.pw := by
  unfold State.fire; split <;> rfl
@[simp] theorem State.fire_fe (src data : Nat) : (s.fire src data).fe = s.fe := by
  unfold State.fire; split <;> rfl
@[simp] theorem State.fire_rx (src data : Nat) : (s.fire src data).rx = s.rx := by
  unfold State.fire; split <;> rfl
@[simp] theorem State.fire_tx (src data : Nat) : (s.fire src data).tx = s.tx := by
  unfold State.fire; split <;> rfl
@[simp] theorem State.fire_arc (src data : Nat) : (s.fire src data).arc = s.arc := by
  unfold State.fire; split <;> rfl
@[simp] theorem State.fire_blv (src data : Nat) : (s.fire src data).blv = s.blv := by
  unfold State.fire; split <;> rfl
@[simp] theorem State.fire_hif (src data : Nat) : (s.fire src data).hif = s.hif := by
  unfold State.fire; split <;> rfl
@[simp] theorem State.fire_cph (src data : Nat) : (s.fire src data).cph = s.cph := by
  unfold State.fire; split <;> rfl
@[simp] theorem State.fire_mac (src data : Nat) : (s.fire src data).mac = s.mac := by
  unfold State.fire; split <;> rfl
@[simp] theorem State.fire_time (src data : Nat) : (s.fire src data).time = s.time := by
  unfold State.fire; split <;> rfl
@[simp] theorem State.fire_mem (src data : Nat) : (s.fire src data).mem = s.mem := by
  unfold State.fire; split <;> rfl
@[simp] theorem State.fire_bur (src data : Nat) : (s.fire src data).bur = s.bur := by
  unfold State.fire; split <;> rfl
@[simp] theorem State.fire_uart (src data : Nat) : (s.fire src data).uart = s.uart := by
  unfold State.fire; split <;> rfl
@[simp] theorem State.fire_fsp (src data : Nat) : (s.fire src data).fsp = s.fsp := by
  unfold State.fire; split <;> rfl
@[simp] theorem State.fire_free (src data : Nat) : (s.fire src data).free = s.free := by
  unfold State.fire; split <;> rfl
@[simp] theorem State.fire_posted (src data : Nat) : (s.fire src data).posted = s.posted := by
  unfold State.fire; split <;> rfl
@[simp] theorem State.fire_pending (src data : Nat) : (s.fire src data).pending = s.pending := by
  unfold State.fire; split <;> rfl

@[simp] theorem State.setFePort_regs (n : Nat) (p : FePort) : (s.setFePort n p).regs = s.regs := rfl
@[simp] theorem State.setFePort_tick (n : Nat) (p : FePort) : (s.setFePort n p).tick = s.tick := rfl
@[simp] theorem State.setFePort_sq (n : Nat) (p : FePort) : (s.setFePort n p).sq = s.sq := rfl
@[simp] theorem State.setFePort_otp (n : Nat) (p : FePort) : (s.setFePort n p).otp = s.otp := rfl
@[simp] theorem State.setFePort_boot (n : Nat) (p : FePort) : (s.setFePort n p).boot = s.boot := rfl
@[simp] theorem State.setFePort_pw (n : Nat) (p : FePort) : (s.setFePort n p).pw = s.pw := rfl
@[simp] theorem State.setFePort_rx (n : Nat) (p : FePort) : (s.setFePort n p).rx = s.rx := rfl
@[simp] theorem State.setFePort_tx (n : Nat) (p : FePort) : (s.setFePort n p).tx = s.tx := rfl
@[simp] theorem State.setFePort_arc (n : Nat) (p : FePort) : (s.setFePort n p).arc = s.arc := rfl
@[simp] theorem State.setFePort_blv (n : Nat) (p : FePort) : (s.setFePort n p).blv = s.blv := rfl
@[simp] theorem State.setFePort_hif (n : Nat) (p : FePort) : (s.setFePort n p).hif = s.hif := rfl
@[simp] theorem State.setFePort_cph (n : Nat) (p : FePort) : (s.setFePort n p).cph = s.cph := rfl
@[simp] theorem State.setFePort_mac (n : Nat) (p : FePort) : (s.setFePort n p).mac = s.mac := rfl
@[simp] theorem State.setFePort_time (n : Nat) (p : FePort) : (s.setFePort n p).time = s.time := rfl
@[simp] theorem State.setFePort_mem (n : Nat) (p : FePort) : (s.setFePort n p).mem = s.mem := rfl
@[simp] theorem State.setFePort_bur (n : Nat) (p : FePort) : (s.setFePort n p).bur = s.bur := rfl
@[simp] theorem State.setFePort_uart (n : Nat) (p : FePort) : (s.setFePort n p).uart = s.uart := rfl
@[simp] theorem State.setFePort_fsp (n : Nat) (p : FePort) : (s.setFePort n p).fsp = s.fsp := rfl
@[simp] theorem State.setFePort_free (n : Nat) (p : FePort) : (s.setFePort n p).free = s.free := rfl
@[simp] theorem State.setFePort_posted (n : Nat) (p : FePort) : (s.setFePort n p).posted = s.posted := rfl
@[simp] theorem State.setFePort_pending (n : Nat) (p : FePort) : (s.setFePort n p).pending = s.pending := rfl

@[simp] theorem State.addEdge_regs (e : Nat) (t : DecTarget) : (s.addEdge e t).regs = s.regs := by
  unfold State.addEdge; split <;> rfl
@[simp] theorem State.addEdge_tick (e : Nat) (t : DecTarget) : (s.addEdge e t).tick = s.tick := by
  unfold State.addEdge; split <;> rfl
@[simp] theorem State.addEdge_sq (e : Nat) (t : DecTarget) : (s.addEdge e t).sq = s.sq := by
  unfold State.addEdge; split <;> rfl
@[simp] theorem State.addEdge_otp (e : Nat) (t : DecTarget) : (s.addEdge e t).otp = s.otp := by
  unfold State.addEdge; split <;> rfl
@[simp] theorem State.addEdge_boot (e : Nat) (t : DecTarget) : (s.addEdge e t).boot = s.boot := by
  unfold State.addEdge; split <;> rfl
@[simp] theorem State.addEdge_pw (e : Nat) (t : DecTarget) : (s.addEdge e t).pw = s.pw := by
  unfold State.addEdge; split <;> rfl
@[simp] theorem State.addEdge_rx (e : Nat) (t : DecTarget) : (s.addEdge e t).rx = s.rx := by
  unfold State.addEdge; split <;> rfl
@[simp] theorem State.addEdge_tx (e : Nat) (t : DecTarget) : (s.addEdge e t).tx = s.tx := by
  unfold State.addEdge; split <;> rfl
@[simp] theorem State.addEdge_arc (e : Nat) (t : DecTarget) : (s.addEdge e t).arc = s.arc := by
  unfold State.addEdge; split <;> rfl
@[simp] theorem State.addEdge_blv (e : Nat) (t : DecTarget) : (s.addEdge e t).blv = s.blv := by
  unfold State.addEdge; split <;> rfl
@[simp] theorem State.addEdge_hif (e : Nat) (t : DecTarget) : (s.addEdge e t).hif = s.hif := by
  unfold State.addEdge; split <;> rfl
@[simp] theorem State.addEdge_cph (e : Nat) (t : DecTarget) : (s.addEdge e t).cph = s.cph := by
  unfold State.addEdge; split <;> rfl
@[simp] theorem State.addEdge_mac (e : Nat) (t : DecTarget) : (s.addEdge e t).mac = s.mac := by
  unfold State.addEdge; split <;> rfl
@[simp] theorem State.addEdge_time (e : Nat) (t : DecTarget) : (s.addEdge e t).time = s.time := by
  unfold State.addEdge; split <;> rfl
@[simp] theorem State.addEdge_mem (e : Nat) (t : DecTarget) : (s.addEdge e t).mem = s.mem := by
  unfold State.addEdge; split <;> rfl
@[simp] theorem State.addEdge_bur (e : Nat) (t : DecTarget) : (s.addEdge e t).bur = s.bur := by
  unfold State.addEdge; split <;> rfl
@[simp] theorem State.addEdge_uart (e : Nat) (t : DecTarget) : (s.addEdge e t).uart = s.uart := by
  unfold State.addEdge; split <;> rfl
@[simp] theorem State.addEdge_fsp (e : Nat) (t : DecTarget) : (s.addEdge e t).fsp = s.fsp := by
  unfold State.addEdge; split <;> rfl
@[simp] theorem State.addEdge_free (e : Nat) (t : DecTarget) : (s.addEdge e t).free = s.free := by
  unfold State.addEdge; split <;> rfl
@[simp] theorem State.addEdge_posted (e : Nat) (t : DecTarget) : (s.addEdge e t).posted = s.posted := by
  unfold State.addEdge; split <;> rfl
@[simp] theorem State.addEdge_pending (e : Nat) (t : DecTarget) : (s.addEdge e t).pending = s.pending := by
  unfold State.addEdge; split <;> rfl

/-! ## Registers -/

/-- A register read after it is written. -/
theorem State.reg_setReg_same (a : Nat) (v : Word) : (s.setReg a v).reg a = v := look_store_same _ _ _ _

/-- A register that is not written. -/
theorem State.reg_setReg_other {a b : Nat} (h : b ≠ a) (v : Word) : (s.setReg a v).reg b = s.reg b :=
  look_store_other _ _ h _ _

/-- A field of a register that is not written. -/
theorem State.get_setReg_other {a : Nat} {f : Field} (h : f.addr ≠ a) (v : Word) : (s.setReg a v).get f = s.get f := by
  simp only [State.get, s.reg_setReg_other h]

/-- A field read after it is written. -/
theorem State.get_set_same {f : Field} (h : f.lo + f.w ≤ 32) (v : Nat) : (s.set f v).get f = v % 2 ^ f.w := by
  simp only [State.get, State.set, State.reg_setReg_same]; exact bits_withBits_same _ h _

/-- A register other than that of the field written. -/
theorem State.reg_set_other {f : Field} {a : Nat} (h : a ≠ f.addr) (v : Nat) : (s.set f v).reg a = s.reg a :=
  s.reg_setReg_other h _

/-- A field of another register than the one written. -/
theorem State.get_set_addr {f g : Field} (h : g.addr ≠ f.addr) (v : Nat) : (s.set f v).get g = s.get g :=
  s.get_setReg_other h _

/-- A field that shares no bit with the one written. -/
theorem State.get_set_bits {f g : Field} (h : f.lo + f.w ≤ g.lo ∨ g.lo + g.w ≤ f.lo) (v : Nat) :
    (s.set f v).get g = s.get g := by
  by_cases e : g.addr = f.addr
  · simp only [State.get, State.set, e, State.reg_setReg_same]; exact bits_withBits_other _ h _
  · exact s.get_set_addr e v

/-- A flag the device raises reads 1. -/
theorem State.flag_raiseFlag {f : Field} (h : f.lo + f.w ≤ 32) (w : f.w = 1) : (s.raiseFlag f).flag f = true := by
  have e : (s.raiseFlag f).get f = (s.set f 1).get f := rfl
  simp [State.flag, e, s.get_set_same h, w]

/-- Raising a flag writes the flag's field and no other. -/
theorem State.get_raiseFlag_other {f g : Field} (h : g.addr ≠ f.addr ∨ f.lo + f.w ≤ g.lo ∨ g.lo + g.w ≤ f.lo) :
    (s.raiseFlag f).get g = s.get g := by
  have e : (s.raiseFlag f).get g = (s.set f 1).get g := rfl
  rw [e]
  rcases h with h | h
  · exact s.get_set_addr h 1
  · exact s.get_set_bits h 1

/-- Raising a flag leaves every other register. -/
theorem State.reg_raiseFlag_other {f : Field} {a : Nat} (h : a ≠ f.addr) : (s.raiseFlag f).reg a = s.reg a :=
  s.reg_set_other h 1

/-- R67 to R69: an event that fires sets its pending bit and stages its record, and changes no other register; one whose
unit is absent or off leaves the state. -/
theorem State.fire_on {src : Nat} (h : s.sourceOn src = true) (data : Nat) :
    find (s.fire src data).sq.staged src = some (stageRec (find s.sq.staged src) src s.tick data) ∧
      ∀ a, a ≠ (pendField src).addr → (s.fire src data).reg a = s.reg a := by
  refine ⟨?_, fun a ha => ?_⟩
  · simp [State.fire, h, find_put]
  · simp only [State.fire, h, if_true]
    exact s.reg_raiseFlag_other ha

/-- An event whose unit is absent or off does not fire. -/
theorem State.fire_off {src : Nat} (h : s.sourceOn src = false) (data : Nat) : s.fire src data = s := by
  simp [State.fire, h]

/-- A host write that reaches its register does what it does. -/
theorem State.hostWrite_reaches {func off : Nat} (h : s.violationKind func 0 off true = none) (f : State → State) :
    s.hostWrite func off f = f s := by
  simp [State.hostWrite, h]

end Sys2Proof.Machine
end

