-- ==== Sys2Proof/Machine/Flags.lean ====
section
/-! DEFINITION. Flags. The block has no arithmetic flags; its flags are the W1C bits of its registers, which the device
raises (R13) and the Square's pending bits among them (Table 03-8). -/

namespace Sys2Proof.Machine

/-- A source of the Square is pending (Table 03-8). -/
def State.isPending (s : State) (src : Nat) : Bool := s.flag (pendField src)

/-- The staged record of a source (R69). -/
def State.stagedOf (s : State) (src : Nat) : Option EvRec := find s.sq.staged src

end Sys2Proof.Machine
end

