-- ==== Sys2Proof/Machine/Operands.lean ====
section
/-! DEFINITION. Operand forms. A command of this block has no encoded operands: the one form the spec gives several
commands is the 4 B write of a register that the bus carries (R11, R408). An 8 B write is two of them in one tick, the
lower address first. -/

namespace Sys2Proof.Machine

/-- R408: an aligned 8 B write of BAR0, as two 4 B writes in one tick, each judged on its own. -/
def State.busWrite8 (s : State) (func : Fin 2) (offset lo hi : Word) : State :=
  (s.busWrite func offset lo).busWrite func (offset + 4) hi

/-- R284: what the configuration space of function 0 or 1 identifies: the vendor, the device and the class code. -/
def State.configIds (s : State) (func : Fin 2) : Nat × Nat × Nat :=
  let part := if s.otp.variant = 0 then 0x9716 else if s.otp.variant = 1 then 0x9708 else 0x9704
  (s.otp.vendor.toNat, part + func.val, if func.val = 0 then 0x028000 else 0x088000)

end Sys2Proof.Machine
end

