-- ==== Sys2Proof/Machine/Signal.lean ====
section
/-! DEFINITION. What chapters 05, 07 and 08 say of the bits, points and chirps on the line. The line's samples are no
state of the block, so no command reads these functions; they say what a frame and a burst look like (log entry 75). -/

namespace Sys2Proof.Machine

/-! ## Bits (R109, Table 05-4, R115) -/

/-- R109: the 23 stages of the scrambler, stage 1 in bit 0, from a header's CRC-24. -/
def scrambleSeed (crc : Nat) : Nat := if crc % 2 ^ 23 = 0 then 1 else crc % 2 ^ 23

/-- R109: one step of x^23 + x^18 + 1: the bit of the sequence, and the next stages. -/
def scrambleStep (r : Nat) : Bool × Nat :=
  let b := bitN r 22 != bitN r 17
  (b, r * 2 % 2 ^ 23 + b2n b)

/-- R109: information bits scrambled from some stages on. -/
def scramble (r : Nat) (l : List Bool) : List Bool :=
  match l with
  | [] => []
  | x :: t => (x != (scrambleStep r).1) :: scramble (scrambleStep r).2 t

/-- Table 05-4: the header of an OFDM frame, with its CRC-24 in the top bits. -/
def headerBits (prof : Nat) (h : PhyHeader) : Nat :=
  let top := if prof = 1 then 232 else 136
  let v := h.cls * 2 ^ 2 + h.mode * 2 ^ 4 + h.rate * 2 ^ 8 + b2n h.blk * 2 ^ 10 + h.gi * 2 ^ 11 + h.tmap * 2 ^ 13
    + h.nss * 2 ^ 16 + h.gen * 2 ^ 18 + h.len * 2 ^ 22 + h.nsym * 2 ^ 36 + h.macFc * 2 ^ 56
  v + crc24 top v * 2 ^ top

/-- R115: the header of a sweep frame, with its CRC-16 in the top bits. -/
def sweepHeaderBits (h : PhyHeader) : Nat :=
  let v := h.cls * 2 ^ 2 + h.mode * 2 ^ 4 + h.len * 2 ^ 8
  v + crc16Bits 48 v * 2 ^ 48

/-- R112, R115: coded bits completed to `n` by repetition from their first bit. -/
def repeated (coded : List Bool) (n : Nat) : List Bool :=
  (List.range n).map (fun j => coded.getD (j % coded.length) false)

/-! ## Points (R105, R106, R113) -/

/-- The number that a Gray code of bits, most significant first, stands for. -/
def grayValue (prev : Bool) (l : List Bool) (acc : Nat) : Nat :=
  match l with
  | [] => acc
  | x :: t => grayValue (prev != x) t (2 * acc + b2n (prev != x))

/-- R105: the level of an axis labelled by some bits, in half steps about zero (no bit: zero). -/
def axisLevel (l : List Bool) : Int := 2 * (grayValue false l 0 : Int) - (2 ^ l.length - 1)

/-- R105: the point of the bits of a carrier, in-phase and quadrature level, before the scaling to unit mean energy. -/
def carrierPoint (l : List Bool) : Int × Int :=
  let h := (l.length + 1) / 2
  (axisLevel (l.take h), axisLevel (l.drop h))

/-- R105: three times the mean energy of the points of `b` bits, in the unit of `carrierPoint`. -/
def pointEnergy3 (b : Nat) : Nat := 4 ^ ((b + 1) / 2) + 4 ^ (b / 2) - 2

/-- R106: the smallest `s` not below a start with gcd(s, n) = 1, within some tries. -/
def coprimeFrom (n s tries : Nat) : Nat :=
  match tries with
  | 0 => s
  | k + 1 => if Nat.gcd s n = 1 then s else coprimeFrom n (s + 1) k

/-- R106: the step of the visiting order of `n` loaded carriers. -/
def visitStep (n : Nat) : Nat := coprimeFrom n (ceilDiv n 7) n

/-- R106: the carrier visited at place `j`. -/
def visited (n j : Nat) : Nat := j * visitStep n % n

/-- R113: the point of ORr on unmasked carrier `c` of `n`, and the quarter turns of its rotation. -/
def robustPoint (n r c : Nat) : Nat × Nat :=
  let d := n / r
  if c < r * d then (c % d, c / d % 4) else (c - r * d, r % 4)

/-- Table 05-1: the frequency of carrier `m` of a profile, in 1/512 Hz. -/
def carrierFreq (prof m : Nat) : Nat := m * (if prof = 1 then 31250000 else 1953125)

/-- R149: the entry of a port's PSD table that serves carrier `m`. -/
def psdEntry (prof m : Nat) : Nat := if prof = 1 then (m - 30) / 8 else m - firstCarrier prof

/-! ## Chirps (R114, R172, R173) -/

/-- R172: the instantaneous frequency of a chirp of width `w` from `lo`, with shift `u` of `n`, at place `k / d` of the
symbol (0 ≤ k < d), in the unit of `lo` and `w`. -/
def chirpFreq (lo w n u : Nat) (up : Bool) (k d : Nat) : Nat :=
  let f := w * ((u * d + k * n) % (n * d)) / (n * d)
  if up then lo + f else lo + w - f

/-- R173, Table 08-2: the three symbols of command `c`: up-chirp or not, and the shift. -/
def burstSymbols (wide : Bool) (c : Nat) : List (Bool × Nat) :=
  let f := fun x => if wide then 4 * x % 256 else x % 64
  [(true, f (12 * c)), (false, f (15 * c)), (true, f (27 * c))]

/-- R115: the symbols before the payload of a sweep frame: eight base up-chirps and two base down-chirps. -/
def sweepPreamble : List (Bool × Nat) := List.replicate 8 (true, 0) ++ List.replicate 2 (false, 0)

end Sys2Proof.Machine
end

