-- ==== Sys2Proof/WellFormed.lean ====
section
/-! DEFINITION. Which commands are well formed: the operands whose type allows more than the spec does (a mode number, a
measured quantity, a list of bytes) lie in the ranges of the spec. The machine takes ill-formed commands as well; no
statement rests on what it does with them. -/

namespace Sys2Proof

/-- Table 05-1: a sweep mode SW5 to SW12, or 0 for a frame that is not swept. -/
def sweepOk (k : Nat) : Bool := k == 0 || (decide (5 ≤ k) && decide (k ≤ 12))

/-- R133, R142: at most four streams, of at most 1,024 carriers each. -/
def RxMeas.wf (m : RxMeas) : Bool :=
  decide (m.snr.length ≤ 4) && m.snr.all (fun l => decide (l.length ≤ 1024)) && decide (m.precode.length ≤ 2048)

/-- R240: the fields of a G.9903 frame have their widths. -/
def G3Frame.wf (f : G3Frame) : Bool :=
  decide (f.kind ≤ 3) && (f.dmode == 2 || f.dmode == 3) && decide (f.pan < 65536) && decide (f.seq < 256) &&
    decide (f.seclvl ≤ 7) && decide (f.keyidx < 256) && decide (f.fcnt < 2 ^ 32) && decide (f.msdu.length ≤ 2048)

/-- R182, Table 08-1: a peak bin lies below N, in 1/8 bin. -/
def Dechirp.wf (d : Dechirp) : Bool := decide (d.bin < 2048)

/-- Table 11-9: how many cells of a return cannot be reached. -/
def PoisonAt.wf (p : PoisonAt) : Bool :=
  match p with
  | .walk n => decide (n ≤ 16777216)
  | _ => true

/-- R388: at most 4,096 repair records are live. -/
def BootFindings.wf (f : BootFindings) : Bool := decide (f.spare.length ≤ 4096)

/-- A command is well formed. -/
def Instr.wf (i : Instr) : Bool :=
  match i with
  | .coldBoot f => f.wf
  | .warmBoot f => f.wf
  | .watchdogExpiry _ f => f.wf
  | .unsupportedRequest (.access _ _ n) => decide (0 < n) && decide (n ≤ 4096)
  | .unsupportedRequest (.config f) => decide (f < 8)
  | .detectorWindowEnd _ m => decide (m.length ≤ 2 ^ 20)
  | .harmonicAverageEnd _ h => decide (h.length ≤ 50)
  | .receiveRecordRetire g k _ => decide (k < (if g then 1024 else 65536))
  | .preambleDetected _ _ k _ => sweepOk k
  | .receiveSamplesEnd _ m => m.wf
  | .blockDecodeComplete _ _ d => decide (d.length ≤ 2048)
  | .noiseTelemetry _ l => decide (l.length ≤ 6)
  | .detectorHop _ u d => u.wf && d.wf
  | .g9903FrameReceived _ f => f.wf
  | .poisonedCompletion p => p.wf
  | .sramUncorrectable _ _ (.object p) => p.wf
  | .txSubmitDescriptor _ _ b => decide (b.length ≤ 9216)
  | .timeBaseAdvance n l => l.all (fun c => decide (c.adc ≤ 2 * n) && decide (c.dac ≤ 2 * n))
  | _ => true

end Sys2Proof
end

