-- ==== Sys2Proof/Tests/Slice0.lean ====
section
/-! SUPPORT. Tests: ill-formed commands are refused by the checks of WellFormed, small steps against the spec, and for
every statement with hypotheses a state and operands that meet them. -/

set_option Elab.async false

namespace Sys2Proof.Machine

/-! ## States -/

/-- The device up in mode `m`, after start-up. -/
def up (m : Nat) : State :=
  { State.reset with tick := 1000, boot := { step := 13 } }.setReg a_SYS_MODESTAT (BitVec.ofNat 32 (m + 16 * m + 512))

/-- In mode `m`, on its way to mode `g`. -/
def toward (m g : Nat) : State := (up m).setReg a_SYS_MODESTAT (BitVec.ofNat 32 (m + 16 * g + 256 + 512))

/-- In PROOF after boot step `k`, with WARM_N low. -/
def held (k : Nat) : State := { State.reset with tick := 1000, boot := { step := k, warmLow := true } }

/-- In mode `m`, with a frame of queue 1 on the line of port `n`. -/
def sending (m n : Nat) : State :=
  (up m).setTxPort n { air := some { kind := .data 1 7, start := 900, stop := 2000, mode := 1, aw := 500 } }

/-! ## Ill-formed commands: one for each check -/

/-- A boot that found nothing wrong, with a list of spare rows. -/
def found (n : Nat) : BootFindings :=
  { protFault := false, proofFail := 0, readErrA := false, readErrB := false, dogA := false, dogB := false
    trained := 1, ranks := 0, spare := List.replicate n true }

/-- A G.9903 frame without content. -/
def g3 : G3Frame :=
  { kind := 0, src := 1, dst := 2, dmode := 2, pan := 3, seq := 4, ackreq := false, seclvl := 0, keyidx := 0
    fcnt := 0, mic := true, msdu := [] }

/-- A measurement without content. -/
def meas : RxMeas := { psnr := 0, snr := [], spread := 0, precode := [] }

theorem test_wf_boot : (Instr.coldBoot (found 4097)).wf = false ∧ (Instr.warmBoot (found 4097)).wf = false ∧
    (Instr.watchdogExpiry 0 (found 4097)).wf = false ∧ (Instr.coldBoot (found 4096)).wf = true := by
  decide +kernel
theorem test_wf_access_size : (Instr.unsupportedRequest (.access 0 0 0)).wf = false ∧
    (Instr.unsupportedRequest (.access 0 0 4097)).wf = false ∧
    (Instr.unsupportedRequest (.access 0 0 16)).wf = true := by decide
theorem test_wf_config_function : (Instr.unsupportedRequest (.config 8)).wf = false ∧
    (Instr.unsupportedRequest (.config 2)).wf = true := by decide
theorem test_wf_detector_window (m : List (BitVec 16)) (h : m.length = 2 ^ 20 + 1) :
    (Instr.detectorWindowEnd 0 m).wf = false := by simp [Instr.wf, h]
theorem test_wf_harmonics : (Instr.harmonicAverageEnd 0 (List.replicate 51 (0, 0))).wf = false := by
  decide +kernel
theorem test_wf_record_link : (Instr.receiveRecordRetire true 1024 0).wf = false ∧
    (Instr.receiveRecordRetire false 65536 0).wf = false ∧ (Instr.receiveRecordRetire false 65535 5).wf = true := by
  decide +kernel
theorem test_wf_sweep_mode : (Instr.preambleDetected 0 20 4 0).wf = false ∧ (Instr.preambleDetected 0 20 13 0).wf = false ∧
    (Instr.preambleDetected 0 20 0 0).wf = true := by decide
theorem test_wf_streams : (Instr.receiveSamplesEnd 0 { meas with snr := List.replicate 5 [] }).wf = false ∧
    (Instr.receiveSamplesEnd 0 { meas with snr := [List.replicate 1025 0] }).wf = false ∧
    (Instr.receiveSamplesEnd 0 { meas with precode := List.replicate 2049 0 }).wf = false ∧
    (Instr.receiveSamplesEnd 0 meas).wf = true := by decide +kernel
theorem test_wf_block : (Instr.blockDecodeComplete 0 true (List.replicate 2049 0)).wf = false := by decide +kernel
theorem test_wf_spectra : (Instr.noiseTelemetry 0 (List.replicate 7 [])).wf = false := by decide +kernel
theorem test_wf_dechirp : (Instr.detectorHop 0 ⟨2048, 0, 0⟩ ⟨0, 0, 0⟩).wf = false ∧
    (Instr.detectorHop 0 ⟨0, 0, 0⟩ ⟨2048, 0, 0⟩).wf = false := by decide
theorem test_wf_g9903 : (Instr.g9903FrameReceived 0 { g3 with kind := 4 }).wf = false ∧
    (Instr.g9903FrameReceived 0 { g3 with dmode := 1 }).wf = false ∧
    (Instr.g9903FrameReceived 0 { g3 with pan := 65536 }).wf = false ∧
    (Instr.g9903FrameReceived 0 { g3 with seq := 256 }).wf = false ∧
    (Instr.g9903FrameReceived 0 { g3 with seclvl := 8 }).wf = false ∧
    (Instr.g9903FrameReceived 0 { g3 with keyidx := 256 }).wf = false ∧
    (Instr.g9903FrameReceived 0 { g3 with fcnt := 2 ^ 32 }).wf = false ∧
    (Instr.g9903FrameReceived 0 { g3 with msdu := List.replicate 2049 0 }).wf = false ∧
    (Instr.g9903FrameReceived 0 g3).wf = true := by decide +kernel
theorem test_wf_walk : (Instr.poisonedCompletion (.walk 16777217)).wf = false ∧
    (Instr.sramUncorrectable 0 0 (.object (.walk 16777217))).wf = false := by decide
theorem test_wf_clips : (Instr.timeBaseAdvance 3 [⟨0, 7, 0⟩]).wf = false ∧
    (Instr.timeBaseAdvance 3 [⟨0, 6, 7⟩]).wf = false ∧ (Instr.timeBaseAdvance 3 [⟨0, 6, 6⟩]).wf = true := by decide
theorem test_wf_body : (Instr.txSubmitDescriptor 5 0 (List.replicate 9217 0)).wf = false := by decide +kernel

/-! ## Values of the spec's worked examples and tables -/

/-- Chapter 05, worked example: 10,720 bits a symbol, rate 2/3, BLK 1, GI 1,024: 385.024 µs. -/
theorem test_bb_frame : ofdmDur 1 1380 9216 ⟨0, 1, true, 1, 1, 10720, 2, 0⟩ = 48128 := by decide +kernel
/-- Chapter 07, worked example: 256 B over OR4 at GI 128 on NB-HV: 3,661,824 ticks. -/
theorem test_hv_frame : ofdmDur 2 125 256 ⟨2, 0, false, 3, 1, 0, 6, 0⟩ = 3661824 := by decide +kernel
/-- Chapter 07, worked example, steps 2 and 3: F2 is deferred to 4,286,824, and passes there. -/
theorem test_dwell_run :
    let s := ((up 6).set (MAC_DWTIME_MAX_ON 0) 50).set (MAC_DWTIME_MIN_OFF 0) 50
    let t := s.setTxPort 2 { s.txPort 2 with runs := [(0, ⟨0, 3661824⟩)] }
    t.dwellRun 2 0 3750000 3661824 = .defer 4286824 0 ∧ t.dwellRun 2 0 4286824 3661824 = .pass := by decide +kernel
/-- Chapter 08, worked example, step 5: shifts 50, 62 and 46 are command 4, and no other. -/
theorem test_trip_shifts :
    let x : BurCand := {
      due := 0
      hop := 0
      cfg := 3
      s0 := ⟨50 * 8, 0x3000, 0⟩
      s1 := ⟨(64 - 62) * 8, 0x3000, 0⟩
      s2 := ⟨46 * 8, 0x3000, 0⟩ }
    burMatched x 10 10 4 = 3 ∧ (List.range 16).filter (fun c => burMatched x 10 10 c == 3) = [4] := by decide +kernel
/-- Chapter 13, worked example, step 4: the place and PHASE of completion 0xFFFF_FFE0 of ring 9. -/
theorem test_completion_place :
    let s := ((up 5).set (HIF_RBASEHI_BASE 9) 0x40).set (HIF_RCFG_LOGSZ 9) 6
    s.rAddr 0 9 32 0xFFFFFFE0 = 0x4000000400 ∧ s.rPhase 0 9 0xFFFFFFE0 = 0 := by decide +kernel
/-- Chapter 03, worked example: the doorbell of ring 1,000 fires ES399 with DATA 40. -/
theorem test_doorbell_event : ∃ t, exec (.doorbellWrite 0 1000 1) (up 4) = .next t ∧
    find t.sq.staged 399 = some ⟨399, 1000, 40, 0⟩ := ⟨_, rfl, by decide +kernel⟩
/-- Chapter 13, worked example, step 6: an index behind P is invalid and stops ring 5 with BADIDX. -/
theorem test_doorbell_behind :
    let s := (((((up 5).set (HIF_RCFG_TYPE 5) 1).set (HIF_RCFG_LOGSZ 5) 8).set (HIF_RCFG_PEER 5) 9).set
      (HIF_RCFG_EN 5) 1).set (HIF_RPROD_P 5) 0x24
    ∃ t, exec (.doorbellWrite 0 5 0x20) s = .next t ∧ t.flag (HIF_RSTAT_STOPPED 5) = true ∧
      t.get (HIF_RPROD_P 5) = 0x24 := ⟨_, rfl, by decide +kernel, by decide +kernel⟩
/-- Chapter 15, worked example: line 67,258,864 of one channel lies in rank 0 with index 0x402_49F0. -/
theorem test_line_place : ((up 5).set MEM_CFG_CH 1).rankOf 67258864 = (0, 0x40249F0) := by
  decide +kernel
/-- Chapter 19, worked example: 0x13_0404 is PRT[6]_RXSTAT, 0x13_0100 is PRT[6]_AFE. -/
theorem test_port_window : (rowOf regMap 0x130404).map (fun r => (r.1.base, r.2.1)) = some (a_PRT_RXSTAT 0, 6) ∧
    (rowOf regMap 0x130100).map (fun r => (r.1.base, r.2.1)) = some (a_PRT_AFE 0, 6) := by decide +kernel
/-- Chapter 17: 0x43 has three ones: under even parity a parity bit 0 is an error, under odd parity 1 is. -/
theorem test_uart_parity :
    let e := (up 5).set (UAR_CFG_PAR 0) 1
    let o := (up 5).set (UAR_CFG_PAR 0) 2
    e.uartPe 0 ⟨0x43, false, true, false⟩ = true ∧ e.uartPe 0 ⟨0x43, true, true, false⟩ = false ∧
      o.uartPe 0 ⟨0x43, true, true, false⟩ = true ∧ o.uartPe 0 ⟨0x43, false, true, false⟩ = false := by decide +kernel
/-- Chapter 02: SYS_MODE code 15 is refused, with ES456 and ES457. -/
theorem test_mode_code : ∃ t, exec (.modeRequest 15) (up 2) = .next t ∧ t.flag SYS_MODESTAT_REFUSED = true ∧
    t.mode = mStandby ∧ t.flag (pendField 456) = true ∧ t.flag (pendField 457) = true :=
  ⟨_, rfl, by decide +kernel, by decide +kernel, by decide +kernel, by decide +kernel⟩
/-- Chapter 03: a read of an address without a register is a silent violation that reads zero. -/
theorem test_no_register : ∃ t, exec (.silentViolation (.host 0 0 0x1000 false)) (up 2) = .next t ∧ t.posted = [.readData 0] ∧
    t.get SYS_VIOLCNT_COUNT = 1 ∧ t.get SYS_VIOLINFO_KIND = 0 :=
  ⟨_, rfl, by decide +kernel, by decide +kernel, by decide +kernel⟩

/-- R106: for the full BB band s = 199, as 198 shares a factor with 1,380. -/
theorem test_visit_step : visitStep 1380 = 199 := by decide +kernel

/-- Table 05-4: a header read back from its bits. -/
theorem test_header_bits :
    let h : PhyHeader := { cls := 2, mode := 3, rate := 0, blk := false, gi := 3, tmap := 6, nss := 0, gen := 0,
                           len := 300, nsym := 9, macFc := 0x1234 }
    parseHeader 1 (headerBits 1 h) = some h := by decide +kernel

/-- Table 08-2: command 5, and four times its shifts on the wideband profile. -/
theorem test_burst_symbols : burstSymbols false 5 = [(true, 60), (false, 11), (true, 7)] ∧
    burstSymbols true 1 = [(true, 48), (false, 60), (true, 108)] := by decide

/-- R149: the last BB carrier is served by entry 172. -/
theorem test_psd_entry : psdEntry 1 1409 = 172 ∧ psdEntry 2 131 = 124 := by decide


/-! StepTakesTheFrontCommand -/

theorem witness_StepTakesTheFrontCommand :
    ((up 2).withCommand .porstNAssert).pending = .porstNAssert :: [] ∧ (up 2).pending = [] := ⟨rfl, rfl⟩

/-! QueueIsFirstInFirstOut -/

theorem witness_QueueIsFirstInFirstOut : ∃ t, step ((up 2).withCommand (.timeBaseAdvance 0 [])) = .next t := ⟨_, rfl⟩

/-! FusesAreNeverUndone -/

theorem witness_FusesAreNeverUndone : ∃ t, step ((up 2).withCommand (.timeBaseAdvance 0 [])) = .next t := ⟨_, rfl⟩

/-! TickIsNeverStepped -/

theorem witness_TickIsNeverStepped : ∃ t, exec .violationClear (up 2) = .next t := ⟨_, rfl⟩

/-! MemoryStaysCanonical -/

theorem witness_MemoryStaysCanonical :
    Memory.wf ((up 2).withCommand (.timeBaseAdvance 0 [])) = true ∧
      ∃ t, step ((up 2).withCommand (.timeBaseAdvance 0 [])) = .next t := ⟨by decide, _, rfl⟩

/-! RegistersStayCanonical -/

theorem witness_RegistersStayCanonical :
    Registers.wf ((up 2).withCommand (.timeBaseAdvance 0 [])) = true ∧
      ∃ t, step ((up 2).withCommand (.timeBaseAdvance 0 [])) = .next t := ⟨by decide +kernel, _, rfl⟩

/-! ResetIsTheStateOfTheSpec -/

theorem witness_ResetIsTheStateOfTheSpec : State.reset.mode = mProof := by decide +kernel

/-! ModeRequestIsJudged -/

theorem witness_ModeRequestIsJudged : (up 2).reaches 0 a_SYS_MODE ∧ (up 2).domOn dAon = true := by decide +kernel
theorem witness_ModeRequestIsJudged_refused : (up 2).modeReason 12 = 2 ∧ (up 2).modeReason 1 = 2 := by decide +kernel
theorem witness_ModeRequestIsJudged_same : (up 2).modeReason 2 = 0 ∧ (up 2).mode = 2 := by decide +kernel
theorem witness_ModeRequestIsJudged_accepted : (up 2).modeReason 3 = 0 ∧ (up 2).mode ≠ 3 := by decide +kernel

/-! ModeTransitionsComplete -/

theorem witness_ModeTransitionsComplete : (toward 2 3).busy = true ∧ (toward 2 3).mode ≠ mProof ∧
    (toward 2 3).domOn dAon = true ∧ (toward 2 3).get SYS_MODESTAT_TARGET = 3 := by decide +kernel
theorem witness_ModeTransitionsComplete_safe : (toward 3 10).busy = true ∧ (toward 3 10).mode ≠ mProof ∧
    (toward 3 10).get SYS_MODESTAT_TARGET = mSafe := by decide +kernel
theorem witness_ModeTransitionsComplete_standby : (toward 3 2).busy = true ∧ (toward 3 2).domOn dAon = true ∧
    (toward 3 2).get SYS_MODESTAT_TARGET = mStandby ∧ (List.range 16).all (fun n => ((toward 3 2).txPort n).air.isNone &&
      ((toward 3 2).txPort n).win.isNone && ((toward 3 2).rxPort n).frames.isEmpty) = true := by decide +kernel

/-! ProfileChanges -/

theorem witness_ProfileChanges : (up 2).reaches 0 (a_PRT_PROFILE 15) ∧ (up 2).profileOk 15 1 = true ∧
    (up 2).portIdle 15 = true ∧ (up 2).profileOk 15 6 = false ∧ (up 3).profileOk 15 1 = false := by decide +kernel
theorem witness_ProfileChanges_waits : (sending 3 7).reaches 0 (a_PRT_PROFILE 7) ∧ (sending 3 7).profileOk 7 5 = true ∧
    (sending 3 7).portIdle 7 = false := by decide +kernel
theorem witness_ProfileChanges_apply : ((up 3).set (PRT_PROFILE_PENDING 0) 1).flag (PRT_PROFILE_PENDING 0) = true ∧
    ((up 3).set (PRT_PROFILE_PENDING 0) 1).portIdle 0 = true := by decide +kernel

/-! BootsRunTheirSteps -/

theorem witness_BootsRunTheirSteps_cold : State.reset.boot.step = 0 ∧ State.reset.pw.supplyLow.getLsbD 0 = false ∧
    State.reset.pw.supplyLow.getLsbD 1 = false := by decide +kernel
theorem witness_BootsRunTheirSteps_warm : (held 6).boot.step = 6 ∧ (held 6).boot.warmLow = true ∧
    (held 6).mode = mProof := by decide +kernel
theorem witness_BootsRunTheirSteps_restart :
    let s := { up 10 with boot := { step := 13, warmRestart := true } }
    6 ≤ s.boot.step ∧ s.boot.warmLow = false ∧ s.boot.warmRestart = true := by decide +kernel
theorem witness_BootsRunTheirSteps_start : (held 12).boot.step = 12 ∧ (held 12).mode = mProof ∧
    (held 12).domOn dAon = true := by decide +kernel

/-! ResetsReachWhatTheyShould -/

theorem witness_ResetsReachWhatTheyShould : (up 3).pw.porstLow = false ∧ 6 ≤ (up 3).boot.step ∧
    (up 3).domOn dAon = true ∧ (up 3).domOn dHif = true := by decide +kernel
theorem witness_ResetsReachWhatTheyShould_link :
    { up 3 with hif.linkUp := true }.hif.linkUp = true ∧ { up 3 with hif.linkUp := true }.mode ≠ mSafe ∧
      { up 3 with hif.linkUp := true }.mode ≠ mProof := by decide +kernel

/-! WatchdogLeadsToSafeOrTheOtherPair -/

theorem witness_WatchdogLeadsToSafeOrTheOtherPair : 10 ≤ (up 3).boot.step ∧ (up 3).mode ≠ mSafe ∧
    (up 3).pw.porstLow = false ∧ (up 3).flag SYS_MODESTAT_READY = true := by decide +kernel
theorem witness_WatchdogLeadsToSafeOrTheOtherPair_early :
    let s := { (held 12).set SYS_BOOTSTAT_B_RESULT 6 with boot.running := 0 }
    10 ≤ s.boot.step ∧ s.mode ≠ mSafe ∧ s.flag SYS_MODESTAT_READY = false ∧ s.get SYS_BOOTSTAT_B_RESULT ≠ 0 := by
  decide +kernel

/-! RecordsDrainInOrder -/

theorem witness_RecordsDrainInOrder :
    let s := { (up 3).fire 490 5 with tick := 1001 }
    s.sq.staged.any (fun e => decide (e.2.tick < s.tick)) = true ∧
      s.sq.staged.all (fun e => e.2.source == e.1) = true := by decide +kernel
theorem witness_RecordsDrainInOrder_none :
    ((up 3).fire 490 5).sq.staged.all (fun e => decide (((up 3).fire 490 5).tick ≤ e.2.tick)) = true := by decide +kernel

/-! SquareAccessesAnswer -/

theorem witness_SquareAccessesAnswer : (up 3).reaches 0 a_SQR_SWEVT ∧ (up 3).domOn dAon = true ∧
    (up 3).readable 0 a_SQR_TICK_LO ∧ (up 3).reaches 0 a_SYS_LOCK := by decide +kernel

/-! ViolationsAreCountedAndCaptured -/

theorem witness_ViolationsAreCountedAndCaptured : (up 3).violationKind 0 0 0x0C true = some 0 ∧
    (up 3).violationKind 0 0 0x10104 true = some 3 ∧ (up 3).violationKind 0 1 0x1004 true = some 0 := by decide +kernel

/-! ViolationKindsAreTold -/

theorem witness_ViolationKindsAreTold : (up 3).mode ≠ mProof ∧ (up 3).mode ≠ mSafe ∧ (up 3).domOn dAon = true ∧
    ((up 3).set SYS_LOCK_LOCK 1).locked = true ∧ (up 3).reaches 0 a_SYS_VIOLCNT := by decide +kernel
theorem witness_ViolationKindsAreTold_off : ((up 3).set PWR_STAT_ON 0x0FFFF).domOn (dPair 15) = false ∧
    ((up 3).set PWR_STAT_ON 0x0FFFF).domOn dAon = true ∧ 15 < ((up 3).set PWR_STAT_ON 0x0FFFF).ports := by decide +kernel

/-! RegisterWritesFollowAccessTypes -/

theorem witness_RegisterWritesFollowAccessTypes : (up 3).reaches 0 (a_SQR_ROUTE 31) ∧ (up 3).reaches 0 (a_SQR_ROUTE 511) ∧
    (up 3).reaches 0 (a_SQR_PEND 15) ∧ (up 3).reaches 0 a_SQR_DROPCNT ∧ (up 3).reaches 0 a_CLK_STAT := by decide +kernel

/-! CalibrationPassesRun -/

theorem witness_CalibrationPassesRun : let s := { up 10 with tick := 125000000 }
    15 < s.ports ∧ s.domOn dProt = true ∧ s.mode ≠ mProof ∧ (s.fePort 15).calActive = false ∧
      s.get (PRT_AFE_CAL_INT 15) ≠ 0 ∧ (s.fePort 15).calStart + s.get (PRT_AFE_CAL_INT 15) * 12500000 ≤ s.tick := by
  decide +kernel
theorem witness_CalibrationPassesRun_end : (((up 3).setFePort 15 { calActive := true }).fePort 15).calActive = true ∧
    ((up 3).setFePort 15 { calActive := true }).domOn dAon = true := by decide +kernel

/-! DecimatorsResetOnTheirEdges -/

theorem witness_DecimatorsResetOnTheirEdges : (up 3).domOn dAon = true ∧ (up 3).reaches 0 a_SYS_DECSYNC ∧
    (up 3).domOn (dPair 15) = true ∧ 15 < (up 3).ports := by decide +kernel
theorem witness_DecimatorsResetOnTheirEdges_due : let s := (up 3).addEdge 2001 .all
    (2001, DecTarget.all) ∈ s.fe.edges ∧ (∀ x ∈ s.fe.edges, 2001 ≤ x.1) ∧ 2001 ≤ 2 * s.tick + 1 ∧
      2001 ∈ { s with time.syncEdges := [2001] }.time.syncEdges ∧ (s.set TIM_SYNCCFG_SRC 1).get TIM_SYNCCFG_SRC = 1 ∧
      s.domOn dFab = true := by decide +kernel
theorem witness_DecimatorsResetOnTheirEdges_later :
    ∀ x ∈ ((up 3).addEdge 2002 .all).fe.edges, 2 * ((up 3).addEdge 2002 .all).tick + 1 < x.1 := by decide +kernel

/-! DetectorWindowsLatch -/

theorem witness_DetectorWindowsLatch : 15 < (up 3).ports ∧ (up 3).domOn (dPair 15) = true := by decide +kernel
theorem witness_DetectorWindowsLatch_clip : 15 < (up 3).ports ∧ (up 3).domOn dProt = true ∧
    (up 3).mac.winPend = false := by decide +kernel

/-! MainsSensingReports -/

theorem witness_MainsSensingReports : (up 3).domOn dMsn = true ∧ bitN ((up 3).get TIM_MSCTL_EN) 3 = true := by
  decide +kernel
theorem witness_MainsSensingReports_cycle : let s := { up 3 with tick := 100000000 }.setMs 3 { lastPos := some (95000000 * 65536) }
    s.cycleOk 3 (95000000 * 65536) (97500000 * 65536) = true ∧ s.cycleOk 3 (95000000 * 65536) (99000000 * 65536) = false ∧
      125000000 * 65536 ≤ (s.tick * 65536 - 95000000 * 65536) * 45 := by decide +kernel
theorem witness_MainsSensingReports_harmonics : ((up 3).setMs 0 { cycles := 10 }).get TIM_MSCTL_HAVG ≤
    (((up 3).setMs 0 { cycles := 10 }).ms 0).cycles := by decide +kernel

/-! GroupAndStoreWritesNeedStandby -/

theorem witness_GroupAndStoreWritesNeedStandby : (up 2).reaches 0 (a_GRP_CFG 3) ∧ (up 2).reaches 0 a_MAC_TMSCFG ∧
    (up 2).reaches 0 a_MAC_TMSBASE ∧ (up 2).reaches 0 a_MAC_SNRBASE ∧ (up 2).mode = mStandby ∧ (up 2).busy = false ∧
    (up 3).reaches 0 (a_GRP_CFG 3) ∧ (up 3).mode ≠ mStandby := by decide +kernel

/-! PreamblesAreAcquiredOrIgnored -/

/-- Port `n` on BB in REPEATER, its receiver in state `x`. -/
def listening (n x : Nat) : State := ((up 4).set (PRT_PROFILE_ACT n) pfBB).setRxState n x

/-- Port `n` with a frame in reception. -/
def receiving (n : Nat) (a : Acq) : State := (listening n rCHEST).setRxPort n { cur := some a }

/-- A frame detected at tick 900. -/
def anAcq : Acq := { id := 7, tdet := 900, snr := 20, slot := 1, sweepK := 0, g3 := false }

theorem witness_PreamblesAreAcquiredOrIgnored : let s := listening 15 rSEARCH
    s.rxOn 15 = true ∧ s.rxState 15 = rSEARCH ∧ s.rxHome 15 = 15 ∧ s.searches 15 12 = true ∧ (s.rxPort 15).cur = none ∧
      s.baseOk (s.rxCfg 15 PRT_RXCFG_TSB) = true := by decide +kernel
theorem witness_PreamblesAreAcquiredOrIgnored_capture : let s := receiving 15 anAcq
    s.rxOn 15 = true ∧ s.rxHome 15 = 15 ∧ s.searches 15 0 = true ∧ s.searches 15 13 = false ∧
      (s.rxPort 15).cur = some anAcq ∧ anAcq.tdet ≠ s.tick := by decide +kernel
theorem witness_PreamblesAreAcquiredOrIgnored_blank : let s := listening 15 rBLANKED
    s.rxState 15 = rBLANKED ∧ s.airOf 15 = none ∧ s.bursting 15 = false ∧ (s.rxPort 15).blank ≤ s.tick := by
  decide +kernel

/-! TrackingAndTheEndOfSamples -/

theorem witness_TrackingAndTheEndOfSamples : let s := receiving 15 { anAcq with large := 2 }
    15 < s.ports ∧ s.domOn (dPair 15) = true ∧ (s.rxPort 15).cur = some { anAcq with large := 2 } ∧
      (s.rxPort 15).tails = [] := by decide +kernel

/-! BlocksAreDecodedInOrder -/

/-- A payload block of the frame `anAcq` on port 15. -/
def aBlock : CodeBlock := { port := 15, frame := 7, idx := 0, header := false, arrival := 950 }

/-- The header of a frame of one payload of 4 B on the default map. -/
def aHeader : PhyHeader :=
  { cls := 0, mode := 0, rate := 0, blk := false, gi := 0, tmap := 6, nss := 0, gen := 0, len := 4, nsym := 1, macFc := 0 }

theorem witness_BlocksAreDecodedInOrder : let s := receiving 15 anAcq
    15 < s.ports ∧ s.domOn (dPair 15) = true ∧ (s.rxPort 15).frames.find? Acq.due = some anAcq ∧ s.domOn dDec = true ∧
      find s.rx.decoders 7 = none := by decide +kernel
theorem witness_BlocksAreDecodedInOrder_take : let s := { receiving 15 anAcq with rx.waiting := [aBlock] }
    s.rx.waiting ≠ [] ∧ (∀ x ∈ s.rx.waiting, x.port < 16) ∧ find s.rx.decoders 7 = none := by decide +kernel
theorem witness_BlocksAreDecodedInOrder_header :
    let s := { receiving 15 anAcq with rx.decoders := [(7, { aBlock with header := true })] }
    find s.rx.decoders 7 = some { aBlock with header := true } ∧ s.acqOf 15 7 = some anAcq ∧
      (s.rxPort 15).cur = some anAcq ∧ (s.rxPort 15).tails = [] ∧ anAcq.ended = none ∧
      parseHeader pfBB (4 * 2 ^ 22 + 6 * 2 ^ 13 + crc24 232 (4 * 2 ^ 22 + 6 * 2 ^ 13) * 2 ^ 232) ≠ none ∧
      parseHeader pfBB 1 = none := by decide +kernel
theorem witness_BlocksAreDecodedInOrder_last :
    let a := { anAcq with hdr := some aHeader, blocks := 1, ended := some 990, meas := some ⟨0, [], 0, []⟩ }
    let s := ({ (listening 15 rSEARCH).setRxPort 15 { tails := [a] } with rx.decoders := [(7, aBlock)] }).arcOpen 30
    find s.rx.decoders 7 = some aBlock ∧ (s.rxPort 15).tails = [a] ∧ (s.rxPort 15).cur = none ∧
      s.profile 15 = pfBB ∧ (put aBlock.idx [0, 0, 0, 0] a.parts).length = a.blocks ∧
      checkOk [0, 0, 0, 0] = true ∧ checkOk [1, 0, 0, 0] = false ∧ (Lfc.ofBits aHeader.macFc).ftype ≤ 5 ∧
      s.arcIsOpen 30 = true ∧ s.arcFits 30 (packetWords 4) = true ∧ s.sesFrom (Lfc.ofBits aHeader.macFc).src = none := by
  decide +kernel

/-! NoiseAndReceiveRecordsAge -/

theorem witness_NoiseAndReceiveRecordsAge :
    let s := (((listening 15 rSEARCH).set (PRT_NOISECFG_NOISE_AVG 15) 4).setReg a_MAC_SFN 4).set HIF_TELCFG_EN 1
    s.rxOn 15 = true ∧ s.get (PRT_NOISECFG_NOISE_AVG 15) ≠ 0 ∧ s.domOn dAon = true ∧ s.flag HIF_TELCFG_EN = true ∧
      s.get (PRT_NOISECFG_NOISE_AVG 15) ≤ (s.get MAC_SFN_SFN + 2 ^ 32 - look 0 s.rx.lastNoise 15) % 2 ^ 32 ∧
      s.findSes (fun v => sub v sGROUPED == b2n true && sub v sLINK == 5) = none := by decide +kernel
/-- Link 0 towards neighbour 9 as session 3, superframe 20, with receive records of generations 2 and 3 of slot 0 in
lines 96 and 112 of DRAM. -/
def recorded : State :=
  let v : BitVec 2048 := withSub (withSub 0 sVALID 1) sNEIGH 9
  let s := (((up 4).setSes 3 v).set MAC_TMSCFG_LINKS 1).setReg a_MAC_SFN 20
  { s with mem.dram := [(7680, 33), (7744, 239), (7745, 47), (7746, 206), (7747, 47), (8960, 49), (9024, 247), (9025, 242), (9026, 198), (9027, 242)] }

theorem recorded_clean : (∀ j, j < 16 → recorded.decodeLine (96 + j) = .clean) ∧
    (∀ j, j < 16 → recorded.decodeLine (112 + j) = .clean) ∧ (∀ j, j < 32 → recorded.decodeLine j = .clean) := by
  decide +kernel
theorem recorded_places : recorded.findSes (fun v => sub v sGROUPED == b2n false && sub v sLINK == 0) = some 3 ∧
    recorded.hasArea 3 = true ∧ recorded.recAddr false 0 6 / 64 = 96 ∧ recorded.recAddr false 0 7 / 64 = 112 ∧
    recorded.snrAddr false 0 0 0 / 64 = 0 ∧ sub (recorded.ses 3) sGROUPED = 0 ∧ sub (recorded.ses 3) sLINK = 0 := by
  decide +kernel
/-- The bytes of `n` lines. -/
def linesOf (l n : Nat) : List Byte := (List.range n).flatMap (fun j => recorded.lineBytes (l + j))

theorem witness_NoiseAndReceiveRecordsAge_retire : ∃ (snr old new : List Byte) (b : Byte), let s := recorded
    s.findSes (fun v => sub v sGROUPED == b2n false && sub v sLINK == 0) = some 3 ∧ s.hasArea 3 = true ∧
      s.readSnr 3 0 0 = (snr, s) ∧ s.readRec 3 6 = (b :: old, s) ∧ s.readRec 3 7 = (new, s) ∧
      16 ≤ (s.get MAC_SFN_SFN + 2 ^ 32 - snrLast snr) % 2 ^ 32 ∧ new ≠ [] ∧ recValid new = true ∧
      recValid (b :: old) = true ∧ recGen new = (recGen (b :: old) + 1) % 16 ∧ recGen new % 2 = 1 - 0 := by
  obtain ⟨h1, h2, h3⟩ := recorded_clean
  obtain ⟨p1, p2, p3, p4, p5, p6, p7⟩ := recorded_places
  refine ⟨linesOf 0 32, (linesOf 96 16).tail, linesOf 112 16, 0x21, p1, p2, ?_, ?_, ?_, ?_⟩
  · simp only [State.readSnr, p6, p7, p5, show ((0 : Nat) == 1) = false from rfl]
    rw [readLines_clean _ 32 0 6 (by simpa using h3)]
    rfl
  · rw [show (0x21 : Byte) :: (linesOf 96 16).tail = linesOf 96 16 by decide +kernel]
    simp only [State.readRec, p2, p6, p7, p3, show ((0 : Nat) == 1) = false from rfl, if_true]
    rw [if_neg (by decide), readLines_clean _ 16 96 6 h1]
    rfl
  · simp only [State.readRec, p2, p6, p7, p4, show ((0 : Nat) == 1) = false from rfl, if_true]
    rw [if_neg (by decide), readLines_clean _ 16 112 6 h2]
    rfl
  · decide +kernel

/-! FramesLaunchUnderTheRules -/

/-- In TERMINAL with port 15 on NB-HV: a frame of queue 9 is the next packet of its transmit instance, a launch is
granted in this tick, and LDEN15 has been asserted for long enough. -/
def aFrame : TxFrame := { id := 7, lfc := { src := 2, dst := 3, esrc := 2, edst := 3 }, body := [1, 2, 3], ready := true }
def launching : State :=
  let s := ((up 6).set (PRT_PROFILE_ACT 15) pfHV).setFrames 9 [aFrame]
  let s1 := (s.setTxPort 15 { ldSince := some 0 }).setArc 31 { isHanded := true, handed := [⟨2, .tx 9 7⟩], unread := 2 }
  s1.setCsma 15 { grant := some 1000 }

/-- The default map of `launching`. -/
def aMap : PhyMap := launching.defMap 15

theorem witness_FramesLaunchUnderTheRules : let s := launching
    s.arcFront 31 = some ⟨2, .tx 9 7⟩ ∧ s.frameOf 9 7 = some aFrame ∧ aFrame.ready = true ∧ s.joint 15 = false ∧
      15 < s.ports ∧ s.domOn (dPair 15) = true ∧ s.mayLaunch aFrame = true ∧ s.txFree 15 = true ∧
      s.staleAnswer aFrame = false ∧ aFrame.timed = false := by decide +kernel
theorem witness_FramesLaunchUnderTheRules_map : launching.mapOf 15 9 aFrame false = (aMap, false, launching) ∧
    launching.windowOf 15 9 aFrame aMap = (0, launching) := ⟨rfl, rfl⟩
theorem witness_FramesLaunchUnderTheRules_placed : let s := launching
    s.fitMap 15 false (s.lenOn 15 aFrame aMap) aMap = some aMap ∧
      s.placed 15 0 s.tick (s.tick + s.durOf 15 false (s.lenOn 15 aFrame aMap) aMap) = true ∧
      (s.dwellAll [15] (s.rangeOf 15 false aMap).1 (s.rangeOf 15 false aMap).2 s.tick 5).1 = .pass ∧
      s.ldReady 15 = true := by decide +kernel
theorem witness_FramesLaunchUnderTheRules_none : (up 3).arcFront 31 = none ∧
    ({ launching with boot := {} }.set SYS_MODESTAT_BUSY 1).mayLaunch aFrame = false := by decide +kernel

/-! FramesEndWithTheirOutcome -/

theorem witness_FramesEndWithTheirOutcome : let s := { sending 4 15 with tick := 2000 }.setFrames 1 [{ aFrame with id := 7 }]
    (∃ a, (s.txPort 15).air = some a ∧ a.stop ≤ s.tick ∧ a.grouped = false ∧ a.kind = .data 1 7 ∧ a.aw ≠ 0) ∧
      15 < s.ports ∧ s.domOn (dPair 15) = true ∧ s.frameOf 1 7 = some aFrame ∧ unproven aFrame = false ∧
      s.leaving = false := by
  refine ⟨⟨_, rfl, ?_⟩, ?_⟩ <;> decide +kernel
theorem witness_FramesEndWithTheirOutcome_early : ∃ a, ((sending 4 15).txPort 15).air = some a ∧ (sending 4 15).tick < a.stop :=
  ⟨_, rfl, by decide⟩
theorem witness_FramesEndWithTheirOutcome_fault : let s := sending 4 15
    s.domOn dProt = true ∧ 15 < s.ports ∧ s.flag (PRT_LDCTL_FAULT 15) = false ∧
      (s.set (PRT_LDCTL_FAULT 15) 1).flag (PRT_LDCTL_FAULT 15) = true ∧ (s.txPort 15).holdEnd ≤ s.tick := by
  decide +kernel
theorem witness_FramesEndWithTheirOutcome_tail : let s := (up 4).setTxPort 15 { ldTail := some 1000 }
    (s.txPort 15).ldTail = some 1000 ∧ 1000 ≤ s.tick ∧ s.airOf 15 = none ∧ (s.txPort 15).ldPlan = false ∧
      s.burHold 15 = false ∧ s.get (PRT_LDCTL_LDMODE 15) = 1 := by decide +kernel

/-! DwellAndMaskWritesApply -/

theorem witness_DwellAndMaskWritesApply : let s := sending 4 15
    s.reaches 0 (dwKey 7 3) ∧ s.reaches 0 (dwKey 0 0) ∧ s.reaches 0 (a_PRT_MASK 15 31) ∧
      (∃ a, (s.txPort 15).air = some a ∧ a.grouped = false ∧ a.trunc = none) := by
  refine ⟨?_, ?_, ?_, ⟨_, rfl, ?_⟩⟩ <;> decide +kernel

/-! TripInputsRequestBursts -/

/-- Burin running a profile in which input 7 sends command 11 on port 15 (active high), command 11 is accepted
permissively, drives TRIP_OUT 5 and is regenerated onto port 14, and port 15 receives. -/
def burWords : List Word :=
  ((((List.replicate 60 (0 : Word)).set (wTrip 7) 0x8000002D).set (wCmd 11) 0x40000017).set (wPort 15) 0x73).set wTiming
    0x1401F4
def burin : State :=
  let s := { up 4 with bur.words := burWords }
  (s.setBurPort 15 { txCfg := 0x73 }).setBurPort 14 { txCfg := 0x73 }

theorem witness_TripInputsRequestBursts : let s := burin
    s.domOn dProt = true ∧ s.tEn 7 = true ∧ s.tPol 7 = false ∧ (s.trip 7).asserted = false ∧ (s.trip 7).maxEnd = none ∧
      (s.trip 7).rearm = none ∧ s.stuck 7 = false ∧ bitN (s.tPorts 7) 15 = true ∧ 15 < s.ports ∧
      pcTXEN (s.burPort 15).txCfg = true ∧ (s.burPort 15).ended = true ∧ (s.burPort 15).chosen = none := by
  decide +kernel
theorem witness_TripInputsRequestBursts_stuck : let s := burin.setTrip 7 { asserted := true, maxEnd := some 1000 }
    s.domOn dProt = true ∧ (s.trip 7).maxEnd = some 1000 ∧ 1000 ≤ s.tick ∧ (s.trip 7).asserted = true ∧
      (s.trip 7).rearm = none ∧ s.stuck 7 = false ∧ s.tEn 7 = true := by decide +kernel
theorem witness_TripInputsRequestBursts_rearm :
    let s := (burin.setTrip 7 { rearm := some 1000 }).setBit BUR_STAT_STUCK 7 true
    s.domOn dProt = true ∧ (s.trip 7).rearm = some 1000 ∧ 1000 ≤ s.tick ∧ s.stuck 7 = true := by decide +kernel

/-! BurstsAreSentAndFollowed -/

/-- A burst of command 11 chosen on port 15. -/
def aBurst : Burst := { cmd := 11, start := 1000, stop := 99304, regen := false, source := 7, preempt := true, wide := false }

theorem witness_BurstsAreSentAndFollowed : let s := (sending 6 15).setBurPort 15 { txCfg := 0x71, chosen := some aBurst }
    (s.burPort 15).chosen = some aBurst ∧ aBurst.start ≤ s.tick ∧ 15 < s.ports ∧ s.domOn dProt = true ∧
      (s.airOf 15).map Prod.fst = some 15 ∧ s.domOn (dPair 15) = true := by decide +kernel
theorem witness_BurstsAreSentAndFollowed_end :
    let s := { burin.setBurPort 15 { cur := some aBurst, ended := false, gain := some 40 } with tick := 99303 }
    (s.burPort 15).cur = some aBurst ∧ (s.burPort 15).ended = false ∧ (s.burPort 15).chosen = none ∧ 15 < s.ports ∧
      aBurst.stop ≤ s.tick + 1 ∧ pcTXEN (s.burGoal.getD (wPort 15) 0) = true := by decide +kernel

/-! DetectionsAreDecided -/

/-- A due candidate on port 15, with the shifts 0, 33 and 37 (in 1/8) of command 11 and an offset of 4. -/
def aCand : BurCand :=
  { due := 900, hop := 12, cfg := 0x73, s0 := ⟨32, 9000, 5⟩, s1 := ⟨(512 - (32 + 33 * 8)) % 512, 9000, 5⟩,
    s2 := ⟨(32 + 37 * 8 + 128 * 8) % 512, 9000, 5⟩ }
theorem witness_DetectionsAreDecided : let s := burin
    s.detOn 15 = true ∧ (12 : Nat) < 16 ∧ bitN ((s.setBit BUR_STAT_TOUT 5 true).get BUR_STAT_TOUT) 5 = true ∧
      (look {} s.bur.outs 5).holdEnd ≤ s.tick ∧ bitN (s.get BUR_STAT_TOUT) 5 = false := by decide +kernel
theorem witness_DetectionsAreDecided_hops : ∃ v1 v2 v3 v4 v5 v6 v7 v8 v9 v10 : Dechirp × Dechirp,
    ((burin.setBurPort 15 { wins := List.replicate 10 (⟨0, 0, 1⟩, ⟨0, 0, 1⟩) }).burPort 15).wins =
      [v1, v2, v3, v4, v5, v6, v7, v8, v9, v10] ++ [] := ⟨_, _, _, _, _, _, _, _, _, _, rfl⟩
theorem witness_DetectionsAreDecided_strict :
    let x : BurCand := { aCand with s2 := ⟨(32 + 15 * 11 * 8) % 512, 9000, 5⟩ }
    128 * Machine.bits (burin.burWord wDet) 0 6 ≤ x.s0.q ∧ (512 - x.s1.bin % 512) % 512 = (x.s0.bin + 3 * 11 * 8) % 512 ∧
      x.s2.bin % 512 = (x.s0.bin + 15 * 11 * 8) % 512 := by decide +kernel
theorem witness_DetectionsAreDecided_decision : let s := burin.setBurPort 15 { txCfg := 0x73, cands := [aCand] }
    (s.burPort 15).cands = [aCand] ∧ aCand.due ≤ s.tick ∧ s.detOn 15 = true ∧
      pcPROF (s.burWord (wPort 15)) = pcPROF aCand.cfg ∧ pcBASE (s.burWord (wPort 15)) = pcBASE aCand.cfg := by
  decide +kernel

/-! BurinConfigurationIsGuarded -/

theorem witness_BurinConfigurationIsGuarded : (up 4).reaches 1 (burRegKey .timing - f1 0) ∧
    (up 4).reaches 1 (burRegKey (.portLvl 15) - f1 0) ∧ (up 4).reaches 1 (a_BUR_CTL - f1 0) ∧
    (up 4).flag BUR_CTL_LOCK = false ∧ burRegAbsent (.portLvl 15) (up 4).ports = false ∧
    ((up 4).set BUR_CTL_LOCK 1).reaches 1 (burRegKey .detcfg - f1 0) ∧ (up 4).flag SYS_MODESTAT_READY = true ∧
    (up 4).domOn dProt = true ∧ (up 4).successorAt = none := by decide +kernel
theorem witness_BurinConfigurationIsGuarded_running : let s := (up 4).set BUR_CTL_EN 1
    let t := { s.set BUR_CTL_ACT 3 with bur.words := s.burConfigured }
    t.flag BUR_CTL_EN = true ∧ t.mode ≠ mSafe ∧ t.flag BUR_CTL_PROT_FAULT = false ∧ 4 ≤ t.boot.step ∧
      t.bur.next = none ∧ t.get BUR_CTL_ACT = 3 ∧ t.bur.words = t.burConfigured := by decide +kernel

/-! SuperframesFollowTheMains -/

/-- A coordinator in its superframe that began in tick 900, with a valid crossing of REF at 950. -/
def coordinating : State :=
  { up 3 with mac := { start := some 900, pHat := 60 * 65536, cross := [(905, 950 * 65536, true)], periodSf := 0 } }

theorem witness_SuperframesFollowTheMains : let s := coordinating
    s.mode = mCoordinator ∧ s.mac.start = some 900 ∧ s.sfCross 900 = some (950 * 65536, true) ∧ s.sfDue = true ∧
      s.domOn dMac = true ∧ s.mac.rejoin = 0 ∧ s.mac.ref = none ∧ (up 3).sfDue = false ∧
      ({ s with mac.cross := [] }).sfCross 900 = none ∧ ({ s with mac.cross := [] }).deviation 900 = none := by
  decide +kernel
theorem witness_SuperframesFollowTheMains_slot : let s := coordinating
    s.mac.start = some 900 ∧ s.keepsFrame = true ∧ s.get MAC_SFSTAT_SLOT = 0 ∧
      900 + (0 + 1) * s.mac.pHat / 6 / 65536 ≤ s.tick := by decide +kernel
/-- The same coordinator with beacons on port 15 on BB, at its launch tick. -/
def beaconing : State :=
  let s := { coordinating with tick := 25000, mac.periodStart := 0 }
  ((s.set (PRT_PROFILE_ACT 15) pfBB).set MAC_BCNCFG_PORTS 0x8000).set (PRT_LDCTL_LDMODE 15) 1
theorem witness_SuperframesFollowTheMains_beacon : let s := beaconing
    s.beacons = true ∧ 15 < s.ports ∧ bitN (s.get MAC_BCNCFG_PORTS) 15 = true ∧ s.profile 15 = pfBB ∧
      s.mac.start ≠ none ∧ s.beaconTick = s.tick ∧ s.domOn (dPair 15) = true ∧ s.lineFree 15 = true ∧
      s.ldPlanned 15 = true ∧ (s.dwellCheck 15 0 5 s.tick 5).1 = .pass := by decide +kernel
theorem witness_SuperframesFollowTheMains_build :
    buildable pfBB 1380 (beaconing.beaconMap 15) = true := by decide +kernel

/-! AllocationsAndMacWritesAreJudged -/

theorem witness_AllocationsAndMacWritesAreJudged : (up 3).reaches 0 a_MAC_ALLOCCTL ∧ (up 3).mac.coming = none ∧
    (up 3).mode = mCoordinator ∧ (up 3).badEntry = none ∧ (up 5).reaches 0 a_MAC_ALLOCCTL ∧
    ((up 3).setReg (a_MAC_ALLOC0 63) 0x80000000).badEntry = some 63 := by decide +kernel
theorem witness_AllocationsAndMacWritesAreJudged_config : (up 2).reaches 0 (macKey .sfcfg) ∧
    (up 2).reaches 0 (macKey .presence) ∧ (up 2).mode = mStandby ∧ (up 2).busy = false ∧
    (up 3).reaches 0 (macKey .domain) ∧ (up 3).mode ≠ mStandby := by decide +kernel

/-! BeaconsAreWindowedAndTaken -/

/-- A repeater attached to the coordinator, address 0 as its parent, with beacons on port 15. -/
def attached (st : Nat) : State :=
  let s := (((up 4).set MAC_BCNCFG_PORTS 0x8000).setSfState st).set MAC_PARENT_ADDR 0
  { s with mac := { start := some 900, pHat := 60 * 65536, winStart := 800, winEnd := 1000 } }

/-- A beacon of the coordinator of domain 0, in the layout of Table 09-1. -/
def beaconBytes : List Byte := List.replicate 12 0 ++ [0, 0, 7, 0] ++ List.replicate 24 0
def beaconFrame : RxFrame :=
  { id := 1, port := 15, tdet := 900, endTick := 990, slot := 0, tmap := 6, mode := 1, sweep := false, phy := 2,
    len := 44, lfc := {}, payload := beaconBytes, snr := 20, psnr := 20, gain := 0, fofs := 0, sofs := 0 }
/-- With a received frame as the next packet of port 15. -/
def State.holding (s : State) (f : RxFrame) : State :=
  s.setArc 30 { isHanded := true, handed := [⟨packetWords f.len, .rx f⟩], unread := packetWords f.len }

theorem witness_BeaconsAreWindowedAndTaken : let s := (attached sfATTACHED).holding beaconFrame
    (∃ b, s.rxFront 15 = some beaconFrame ∧ parseBeacon beaconFrame.payload = some b ∧
      b.domain = s.get MAC_DOMAIN_DOMAIN ∧ b.sender = s.parent ∧ b.cdown = 0) ∧
      s.isChild = true ∧ s.mac.winPend = false ∧ s.domOn dMac = true ∧ bitN (s.get MAC_BCNCFG_PORTS) 15 = true ∧
      s.sfState = sfATTACHED ∧ ({ s with mac.winOpen := true }).mac.winOpen = true ∧ s.mac.winStart ≤ 900 := by
  refine ⟨⟨_, rfl, rfl, ?_⟩, ?_⟩ <;> decide +kernel
theorem witness_BeaconsAreWindowedAndTaken_close : let s := { attached sfATTACHED with mac.winOpen := true }
    s.mac.winOpen = true ∧ s.mac.winEnd ≤ s.tick ∧ s.domOn dMac = true ∧ s.mac.winHit = false ∧
      s.sfState = sfATTACHED ∧ s.windowBusy = false ∧ s.domOn dAon = true ∧ s.tbHold 1 = false := by decide +kernel
theorem witness_BeaconsAreWindowedAndTaken_open :
    ∃ w, let s := { attached sfATTACHED with tick := 60000, mac.winEnd := 0, mac.periodStart := 0 }
      s.isChild = true ∧ s.sfState = sfATTACHED ∧ s.mac.start ≠ none ∧ s.mac.winOpen = false ∧ s.windowDue = some w ∧
        s.domOn dMac = true := by
  refine ⟨(55508, 80508), ?_⟩
  decide +kernel
theorem witness_BeaconsAreWindowedAndTaken_orphan :
    let s := { (attached sfORPHAN).set MAC_SFSTAT_MISS 10 with mac.winPend := true }
    s.mac.winOpen = false ∧ s.mac.winPend = true ∧ s.sfState = sfORPHAN ∧ s.domOn dMac = true ∧ s.domOn dAon = true ∧
      min (s.get MAC_SFSTAT_MISS + 1) 15 = 11 ∧ s.mode = mRepeater := by decide +kernel

/-! ContentionAndPresenceAreTimed -/

/-- `launching` in its second priority slot, or with a backoff of 1. -/
def contending (prs : Option Nat) (bo : Option Nat) : State :=
  (launching.setFrames 9 [{ aFrame with bo := bo }]).setCsma 15 { prs := prs }
theorem witness_ContentionAndPresenceAreTimed :
    (contending (some 1) none).contender 15 = some (9, aFrame) ∧ (contending (some 1) none).txMode = true ∧
      (contending (some 1) none).orphan = false ∧ (contending (some 1) none).profile 15 ≠ pfG3 ∧
      ((contending (some 1) none).csmaOf 15).prs = some 1 ∧
      ({ contending none none with tick := 50000 }).idleIfs 15 = true ∧
      (contending (some 2) (some 1)).contender 15 = some (9, { aFrame with bo := some 1 }) ∧
      ((contending (some 2) (some 1)).csmaOf 15).prs = some 2 := by decide +kernel
theorem witness_ContentionAndPresenceAreTimed_fits :
    ({ contending none none with tick := 50000 }).fits 15 9 aFrame = true := by decide +kernel
theorem witness_ContentionAndPresenceAreTimed_knock :
    let s := { attached sfJOINING with mac.knock := some ⟨77, 3, 4⟩, blv.led.free := 100000 }
    s.mac.knock = some ⟨77, 3, 4⟩ ∧ s.sfState = sfJOINING ∧ s.get MAC_JOIN_KTO ≤ 4 ∧ 3 < s.get MAC_JOIN_KRETRY ∧
      s.admitsCells 0 1 = true := by decide +kernel
theorem witness_ContentionAndPresenceAreTimed_keepalive :
    let s := { attached sfATTACHED with tick := 130000000, mac.sentTo := [] }
    s.isChild = true ∧ s.sfState = sfATTACHED ∧
      look s.mac.entry s.mac.sentTo s.parent + s.get MAC_PRESENCE_KA_INT * s.periodTicks ≤ s.tick := by decide +kernel
/-- A coordinator that holds a present child of address 5 in session 6. -/
def parenting : State :=
  let v := withSub (withSub (withSub (withSub (0 : BitVec 512) dSTATE 1) dDIRECT 1) dSESSION 6) dEUI 9
  let s := { up 3 with mac.period := 1000 }
  (s.setDirEnt 0 (withSub (s.dirEnt 0) dADDR2 0)).setDirEnt 5 v
theorem witness_ContentionAndPresenceAreTimed_absent : let s := parenting
    let v := s.dirOf 5
    sub v dSTATE = 1 ∧ sub v dDIRECT = 1 ∧ s.dirIndex 5 ≠ 0 ∧ 5 ≠ s.parent ∧ s.dirUsable 5 = true ∧
      s.lost 5 = true ∧ sub v dSESSION = 6 := by decide +kernel

/-! JoiningIsAnsweredAndAdmitted -/

/-- A knock of EUI-64 9 and KNOCKID 3 on port 15, to address `to_`. -/
def knockFrame (ftype to_ : Nat) (p : List Byte) : RxFrame :=
  { beaconFrame with phy := 0, lfc := { ftype := ftype, src := 0x1FFFFFE, dst := to_ }, payload := p }
def knockBytes : List Byte := leBytes 8 9 ++ [0, 0, 0, 1] ++ leBytes 4 3
/-- A coordinator of address 0 with JOIN_OPEN. -/
def admitting : State :=
  let s := { (up 3).set MAC_DOMAIN_JOIN_OPEN 1 with blv.led.free := 100000 }
  s.setDirEnt 0 (withSub (s.dirEnt 0) dADDR2 0)
theorem witness_JoiningIsAnsweredAndAdmitted : let f := knockFrame 3 0 knockBytes
    let s := admitting.holding f
    s.rxFront 15 = some f ∧ f.phy ≤ 1 ∧ f.lfc.dst = s.ownAddr ∧ 16 ≤ f.payload.length ∧ s.mode = mCoordinator ∧
      s.flag MAC_DOMAIN_JOIN_OPEN = true ∧ leNat ((f.payload.drop 8).take 3) = s.get MAC_DOMAIN_DOMAIN ∧
      s.hif.joins = [] ∧ s.admitsCells 0 1 = true ∧ 0 < s.joinMax := by decide +kernel
theorem witness_JoiningIsAnsweredAndAdmitted_relayed : let f := { knockFrame 2 0 (6 :: knockBytes ++ [3, 20]) with lfc := { ftype := 2, src := 8, dst := 0, seq := 0 } }
    let s := (admitting.holding f).setDirEnt 8 (withSub 0 dCSEQS 0xFFFF)
    s.rxFront 15 = some f ∧ isCtrl 6 f = true ∧ f.lfc.dst = s.ownAddr ∧ f.payload.length = 19 ∧
      s.dirUsable f.lfc.src = true ∧ (s.judgeSeq f.lfc.src f.lfc.seq).1 = .fresh ∧
      leNat ((f.payload.drop 9).take 3) = s.get MAC_DOMAIN_DOMAIN ∧ s.hif.joins.length < s.joinMax := by decide +kernel
theorem witness_JoiningIsAnsweredAndAdmitted_answers :
    let f := fun c => knockFrame 2 0x1FFFFFE (BitVec.ofNat 8 c :: List.replicate 8 0 ++ [5] ++ List.replicate 13 0)
    let s := fun c => { (attached sfJOINING).holding (f c) with mac.knock := some ⟨77, 0, 1⟩ }
    (s 3).rxFront 15 = some (f 3) ∧ isCtrl 3 (f 3) = true ∧ isCtrl 4 (f 4) = true ∧ isCtrl 5 (f 5) = true ∧
      (s 3).sfState = sfJOINING ∧ (s 3).isChild = true ∧
      (parseAdmit ((f 3).payload.drop 9)).parent ≠ (parseAdmit ((f 3).payload.drop 9)).addr ∧ leNat (((f 3).payload.drop 1).take 8) = sub ((s 3).dirEnt 0) dEUI := by decide +kernel
theorem witness_JoiningIsAnsweredAndAdmitted_auth : let f := knockFrame 4 0 knockBytes
    let s := admitting.holding f
    s.rxFront 15 = some f ∧ f.phy ≤ 1 ∧ f.lfc.ftype = 4 ∧ s.mode ≠ mRepeater ∧
      s.admitsCells 0 (cellsOf f.payload.length) = true := by decide +kernel

/-! DataFramesAreJudgedOnce -/

/-- A DATA frame of counter `x` from address 8 to address 7, at the front of port 15 of a repeater of address 7 that
shares session 6 with the sender: H is 1,000, V holds 1,000. -/
def dataFrame (sec : Bool) (x edst : Nat) : RxFrame :=
  { beaconFrame with
    phy := 0
    lfc := { ackreq := true, sec := sec, tclass := 4, src := 8, dst := 7, fcnt := x, seq := x, esrc := 8, edst := edst, hopleft := 3 }
    payload := List.replicate 40 1 }
def linked : State :=
  let v := withSub (withSub (withSub (withSub (0 : BitVec 2048) sNEIGH 8) sVALID 1) sH 1000) sV 1
  let d := withSub (withSub (0 : BitVec 512) dSESSION 6) dSTATE 1
  let s := { up 4 with blv.led.free := 100000 }
  (((s.setDirEnt 0 (withSub (s.dirEnt 0) dADDR2 7)).setDirEnt (Nat.xor 8 7) d).setSes 6 v).set MAC_RELAY_SF_EN 1

theorem witness_DataFramesAreJudgedOnce : let f := dataFrame true 1001 7
    let s := linked.holding f
    s.rxFront 15 = some f ∧ isData f = true ∧ f.lfc.dst = s.ownAddr ∧ s.ownAddr ≠ addrAll ∧
      s.dirUsable f.lfc.src = true ∧ s.sesFrom f.lfc.src = some 6 ∧ s.sQuar 6 = false ∧ s.isT = false ∧
      s.relayOut f.id = none ∧ s.admitsCells f.lfc.tclass (cellsOf f.bodyLen) = true ∧ s.domOn dAon = true ∧
      sub (s.ses 6) sH = 1000 ∧ bitN (sub (s.ses 6) sV) (1000 - 1000) = true ∧ bitN (sub (s.ses 6) sV) (1000 - 990) = false ∧
      inPending (s.ses 6) 1001 = false ∧ inPending (addPending (s.ses 6) 1001) 1001 = true ∧
      sub (s.ses 6) sPMASK ≠ 0xFFFF := by decide +kernel
/-- `linked`, with the frame dispatched and its stream on engine 3, its key in slot 5 of the vault. -/
def streaming (edst : Nat) : State :=
  let f := dataFrame true 1001 edst
  let d : Dispatch := ⟨f, 6⟩
  let r : CphReq := { use := .rx f.id, session := 6, prio := 0, arrival := 0, num := 0, bytes := 56 }
  let s := { linked with cph.dispatched := [d], cph.engines := [(3, r)] }
  (((s.setSes 6 (withSub (s.ses 6) sKEYINFO 0x502)).set (KEY_SLOT_STATE 5) kPROV).set (KEY_SLOT_USAGE 5) 2).set (KEY_SLOT_SIZE 5) 0
theorem witness_DataFramesAreJudgedOnce_tag : let s := streaming 7
    ∃ d t0, s.takeStream 3 = some (d, t0) ∧ (t0.obtainKey d.session).1 = .key 0 ∧ d.frame.lfc.dst ≠ addrAll ∧
      s.relayOut d.frame.id = none ∧ d.frame.lfc.edst = s.ownAddr ∧ s.domOn dAon = true := by
  refine ⟨⟨dataFrame true 1001 7, 6⟩, _, rfl, ?_⟩
  decide +kernel
theorem witness_DataFramesAreJudgedOnce_relay :
    let v := withSub (withSub (withSub (0 : BitVec 2048) sNEIGH 9) sRELAYQ 12) sRQEN 1
    let w := withSub (withSub (withSub (0 : BitVec 512) dSESSION 2) dSTATE 1) dBELOW 1
    let s := (((streaming 9).setSes 2 v).setQueue 12 (withSub 0 qBOUND 1)).setDirEnt (Nat.xor 9 7) w
    s.relays = true ∧ s.dirUsable 9 = true ∧ s.nextSes 9 = 2 ∧ s.relayQueue 2 = some 12 ∧ s.ownAddr = 7 := by
  decide +kernel

/-! AcknowledgementsAndPollsAreTimed -/

/-- The repeater `linked` on BB on port 15, with an ACK to a POLL of address 8 planned. -/
def acking : State :=
  let p : AckPlan := ⟨{ ftype := 1, src := 7, dst := 8 }, 1000, 0, true⟩
  let s := { linked with tick := 50000 }
  (((s.set (PRT_PROFILE_ACT 15) pfBB).set (PRT_LDCTL_LDMODE 15) 2).setTxPort 15 { ack := some { p with er := 49000 }, ldSince := some 0 }).set (PRT_LDCTL_LDEN 15) 1
theorem witness_AcknowledgementsAndPollsAreTimed : let s := acking
    ∃ k, (s.txPort 15).ack = some k ∧ s.profile 15 ≠ pfG3 ∧ ¬ k.er + 5120 < s.tick ∧ ¬ s.tick < k.er + 640 ∧
      s.txMode = true ∧ s.lineFree 15 = true ∧ s.ldReady 15 = true ∧ s.domOn (dPair 15) = true ∧ 15 < s.ports ∧
      (s.dwellCheck 15 0 5 s.tick 5).1 = .pass := by
  refine ⟨_, rfl, ?_⟩
  decide +kernel
/-- A DATA frame of class 4 and SEQ 9 to address 8, sent `n` times, whose window [900, 2000) is open on port 15. -/
def awaitedFrame (n : Nat) : TxFrame :=
  { id := 7, lfc := { ackreq := true, src := 7, dst := 8, seq := 9 }, cls := 4, retained := true, awaiting := true, attempts := n, retry := 3, port := 15 }
def awaiting (n : Nat) : State := ((linked.setFrames 1 [awaitedFrame n]).setTxPort 15 { win := some ⟨1, 7, 900, 2000⟩ })
theorem witness_AcknowledgementsAndPollsAreTimed_ack : let f := { dataFrame false 9 7 with tdet := 1500, lfc := { ftype := 1, src := 8, dst := 7, seq := 9 } }
    let s := (awaiting 1).holding f
    s.rxFront 15 = some f ∧ f.phy ≤ 1 ∧ f.lfc.ftype = 1 ∧ (s.txPort 15).win = some ⟨1, 7, 900, 2000⟩ ∧
      s.frameOf 1 7 = some (awaitedFrame 1) ∧ s.answers f.lfc (awaitedFrame 1) = true ∧
      linked.sentBy 15 f.lfc = false := by decide +kernel
theorem witness_AcknowledgementsAndPollsAreTimed_close : let s := { awaiting 1 with tick := 2000 }
    (s.txPort 15).win = some ⟨1, 7, 900, 2000⟩ ∧ s.frameOf 1 7 = some (awaitedFrame 1) ∧ 2000 ≤ s.tick ∧
      s.windowOpen 15 ⟨1, 7, 900, 2000⟩ = false ∧ (awaitedFrame 1).attempts < 1 + (awaitedFrame 1).retry ∧
      1 + (awaitedFrame 4).retry ≤ (awaitedFrame 4).attempts ∧ s.leaving = false := by decide +kernel
theorem witness_AcknowledgementsAndPollsAreTimed_judge : let f := { dataFrame false 9 7 with lfc := { ftype := 5, ackreq := true, src := 8, dst := 7, seq := 9 } }
    let s := linked.holding f
    s.rxFront 15 = some f ∧ f.phy ≤ 1 ∧ f.lfc.dst = s.ownAddr ∧ s.dirUsable f.lfc.src = true ∧ s.domOn dAon = true ∧
      sub (s.dirOf 8) dCSEQS = 0 ∧ ownCommand { f with payload := [1] } = false := by decide +kernel
theorem witness_AcknowledgementsAndPollsAreTimed_tmfb : let f := { dataFrame false 9 7 with lfc := { ftype := 2, ackreq := true, src := 8, dst := 7, seq := 9 }, payload := 2 :: List.replicate 900 1 }
    let s := linked.holding f
    s.rxFront 15 = some f ∧ isCtrl 2 f = true ∧ f.lfc.dst = s.ownAddr ∧ s.dirUsable f.lfc.src = true ∧
      (s.judgeSeq f.lfc.src f.lfc.seq).1 = .fresh ∧ s.sesFrom f.lfc.src = some 6 ∧
      leNat ((f.payload.drop 1).take 1) % 8 ≤ 5 ∧ (s.set MAC_TMSCFG_LINKS 10).hasArea 6 = true ∧ s.sQuar 6 = false := by
  decide +kernel
theorem witness_AcknowledgementsAndPollsAreTimed_hold :
    let s := (linked.setQueue 3 (withSub (withSub 0 qBOUND 1) qSESSION 6)).setSes 6 (withSub 0 sNSLEEPY 1)
    sub (s.queue 3) qBOUND = 1 ∧ sub (s.queue 3) qBCAST = 0 ∧ sub (s.ses (sub (s.queue 3) qSESSION)) sNSLEEPY = 1 ∧
      s.qQuar 3 = false ∧ (s.framesOf 3).Pairwise (fun a b => a.id ≠ b.id) := by decide +kernel

/-! RelaysRangingAndG9903FramesAct -/

/-- `linked` on BB ports 14 and 15, cut-through permitted, with a frame of address 8 to address 9 in reception on port 15
and session 2 to address 9 on port 14, relay queue 12. -/
def cuttingLfc : Lfc := { ackreq := true, relay := true, tclass := 4, src := 8, dst := 7, fcnt := 1001, seq := 1001, esrc := 8, edst := 9, hopleft := 3 }
def cuttingHeader : PhyHeader := { aHeader with len := 9000, nsym := 100, macFc := cuttingLfc.bits }
def cuttingAcq : Acq := { anAcq with tdet := 1000000, hdr := some cuttingHeader, parts := [(0, [])] }
def cutting : State :=
  let v := withSub (withSub (withSub (withSub (withSub (0 : BitVec 2048) sNEIGH 9) sRELAYQ 12) sRQEN 1) sPORT 14) sVALID 1
  let w := withSub (withSub (withSub (0 : BitVec 512) dSESSION 2) dSTATE 1) dBELOW 1
  let s := (((linked.setSes 2 v).setQueue 12 (withSub 0 qBOUND 1)).setDirEnt (Nat.xor 9 7) w).set MAC_RELAY_CT_EN 1
  let s1 := ((s.set (PRT_PROFILE_ACT 14) pfBB).set (PRT_PROFILE_ACT 15) pfBB).setRxPort 15 { cur := some cuttingAcq }
  let s2 := (s1.set (PRT_LDCTL_LDMODE 14) 2).setTxPort 14 { ldSince := some 0 }
  ({ s2 with tick := 1200000, mac.start := some 500000, mac.pHat := 2500000 * 65536 }).setCsma 14 { grant := some 1200000 }
theorem witness_RelaysRangingAndG9903FramesAct : let s := cutting
    s.joint 15 = false ∧ s.profile 15 = pfBB ∧ s.profile 14 = pfBB ∧ (s.rxPort 15).cur = some cuttingAcq ∧
      cuttingAcq.hdr = some cuttingHeader ∧ cuttingAcq.parts ≠ [] ∧
      (s.cutCandidate 15 14 cuttingAcq cuttingHeader).isSome = true ∧ s.txMode = true ∧ s.txFree 14 = true ∧
      s.ldReady 14 = true ∧ sub (s.ses 2) sTXFC < 0xFFFFFFFF := by decide +kernel
theorem witness_RelaysRangingAndG9903FramesAct_sound : let f := { dataFrame false 0 7 with phy := 3, payload := List.replicate 30 0 }
    let s := linked.holding f
    s.rxFront 15 = some f ∧ f.phy = 3 ∧ leNat (f.payload.take 1) = 0 ∧ f.lfc.dst = s.ownAddr ∧
      s.dirUsable f.lfc.src = true ∧ s.admitsCells 0 1 = true ∧ s.sesFrom 8 = some 6 := by decide +kernel

/-! FramesAreChosenAndFetched -/

/-- `linked` on BB port 15 in the mains-locked frame, with an unsecured DATA frame of class 4 at the head of queue 1 of
session 6 as the port's candidate; the session has taken `c` counters. -/
def fetching (c : Nat) (again : List (Nat × Nat)) (f : TxFrame) : State :=
  let q := withSub (withSub (withSub (0 : BitVec 256) qBOUND 1) qSESSION 6) qCLASS 4
  let s := ((linked.setSes 6 (withSub (withSub (linked.ses 6) sTXFC c) sPORT 15)).setQueue 1 q).setFrames 1 [f]
  let s1 := ((s.set (PRT_PROFILE_ACT 15) pfBB).setBlvPort 15 { cand := some 1 }).setTxPort 15 { again := again }
  { s1 with tick := 1200000, mac.start := some 500000, mac.pHat := 2500000 * 65536 }
def fetchFrame : TxFrame := { id := 7, cls := 4, lfc := { ackreq := true, tclass := 4 }, body := List.replicate 600 1 }
theorem witness_FramesAreChosenAndFetched_return :
    let c : Compl := { ring := 9, token := 3, status := 0, src := 5 }
    let s := { up 4 with blv.returns := [⟨3, some c, false⟩] }
    s.mode ≠ mSafe ∧ c.ring < 4096 ∧ c.src < 4096 ∧ s.flag (HIF_RSTAT_STOPPED 9) = false ∧
      (s.set (HIF_RSTAT_STOPPED 9) 1).flag (HIF_RSTAT_STOPPED 9) = true := by decide +kernel
theorem witness_FramesAreChosenAndFetched : let s := fetching 41 [] fetchFrame
    s.domOn dFab = true ∧ 15 < s.ports ∧ (s.blv.frames.map Prod.fst).Pairwise (· < ·) ∧ (s.txPort 15).again = [] ∧
      (s.blvPort 15).cand = some 1 ∧ s.framesOf 1 = [fetchFrame] ∧ s.candOk 15 1 = true ∧
      s.counted 1 fetchFrame = true ∧ s.queueSes 1 = 6 ∧ (s.arcOpen 31).arcIsOpen 31 = true ∧ s.domOn dAon = true ∧
      s.eligibleOf 15 4 (fun f => s.permits 15 f) = [1] ∧ s.lineLen 15 fetchFrame ≤ 9216 ∧ 144 ≤ s.quantum 3 ∧
      144 ≤ s.quantum 4 ∧ 144 ≤ s.quantum 5 ∧ 144 ≤ s.quantum 6 ∧ 144 ≤ s.quantum 7 ∧
      sub ((fetching 0xFFFFFFFF [] fetchFrame).ses 6) sTXFC + 1 = 2 ^ 32 := by decide +kernel
theorem witness_FramesAreChosenAndFetched_again : let f := { fetchFrame with retained := true }
    let s := fetching 41 [(1, 7)] f
    (s.txPort 15).again = [(1, f.id)] ∧ s.frameOf 1 f.id = some f ∧ (s.arcOpen 31).arcIsOpen 31 = true := by decide +kernel
theorem witness_FramesAreChosenAndFetched_exh :
    let s := { fetching 41 [] fetchFrame with blv.exh := [(6, 0)], tick := 3700000000000 }
    let s1 := (s.set CPH_CFG_EXH_TO 10).setSes 6 (withSub (s.ses 6) sEXH 1)
    find s1.blv.exh 6 = some 0 ∧ s1.get CPH_CFG_EXH_TO ≠ 0 ∧ sub (s1.ses 6) sEXH = 1 ∧
      0 + s1.get CPH_CFG_EXH_TO * 125000000 ≤ s1.tick ∧ s1.queuesOf 6 = [1] := by decide +kernel
theorem witness_FramesAreChosenAndFetched_shape : let s := linked.setQueue 3 (withSub (withSub 0 qBOUND 1) qSHAPE 9)
    let e := linked.setSes 3 (withSub (withSub 0 sVALID 1) sSHAPE 9)
    sub (s.queue 3) qBOUND = 1 ∧ sub (s.queue 3) qSHAPE ≠ 0 ∧ sub (e.ses 3) sVALID = 1 ∧ sub (e.ses 3) sSHAPE ≠ 0 := by
  decide +kernel

/-! ObjectCommandsActWhole -/

theorem witness_ObjectCommandsActWhole : let s := fetching 41 [] fetchFrame
    s.reaches 0 a_BLV_OBJCMD ∧ s.flag BLV_OBJSTAT_BUSY = false ∧ (s.set BLV_OBJSTAT_BUSY 1).flag BLV_OBJSTAT_BUSY = true ∧
      1 < s.queueCount ∧ s.queueCount ≤ 0x1000000 ∧ s.qQuar 1 = false ∧ s.framesOf 1 ≠ [] ∧
      sub (s.queue 1) qBOUND = 1 ∧ fetchFrame.relayOf = none ∧ look false s.blv.badLines (1 / 2) = false ∧
      ({ s with blv.quarQ := [(1, true)] }).qQuar 1 = true ∧ s.blv.sweeps = [] ∧ s.framesOf 2 = [] ∧
      6 < s.sessionCount ∧ s.sesInUse 6 = false ∧
      (fetching 41 [] { fetchFrame with retained := true }).sesInUse 6 = true ∧ 5 < s.dirCount ∧ s.pQuar 5 = false ∧
      5 < s.dirCount / 64 := by decide +kernel
theorem witness_ObjectCommandsActWhole_flush : let s := { fetching 41 [] fetchFrame with blv.objFlush := some 1 }
    s.blv.objFlush ≠ none ∧ ∀ r ∈ s.blv.returns, r.flush = false := by decide +kernel

/-! MemoryErrorsQuarantineAndTheLedgerShowsIt -/

theorem witness_MemoryErrorsQuarantineAndTheLedgerShowsIt : let s := fetching 41 [] fetchFrame
    s.isT = false ∧ s.qQuar 1 = false ∧ s.domOn dMemc = true ∧
      (s.rankOf ((s.get BLV_QBASE_BASE * 65536 + 32 * 1) / 64)).1 < 4 ∧ s.sQuar 6 = false ∧
      look false s.blv.quarP 3 = false := by decide +kernel
theorem witness_MemoryErrorsQuarantineAndTheLedgerShowsIt_data : let s := (fetching 41 [] fetchFrame).setTxPort 15 { ready := [(1, 7)] }
    (s.txPort 15).ready.getLast? = some (1, 7) ∧ s.frameOf 1 7 = some fetchFrame ∧
      (streaming 7).cph.dispatched.find? (fun x => x.frame.id == 1) = some ⟨dataFrame true 1001 7, 6⟩ ∧
      (streaming 7).relayOut 1 = none := by decide +kernel
theorem witness_MemoryErrorsQuarantineAndTheLedgerShowsIt_walk : ∃ r rest, let s := { linked with blv.returns := [⟨3, none, false⟩] }
    s.blv.returns = r :: rest := ⟨_, _, rfl⟩
theorem witness_MemoryErrorsQuarantineAndTheLedgerShowsIt_sweep :
    ({ linked with blv.sweeps := [⟨1, 3, 1⟩] }).blv.sweeps.find? (fun (x : Sweep) => x.queue == 1) = some ⟨1, 3, 1⟩ := by decide +kernel
theorem witness_MemoryErrorsQuarantineAndTheLedgerShowsIt_pool : let s := up 2
    s.reaches 0 (poolKey 0) ∧ s.reaches 0 (poolKey 5) ∧ s.mode = mStandby ∧ s.busy = false ∧
      Machine.bits (65536 : Word) 0 25 % 64 = 0 ∧ s.blv.led.queued = 0 ∧ s.blv.led.rx = 0 ∧ s.blv.led.retained = 0 ∧
      s.blv.returns = [] ∧ s.blv.objFlush = none ∧ s.readable 0 a_BLV_LFREE ∧ s.isT = false ∧
      ({ s with blv.rebuilding := true }).blv.rebuilding = true := by decide +kernel

/-! ArcadeBanksChangeHandsWhole -/

theorem witness_ArcadeBanksChangeHandsWhole : let s := ((up 4).setArc 31 { filling := [⟨48, .tx 1 7⟩] }).setFrames 1 [fetchFrame]
    s.arcPresent 31 = true ∧ s.domOn (arcDomain 31) = true ∧ s.flag (ARC_CFG_FLUSH 31) = false ∧
      (s.arcOf 31).opened = none ∧ (s.arcOf 31).filling ≠ [] ∧ (s.arcOf 31).isHanded = false ∧
      s.get (ARC_CFG_LEVEL 31) = 0 ∧ (s.set (ARC_CFG_LEVEL 31) 40).get (ARC_CFG_LEVEL 31) = 40 ∧
      find s.sq.staged (336 + 31) = none ∧ s.reaches 0 (a_ARC_CFG 31) ∧ s.airOf (31 / 2) = none ∧
      s.frameOf 1 7 = some fetchFrame ∧ (s.set (ARC_CFG_FLUSH 31) 1).flag (ARC_CFG_FLUSH 31) = true := by decide +kernel
theorem witness_ArcadeBanksChangeHandsWhole_release : let s := (up 4).setArc 31 { isHanded := true }
    (s.arcOf 31).isHanded = true ∧ (s.arcOf 31).handed = [] ∧ s.arcPresent 31 = true ∧ s.domOn (arcDomain 31) = true ∧
      ((up 4).setArc 30 { isHanded := true }).arcPresent 30 = true := by decide +kernel
theorem witness_ArcadeBanksChangeHandsWhole_air : ∃ m a, (sending 4 15).airOf (31 / 2) = some (m, a) := ⟨_, _, rfl⟩

/-! RingsAndVectorsObeyTheirRegisters -/

/-- Mode REPEATER with ring 5 an enabled TXSUB ring and ring 6 an enabled RXPOST ring, of 256 entries, and ring 9 their
COMPL ring of 64; 24 completions are unread, and ring 5 has `n` descriptors to take. -/
def ringing (n : Nat) : State :=
  let cfg := fun (s : State) (r type log : Nat) =>
    (((s.set (HIF_RCFG_TYPE r) type).set (HIF_RCFG_LOGSZ r) log).set (HIF_RCFG_PEER r) 9).set (HIF_RCFG_EN r) 1
  let s := cfg (cfg (cfg linked 5 1 8) 6 2 8) 9 3 6
  let s1 := ((s.set (HIF_RPROD_P 9) 0xFFFFFFE0).set (HIF_RCONS_C 9) 0xFFFFFFC8).set (HIF_RPROD_P 5) n
  (s1.set (HIF_RPROD_P 6) n).set (HIF_RBASEHI_BASE 9) 0x40
theorem witness_RingsAndVectorsObeyTheirRegisters : let s := ringing 0
    s.domOn dHif = true ∧ s.pw.supplyLow.getLsbD 4 = false ∧ s.reaches 0 (offsetOf 0 (ringKey 0 9 1)) ∧
      s.reaches 0 (offsetOf 0 (ringKey 0 7 2)) ∧ s.reaches 1 (offsetOf 1 (ringKey 1 15 2)) ∧
      s.flag (rEn 0 7) = false ∧ s.flag (rIdle 0 7) = true ∧ s.flag (rEn 1 15) = false ∧ s.flag (rIdle 1 15) = true ∧
      s.get (HIF_RCFG_TYPE 9) = 3 ∧ (0x20000921 : Word).getLsbD 29 = true := by decide +kernel
theorem witness_RingsAndVectorsObeyTheirRegisters_disable : let s := ringing 0
    s.flag (rEn 0 6) = true ∧ s.get (rType 0 6) = 2 ∧ (s.reg (ringKey 0 6 2) ^^^ 0x942) &&& shapeMask 0 = 0 ∧
      s.mode ≠ mSafe ∧ s.flag (rEn 0 9) = true ∧ s.get (rType 0 9) = 3 ∧ s.flag (HIF_RCFG_EN 5) = true ∧
      s.get (HIF_RCFG_PEER 5) = 9 ∧ s.get (HIF_RCFG_TYPE 5) = 1 := by decide +kernel
theorem witness_RingsAndVectorsObeyTheirRegisters_bells : let s := ringing 0
    s.violationKind 0 1 (4096 * 5) true = none ∧ s.domOn dAon = true ∧ s.flag (rEn 0 5) = true ∧
      s.reaches 1 (offsetOf 1 (a_F1_RCONS 15)) ∧ s.get (rP 0 5) = 0 ∧ s.get (rLog 0 5) = 8 := by decide +kernel
theorem witness_RingsAndVectorsObeyTheirRegisters_timer :
    let s := { up 3 with hif.timers := [(4096 + 31, ⟨900, 2⟩)] }
    find s.hif.timers (vecKey 1 31) = some ⟨900, 2⟩ ∧ 900 ≤ s.tick ∧ s.mode ≠ mSafe ∧
      s.reaches 1 (offsetOf 1 (vMask 1 31).addr) ∧ s.flag (vMask 1 31) = true ∧
      (s.set (vPend 1 31) 1).flag (vPend 1 31) = true ∧ (up 3).reaches 0 (offsetOf 0 (vMask 0 255).addr) := by
  decide +kernel

/-! DescriptorsAreTakenAndCompletedOnce -/

/-- `ringing` with 4 descriptors to take, and queue 1 bound to session 6 with class 4. -/
def submitting : State :=
  (ringing 4).setQueue 1 (withSub (withSub (withSub (0 : BitVec 256) qBOUND 1) qSESSION 6) qCLASS 4)
/-- A descriptor of 600 B for queue 1, class 4, unsecured, with TOKEN 77. -/
def aDesc : BitVec 256 := BitVec.ofNat 256 (0x1000 + 600 * 2 ^ 64 + 4 * 2 ^ 82 + 1 * 2 ^ 96 + 77 * 2 ^ 192)
theorem witness_DescriptorsAreTakenAndCompletedOnce : let s := submitting
    let x := TxDesc.ofBits aDesc
    s.mode ≠ mSafe ∧ s.get (HIF_RCFG_TYPE 5) = 1 ∧ s.get (HIF_RCFG_TYPE 6) = 2 ∧ s.flag (HIF_RCFG_EN 5) = true ∧
      s.flag (HIF_RCFG_EN 6) = true ∧ s.flag (HIF_RSTAT_STOPPED 5) = false ∧ s.flag (HIF_RSTAT_STOPPED 6) = false ∧
      s.get (HIF_RPROD_P 5) ≠ s.get (HIF_RCONS_C 5) ∧ s.get (HIF_RPROD_P 6) ≠ s.get (HIF_RCONS_C 6) ∧
      s.peer 5 = 9 ∧ s.peer 6 = 9 ∧ s.get (HIF_RCFG_TYPE 9) = 3 ∧ s.flag (HIF_RCFG_EN 9) = true ∧
      s.flag (HIF_RSTAT_STOPPED 9) = false ∧
      s.get (HIF_RSTAT_RESV 9) + 1 + s.rFill 0 9 ≤ 2 ^ s.get (HIF_RCFG_LOGSZ 9) ∧ s.get (HIF_RCFG_LOGSZ 9) ≤ 16 ∧
      s.flag (ARC_CFG_FLUSH (32 + 5 % 4)) = false ∧ x.rsvdOk = true ∧ x.len = 600 ∧ x.ns = 0 ∧ x.auth = false ∧
      x.queue < s.queueCount ∧ sub (s.queue x.queue) qBOUND = 1 ∧ s.qQuar 1 = false ∧ x.cls = sub (s.queue x.queue) qCLASS ∧
      x.secure = false ∧ s.profile (s.queuePort x.queue) ≠ pfG3 ∧ s.admitsCells x.cls (cellsOf x.len) = true ∧
      s.descCheck x = none := by decide +kernel
theorem witness_DescriptorsAreTakenAndCompletedOnce_auth :
    let x := TxDesc.ofBits (BitVec.ofNat 256 (20 * 2 ^ 64 + 2 ^ 81 + 15 * 2 ^ 96))
    submitting.authOk x = true ∧ x.auth = true ∧ x.rsvdOk = true ∧ x.len = 20 ∧ submitting.admitsCells 0 1 = true ∧
      submitting.hif.joins = [] := by decide +kernel
theorem witness_DescriptorsAreTakenAndCompletedOnce_arriving :
    (((up 4).setFrames 1 [{ fetchFrame with arriving := true }]).framesOf 1).find?
      (fun (g : TxFrame) => g.arriving && g.relayOf.isNone) = some { fetchFrame with arriving := true } := by decide +kernel
theorem witness_DescriptorsAreTakenAndCompletedOnce_deliver :
    let d : Delivery := { frame := dataFrame false 5 7, body := [1, 2, 3], cls := 7, session := 6, since := 0 }
    let s := { ((ringing 0).set (HIF_RXMAP_RING 7) 6).set (HIF_RXMAP_EN 7) 1 with
      tick := 125000
      hif.deliveries := [d]
      hif.bufs := [(6, [⟨0x2000, 4096, 3⟩])] }
    s.mode ≠ mSafe ∧ s.hif.deliveries.find? (fun (y : Delivery) => y.cls == 7) = some d ∧
      s.flag (HIF_RXMAP_EN 7) = true ∧ look [] s.hif.bufs (s.get (HIF_RXMAP_RING 7)) = [⟨0x2000, 4096, 3⟩] ∧
      s.flag (ARC_CFG_FLUSH (36 + 6 % 4)) = false ∧
      0 + s.get (HIF_RXMAP_WAIT 7) * 125 ≤ s.tick ∧ look [] { s with hif.bufs := [] }.hif.bufs 6 = [] := by decide +kernel

/-! HostAnswersJoinRequests -/

/-- `admitting` with an outstanding request of EUI-64 9 on port 15. -/
def asked : State :=
  { admitting.set (HIF_MACARG01_EUI 0) 9 with hif.joins := [⟨9, 77, 6, 15, 20, 0, 1⟩] }
theorem witness_HostAnswersJoinRequests : let s := asked
    s.reaches 0 a_HIF_MACCMD ∧ s.flag HIF_MACRES_BUSY = false ∧ s.mode = mCoordinator ∧
      s.hif.joins.find? (fun (x : JoinReq) => x.eui == s.get (HIF_MACARG01_EUI 0) + 2 ^ 32 * s.get (HIF_MACARG01_EUI 1)) =
        some ⟨9, 77, 6, 15, 20, 0, 1⟩ ∧ s.get HIF_MACARG2_ADDR = 0 ∧ s.knownAddr 9 = none ∧ s.freeAddr = some 1 ∧
      s.get HIF_MACARG3_SESSION = 0 ∧ s.admitSes = .inl 1 ∧ s.admitsCells 0 1 = true := by decide +kernel
theorem witness_HostAnswersJoinRequests_named : let s := (asked.set HIF_MACARG2_ADDR 5).set HIF_MACARG3_SESSION 7
    s.get HIF_MACARG2_ADDR = 5 ∧ s.partnerAddr 5 = true ∧ sub (s.dirOf 5) dSTATE = 0 ∧ s.get HIF_MACARG3_SESSION = 7 ∧
      7 < s.sessionCount ∧ s.sesInUse 7 = false ∧ s.partnerAddr s.ownAddr = false ∧
      (∀ x ∈ (up 3).hif.joins, x.eui ≠ 9) := by decide +kernel

/-! MailboxCommandsRunToTheirResult -/

theorem witness_MailboxCommandsRunToTheirResult :
    (up 10).reaches 1 0x8000 ∧ (up 10).domOn dAon = true ∧ (up 10).flag HIF_MBXSTAT_BUSY = false ∧
      (up 10).mode = mSafe ∧ (up 2).mode ≠ mSafe ∧ (up 2).reaches 1 0x8000 ∧ (up 2).flag HIF_MBXSTAT_BUSY = false ∧
      (up 2).flag SYS_BOOTSTAT_TRIAL = false ∧ ((up 2).set SYS_BOOTSTAT_TRIAL 1).flag SYS_BOOTSTAT_TRIAL = true ∧
      (up 2).sq.history.length ≤ 64 ∧
      ((up 2).set HIF_MBXSTAT_BUSY 1).flag HIF_MBXSTAT_BUSY = true ∧ (up 2).standbyOk = true ∧
      (held 5).mode = mProof ∧ 5 ≤ (held 5).boot.step ∧ (held 5).flag HIF_MBXSTAT_BUSY = false ∧
      (held 5).domOn dAon = true ∧ (up 2).otp.field = false ∧
      ((up 2).set (HIF_MBXARG_ARG 0) 0x4649454C).get (HIF_MBXARG_ARG 0) = 0x4649454C := by decide +kernel
theorem witness_MailboxCommandsRunToTheirResult_flash :
    let s := ((up 2).set (HIF_MBXARG_ARG 0) 4).set (HIF_MBXARG_ARG 2) 4096
    s.get (HIF_MBXARG_ARG 0) = 4 ∧ s.get (HIF_MBXARG_ARG 1) = 0 ∧ s.get (HIF_MBXARG_ARG 2) = 4096 ∧
      ¬ regionSize 4 < 0 + 4096 ∧ s.fsp.op = none ∧ ¬ (1 ≤ (0 : BitVec 8).toNat) := by decide +kernel
theorem witness_MailboxCommandsRunToTheirResult_end :
    let s := { up 2 with hif.mbx := some { seq := 255, result := 2, arg0 := some 3 } }
    s.hif.mbx = some { seq := 255, result := 2, arg0 := some 3 } := by decide +kernel

/-! KeyCommandsEndWithTheirResult -/

/-- Mode REPEATER with slot 20 a KEK, slot 40 EMPTY and slot 41 a PROV key that `n` requests name. -/
def keyed (n : Nat) : State :=
  let s := ((up 4).set (KEY_SLOT_STATE 20) 1).set (KEY_SLOT_USAGE 20) 1
  ((s.set (KEY_SLOT_STATE 41) 2).set (KEY_SLOT_REFCNT 41) n).set KEY_VCNT1_PROV 1
theorem witness_KeyCommandsEndWithTheirResult : let s := keyed 0
    s.reaches 0 a_KEY_CMD ∧ s.flag KEY_CMDSTAT_BUSY = false ∧ (s.set KEY_CMDSTAT_BUSY 1).flag KEY_CMDSTAT_BUSY = true ∧
      Machine.bits (0x00314281 : Word) 4 8 = 40 ∧ Machine.bits (0x00314281 : Word) 12 8 = 20 ∧
      Machine.bits (0x00314281 : Word) 24 2 = 0 ∧ s.get (KEY_SLOT_STATE 40) = 0 ∧ s.get (KEY_SLOT_REFCNT 40) = 0 ∧
      s.get (KEY_SLOT_STATE 20) ≠ 0 ∧ s.get (KEY_SLOT_USAGE 20) % 2 = 1 ∧ s.get (KEY_SLOT_STATE 41) = 2 ∧
      s.get (KEY_SLOT_REFCNT 41) = 0 ∧ (keyed 3).get (KEY_SLOT_REFCNT 41) = 3 ∧ s.domOn dCph = true ∧
      s.domOn dAon = true ∧ s.otp.field = false ∧ s.otp.keys.length < 16 := by decide +kernel
theorem witness_KeyCommandsEndWithTheirResult_wait :
    { keyed 3 with cph.erasing := some 41 }.get (KEY_SLOT_REFCNT 41) ≠ 0 ∧
      { keyed 0 with cph.erasing := some 41 }.get (KEY_SLOT_REFCNT 41) = 0 := by decide +kernel

/-! EnginesServeRequestsByPriority -/

theorem witness_EnginesServeRequestsByPriority :
    let r : CphReq := { use := .rx 3, session := 6, prio := 0, arrival := 0, num := 9, bytes := 56 }
    let v : CphReq := { use := .tx 1 7, session := 6, prio := 1, arrival := 0, num := 4, bytes := 600 }
    let s := { streaming 7 with cph.engines := [], cph.waiting := [v, r] }
    let s2 := { streaming 7 with
      tick := 100000
      cph.waiting := [r]
      cph.engines := (List.range 12).map (fun i => (i, { v with num := 20 + i, start := i })) }
    s.domOn dCph = true ∧ 3 < s.engines ∧ find s.cph.engines 3 = none ∧ r ∈ s.cph.waiting.take 64 ∧
      (∀ x ∈ s.cph.waiting, x.num < 2 ^ 64) ∧ (∀ x ∈ s.cph.waiting.take 64, x = r ∨ r.prio < x.prio) ∧
      (keyInfo (s.ses 6)).vault = true ∧ (keyInfo (s.ses 6)).slot = 5 ∧ s.get (KEY_SLOT_STATE 5) ≠ 0 ∧
      s.get (KEY_SLOT_USAGE 5) / 2 % 2 = 1 ∧ s.get (KEY_SLOT_SIZE 5) = 0 ∧ (keyInfo (s.ses 6)).k256 = false ∧
      s.domOn dAon = true ∧ s.flag CPH_STAT_RNG_FAIL = false ∧ s2.get CPH_CFG_PRE_WAIT ≠ 0 ∧
      r.arrival + s2.get CPH_CFG_PRE_WAIT * 125 ≤ s2.tick ∧ s2.cph.engines.length = s2.engines ∧
      (11, { v with num := 31, start := 11 }) ∈ s2.cph.engines := by decide +kernel
theorem witness_EnginesServeRequestsByPriority_context :
    let r : CphReq := { use := .rx 3, session := 6, prio := 0, arrival := 0, num := 9, bytes := 56, saved := true }
    let s := { streaming 7 with cph.engines := [], cph.waiting := [r] }
    s.domOn dCph = true ∧ 3 < s.engines ∧ find s.cph.engines 3 = none ∧ r ∈ s.cph.waiting.take 64 ∧
      (∀ x ∈ s.cph.waiting, x.num < 2 ^ 64) ∧ r.saved = true ∧ s.domOn dAon = true := by decide +kernel
theorem witness_EnginesServeRequestsByPriority_fail :
    (keyInfo ((streaming 7).setSes 6 (withSub ((streaming 7).ses 6) sKEYINFO 0x1402) |>.ses 6)).slot = 20 ∧
      (streaming 7).get (KEY_SLOT_STATE 20) = 0 ∧
      (keyInfo (withSub (0 : BitVec 2048) sKEYINFO 0x1401)).vault = false ∧
      ∃ r id, find (streaming 7).cph.engines 3 = some r ∧ r.use = .rx id := by
  refine ⟨by decide +kernel, by decide +kernel, by decide +kernel, _, _, rfl, rfl⟩
theorem witness_EnginesServeRequestsByPriority_jtag :
    { up 4 with otp.field := true }.otp.field = true ∧ (up 4).otp.field = false := ⟨rfl, rfl⟩

/-! SweepsLeaksAndLostWordsAreReported -/

/-- Mode `m` with one channel of one rank fitted, the Sweeper at line `l`; device 2 of that line has failed in
codeword 0, and device 3 too where `two` says so. -/
def sweeping (m l : Nat) (two : Bool) : State :=
  { ((up m).set MEM_CFG_CAP 8).set MEM_CFG_CH 1 with
    mem.line := l
    mem.dram := (80 * l + 4, 1) :: (if two then [(80 * l + 6, 1)] else []) }
theorem witness_SweepsLeaksAndLostWordsAreReported : let s := sweeping 4 134217727 false
    s.domOn dMemc = true ∧ s.domOn dAon = true ∧ s.flag MEM_SWPCFG_DRAM_EN = true ∧ s.flag MEM_SWPCFG_SRAM_EN = true ∧
      s.mode ≠ mProof ∧ s.mode ≠ mSafe ∧ s.mem.line < s.lines ∧ s.lines ≤ 2 ^ 29 ∧ (s.rankOf s.mem.line).1 < 4 ∧
      s.mem.line + 1 = s.lines ∧ s.decodeLine s.mem.line = .corrected 2 ∧ s.markOf 0 1 = none ∧
      (sweeping 4 5 true).decodeLine 5 = .bad ∧ (sweeping 4 5 true).decodeLine 4 = .clean ∧
      (s.set (MEM_MARK_MV1 0) 1).markOf 0 1 ≠ none := by decide +kernel
theorem witness_SweepsLeaksAndLostWordsAreReported_mark :
    ((sweeping 4 5 false).setMark 0 1 2).decodeLine 5 = .corrected 2 ∧
      ((sweeping 4 5 false).setMark 0 1 3).decodeLine 5 = .bad := by decide +kernel
theorem witness_SweepsLeaksAndLostWordsAreReported_leak :
    let s := { (up 4).set (MEM_SBKT_COUNT 91) 3 with tick := 75000000000 }
    s.domOn dMemc = true ∧ s.get MEM_BKTCFG2_LEAK ≠ 0 ∧ 0 < 0 + 1 * (s.get MEM_BKTCFG2_LEAK * tS) ∧
      0 + 1 * (s.get MEM_BKTCFG2_LEAK * tS) ≤ s.tick ∧ s.mem.filled = 0 ∧ s.get MEM_BKTCFG_LEAK ≠ 0 := by decide +kernel
theorem witness_SweepsLeaksAndLostWordsAreReported_sram :
    let s := { up 4 with mem.word := 2 ^ 20 * 91 + 57343 }
    s.mem.word / 2 ^ 20 = 91 ∧ s.mem.word % 2 ^ 20 + 1 = groupWords 91 ∧ s.domOn (groupDomain 91) = true ∧
      s.nextGroup 92 92 = none ∧ s.domOn (groupDomain 76) = true ∧ 0 < groupWords 76 ∧ s.qQuar 7 = false ∧
      arcDomain 31 = groupDomain 91 := by decide +kernel
theorem witness_SweepsLeaksAndLostWordsAreReported_zero : (up 4).sramWord 91 5 = 0 ∧
    sramDecode 0 = some (0 : BitVec 72).toNat := by
  have h : sramCheck 0 = 0 := Nat.xor_self _
  exact ⟨by decide +kernel, by simp [sramDecode, h]⟩

/-! MemoryWindowsReadAndWriteAsStored -/

theorem witness_MemoryWindowsReadAndWriteAsStored : let s := (sweeping 2 5 false).set MEM_DBGCTL_EN 1
    s.mode = mStandby ∧ s.domOn dMemc = true ∧ (4088 : BitVec 12).toNat % 8 = 0 ∧ (4094 : BitVec 12).toNat % 4 ≠ 0 ∧
      s.locked = false ∧ s.flag MEM_DBGCTL_EN = true ∧ s.flag SYS_MODESTAT_READY = true ∧
      s.get MEM_DBGCTL_PAGE * 4096 + 4088 < s.lines * 64 ∧ s.decodeLine 63 = .clean ∧ s.decodeLine 5 = .corrected 2 ∧
      ((sweeping 2 5 true).set MEM_DBGCTL_EN 1).decodeLine 5 = .bad ∧ s.reaches 0 a_MEM_DIAGCMD ∧
      s.get MEM_DIAGADDR_WHERE < s.lines ∧ (up 2).locked = false ∧
      (s.set MEM_DIAGADDR_WHERE 0x5B).get MEM_DIAGADDR_WHERE % 256 = 91 ∧ 0 < groupWords 91 ∧
      s.domOn (groupDomain 91) = true ∧ groupWords 95 = 0 ∧ (up 4).reaches 0 a_MEM_DIAGCMD := by decide +kernel

/-! TimeBasesAreCorrectedNotStepped -/

/-- Mode COORDINATOR at 9 s with TB0 and TB1 valid at the values given (in ns). -/
def timed (a b : Nat) : State :=
  let s := (((up 3).set (TIM_TBSTAT_VALID 0) 1).set (TIM_TBSTAT_VALID 1) 1).set CLK_STAT_LOCK 1
  { s with
    tick := 9 * 125000000
    time.tb0 := { val := a * 2 ^ 48 }
    time.tb1 := { val := b * 2 ^ 48 }
    time.cycStart := some 0
    time.cycEnd := 2500000 * 65536
    time.extrap := 3
    time.ppsFall := some 7 }
theorem witness_TimeBasesAreCorrectedNotStepped : let s := timed 1000000000 999999999
    s.reaches 1 (mirror a_TIM_TB0CMD) ∧ s.domOn dAon = true ∧ s.tbValid 0 = true ∧ (up 3).tbValid 0 = false ∧
      s.reaches 1 (mirror (a_TIM_TBSTAT 1)) ∧ (up 2).standbyOk = true ∧ s.standbyOk = false ∧ s.mode = mCoordinator ∧
      s.flag TIM_TB1CFG_SRC = true ∧ s.tbHold 0 = false ∧ s.time.disc < s.tick / 125000000 ∧
      s.time.trimSec < s.tick / 125000000 ∧ s.flag CLK_STAT_LOCK = true ∧ |s.getI TIM_PLL_TRIM| ≤ 25600 ∧ s.domOn dMsn = true ∧
      s.time.cycEnd / 65536 ≤ s.tick ∧ s.readable 0 (a_TIM_PPSIN2 0) ∧ s.domOn dFab = true ∧ s.mac.winPend = false ∧
      (s.set TIM_SYNCCFG_SRC 3).get TIM_SYNCCFG_SRC = 3 ∧ s.get TIM_CFG_TB0_TO ≠ 0 ∧
      s.time.tb0.acc + s.get TIM_CFG_TB0_TO * 125000000 ≤ { s with tick := 10 * 125000000 }.tick := by decide +kernel
theorem witness_TimeBasesAreCorrectedNotStepped_pps : let s := (timed 1000000000 5).set TIM_PPSCFG_EN 1
    s.flag TIM_PPSCFG_EN = true ∧ s.get TIM_PPSCFG_BASE = 2 ∧ s.baseOk 2 = true ∧ s.ppsSecond (2 ^ 51) < s.ppsSecond 0 ∧
      s.time.ppsSec ≠ s.ppsSecond 0 := by decide +kernel

/-! UartsMoveCharactersAndReportThem -/

/-- Mode MEMBER with UART 1 enabled, `r` received characters in its queue and `w` to send, the first on the line. -/
def serial (r w : Nat) : State :=
  (({ up 5 with tick := 20000000 }.set (UAR_CFG_EN 1) 1).set (UAR_CFG_HDX 1) 1).setUart 1
    { rxq := List.replicate r 0x41
      txq := List.replicate w 0x42
      sending := if w = 0 then none else some (0x42, true)
      cts := false }
theorem witness_UartsMoveCharactersAndReportThem : let s := serial 3 0
    s.uartOn 1 = true ∧ (s.uartOf 1).broken = none ∧ (s.uartOf 1).sending = none ∧ s.flag (UAR_SC_SC 1) = false ∧
      (s.set (UAR_SC_SC 1) 1).flag (UAR_SC_SC 1) = true ∧ ((s.set (UAR_SC_SC 1) 1).set (UAR_SC_INV 1) 0).flag (UAR_SC_INV 1) = false ∧
      s.flag (UAR_SC_INV 1) = true ∧ s.readable 0 (a_UAR_DATA 1) ∧ s.reaches 0 (a_UAR_DATA 1) ∧
      s.reaches 0 (a_UAR_QCFG 1) ∧ s.domOn dPer = true ∧ s.mode ≠ mProof ∧ s.mode ≠ mSafe ∧ (s.uartOf 1).timedOut = false ∧
      4 * s.uartLength 1 * (16 * (256 * s.get (UAR_DIV_I 1) + s.get (UAR_DIV_F 1))) ≤ 256 * (s.tick - (s.uartOf 1).active) ∧
      s.flag (UAR_CFG_TXHALT 1) = false ∧ (s.uartOf 1).cts ≠ true := by decide +kernel
theorem witness_UartsMoveCharactersAndReportThem_full : let s := serial 128 129
    128 ≤ (s.uartOf 1).rxq.length ∧ 128 ≤ (s.uartOf 1).txq.length ∧ s.uartOn 1 = true ∧
      (s.uartOf 1).sending = some (0x42, true) ∧ s.flag (UAR_CFG_HDX 1) = true ∧ s.reaches 0 (a_UAR_DATA 1) ∧
      (s.set (UAR_CFG_CTSEN 1) 1).flag (UAR_CFG_CTSEN 1) = true := by decide +kernel
theorem witness_UartsMoveCharactersAndReportThem_break :
    let s := (serial 3 0).setUart 1 { (serial 3 0).uartOf 1 with broken := some 5 }
    s.uartOn 1 = true ∧ (s.uartOf 1).broken.isSome = true ∧ s.get (UAR_CFG_STUCK_TO 1) ≠ 0 ∧
      s.flag (UAR_STAT_STUCK 1) = false := by decide +kernel
theorem witness_UartsMoveCharactersAndReportThem_now :
    let s := (serial 1 0).setUart 1 { (serial 1 0).uartOf 1 with stored := some 20000000 }
    s.readable 0 (a_UAR_DATA 1) ∧ (s.uartOf 1).rxq.length = 1 ∧ (s.uartOf 1).stored = some s.tick := by decide +kernel

/-! FlashOperationsEndAndAreCounted -/

theorem witness_FlashOperationsEndAndAreCounted :
    let s := { up 5 with
      tick := 1250000000
      fsp.op := some (.logRead 7)
      fsp.waiting := [.logWrite [1], .repair (repairRecord 1 0 5 9) 0 false, .mailbox 7 1 0 0]
      fsp.unit := [4] }
    s.domOn dPer = true ∧ s.fsp.op = some (.logRead 7) ∧ s.flag SYS_MODESTAT_READY = true ∧ s.mode ≠ mProof ∧
      s.mode ≠ mSafe ∧ s.reaches 0 a_FSP_LOGCMD ∧ s.fsp.full = [] ∧ s.fsp.unit ≠ [] ∧
      s.fsp.unitTick + 1250000000 ≤ s.tick ∧
      s.fsp.waiting = [.logWrite [1]] ++ .repair (repairRecord 1 0 5 9) 0 false :: [.mailbox 7 1 0 0] ∧
      (∀ x ∈ [FlashOp.logWrite [1]], (FlashOp.repair (repairRecord 1 0 5 9) 0 false).rank < x.rank) ∧
      (repairRecord 1 0 5 9).length = 16 ∧ s.get (KEY_SLOT_STATE 0) = kEMPTY ∧
      (s.set (KEY_SLOT_STATE 0) 2).get (KEY_SLOT_STATE 0) ≠ kEMPTY := by decide +kernel
theorem witness_FlashOperationsEndAndAreCounted_repair :
    let s := (up 5).setReg (a_MEM_MARK 1) 0x10
    s.reg (a_MEM_MARK 1) &&& 0xFFFF ≠ 0 ∧ look 0 s.fsp.copied 9 ≠ s.reg (a_MEM_MARK 1) &&& 0xFFFF ∧
      (∀ k, k < 8 → s.flag (MEM_REPLOG1_VALID k) = false) ∧ s.reg (a_MEM_MARK 0) &&& 0xFFFF = 0 := by decide +kernel
theorem witness_FlashOperationsEndAndAreCounted_gpio : let s := (up 5).setReg a_GPI_EDGE 0x4
    s.domOn dPer = true ∧ bitN (s.get GPI_IN_IN) 1 ≠ true ∧ s.get ⟨a_GPI_EDGE, 2 * 1, 2⟩ = 1 := by decide +kernel

/-! DomainsSwitchAsRequested -/

theorem witness_DomainsSwitchAsRequested : (up 3).reaches 0 a_PWR_REQ ∧ (up 3).domOn dAon = true ∧
    (up 3).domOn 19 = true ∧ (up 3).mayGoOff 19 = true ∧ (up 3).mayGoOff 1 = false ∧ (up 2).mayGoOff 1 = true ∧
    (up 3).reaches 0 a_PWR_RST := by decide +kernel
theorem witness_DomainsSwitchAsRequested_up :
    let s := (up 3).set PWR_STAT_ON 0x7FFFF
    s.reaches 0 a_PWR_REQ ∧ requestable 19 = true ∧ bitN s.present 19 = true ∧ s.domOn 19 = false := by decide +kernel
theorem witness_DomainsSwitchAsRequested_complete :
    { up 3 with pw.rising := 0x80000 }.pw.rising.getLsbD 19 = true ∧
      { up 3 with pw.resetting := 0x80000 }.pw.resetting.getLsbD 19 = true ∧ (up 3).domOn dAon = true := by decide +kernel

/-! SuppliesAndClocksReport -/

theorem witness_SuppliesAndClocksReport : (up 3).pw.supplyLow.getLsbD 4 = false ∧ (up 3).domOn dAon = true ∧
    { up 3 with pw.supplyLow := 0x10 }.pw.supplyLow.getLsbD 4 = true ∧ (up 3).pllUp.flag CLK_STAT_REF = true ∧
    (up 3).pllUp.flag CLK_STAT_LOCK = true ∧ (up 3).boot.step ≠ 0 ∧ (up 3).pllUp.domOn dAon = true := by decide +kernel

/-! TemperatureLevelsFollowTheThresholds -/

theorem witness_TemperatureLevelsFollowTheThresholds : (up 3).pw.porstLow = false ∧ (up 3).reaches 0 a_PWR_THCFG ∧
    (up 3).levelOf 0 (16 * 125 + 1) = 3 ∧ (up 3).levelOf 3 (16 * 122) = 2 ∧ (up 3).levelOf 1 (16 * 102) = 0 ∧
    (up 3).mode ≠ mSafe ∧ (up 3).domOn dAon = true := by decide +kernel

end Sys2Proof.Machine
end

/-! Every command keeps what `Keeps` names, the tick number apart, and so does every step. Registers that are in
canonical form stay so (R11, R407). -/

namespace Sys2Proof.Machine

/-- The commands that may change the tick number: TIME_BASE_ADVANCE and those that are or act as PORST_N (R57, R398,
R402). -/
def MovesTick (c : Instr) : Prop :=
  (∃ f, c = .coldBoot f) ∨ (∃ k, c = .supplyLow k) ∨ c = .porstNAssert ∨ ∃ n clips, c = .timeBaseAdvance n clips

/-- Every other command keeps all that `Keeps` names. -/
theorem exec_keeps {s0 s : State} {c : Instr} (hc : ¬ MovesTick c) (hk : Keeps s0 s) : OutKeeps s0 (exec c s) :=
  match c with
  | .registerWrite func offset data => execRegisterWrite_keeps hk func offset data
  | .counterClearWrite func offset data => execCounterClearWrite_keeps hk func offset data
  | .silentViolation a => execSilentViolation_keeps hk a
  | .violationClear => execViolationClear_keeps hk
  | .unsupportedRequest r => execUnsupportedRequest_keeps hk r
  | .poisonedTlp func bar offset => execPoisonedTlp_keeps hk func bar offset
  | .sysLockWrite => execSysLockWrite_keeps hk
  | .modeRequest code => execModeRequest_keeps hk code
  | .modeEntryComplete => execModeEntryComplete_keeps hk
  | .standbyTransitionComplete => execStandbyTransitionComplete_keeps hk
  | .profileWrite n data => execProfileWrite_keeps hk n data
  | .profileChangeApply n => execProfileChangeApply_keeps hk n
  | .coldBoot f => absurd (.inl ⟨f, rfl⟩) hc
  | .warmNAssert => execWarmNAssert_keeps hk
  | .warmBoot f => execWarmBoot_keeps hk f
  | .flrFunction0 => execFlrFunction0_keeps hk
  | .flrFunction1 => execFlrFunction1_keeps hk
  | .watchdogExpiry core f => execWatchdogExpiry_keeps hk core f
  | .recordDrain => execRecordDrain_keeps hk
  | .tickReadLatch => execTickReadLatch_keeps hk
  | .softwareEvent num data => execSoftwareEvent_keeps hk num data
  | .calibrationPassStart n => execCalibrationPassStart_keeps hk n
  | .calibrationPassEnd n limit => execCalibrationPassEnd_keeps hk n limit
  | .syncInEdge e => execSyncInEdge_keeps hk e
  | .decsyncCmd => execDecsyncCmd_keeps hk
  | .decimatorReset => execDecimatorReset_keeps hk
  | .detectorWindowEnd n mags => execDetectorWindowEnd_keeps hk n mags
  | .zeroCrossing k positive t frac rms peak env => execZeroCrossing_keeps hk k positive t frac rms peak env
  | .mainsCrossingTimeout k => execMainsCrossingTimeout_keeps hk k
  | .modulatorOverload k => execModulatorOverload_keeps hk k
  | .harmonicAverageEnd k h => execHarmonicAverageEnd_keeps hk k h
  | .groupCfgWrite g data => execGroupCfgWrite_keeps hk g data
  | .toneMapStoreCfgWrite cfg data => execToneMapStoreCfgWrite_keeps hk cfg data
  | .snrStoreBaseWrite data => execSnrStoreBaseWrite_keeps hk data
  | .receiveRecordRetire grouped link slot => execReceiveRecordRetire_keeps hk grouped link slot
  | .agcWindow n level floor => execAgcWindow_keeps hk n level floor
  | .preambleDetected n snr sweepK at_ => execPreambleDetected_keeps hk n snr sweepK at_
  | .symbolTrackingUpdate n large phase slope => execSymbolTrackingUpdate_keeps hk n large phase slope
  | .receiveSamplesEnd n m => execReceiveSamplesEnd_keeps hk n m
  | .headerDecodeComplete d bits => execHeaderDecodeComplete_keeps hk d bits
  | .blockEnqueue n => execBlockEnqueue_keeps hk n
  | .decoderTakeBlock d => execDecoderTakeBlock_keeps hk d
  | .blockDecodeComplete d ok data => execBlockDecodeComplete_keeps hk d ok data
  | .blankEnd n => execBlankEnd_keeps hk n
  | .noiseTelemetry n spectra => execNoiseTelemetry_keeps hk n spectra
  | .frameLaunch n => execFrameLaunch_keeps hk n
  | .dwellDeferralExpiry n => execDwellDeferralExpiry_keeps hk n
  | .transmitEnd n => execTransmitEnd_keeps hk n
  | .dwellWrite b k data => execDwellWrite_keeps hk b k data
  | .maskWrite n k data => execMaskWrite_keeps hk n k data
  | .lineDriverFault n => execLineDriverFault_keeps hk n
  | .lineDriverFaultRelease n => execLineDriverFaultRelease_keeps hk n
  | .faultHoldEnd n => execFaultHoldEnd_keeps hk n
  | .ldenTailExpiry n => execLdenTailExpiry_keeps hk n
  | .tripInputEdge k high => execTripInputEdge_keeps hk k high
  | .burinBurstStart n => execBurinBurstStart_keeps hk n
  | .burinBurstEnd n => execBurinBurstEnd_keeps hk n
  | .tripStuck k => execTripStuck_keeps hk k
  | .tripRearm k => execTripRearm_keeps hk k
  | .detectorHop n up down => execDetectorHop_keeps hk n up down
  | .burinDecision n => execBurinDecision_keeps hk n
  | .tripOutHoldExpiry j => execTripOutHoldExpiry_keeps hk j
  | .burinConfigWrite r data => execBurinConfigWrite_keeps hk r data
  | .burinEnWrite en => execBurinEnWrite_keeps hk en
  | .burinLock en => execBurinLock_keeps hk en
  | .safeProfileSuccessorLoad => execSafeProfileSuccessorLoad_keeps hk
  | .superframeStart => execSuperframeStart_keeps hk
  | .slotBoundary => execSlotBoundary_keeps hk
  | .beaconLaunch n => execBeaconLaunch_keeps hk n
  | .beaconWindowOpen => execBeaconWindowOpen_keeps hk
  | .beaconWindowClose => execBeaconWindowClose_keeps hk
  | .beaconReceived n => execBeaconReceived_keeps hk n
  | .allocCommit => execAllocCommit_keeps hk
  | .macConfigWrite r data => execMacConfigWrite_keeps hk r data
  | .prioritySlot n heard => execPrioritySlot_keeps hk n heard
  | .backoffSlot n idle => execBackoffSlot_keeps hk n idle
  | .knockTimeout => execKnockTimeout_keeps hk
  | .knockReceived n => execKnockReceived_keeps hk n
  | .knockfwdReceived n => execKnockfwdReceived_keeps hk n
  | .admitReceived n => execAdmitReceived_keeps hk n
  | .pendingReceived n => execPendingReceived_keeps hk n
  | .rejectReceived n => execRejectReceived_keeps hk n
  | .authFrameReceived n => execAuthFrameReceived_keeps hk n
  | .keepaliveDue => execKeepaliveDue_keeps hk
  | .partnerAbsent addr => execPartnerAbsent_keeps hk addr
  | .dataFrameReceived n => execDataFrameReceived_keeps hk n
  | .ackLaunch n => execAckLaunch_keeps hk n
  | .ackReceived n => execAckReceived_keeps hk n
  | .ackWindowClose n => execAckWindowClose_keeps hk n
  | .tagVerified e => execTagVerified_keeps hk e
  | .authFail e => execAuthFail_keeps hk e
  | .ctrlFrameReceived n => execCtrlFrameReceived_keeps hk n
  | .tmfbReceived n => execTmfbReceived_keeps hk n
  | .pollReceived n => execPollReceived_keeps hk n
  | .servicePeriodEnd addr => execServicePeriodEnd_keeps hk addr
  | .holdExpiry q => execHoldExpiry_keeps hk q
  | .cutThroughRelayStart n out => execCutThroughRelayStart_keeps hk n out
  | .soundingFrameReceived n => execSoundingFrameReceived_keeps hk n
  | .rangingDue => execRangingDue_keeps hk
  | .rangeReqReceived n => execRangeReqReceived_keeps hk n
  | .rangeRspReceived n => execRangeRspReceived_keeps hk n
  | .g9903FrameReceived n f => execG9903FrameReceived_keeps hk n f
  | .schedulerDecision n => execSchedulerDecision_keeps hk n
  | .candidateFetch n => execCandidateFetch_keeps hk n
  | .exhTimeout session => execExhTimeout_keeps hk session
  | .shaperRefillVisit session index => execShaperRefillVisit_keeps hk session index
  | .cellReturnComplete => execCellReturnComplete_keeps hk
  | .queueRead index => execQueueRead_keeps hk index
  | .queueWrite index => execQueueWrite_keeps hk index
  | .queueFlush index => execQueueFlush_keeps hk index
  | .flushComplete => execFlushComplete_keeps hk
  | .queueRelease index => execQueueRelease_keeps hk index
  | .sessionRead index => execSessionRead_keeps hk index
  | .sessionWrite index => execSessionWrite_keeps hk index
  | .sessionRelease index => execSessionRelease_keeps hk index
  | .directoryEntryRead index => execDirectoryEntryRead_keeps hk index
  | .directoryEntryWrite index => execDirectoryEntryWrite_keeps hk index
  | .directoryPageRelease index => execDirectoryPageRelease_keeps hk index
  | .objectCommandBadOp cmd => execObjectCommandBadOp_keeps hk cmd
  | .poisonedCompletion p => execPoisonedCompletion_keeps hk p
  | .quarantineSweepComplete q => execQuarantineSweepComplete_keeps hk q
  | .poolConfigWrite k data => execPoolConfigWrite_keeps hk k data
  | .rebuild => execRebuild_keeps hk
  | .rebuildComplete => execRebuildComplete_keeps hk
  | .ledgerReadLatch => execLedgerReadLatch_keeps hk
  | .arcadeHandover k => execArcadeHandover_keeps hk k
  | .arcadeRelease k => execArcadeRelease_keeps hk k
  | .arcadeFlush k data => execArcadeFlush_keeps hk k data
  | .arcadeFlushComplete k => execArcadeFlushComplete_keeps hk k
  | .arcadePointerMismatch k => execArcadePointerMismatch_keeps hk k
  | .linkTrained rate x8 => execLinkTrained_keeps hk rate x8
  | .linkDown => execLinkDown_keeps hk
  | .ringConfigWrite func r k data => execRingConfigWrite_keeps hk func r k data
  | .ringEnable func r data => execRingEnable_keeps hk func r data
  | .ringDisable func r data => execRingDisable_keeps hk func r data
  | .doorbellWrite func r v => execDoorbellWrite_keeps hk func r v
  | .txSubmitDescriptor r d body => execTxSubmitDescriptor_keeps hk r d body
  | .rxPostDescriptor r d => execRxPostDescriptor_keeps hk r d
  | .descriptorReadError r => execDescriptorReadError_keeps hk r
  | .hostBodyReadError e => execHostBodyReadError_keeps hk e
  | .rxDelivery c => execRxDelivery_keeps hk c
  | .rxBufferWaitExpiry c => execRxBufferWaitExpiry_keeps hk c
  | .vectorHoldoffExpiry func v => execVectorHoldoffExpiry_keeps hk func v
  | .vectorUnmask func v => execVectorUnmask_keeps hk func v
  | .admitCommand => execAdmitCommand_keeps hk
  | .rejectCommand => execRejectCommand_keeps hk
  | .status seq => execStatus_keeps hk seq
  | .confirm seq => execConfirm_keeps hk seq
  | .commit seq => execCommit_keeps hk seq
  | .restart seq => execRestart_keeps hk seq
  | .flashWrite seq => execFlashWrite_keeps hk seq
  | .flashRead seq => execFlashRead_keeps hk seq
  | .setBoot seq => execSetBoot_keeps hk seq
  | .safeprof seq => execSafeprof_keeps hk seq
  | .history seq => execHistory_keeps hk seq
  | .lifecycle seq => execLifecycle_keeps hk seq
  | .mailboxBadOp op seq => execMailboxBadOp_keeps hk op seq
  | .mailboxCommandEnd => execMailboxCommandEnd_keeps hk
  | .load cmd => execLoad_keeps hk cmd
  | .erase cmd => execErase_keeps hk cmd
  | .eraseComplete => execEraseComplete_keeps hk
  | .wrap cmd => execWrap_keeps hk cmd
  | .otpProg cmd => execOtpProg_keeps hk cmd
  | .engineTakeRequest e unwraps => execEngineTakeRequest_keeps hk e unwraps
  | .preemption e unwraps => execPreemption_keeps hk e unwraps
  | .rngReseed => execRngReseed_keeps hk
  | .rngHealthFail => execRngHealthFail_keeps hk
  | .jtagDebugAccess addr write => execJtagDebugAccess_keeps hk addr write
  | .bucketLeak sram k => execBucketLeak_keeps hk sram k
  | .sweeperLineRead => execSweeperLineRead_keeps hk
  | .sramSweepWord => execSramSweepWord_keeps hk
  | .sramUncorrectable g w h => execSramUncorrectable_keeps hk g w h
  | .debugWindowRead offset wide => execDebugWindowRead_keeps hk offset wide
  | .debugWindowWrite offset wide data => execDebugWindowWrite_keeps hk offset wide data
  | .readRaw sram => execReadRaw_keeps hk sram
  | .writeRaw sram => execWriteRaw_keeps hk sram
  | .encode sram => execEncode_keeps hk sram
  | .tb0Set => execTb0Set_keeps hk
  | .tb0Adj ofs freq => execTb0Adj_keeps hk ofs freq
  | .tb0HoldoverTimeout => execTb0HoldoverTimeout_keeps hk
  | .rebase b => execRebase_keeps hk b
  | .tb1Discipline => execTb1Discipline_keeps hk
  | .tb3CycleBoundary => execTb3CycleBoundary_keeps hk
  | .pllTrimStep => execPllTrimStep_keeps hk
  | .ppsOutEdge => execPpsOutEdge_keeps hk
  | .ppsOutFall => execPpsOutFall_keeps hk
  | .ppsInEdge ns => execPpsInEdge_keeps hk ns
  | .ppsInReadLatch => execPpsInReadLatch_keeps hk
  | .uartCharacterReceived u c => execUartCharacterReceived_keeps hk u c
  | .uartLineStuck u => execUartLineStuck_keeps hk u
  | .uartLineClear u => execUartLineClear_keeps hk u
  | .uartReceiveTimeout u => execUartReceiveTimeout_keeps hk u
  | .uartDataRead u => execUartDataRead_keeps hk u
  | .uartDataWrite u data => execUartDataWrite_keeps hk u data
  | .uartCharacterSent u clash => execUartCharacterSent_keeps hk u clash
  | .rxflush u data => execRxflush_keeps hk u data
  | .txflush u data => execTxflush_keeps hk u data
  | .uartCtsChange u high => execUartCtsChange_keeps hk u high
  | .logRead unit => execLogRead_keeps hk unit
  | .logUnitWrite => execLogUnitWrite_keeps hk
  | .repairRecordCopy => execRepairRecordCopy_keeps hk
  | .flashOperationComplete failed => execFlashOperationComplete_keeps hk failed
  | .gpioEdge k high => execGpioEdge_keeps hk k high
  | .domainPowerOff d => execDomainPowerOff_keeps hk d
  | .domainPowerUp d => execDomainPowerUp_keeps hk d
  | .domainPowerUpComplete d => execDomainPowerUpComplete_keeps hk d
  | .domainReset d => execDomainReset_keeps hk d
  | .domainResetComplete d => execDomainResetComplete_keeps hk d
  | .supplyLow k => absurd (.inr (.inl ⟨k, rfl⟩)) hc
  | .supplyRestored k => execSupplyRestored_keeps hk k
  | .referenceLoss => execReferenceLoss_keeps hk
  | .pllLockLoss => execPllLockLoss_keeps hk
  | .pllRelock => execPllRelock_keeps hk
  | .temperatureSample sensor reading => execTemperatureSample_keeps hk sensor reading
  | .thermalConfigWrite data => execThermalConfigWrite_keeps hk data
  | .porstNAssert => absurd (.inr (.inr (.inl rfl))) hc
  | .startUpComplete => execStartUpComplete_keeps hk
  | .timeBaseAdvance n clips => absurd (.inr (.inr (.inr ⟨n, clips, rfl⟩))) hc

/-- From `s` to `t` all that `Keeps` names is kept, but the tick number may be any. -/
def KeepsButTick (s t : State) : Prop := ∃ n, Keeps { s with tick := n } t

theorem Keeps.butTick {s t : State} (h : Keeps s t) : KeepsButTick s t := ⟨s.tick, h⟩

theorem Keeps.withTick {s t : State} (h : Keeps s t) (n : Nat) : Keeps { s with tick := n } { t with tick := n } :=
  ⟨h.pending, rfl, h.fuses, h.field, h.counter, h.mem, h.regs⟩

/-- COLD_BOOT starts from tick 0 where it applies (R40). -/
theorem execColdBoot_keepsButTick (f : BootFindings) {s t : State} (h : execColdBoot f s = .next t) :
    KeepsButTick s t := by
  obtain rfl := Host.Outcome.next.inj h
  have early := State.bootEarly_keeps (Keeps.refl { s with tick := 0 }) f
  split
  · exact ⟨0, Keeps.ite early (State.bootLate_keeps early f)⟩
  · exact (Keeps.refl s).butTick

/-- A low supply acts as PORST_N where it is VDD_CORE or VDD_AFE (R398). -/
theorem State.supplyAct_keepsButTick {s0 s : State} (k : Nat) (h : Keeps s0 s) : KeepsButTick s0 (s.supplyAct k) := by
  unfold State.supplyAct
  split
  · exact ⟨0, State.powerOff_keeps (h.withTick 0)⟩
  · exact (Keeps.ite (Keeps.ite (State.linkLoss_keeps h) h) h).butTick

theorem execSupplyLow_keepsButTick (k : Fin 5) {s t : State} (h : execSupplyLow k s = .next t) : KeepsButTick s t := by
  obtain rfl := Host.Outcome.next.inj h
  split
  · exact (Keeps.refl s).butTick
  · refine State.supplyAct_keepsButTick k (State.fire_keeps ?_ _ _)
    exact (Keeps.refl s).upd _ _ _ _ _ _ _ _ _ _ _ _ _ _ _ _ _ _ rfl rfl rfl

/-- What every command keeps. -/
theorem exec_keepsButTick {c : Instr} {s t : State} (h : exec c s = .next t) : KeepsButTick s t := by
  by_cases hc : MovesTick c
  · obtain ⟨f, rfl⟩ | ⟨k, rfl⟩ | rfl | ⟨n, clips, rfl⟩ := hc
    · exact execColdBoot_keepsButTick f h
    · exact execSupplyLow_keepsButTick k h
    · exact ⟨0, execPorstNAssert_keeps (Keeps.refl _) t h⟩
    · exact ⟨s.tick + n, execTimeBaseAdvance_keeps n clips (Keeps.refl _) t h⟩
  · exact (exec_keeps hc (Keeps.refl s) t h).butTick

/-- A step idles on an empty queue, or takes the front command and carries it out with the rest of the queue. -/
theorem step_next_cases {s t : State} (h : step s = .next t) :
    (s.pending = [] ∧ t = s) ∨ ∃ c rest, s.pending = c :: rest ∧ exec c { s with pending := rest } = .next t := by
  unfold step at h
  split at h
  case h_1 empty => exact .inl ⟨empty, (Host.Outcome.next.inj h).symm⟩
  case h_2 c rest front => exact .inr ⟨c, rest, front, h⟩

/-- A step keeps what its command keeps, and takes the front command from the queue. -/
theorem step_keepsButTick {s t : State} (h : step s = .next t) :
    KeepsButTick { s with pending := s.pending.tail } t := by
  obtain ⟨empty, rfl⟩ | ⟨c, rest, front, hx⟩ := step_next_cases h
  · exact ⟨t.tick, by simp [empty], rfl, ⟨rfl, rfl, rfl⟩, id, le_refl _, id, id⟩
  · rw [front]
    exact exec_keepsButTick hx

theorem KeepsButTick.registers_wf {s t : State} (h : KeepsButTick s t) (w : Registers.wf s = true) :
    Registers.wf t = true :=
  h.elim fun _ k => k.regs w

/-- Settles O6: a step keeps what `Keeps` names but for the tick number, and the canonical form of the registers is a
part of it that depends neither on the tick number nor on the queue. -/
theorem registersStayCanonical : Obligations.RegistersStayCanonical :=
  fun _ _ wf hstep => (step_keepsButTick hstep).registers_wf wf

end Sys2Proof.Machine

/-! SUPPORT. Fields of registers and of table entries: bounds, and what a write of one leaves of another. -/

namespace Sys2Proof.Machine

/-- A field holds a number of its width. -/
theorem State.get_lt (s : State) (f : Field) : s.get f < 2 ^ f.w := Nat.mod_lt _ (Nat.two_pow_pos _)

/-- A field depends on its register alone. -/
theorem State.get_of_reg {s t : State} {f : Field} (h : t.reg f.addr = s.reg f.addr) : t.get f = s.get f := by
  simp only [State.get, h]

/-- A register depends on the table of registers. -/
theorem State.reg_congr {s t : State} (h : t.regs = s.regs) (a : Nat) : t.reg a = s.reg a := by
  simp only [State.reg, h]

/-- A flag depends on its register alone. -/
theorem State.flag_of_reg {s t : State} {f : Field} (h : t.reg f.addr = s.reg f.addr) : t.flag f = s.flag f := by
  simp only [State.flag, State.get_of_reg h]

/-- A saturating counter after one more. -/
theorem State.get_bump_same (s : State) {f : Field} (h : f.lo + f.w ≤ 32) :
    (s.bump f).get f = satAdd f.w (s.get f) 1 := by
  have : satAdd f.w (s.get f) 1 < 2 ^ f.w := by
    have := Nat.two_pow_pos f.w
    unfold satAdd; omega
  rw [State.bump, s.get_set_same h, Nat.mod_eq_of_lt this]

theorem State.reg_bump_other (s : State) {f : Field} {a : Nat} (h : a ≠ f.addr) (n : Nat) :
    (s.bump f n).reg a = s.reg a := s.reg_set_other h _

/-- A field of an entry read after it is written. -/
theorem sub_withSub_same {n : Nat} (v : BitVec n) {f : Sub} (h : f.lo + f.w ≤ n) (x : Nat) :
    sub (withSub v f x) f = x % 2 ^ f.w := bits_withBits_same v h x

/-- A field of an entry that shares no bit with the one written. -/
theorem sub_withSub_other {n : Nat} (v : BitVec n) {f g : Sub} (h : f.lo + f.w ≤ g.lo ∨ g.lo + g.w ≤ f.lo) (x : Nat) :
    sub (withSub v f x) g = sub v g := bits_withBits_other v h x

/-- A field of an entry holds a number of its width. -/
theorem sub_lt {n : Nat} (v : BitVec n) (f : Sub) : sub v f < 2 ^ f.w := Nat.mod_lt _ (Nat.two_pow_pos _)

theorem look_put_same {α : Type} (d : α) (k : Nat) (v : α) (t : Tab α) : look d (put k v t) k = v := by
  simp [look, find_put]

/-- The device's own address depends on the mode, the fuses and the directory. -/
theorem State.ownAddr_congr {s t : State} (hm : t.mode = s.mode) (ho : t.otp = s.otp) (hd : t.blv.dir = s.blv.dir) :
    t.ownAddr = s.ownAddr := by
  simp only [State.ownAddr, State.dirEnt, State.dirFresh, hm, ho, hd]

/-! ## Events (R67 to R69) -/

/-- An event writes no register but that of its pending bit. -/
theorem State.reg_fire_other (s : State) {src a : Nat} (h : a ≠ pendReg src) (data : Nat) :
    (s.fire src data).reg a = s.reg a := by
  cases hon : s.sourceOn src with
  | true => exact (s.fire_on hon data).2 a h
  | false => rw [s.fire_off hon]

/-- The pending bit of a source is one bit of a word. -/
theorem pendField_w (src : Nat) : (pendField src).w = 1 := by unfold pendField; split <;> rfl
theorem pendField_fits (src : Nat) : (pendField src).lo + (pendField src).w ≤ 32 := by
  unfold pendField; split <;> simp only <;> omega

/-- An event of a unit that is present and on has fired. -/
theorem State.fired_fire (s : State) {src : Nat} (h : s.sourceOn src = true) (data : Nat) :
    fired s (s.fire src data) src data := by
  refine ⟨?_, (s.fire_on h data).1⟩
  simp only [State.fire, h, if_true]
  exact s.flag_raiseFlag (pendField_fits src) (pendField_w src)

end Sys2Proof.Machine

/-! SUPPORT. Vectors, event entries and completions: what a request, a record and a completion change (R290, R291,
R298 to R301). -/

namespace Sys2Proof.Machine

/-! ## Vectors (R301) -/

/-- A request of a vector does nothing, sets its pending bit, or sends at most its message and writes its timer. -/
theorem State.requestVector_cases (s : State) (f v : Nat) :
    s.requestVector f v = s ∨ s.requestVector f v = s.set (vPend f v) 1 ∨
      ∃ tm p, (p = s.posted ∨ p = .msix f v :: s.posted) ∧
        s.requestVector f v = { s with hif.timers := tm, posted := p } := by
  have sent : ∃ tm, s.sendVector f v = { s with hif.timers := tm, posted := .msix f v :: s.posted } := by
    unfold State.sendVector State.setTimer
    dsimp only
    split <;> exact ⟨_, rfl⟩
  obtain ⟨tm, hsent⟩ := sent
  unfold State.requestVector
  split
  · exact .inl rfl
  · split
    · exact .inr (.inl rfl)
    · split
      · exact .inr (.inr ⟨_, _, .inr rfl, hsent⟩)
      · dsimp only
        split
        · exact .inr (.inr ⟨_, _, .inr rfl, hsent⟩)
        · exact .inr (.inr ⟨_, _, .inl rfl, rfl⟩)

@[simp] theorem State.requestVector_blv (s : State) (f v : Nat) : (s.requestVector f v).blv = s.blv := by
  obtain h | h | ⟨_, _, -, h⟩ := s.requestVector_cases f v <;> simp [h]

/-- A vector of function 0 writes no register below the pending-bit array. -/
theorem State.requestVector_reg (s : State) {a : Nat} (h : a < a_MSIX_PBA 0) (v : Nat) :
    (s.requestVector 0 v).reg a = s.reg a := by
  obtain e | e | ⟨_, _, -, e⟩ := s.requestVector_cases 0 v
  · rw [e]
  · rw [e, s.reg_set_other]
    simp only [vPend, if_true, MSIX_PBA_PENDING, a_MSIX_PBA] at h ⊢
    omega
  · rw [e]; rfl

/-- A request of a vector takes back nothing that was sent. -/
theorem State.requestVector_posted (s : State) (f v : Nat) : s.posted ⊆ (s.requestVector f v).posted := by
  obtain e | e | ⟨_, p, hp, e⟩ := s.requestVector_cases f v
  · rw [e]; exact List.Subset.refl _
  · rw [e]; exact List.Subset.refl _
  · rw [e]
    obtain rfl | rfl := hp
    · exact List.Subset.refl _
    · exact List.subset_cons_self _ _

/-! ## Rings of function 0 -/

/-- The COMPL ring that a ring names is one of function 0's. -/
theorem State.peer_lt (s : State) (n : Nat) : s.peer n < 4096 := s.get_lt _

theorem State.peer_congr {s t : State} {n : Nat} (h : t.reg (a_HIF_RCFG n) = s.reg (a_HIF_RCFG n)) :
    t.peer n = s.peer n := State.get_of_reg h

/-! ## Settling (R288, R299) -/

@[simp] theorem State.settleCompl_blv (s : State) (c : Compl) : (s.settleCompl c).blv = s.blv := rfl

/-- A settled completion writes the status of the COMPL ring and of the descriptor's own ring. -/
theorem State.settleCompl_reg (s : State) {c : Compl} {a : Nat} (hr : a ≠ a_HIF_RSTAT c.ring)
    (hs : a ≠ a_HIF_RSTAT c.src) : (s.settleCompl c).reg a = s.reg a := by
  unfold State.settleCompl State.untake State.refreshIdle
  rw [State.reg_set_other _ hs]
  exact s.reg_set_other hr _

/-- R299: a settled completion is no longer reserved. -/
theorem State.settleCompl_resv (s : State) (c : Compl) :
    (s.settleCompl c).get (HIF_RSTAT_RESV c.ring) = s.get (HIF_RSTAT_RESV c.ring) - 1 := by
  unfold State.settleCompl State.untake State.refreshIdle
  rw [State.get_set_bits _ (.inl (by simp [rIdle, HIF_RSTAT_IDLE, HIF_RSTAT_RESV]))]
  refine (s.get_set_same (by simp [HIF_RSTAT_RESV]) _).trans (Nat.mod_eq_of_lt ?_)
  exact lt_of_le_of_lt (Nat.sub_le _ _) (s.get_lt _)

/-! ## Completions (R291, R298) -/

/-- The entry of a completion is written at the producer index, which advances, and the completion is settled. -/
def State.enterCompl (s : State) (c : Compl) : State :=
  let i := s.get (HIF_RPROD_P c.ring)
  ((s.post (.hostWrite (s.rAddr 0 c.ring 32 i) (leBytes 32 (c.word (s.rPhase 0 c.ring i))))).set
    (HIF_RPROD_P c.ring) (i + 1)).settleCompl c

/-- A completion on a live ring enters, and requests at most a vector. -/
theorem State.postCompl_live (s : State) {c : Compl} (hm : s.mode ≠ mSafe)
    (hl : s.flag (HIF_RSTAT_STOPPED c.ring) = false) :
    s.postCompl c = s.enterCompl c ∨ ∃ v, s.postCompl c = (s.enterCompl c).requestVector 0 v := by
  unfold State.postCompl
  rw [if_neg hm, if_neg (by simp [rStopped, hl])]
  dsimp only
  split
  · exact .inr ⟨_, rfl⟩
  · exact .inl rfl

/-- R290: a completion on a stopped ring is settled alone. -/
theorem State.postCompl_stopped (s : State) {c : Compl} (hm : s.mode ≠ mSafe)
    (hs : s.flag (HIF_RSTAT_STOPPED c.ring) = true) : s.postCompl c = s.settleCompl c := by
  unfold State.postCompl
  rw [if_neg hm, if_pos (by simp [rStopped, hs])]

/-- What a completion can do. -/
theorem State.postCompl_cases (s : State) (c : Compl) :
    s.postCompl c = s ∨ s.postCompl c = s.settleCompl c ∨ s.postCompl c = s.enterCompl c ∨
      ∃ v, s.postCompl c = (s.enterCompl c).requestVector 0 v := by
  by_cases hm : s.mode = mSafe
  · exact .inl (by simp [State.postCompl, hm])
  · cases hs : s.flag (HIF_RSTAT_STOPPED c.ring) with
    | true => exact .inr (.inl (s.postCompl_stopped hm hs))
    | false => exact .inr (.inr (s.postCompl_live hm hs))

@[simp] theorem State.enterCompl_blv (s : State) (c : Compl) : (s.enterCompl c).blv = s.blv := rfl

@[simp] theorem State.postCompl_blv (s : State) (c : Compl) : (s.postCompl c).blv = s.blv := by
  obtain h | h | h | ⟨v, h⟩ := s.postCompl_cases c <;> simp [h]

/-- An entered completion writes the producer index of its ring beside what settling writes. -/
theorem State.enterCompl_reg (s : State) {c : Compl} {a : Nat} (hp : a ≠ a_HIF_RPROD c.ring)
    (hr : a ≠ a_HIF_RSTAT c.ring) (hs : a ≠ a_HIF_RSTAT c.src) : (s.enterCompl c).reg a = s.reg a :=
  (State.settleCompl_reg _ hr hs).trans (State.reg_set_other _ hp _)

/-- A completion writes no consumer index. -/
theorem State.postCompl_cons (s : State) (c : Compl) {n : Nat} (hn : n < 4096) :
    (s.postCompl c).get (HIF_RCONS_C n) = s.get (HIF_RCONS_C n) := by
  have hp : ∀ k, a_HIF_RCONS n ≠ a_HIF_RPROD k := by intro k; simp only [a_HIF_RCONS, a_HIF_RPROD]; omega
  have hr : ∀ k, a_HIF_RCONS n ≠ a_HIF_RSTAT k := by intro k; simp only [a_HIF_RCONS, a_HIF_RSTAT]; omega
  have hv : a_HIF_RCONS n < a_MSIX_PBA 0 := by simp only [a_HIF_RCONS, a_MSIX_PBA]; omega
  refine State.get_of_reg ?_
  obtain h | h | h | ⟨v, h⟩ := s.postCompl_cases c
  · rw [h]
  · rw [h]; exact s.settleCompl_reg (hr _) (hr _)
  · rw [h]; exact s.enterCompl_reg (hp _) (hr _) (hr _)
  · rw [h]; exact (State.requestVector_reg _ hv v).trans (s.enterCompl_reg (hp _) (hr _) (hr _))

/-- The producer index advances as the entry is written. -/
theorem State.enterCompl_prod (s : State) (c : Compl) :
    (s.enterCompl c).get (HIF_RPROD_P c.ring) = (s.get (HIF_RPROD_P c.ring) + 1) % 2 ^ 32 := by
  have hr : ∀ k, a_HIF_RPROD c.ring ≠ a_HIF_RSTAT k := by intro k; simp only [a_HIF_RPROD, a_HIF_RSTAT]; omega
  refine (State.get_of_reg (State.settleCompl_reg _ (hr _) (hr _))).trans ?_
  exact State.get_set_same _ (by simp [HIF_RPROD_P]) _

/-- R291, R298: outside SAFE, a completion on a ring that is not stopped is written there, and the ring advances. -/
theorem State.postCompl_completed (s : State) {c : Compl} (hm : s.mode ≠ mSafe) (hring : c.ring < 4096)
    (hl : s.flag (HIF_RSTAT_STOPPED c.ring) = false) : completed s (s.postCompl c) c := by
  have entry : Output.hostWrite (s.rAddr 0 c.ring 32 (s.get (HIF_RPROD_P c.ring)))
      (leBytes 32 (c.word (s.rPhase 0 c.ring (s.get (HIF_RPROD_P c.ring))))) ∈ (s.enterCompl c).posted :=
    List.mem_cons_self
  have hv : a_HIF_RPROD c.ring < a_MSIX_PBA 0 := by simp only [a_HIF_RPROD, a_MSIX_PBA]; omega
  obtain h | ⟨v, h⟩ := s.postCompl_live hm hl
  · rw [h]; exact ⟨entry, s.enterCompl_prod c⟩
  · rw [h]
    exact ⟨State.requestVector_posted _ 0 v entry,
      (State.get_of_reg (State.requestVector_reg _ hv v)).trans (s.enterCompl_prod c)⟩

/-- R299: outside SAFE a completion lowers RESV of its ring, stopped or not. -/
theorem State.postCompl_resv (s : State) {c : Compl} (hm : s.mode ≠ mSafe) (hring : c.ring < 4096) :
    (s.postCompl c).get (HIF_RSTAT_RESV c.ring) = s.get (HIF_RSTAT_RESV c.ring) - 1 := by
  have hv : a_HIF_RSTAT c.ring < a_MSIX_PBA 0 := by simp only [a_HIF_RSTAT, a_MSIX_PBA]; omega
  have entered : (s.enterCompl c).get (HIF_RSTAT_RESV c.ring) = s.get (HIF_RSTAT_RESV c.ring) - 1 := by
    refine (State.settleCompl_resv _ c).trans (congrArg (· - 1) ?_)
    exact State.get_set_addr _ (by simp only [HIF_RSTAT_RESV, HIF_RPROD_P, a_HIF_RSTAT, a_HIF_RPROD]; omega) _
  cases hs : s.flag (HIF_RSTAT_STOPPED c.ring) with
  | true => rw [s.postCompl_stopped hm hs]; exact s.settleCompl_resv c
  | false =>
    obtain h | ⟨v, h⟩ := s.postCompl_live hm hs
    · rw [h]; exact entered
    · rw [h]; exact (State.get_of_reg (State.requestVector_reg _ hv v)).trans entered

/-- The entry of a completion depends on the registers of its ring: its base, its size and its producer index. -/
theorem completed_congr {s u t : State} {c : Compl} (hlo : u.reg (a_HIF_RBASELO c.ring) = s.reg (a_HIF_RBASELO c.ring))
    (hhi : u.reg (a_HIF_RBASEHI c.ring) = s.reg (a_HIF_RBASEHI c.ring))
    (hcfg : u.reg (a_HIF_RCFG c.ring) = s.reg (a_HIF_RCFG c.ring))
    (hp : u.reg (a_HIF_RPROD c.ring) = s.reg (a_HIF_RPROD c.ring)) (h : completed u t c) : completed s t c := by
  have elo : u.get (rLo 0 c.ring) = s.get (rLo 0 c.ring) := State.get_of_reg hlo
  have ehi : u.get (rHi 0 c.ring) = s.get (rHi 0 c.ring) := State.get_of_reg hhi
  have elog : u.get (rLog 0 c.ring) = s.get (rLog 0 c.ring) := State.get_of_reg hcfg
  have ep : u.get (HIF_RPROD_P c.ring) = s.get (HIF_RPROD_P c.ring) := State.get_of_reg hp
  simpa only [completed, State.rAddr, State.rPhase, State.rSize, elo, ehi, elog, ep] using h

end Sys2Proof.Machine

/-! SUPPORT. The frames of a queue: replacing, completing and returning them (R20, R243, R254, R255). -/

namespace Sys2Proof.Machine

theorem State.framesOf_setFrames_same (s : State) (q : Nat) (l : List TxFrame) :
    (s.setFrames q l).framesOf q = l := look_store_same _ _ _ _

theorem State.framesOf_setFrames_other (s : State) {q p : Nat} (h : p ≠ q) (l : List TxFrame) :
    (s.setFrames q l).framesOf p = s.framesOf p := look_store_other _ _ h _ _

/-- The frames of the queues depend on the Boulevard's table of them. -/
theorem State.framesOf_congr {s t : State} (h : t.blv.frames = s.blv.frames) (q : Nat) :
    t.framesOf q = s.framesOf q := by simp only [State.framesOf, h]

/-- A frame that stands in its queue is found once it is replaced. -/
theorem State.frameOf_setFrame (s : State) {q : Nat} {f : TxFrame} (h : ∃ g ∈ s.framesOf q, g.id = f.id) :
    (s.setFrame q f).frameOf q f.id = some f := by
  unfold State.frameOf State.setFrame
  rw [s.framesOf_setFrames_same]
  obtain ⟨g, hg, hid⟩ := h
  generalize s.framesOf q = l at hg
  induction l with
  | nil => cases hg
  | cons x r ih =>
    by_cases hx : x.id = f.id
    · simp [hx]
    · have hr : g ∈ r := (List.mem_cons.mp hg).resolve_left (fun e => hx (e ▸ hid))
      simpa [hx] using ih hr

/-- A replaced frame stands in its queue, where one of its number did. -/
theorem State.mem_setFrame (s : State) {q : Nat} {f : TxFrame} (h : ∃ g ∈ s.framesOf q, g.id = f.id) :
    ∃ g ∈ (s.setFrame q f).framesOf q, g.id = f.id :=
  ⟨f, List.mem_of_find?_eq_some (s.frameOf_setFrame h), rfl⟩

/-! ## A frame completes (R20) -/

/-- A frame leaves the lists of the ports, and nothing else changes. -/
theorem State.forget_only (s : State) (q id : Nat) : ∃ x, s.forget q id = { s with tx := x } := by
  unfold State.forget
  generalize 16 = n
  induction n with
  | zero => exact ⟨s.tx, rfl⟩
  | succ k ih =>
    obtain ⟨x, hx⟩ := ih
    simp only [forN, hx]
    exact ⟨_, rfl⟩

/-- The counts of a queue change in its entry, with free values for its ends. -/
theorem State.unlinkCounts_only (s : State) (q : Nat) (f : TxFrame) :
    ∃ v k, s.unlinkCounts q f = { s with blv.queues := v, free := k } := by
  unfold State.unlinkCounts
  split
  · exact ⟨_, _, rfl⟩
  · exact ⟨s.blv.queues, s.free, rfl⟩

/-- R20: all that a completed frame changes. -/
theorem State.completeTx_only (s : State) (q : Nat) (f : TxFrame) (st : Nat) (fl : Bool) :
    ∃ v k x l, s.completeTx q f st fl = { s with
      blv.frames := (s.setFrames q ((s.framesOf q).filter (fun g => g.id != f.id))).blv.frames
      blv.queues := v
      blv.led := l
      blv.returns := s.blv.returns ++ [⟨f.cells, f.complOf q st, fl⟩]
      tx := x
      free := k } := by
  obtain ⟨v, k, h1⟩ := (s.setFrames q ((s.framesOf q).filter (fun g => g.id != f.id))).unlinkCounts_only q f
  unfold State.completeTx
  dsimp only
  rw [h1]
  obtain ⟨x, h2⟩ := State.forget_only { s.setFrames q ((s.framesOf q).filter (fun g => g.id != f.id)) with
    blv.queues := v, free := k } q f.id
  rw [h2]
  unfold State.returnTx
  split <;> exact ⟨_, _, _, _, rfl⟩

/-- A completed frame leaves its queue. -/
theorem State.completeTx_framesOf_same (s : State) (q : Nat) (f : TxFrame) (st : Nat) (fl : Bool) :
    (s.completeTx q f st fl).framesOf q = (s.framesOf q).filter (fun g => g.id != f.id) := by
  obtain ⟨v, k, x, l, h⟩ := s.completeTx_only q f st fl
  rw [h]
  exact s.framesOf_setFrames_same q _

/-- A completed frame leaves every other queue as it was. -/
theorem State.completeTx_framesOf_other (s : State) {q p : Nat} (hp : p ≠ q) (f : TxFrame) (st : Nat) (fl : Bool) :
    (s.completeTx q f st fl).framesOf p = s.framesOf p := by
  obtain ⟨v, k, x, l, h⟩ := s.completeTx_only q f st fl
  rw [h]
  exact s.framesOf_setFrames_other hp _

/-- R255: its cells return, with the completion it owes. -/
theorem State.completeTx_returns (s : State) (q : Nat) (f : TxFrame) (st : Nat) (fl : Bool) :
    (s.completeTx q f st fl).blv.returns = s.blv.returns ++ [⟨f.cells, f.complOf q st, fl⟩] := by
  obtain ⟨v, k, x, l, h⟩ := s.completeTx_only q f st fl
  rw [h]

/-- Frame `f` has left queue `q`, and a return owes its completion. -/
def State.Gone (t : State) (q : Nat) (f : TxFrame) (st : Nat) : Prop :=
  f ∉ t.framesOf q ∧ (⟨f.cells, f.complOf q st, false⟩ : Return) ∈ t.blv.returns

theorem State.completeTx_gone (s : State) (q : Nat) (f : TxFrame) (st : Nat) :
    (s.completeTx q f st).Gone q f st := by
  refine ⟨?_, ?_⟩
  · rw [s.completeTx_framesOf_same]
    simp [List.mem_filter]
  · rw [s.completeTx_returns]
    exact List.mem_append_right _ List.mem_cons_self

/-! ## Exhausted sessions (R322) -/

/-- From `s` to `t` frames have only left their queues and returns have only come; registers, the Square and the EXH
ticks are as they were. -/
structure Drains (s t : State) : Prop where
  frames : ∀ q, t.framesOf q ⊆ s.framesOf q
  returns : s.blv.returns ⊆ t.blv.returns
  regs : t.regs = s.regs
  sq : t.sq = s.sq
  exh : t.blv.exh = s.blv.exh

theorem Drains.refl (s : State) : Drains s s :=
  ⟨fun _ => List.Subset.refl _, List.Subset.refl _, rfl, rfl, rfl⟩

theorem Drains.trans {s t u : State} (h : Drains s t) (k : Drains t u) : Drains s u :=
  ⟨fun q => List.Subset.trans (k.frames q) (h.frames q), List.Subset.trans h.returns k.returns,
    k.regs.trans h.regs, k.sq.trans h.sq, k.exh.trans h.exh⟩

theorem Drains.gone {s t : State} (h : Drains s t) {q : Nat} {f : TxFrame} {st : Nat} (g : s.Gone q f st) :
    t.Gone q f st :=
  ⟨fun m => g.1 (h.frames q m), h.returns g.2⟩

theorem Drains.forEach {α : Type} {f : α → State → State} (hf : ∀ a t, Drains t (f a t)) (l : List α) (s : State) :
    Drains s (forEach l f s) := by
  induction l generalizing s with
  | nil => exact Drains.refl s
  | cons a r ih => exact (hf a s).trans (ih (f a s))

theorem State.completeTx_drains (s : State) (q : Nat) (f : TxFrame) (st : Nat) : Drains s (s.completeTx q f st) := by
  refine ⟨fun p => ?_, ?_, ?_, ?_, ?_⟩
  · by_cases hp : p = q
    · subst hp
      rw [s.completeTx_framesOf_same]
      exact List.filter_subset_self _
    · rw [s.completeTx_framesOf_other hp]
      exact List.Subset.refl _
  · rw [s.completeTx_returns]
    exact List.subset_append_left _ _
  all_goals
    obtain ⟨v, k, x, l, h⟩ := s.completeTx_only q f st false
    rw [h]

/-- The frames of a list complete one after another. -/
theorem forEach_completeTx_gone {q st : Nat} {f : TxFrame} {l : List TxFrame} (h : f ∈ l) (s : State) :
    (forEach l (fun g u => u.completeTx q g st) s).Gone q f st := by
  have drains := fun a t => State.completeTx_drains t q a st
  induction l generalizing s with
  | nil => cases h
  | cons a r ih =>
    rcases List.mem_cons.mp h with rfl | h
    · exact (Drains.forEach drains r _).gone (s.completeTx_gone q f st)
    · exact ih h _

/-- R322: the frames of one queue of an exhausted session. -/
def State.drainQueue (q : Nat) (t : State) : State :=
  forEach ((t.framesOf q).filter (fun f => !f.retained && f.relayOf.isNone)) (fun f u => u.completeTx q f 9) t

theorem State.drainQueue_drains (q : Nat) (t : State) : Drains t (t.drainQueue q) :=
  Drains.forEach (fun a u => u.completeTx_drains q a 9) _ t

theorem State.drainQueue_framesOf_other {p q : Nat} (hp : p ≠ q) (t : State) :
    (t.drainQueue q).framesOf p = t.framesOf p := by
  unfold State.drainQueue
  generalize (t.framesOf q).filter _ = l
  induction l generalizing t with
  | nil => rfl
  | cons a r ih => exact (ih _).trans (t.completeTx_framesOf_other hp a 9 false)

/-- Every frame still QUEUED in one of the queues completes. -/
theorem forEach_drainQueue_gone {q : Nat} {f : TxFrame} {l : List Nat} (hq : q ∈ l) (s : State)
    (hf : f ∈ s.framesOf q) (hr : f.retained = false) (hn : f.relayOf = none) :
    (forEach l (fun p t => t.drainQueue p) s).Gone q f 9 := by
  induction l generalizing s with
  | nil => cases hq
  | cons p r ih =>
    by_cases hp : q = p
    · subst hp
      refine (Drains.forEach (fun a t => t.drainQueue_drains a) r _).gone ?_
      exact forEach_completeTx_gone (List.mem_filter.mpr ⟨hf, by simp [hr, hn]⟩) s
    · exact ih ((List.mem_cons.mp hq).resolve_left hp) _ ((s.drainQueue_framesOf_other hp).symm ▸ hf)

/-- What the end of the interval of R322 does. -/
theorem State.exhaust_drains (s : State) (k : Nat) :
    Drains { s with blv.exh := put k s.tick s.blv.exh } (s.exhaust k) :=
  Drains.forEach (fun q t => t.drainQueue_drains q) _ _

end Sys2Proof.Machine

/-! SUPPORT. The choice of a queue (R244, R245): the round robin within a class, strict priority, and the deficit round
robin over the classes 3 to 7. -/

namespace Sys2Proof.Machine

/-! ## Within a class -/

theorem nextAfter_eq_none {l : List Nat} {last : Nat} : nextAfter l last = none ↔ l = [] := by
  unfold nextAfter
  split
  case h_1 q hq => simp [List.ne_nil_of_mem (List.mem_of_find?_eq_some hq)]
  case h_2 => exact List.head?_eq_none_iff

theorem nextAfter_mem {l : List Nat} {last q : Nat} (h : nextAfter l last = some q) : q ∈ l := by
  unfold nextAfter at h
  split at h
  case h_1 p hp => cases h; exact List.mem_of_find?_eq_some hp
  case h_2 => exact List.mem_of_head? h

/-- The first entry of a rising list is its least. -/
theorem head?_le_of_pairwise {l : List Nat} (hs : l.Pairwise (· < ·)) {q p : Nat} (h : l.head? = some q) (hp : p ∈ l) :
    q ≤ p := by
  cases l with
  | nil => cases h
  | cons a r =>
    cases h
    rcases List.mem_cons.mp hp with rfl | hp
    · exact le_refl _
    · exact le_of_lt (List.rel_of_pairwise_cons hs hp)

/-- The first entry of a rising list above a bound is the least above it. -/
theorem find?_above_le {l : List Nat} (hs : l.Pairwise (· < ·)) {last q p : Nat}
    (h : l.find? (fun x => decide (last < x)) = some q) (hp : p ∈ l) (hl : last < p) : q ≤ p := by
  induction l with
  | nil => cases hp
  | cons a r ih =>
    rw [List.find?_cons] at h
    split at h
    · cases h
      exact head?_le_of_pairwise hs rfl hp
    · have ha : p ≠ a := by rintro rfl; simp_all
      exact ih hs.of_cons h ((List.mem_cons.mp hp).resolve_left ha)

/-- R245: the queue served next in a class of rising queues is the least above the last served, or, where there is none,
the least of all. -/
theorem nextAfter_least {l : List Nat} (hs : l.Pairwise (· < ·)) {last q : Nat} (h : nextAfter l last = some q) :
    (∀ p ∈ l, last < p → last < q ∧ q ≤ p) ∧ ((∀ p ∈ l, p ≤ last) → ∀ p ∈ l, q ≤ p) := by
  unfold nextAfter at h
  split at h
  case h_1 x hx =>
    cases h
    have above : last < q := by simpa using List.find?_some hx
    exact ⟨fun p hp hl => ⟨above, find?_above_le hs hx hp hl⟩,
      fun hall => absurd (hall q (List.mem_of_find?_eq_some hx)) (by omega)⟩
  case h_2 hx =>
    refine ⟨fun p hp hl => ?_, fun _ p hp => head?_le_of_pairwise hs h hp⟩
    simpa [hl] using List.find?_eq_none.mp hx p hp

/-- The eligible queues of a class rise with the keys of the table of frames. -/
theorem State.eligibleOf_pairwise (s : State) (h : (s.blv.frames.map Prod.fst).Pairwise (· < ·)) (n c : Nat)
    (permits : TxFrame → Bool) : (s.eligibleOf n c permits).Pairwise (· < ·) :=
  h.sublist (List.filter_sublist.map _)

/-! ## Strict priority -/

/-- R245: the lowest class with an eligible queue is served. -/
theorem strict_lowest {lists : Nat → List Nat} {p : BlvPort} {d : Nat} (hd : lists d ≠ []) :
    ∀ {fuel c : Nat}, c ≤ d → d < c + fuel → (∀ b, c ≤ b → b < d → lists b = []) →
      ∃ q, nextAfter (lists d) (look 0 p.last d) = some q ∧
        strict lists p c fuel = some (q, { p with last := store 0 d q p.last })
  | 0, c, hc, hf, _ => by omega
  | k + 1, c, hc, hf, hlow => by
    unfold strict
    by_cases hcd : c = d
    · subst hcd
      obtain ⟨q, hq⟩ := Option.ne_none_iff_exists'.mp (mt nextAfter_eq_none.mp hd)
      exact ⟨q, hq, by rw [hq]⟩
    · rw [nextAfter_eq_none.mpr (hlow c (le_refl c) (by omega))]
      exact strict_lowest hd (by omega) (by omega) (fun b hb => hlow b (by omega))

/-- R245: without an eligible queue no class is served. -/
theorem strict_none {lists : Nat → List Nat} {p : BlvPort} :
    ∀ {fuel c : Nat}, (∀ b, c ≤ b → b < c + fuel → lists b = []) → strict lists p c fuel = none
  | 0, _, _ => rfl
  | k + 1, c, h => by
    unfold strict
    rw [nextAfter_eq_none.mpr (h c (le_refl c) (by omega))]
    exact strict_none (fun b hb hb' => h b (by omega) (by omega))

/-! ## Deficit round robin -/

theorem nextClass_range {c : Nat} (h : 3 ≤ c ∧ c ≤ 7) : 3 ≤ nextClass c ∧ nextClass c ≤ 7 := by
  unfold nextClass; split <;> omega

/-- Every class follows every other within five steps. -/
theorem nextClass_reaches {a c : Nat} (ha : 3 ≤ a ∧ a ≤ 7) (hc : 3 ≤ c ∧ c ≤ 7) : ∃ j < 5, nextClass^[j] a = c := by
  have all : ∀ a < 8, ∀ c < 8, 3 ≤ a → 3 ≤ c → ∃ j < 5, nextClass^[j] a = c := by decide
  exact all a (by omega) c (by omega) ha.1 hc.1

section
variable {lists : Nat → List Nat} {len quantum : Nat → Nat}

/-- R245: with no eligible queue the round robin serves none. -/
theorem drr_none (h : ∀ c, 3 ≤ c → c ≤ 7 → lists c = []) :
    ∀ {steps : Nat} {p : BlvPort}, 3 ≤ p.cptr ∧ p.cptr ≤ 7 → (drr lists len quantum steps p).1 = none
  | 0, _, _ => rfl
  | k + 1, p, hp => by
    unfold drr
    dsimp only
    rw [nextAfter_eq_none.mpr (h p.cptr hp.1 hp.2)]
    exact drr_none h (nextClass_range hp)

/-- What the round robin serves is a queue of one of its classes. -/
def Serves (lists : Nat → List Nat) (r : Option Nat × BlvPort) : Prop :=
  ∃ c q, r.1 = some q ∧ 3 ≤ c ∧ c ≤ 7 ∧ q ∈ lists c

/-- R245: a visit with a fresh quantum serves a class whose frames its quantum covers, so the round robin serves within
the steps that reach an eligible class. -/
theorem drr_fresh (hq : ∀ c q, 3 ≤ c → c ≤ 7 → q ∈ lists c → len q ≤ quantum c) :
    ∀ {steps j : Nat} {p : BlvPort}, 3 ≤ p.cptr ∧ p.cptr ≤ 7 → p.fresh = true → j < steps →
      lists (nextClass^[j] p.cptr) ≠ [] → Serves lists (drr lists len quantum steps p)
  | 0, _, _, _, _, hj, _ => by omega
  | k + 1, j, p, hp, hfresh, hj, hne => by
    unfold drr
    dsimp only
    split
    case h_1 hnone =>
      cases j with
      | zero => exact absurd (nextAfter_eq_none.mp hnone) hne
      | succ i => exact drr_fresh hq (j := i) (nextClass_range hp) rfl (by omega) (by simpa using hne)
    case h_2 q hsome =>
      have mem := nextAfter_mem hsome
      have covered := hq p.cptr q hp.1 hp.2 mem
      rw [if_pos (by rw [if_pos hfresh]; omega)]
      exact ⟨p.cptr, q, rfl, hp.1, hp.2, mem⟩

/-- R245: from any class, ten steps serve whenever one of the classes 3 to 7 has an eligible queue: the first step may
find a visit that is not fresh, the next five visit every class afresh. -/
theorem drr_serves (hq : ∀ c q, 3 ≤ c → c ≤ 7 → q ∈ lists c → len q ≤ quantum c) {p : BlvPort}
    (hp : 3 ≤ p.cptr ∧ p.cptr ≤ 7) (hne : ∃ c, 3 ≤ c ∧ c ≤ 7 ∧ lists c ≠ []) :
    Serves lists (drr lists len quantum 10 p) := by
  obtain ⟨c, h3, h7, hc⟩ := hne
  obtain ⟨j, hj, hjc⟩ := nextClass_reaches (nextClass_range hp) ⟨h3, h7⟩
  have reach : lists (nextClass^[j] (nextClass p.cptr)) ≠ [] := hjc.symm ▸ hc
  unfold drr
  dsimp only
  split
  case h_1 => exact drr_fresh hq (nextClass_range hp) rfl (by omega) reach
  case h_2 q hsome =>
    by_cases covered : len q ≤ look 0 p.deficit p.cptr + (if p.fresh then quantum p.cptr else 0)
    · rw [if_pos covered]
      exact ⟨p.cptr, q, rfl, hp.1, hp.2, nextAfter_mem hsome⟩
    · rw [if_neg covered]
      exact drr_fresh hq (nextClass_range hp) rfl (by omega) reach

end

/-! ## The choice of a port -/

theorem State.blvPort_setBlvPort (s : State) (n : Nat) (p : BlvPort) : (s.setBlvPort n p).blvPort n = p :=
  look_store_same _ _ _ _

/-- The control queue of port `n` has a frame that may go (R243, R244). -/
def State.ctrlReady (s : State) (n : Nat) : Prop :=
  ∃ f rest, s.framesOf (ctrlQueue n) = f :: rest ∧ s.eligible (ctrlQueue n) n = true ∧ s.permits n f = true

/-- The eligible queues of port `n` in a class (R244). -/
def State.eligibles (s : State) (n c : Nat) : List Nat := s.eligibleOf n c (fun f => s.permits n f)

/-- LEN of the head of a queue (R245). -/
def State.headLen (s : State) (n q : Nat) : Nat :=
  match s.framesOf q with
  | f :: _ => s.lineLen n f
  | [] => 0

/-- The choice that R245 makes for port `n`. -/
def State.chosen (s : State) (n : Nat) : Option Nat × BlvPort := s.choose n (fun f => s.permits n f)

/-- R243: an eligible control queue is chosen before all others. -/
theorem State.chosen_ctrl (s : State) {n : Nat} (h : s.ctrlReady n) :
    s.chosen n = (some (ctrlQueue n), s.blvPort n) := by
  obtain ⟨f, rest, hf, he, hp⟩ := h
  simp [State.chosen, State.choose, hf, he, hp]

/-- R245: else strict priority chooses, else the deficit round robin. -/
theorem State.chosen_noCtrl (s : State) {n : Nat} (h : ¬ s.ctrlReady n) :
    s.chosen n = match strict (s.eligibles n) (s.blvPort n) 0 3 with
      | some (q, p) => (some q, p)
      | none => drr (s.eligibles n) (s.headLen n) (fun c => 64 * s.quantum c) 10 (s.blvPort n) := by
  unfold State.chosen State.choose
  dsimp only
  rw [if_neg]
  · rfl
  · intro hc
    split at hc
    case h_1 f rest hf => exact h ⟨f, rest, hf, by simpa using hc⟩
    case h_2 => cases hc

/-- R245: the lowest of classes 0 to 2 with an eligible queue. -/
theorem State.chosen_strict (s : State) {n c : Nat} (h : ¬ s.ctrlReady n) (hc : c ≤ 2) (hne : s.eligibles n c ≠ [])
    (hlow : ∀ b, b < c → s.eligibles n b = []) :
    ∃ q, nextAfter (s.eligibles n c) (look 0 (s.blvPort n).last c) = some q ∧
      s.chosen n = (some q, { s.blvPort n with last := store 0 c q (s.blvPort n).last }) := by
  obtain ⟨q, hq, hs⟩ :=
    strict_lowest (p := s.blvPort n) hne (Nat.zero_le c) (show c < 0 + 3 by omega) (fun b _ => hlow b)
  exact ⟨q, hq, by rw [s.chosen_noCtrl h, hs]⟩

/-- R245: with classes 0 to 2 idle the deficit round robin chooses. -/
theorem State.chosen_drr (s : State) {n : Nat} (h : ¬ s.ctrlReady n) (hlow : ∀ c, c ≤ 2 → s.eligibles n c = []) :
    s.chosen n = drr (s.eligibles n) (s.headLen n) (fun c => 64 * s.quantum c) 10 (s.blvPort n) := by
  rw [s.chosen_noCtrl h, strict_none (fun b _ hb => hlow b (by omega))]

/-- The port asks for a candidate: it has none that is eligible (R246). -/
def State.asks (s : State) (n : Nat) : Prop := ∀ q, (s.blvPort n).cand = some q → s.candOk n q = false

/-- A port that asks takes the chosen queue as candidate. -/
theorem State.nextCandidate_asks (s : State) {n : Nat} (h : s.asks n) :
    s.nextCandidate n = s.setBlvPort n { (s.chosen n).2 with cand := (s.chosen n).1 } := by
  unfold State.nextCandidate
  rw [if_pos]
  · rfl
  · split
    case h_1 q hq => simp [h q hq]
    case h_2 => rfl

/-- A port whose candidate is eligible keeps it. -/
theorem State.nextCandidate_idle (s : State) {n : Nat} (h : ¬ s.asks n) : s.nextCandidate n = s := by
  obtain ⟨q, hq⟩ := not_forall.mp h
  obtain ⟨hcand, hok⟩ := Classical.not_imp.mp hq
  simp [State.nextCandidate, hcand, hok]

end Sys2Proof.Machine

/-! SUPPORT. Fetching a frame: the transmit FIFO it is written to (R268 to R275), the counter it takes (R321), and
what its dequeue leaves (R19, R254). -/

namespace Sys2Proof.Machine

/-! ## The transmit FIFO -/

/-- An operation on one Arcade changes the Arcades, registers and the Square. -/
def ArcStep (s t : State) : Prop := t = { s with regs := t.regs, sq := t.sq, arc := t.arc }

namespace ArcStep
variable {s t u : State}

theorem refl (s : State) : ArcStep s s := rfl

theorem trans (h : ArcStep s t) (k : ArcStep t u) : ArcStep s u := by
  unfold ArcStep at *
  rw [k, h]

theorem blv (h : ArcStep s t) : t.blv = s.blv := by rw [h]

theorem setArc (s : State) (i : Nat) (a : ArcSt) : ArcStep s (s.setArc i a) := rfl

theorem bump (s : State) (f : Field) : ArcStep s (s.bump f) := rfl

theorem fire (s : State) (src data : Nat) : ArcStep s (s.fire src data) := by
  unfold State.fire
  split <;> rfl

theorem arcFire (s : State) (i bit : Nat) : ArcStep s (s.arcFire i bit) := by
  unfold State.arcFire
  split
  · split
    · rfl
    · exact fire s _ bit
  · exact fire s _ bit

theorem arcHandOver (s : State) (i : Nat) : ArcStep s (s.arcHandOver i) := by
  unfold State.arcHandOver
  dsimp only
  split
  · split
    · exact (setArc s i _).trans (arcFire _ i 1)
    · exact setArc s i _
  · exact refl s

theorem arcOpen (s : State) (i : Nat) : ArcStep s (s.arcOpen i) := by
  have room : ArcStep s (if s.arcRoom i then s else s.arcHandOver i) := by
    split
    · exact refl s
    · exact arcHandOver s i
  unfold State.arcOpen
  split
  · exact setArc s i _
  · dsimp only
    generalize (if s.arcRoom i then s else s.arcHandOver i) = u at room ⊢
    split
    · exact room.trans (setArc u i _)
    · split
      · exact room
      · exact room.trans (setArc u i _)

theorem arcCommit (s : State) (i words : Nat) (l : Load) : ArcStep s (s.arcCommit i words l) := by
  unfold State.arcCommit
  dsimp only
  split
  · exact setArc s i _
  · split
    · exact (setArc s i _).trans (bump _ _)
    · exact (((setArc s i _).trans (bump _ _)).trans (bump _ _)).trans (arcFire _ i 2)

end ArcStep

/-! ## The counter of a session (R321, R322) -/

/-- R321: a session that has taken its last counter is exhausted: EXH is set, the tick kept, and ES144 fires. -/
def State.markExhausted (s : State) (k tick : Nat) (w : BitVec 2048) : State :=
  ({ s.setSes k (withSub w sEXH 1) with blv.exh := put k tick s.blv.exh }).fire 144 k

/-- A session with no counter left. -/
theorem State.takeCounter_spent (s : State) {k : Nat} (h : sub (s.ses k) sTXFC = 2 ^ 32 - 1) :
    s.takeCounter k = (none, s.markExhausted k s.tick (s.ses k)) := by
  simp [State.takeCounter, h, State.markExhausted]

@[simp] theorem State.setSes_ses (s : State) (k : Nat) (v : BitVec 2048) : (s.setSes k v).ses k = v :=
  look_store_same _ _ _ _

/-- From `s` to `t` a session's entry has become `w`, as a counter is taken: of the Boulevard only sessions and EXH ticks
may change, and ports and the own address are as they were. -/
structure SesWritten (k : Nat) (w : BitVec 2048) (s t : State) : Prop where
  ses : t.ses k = w
  blv : t.blv = { s.blv with sessions := t.blv.sessions, exh := t.blv.exh }
  tx : t.tx = s.tx
  ownAddr : t.ownAddr = s.ownAddr

theorem SesWritten.setSes (s : State) (k : Nat) (w : BitVec 2048) : SesWritten k w s (s.setSes k w) :=
  ⟨s.setSes_ses k w, rfl, rfl, rfl⟩

theorem SesWritten.trans {k : Nat} {v w : BitVec 2048} {s t u : State} (h : SesWritten k v s t)
    (g : SesWritten k w t u) : SesWritten k w s u :=
  ⟨g.ses, by rw [g.blv, h.blv], g.tx.trans h.tx, g.ownAddr.trans h.ownAddr⟩

/-- An event of a session keeps its entry. -/
theorem SesWritten.fire (s : State) (k : Nat) {src : Nat} (h : src = 144 ∨ src = 145) (data : Nat) :
    SesWritten k (s.ses k) s (s.fire src data) := by
  refine ⟨by simp [State.ses], by simp, by simp, State.ownAddr_congr ?_ (by simp) (by simp)⟩
  refine State.get_of_reg (s.reg_fire_other ?_ data)
  rcases h with rfl | rfl <;> decide

theorem SesWritten.markExhausted (s : State) (k tick : Nat) (w : BitVec 2048) :
    SesWritten k (withSub w sEXH 1) s (s.markExhausted k tick w) := by
  have entry : SesWritten k (withSub w sEXH 1) s
      { s.setSes k (withSub w sEXH 1) with blv.exh := put k tick s.blv.exh } :=
    ⟨s.setSes_ses k _, rfl, rfl, rfl⟩
  have fired := SesWritten.fire { s.setSes k (withSub w sEXH 1) with blv.exh := put k tick s.blv.exh } k (.inl rfl) k
  rw [entry.ses] at fired
  exact entry.trans fired

/-- R321: a session with a counter left takes the next one; TXFC shows it, and NEIGH stays. -/
theorem State.takeCounter_next (s : State) {k : Nat} (h : sub (s.ses k) sTXFC + 1 < 2 ^ 32) :
    ∃ w t, s.takeCounter k = (some (sub (s.ses k) sTXFC + 1), t) ∧ SesWritten k w s t ∧
      sub w sTXFC = sub (s.ses k) sTXFC + 1 ∧ sub w sNEIGH = sub (s.ses k) sNEIGH := by
  generalize hv : s.ses k = v at h
  set c := sub v sTXFC + 1 with hc
  set w0 := withSub v sTXFC c with hw0
  have txfc : sub w0 sTXFC = c := (sub_withSub_same v (by simp [sTXFC]) c).trans (Nat.mod_eq_of_lt h)
  have neigh : sub w0 sNEIGH = sub v sNEIGH := sub_withSub_other v (by simp [sTXFC, sNEIGH]) c
  -- the entry after the warning, and after the exhaustion, that the last counters bring
  have other : ∀ (w : BitVec 2048) (f : Sub), f = sWARNED ∨ f = sEXH →
      sub (withSub w f 1) sTXFC = sub w sTXFC ∧ sub (withSub w f 1) sNEIGH = sub w sNEIGH := by
    rintro w f (rfl | rfl) <;>
      exact ⟨sub_withSub_other w (by simp [sTXFC, sWARNED, sEXH]) 1,
        sub_withSub_other w (by simp [sNEIGH, sWARNED, sEXH]) 1⟩
  have warned : ∃ w1 t1, SesWritten k w1 s t1 ∧ sub w1 sTXFC = c ∧ sub w1 sNEIGH = sub v sNEIGH ∧
      s.takeCounter k = (some c, if c = 0xFFFFFFFF then t1.markExhausted k s.tick w1 else t1) := by
    have hne : ¬ sub v sTXFC = 0xFFFFFFFF := by omega
    simp only [State.takeCounter, hv, if_neg hne, ← hc, ← hw0]
    generalize (decide (0xFFFFFFFF - c ≤ 2 ^ s.get CPH_CFG_HEADROOM) && sub v sWARNED == 0) = warn
    cases warn with
    | false => exact ⟨w0, _, SesWritten.setSes s k w0, txfc, neigh, rfl⟩
    | true =>
      obtain ⟨htx, hne⟩ := other w0 sWARNED (.inl rfl)
      refine ⟨withSub w0 sWARNED 1, _, ?_, htx.trans txfc, hne.trans neigh, rfl⟩
      have fired := SesWritten.fire (s.setSes k (withSub w0 sWARNED 1)) k (.inr rfl) k
      rw [s.setSes_ses] at fired
      exact (SesWritten.setSes s k _).trans fired
  obtain ⟨w1, t1, step, htx, hne, heq⟩ := warned
  rw [heq]
  split
  · exact ⟨_, _, rfl, step.trans (SesWritten.markExhausted t1 k s.tick w1), (other w1 sEXH (.inr rfl)).1.trans htx,
      (other w1 sEXH (.inr rfl)).2.trans hne⟩
  · exact ⟨w1, t1, rfl, step, htx, hne⟩

/-! ## Tokens (R247) -/

/-- A refilled bucket holds at most its burst, which fits the field. -/
theorem State.refillTokens_lt (s : State) (p tokens last : Nat) : s.refillTokens p tokens last < 2 ^ 32 := by
  have h : s.get (BLV_SHAPE1_BURST (p - 1)) < 2 ^ 24 := s.get_lt _
  unfold State.refillTokens
  omega

@[simp] theorem State.setQueue_queue (s : State) (q : Nat) (v : BitVec 256) : (s.setQueue q v).queue q = v :=
  look_store_same _ _ _ _

/-- R247: a visit of a shaped queue writes its bucket and the tick of the visit, in its entry alone. -/
theorem State.refillQueue_shaped (s : State) {q : Nat} (h : sub (s.queue q) qSHAPE ≠ 0) :
    let t := s.refillQueue q
    t = s.setQueue q (t.queue q) ∧ sub (t.queue q) qLAST = s.bucketNow ∧
      sub (t.queue q) qTOKENS =
        s.refillTokens (sub (s.queue q) qSHAPE) (sub (s.queue q) qTOKENS) (sub (s.queue q) qLAST) := by
  simp only [State.refillQueue, if_neg h, s.setQueue_queue]
  refine ⟨trivial, ?_, ?_⟩
  · rw [sub_withSub_same _ (by simp [qLAST])]
    exact Nat.mod_eq_of_lt (Nat.mod_lt _ (Nat.two_pow_pos _))
  · rw [sub_withSub_other _ (by simp [qLAST, qTOKENS]), sub_withSub_same _ (by simp [qTOKENS])]
    exact Nat.mod_eq_of_lt (s.refillTokens_lt _ _ _)

theorem State.refillQueue_unshaped (s : State) {q : Nat} (h : sub (s.queue q) qSHAPE = 0) : s.refillQueue q = s := by
  simp [State.refillQueue, h]

/-- R247: a visit of a shaped session writes its bucket and the tick of the visit, in its entry alone. -/
theorem State.refillSes_shaped (s : State) {k : Nat} (h : sub (s.ses k) sSHAPE ≠ 0) :
    let t := s.refillSes k
    t = s.setSes k (t.ses k) ∧ sub (t.ses k) sLAST = s.bucketNow ∧
      sub (t.ses k) sTOKENS = s.refillTokens (sub (s.ses k) sSHAPE) (sub (s.ses k) sTOKENS) (sub (s.ses k) sLAST) := by
  simp only [State.refillSes, if_neg h, s.setSes_ses]
  refine ⟨trivial, ?_, ?_⟩
  · rw [sub_withSub_same _ (by simp [sLAST])]
    exact Nat.mod_eq_of_lt (Nat.mod_lt _ (Nat.two_pow_pos _))
  · rw [sub_withSub_other _ (by simp [sLAST, sTOKENS]), sub_withSub_same _ (by simp [sTOKENS])]
    exact Nat.mod_eq_of_lt (s.refillTokens_lt _ _ _)

theorem State.refillSes_unshaped (s : State) {k : Nat} (h : sub (s.ses k) sSHAPE = 0) : s.refillSes k = s := by
  simp [State.refillSes, h]

/-- From `s` to `t` only queue and session entries have changed, and no counter of a session. -/
structure Tokens (s t : State) : Prop where
  only : t = { s with blv.queues := t.blv.queues, blv.sessions := t.blv.sessions }
  txfc : ∀ k, sub (t.ses k) sTXFC = sub (s.ses k) sTXFC

theorem Tokens.refl (s : State) : Tokens s s := ⟨rfl, fun _ => rfl⟩

theorem Tokens.trans {s t u : State} (h : Tokens s t) (g : Tokens t u) : Tokens s u :=
  ⟨by rw [g.only, h.only], fun k => (g.txfc k).trans (h.txfc k)⟩

theorem Tokens.setQueue (s : State) (q : Nat) (v : BitVec 256) : Tokens s (s.setQueue q v) := ⟨rfl, fun _ => rfl⟩

theorem Tokens.setSes (s : State) {k : Nat} {v : BitVec 2048} (h : sub v sTXFC = sub (s.ses k) sTXFC) :
    Tokens s (s.setSes k v) := by
  refine ⟨rfl, fun j => ?_⟩
  by_cases hj : j = k
  · subst hj; rw [s.setSes_ses, h]
  · exact congrArg (sub · sTXFC) (look_store_other _ _ hj _ _)

theorem Tokens.refillQueue (s : State) (q : Nat) : Tokens s (s.refillQueue q) := by
  unfold State.refillQueue
  dsimp only
  split
  · exact Tokens.refl s
  · exact Tokens.setQueue s q _

theorem Tokens.refillSes (s : State) (k : Nat) : Tokens s (s.refillSes k) := by
  unfold State.refillSes
  dsimp only
  split
  · exact Tokens.refl s
  · refine Tokens.setSes s ?_
    rw [sub_withSub_other _ (by simp [sLAST, sTXFC]), sub_withSub_other _ (by simp [sTOKENS, sTXFC])]

/-- R247: taking tokens takes no counter. -/
theorem Tokens.takeTokens (s : State) (q len : Nat) : Tokens s (s.takeTokens q len) := by
  have queued : Tokens s (if sub ((s.refillQueue q).queue q) qSHAPE = 0 then s.refillQueue q
      else (s.refillQueue q).setQueue q (withSub ((s.refillQueue q).queue q) qTOKENS
        (sub ((s.refillQueue q).queue q) qTOKENS - 256 * len))) := by
    split
    · exact Tokens.refillQueue s q
    · exact (Tokens.refillQueue s q).trans (Tokens.setQueue _ q _)
  unfold State.takeTokens
  dsimp only
  generalize (if sub ((s.refillQueue q).queue q) qSHAPE = 0 then s.refillQueue q else _) = u at queued ⊢
  split
  · exact queued
  · have visited := queued.trans (Tokens.refillSes u (u.queueSes q))
    split
    · exact visited
    · refine visited.trans (Tokens.setSes _ ?_)
      rw [sub_withSub_other _ (by simp [sTOKENS, sTXFC])]

/-! ## From the queue to the port -/

theorem State.txPort_setTxPort (s : State) (n : Nat) (p : TxPort) : (s.setTxPort n p).txPort n = p :=
  look_store_same _ _ _ _

/-- R254: a retained frame moves its cells and stands in its queue; sessions and ports are as they were. -/
theorem State.retain_blv (s : State) {q : Nat} {f : TxFrame} :
    (s.retain q f).blv.led = { s.blv.led with
      queued := s.blv.led.queued - f.cells
      retained := s.blv.led.retained + f.cells } ∧
    (s.retain q f).blv.frames = (s.setFrame q { f with retained := true }).blv.frames ∧
    (s.retain q f).blv.sessions = s.blv.sessions := by
  unfold State.retain
  dsimp only
  split <;> exact ⟨rfl, rfl, rfl⟩

/-- The frame as it is handed to its port (R268, R273). -/
def State.handed (s : State) (n : Nat) (f : TxFrame) : TxFrame :=
  { f with
    ready := true
    arriving := false
    treq := s.timeReq n f }

/-- R268, R273: a frame written to its port stands in its queue as ready, among the port's frames to send, and not among
those to send again; ledger and sessions are as they were. -/
theorem State.toPort_dropCand (s : State) (n q : Nat) {f : TxFrame} (h : ∃ g ∈ s.framesOf q, g.id = f.id) :
    let t := (s.toPort n q f).dropCand n
    (t.blvPort n).cand = none ∧ (q, f.id) ∈ (t.txPort n).ready ∧ (q, f.id) ∉ (t.txPort n).again ∧
      t.blv.led = s.blv.led ∧ t.blv.sessions = s.blv.sessions ∧ t.frameOf q f.id = some (s.handed n f) := by
  intro t
  have step := (ArcStep.arcOpen s (2 * n + 1)).trans
    (ArcStep.arcCommit _ (2 * n + 1) (packetWords (s.lineLen n f)) (.tx q f.id))
  generalize hu : (s.arcOpen (2 * n + 1)).arcCommit (2 * n + 1) (packetWords (s.lineLen n f)) (.tx q f.id) = u at step
  have ht : t = ((u.setFrame q (s.handed n f)).setTxPort n { u.txPort n with
      ready := (u.txPort n).ready ++ [(q, f.id)]
      again := (u.txPort n).again.filter (fun x => x != (q, f.id)) }).dropCand n := by
    simp only [t, State.toPort, hu]; rfl
  have hin : ∃ g ∈ u.framesOf q, g.id = (s.handed n f).id := by
    rw [State.framesOf_congr (s := s) (by rw [step.blv]) q]; exact h
  have hport : t.txPort n = { u.txPort n with
      ready := (u.txPort n).ready ++ [(q, f.id)]
      again := (u.txPort n).again.filter (fun x => x != (q, f.id)) } := by
    rw [ht]; exact State.txPort_setTxPort _ n _
  refine ⟨?_, ?_, ?_, ?_, ?_, ?_⟩
  · rw [ht]; exact congrArg BlvPort.cand (State.blvPort_setBlvPort _ n _)
  · simp [hport]
  · simp [hport]
  · rw [ht, ← step.blv]; rfl
  · rw [ht, ← step.blv]; rfl
  · rw [ht]; exact u.frameOf_setFrame hin

/-- The frame a dequeue makes of an unsecured one: with the addresses of its hop, its body as it is sent (R19, R221). -/
def State.dequeued (s : State) (q key : Nat) (f : TxFrame) : TxFrame :=
  { s.address q f with
    wire := sealFrame key (s.address q f)
    retained := true }

theorem State.address_fields (s : State) (q : Nat) (f : TxFrame) :
    (s.address q f).id = f.id ∧ (s.address q f).body = f.body ∧ (s.address q f).lfc.sec = f.lfc.sec ∧
      (s.address q f).lfc.fcnt = f.lfc.fcnt ∧ (s.address q f).lfc.seq = f.lfc.seq := by
  unfold State.address
  split <;> exact ⟨rfl, rfl, rfl, rfl, rfl⟩

/-- R19, R254: what the dequeue of an unsecured frame of a queue leaves. -/
theorem State.dequeue_unsecured (s : State) (n key : Nat) {q : Nat} {f : TxFrame} (hsec : f.lfc.sec = false)
    (h : ∃ g ∈ s.framesOf q, g.id = f.id) :
    let t := s.dequeue n q key f
    (t.blvPort n).cand = none ∧ (q, f.id) ∈ (t.txPort n).ready ∧
      t.blv.led.queued = s.blv.led.queued - f.cells ∧ t.blv.led.retained = s.blv.led.retained + f.cells ∧
      (∀ k, sub (t.ses k) sTXFC = sub (s.ses k) sTXFC) ∧
      ∃ u : State, t.frameOf q f.id = some (u.handed n (s.dequeued q key f)) := by
  obtain ⟨hid, hbody, hsec', -, -⟩ := s.address_fields q f
  have tokens : Tokens s (if q < 2 ^ 20 then s.takeTokens q (s.lineLen n f) else s) := by
    split
    · exact Tokens.takeTokens s q _
    · exact Tokens.refl s
  generalize hu : (if q < 2 ^ 20 then s.takeTokens q (s.lineLen n f) else s) = u at tokens
  have ht : s.dequeue n q key f = ((u.retain q (s.dequeued q key f)).toPort n q (s.dequeued q key f)).dropCand n := by
    unfold State.dequeue
    simp only [hu, hsec', hsec, Bool.false_and, Bool.false_eq_true, if_false]
    rfl
  have hblv : u.blv.frames = s.blv.frames ∧ u.blv.led = s.blv.led := by rw [tokens.only]; exact ⟨rfl, rfl⟩
  have hin : ∃ g ∈ u.framesOf q, g.id = (s.dequeued q key f).id := by
    rw [State.framesOf_congr hblv.1 q]
    exact hid.symm ▸ h
  obtain ⟨hled, hframes, hses⟩ := u.retain_blv (q := q) (f := s.dequeued q key f)
  have hin' : ∃ g ∈ (u.retain q (s.dequeued q key f)).framesOf q, g.id = (s.dequeued q key f).id := by
    rw [State.framesOf_congr hframes q]
    exact u.mem_setFrame (f := { s.dequeued q key f with retained := true }) hin
  have hcells : (s.dequeued q key f).cells = f.cells := congrArg (fun b : List Byte => cellsOf b.length) hbody
  obtain ⟨hcand, hready, -, hled', hses', hframe⟩ :=
    (u.retain q (s.dequeued q key f)).toPort_dropCand n q hin'
  rw [← ht] at hcand hready hled' hses' hframe
  rw [show (s.dequeued q key f).id = f.id from hid] at hready hframe
  refine ⟨hcand, hready, ?_, ?_, fun k => ?_, _, hframe⟩
  · rw [hled', hled, hcells, hblv.2]
  · rw [hled', hled, hcells, hblv.2]
  · rw [← tokens.txfc k]
    simp only [State.ses, hses', hses]

/-! ## The first fetch of an unsecured frame (R246, R321) -/

/-- Whether a frame takes a counter depends on the queues. -/
theorem State.counted_congr {s t : State} (h : t.blv.queues = s.blv.queues) (q : Nat) (f : TxFrame) :
    t.counted q f = s.counted q f := by simp only [State.counted, State.queue, h]

theorem State.queueSes_congr {s t : State} (h : t.blv.queues = s.blv.queues) (q : Nat) :
    t.queueSes q = s.queueSes q := by
  unfold State.queueSes State.queue
  rw [h]

/-- R321: with a counter left, a frame at the head of its queue goes with the next one. -/
theorem State.fetchCounted_next (s : State) (n : Nat) {q : Nat} {f : TxFrame} (hin : f ∈ s.framesOf q)
    (hsec : f.lfc.sec = false) (hcount : s.counted q f = true)
    (hc : sub (s.ses (s.queueSes q)) sTXFC + 1 < 2 ^ 32) :
    let k := s.queueSes q
    let c := sub (s.ses k) sTXFC + 1
    let t := s.fetchCounted n q 0 f
    (t.blvPort n).cand = none ∧ sub (t.ses k) sTXFC = c ∧ (q, f.id) ∈ (t.txPort n).ready ∧
      t.blv.led.queued = s.blv.led.queued - f.cells ∧ t.blv.led.retained = s.blv.led.retained + f.cells ∧
      ∃ g : TxFrame, t.frameOf q f.id = some g ∧ g.lfc.fcnt = c ∧ g.lfc.seq = c % 65536 ∧ g.retained = true ∧
        g.ready = true ∧ g.body = f.body ∧ g.wire = f.body ∧ g.lfc.src = s.ownAddr ∧
        g.lfc.dst = sub (s.ses k) sNEIGH := by
  intro k c t
  obtain ⟨w, u, htake, step, htx, hneigh⟩ := s.takeCounter_next hc
  set g0 : TxFrame := { f with lfc := { f.lfc with fcnt := c, seq := c % 65536 } } with hg0
  have ht : t = u.dequeue n q 0 g0 := by
    simp only [t, State.fetchCounted, htake]
    rfl
  have hblv : u.blv.frames = s.blv.frames ∧ u.blv.led = s.blv.led ∧ u.blv.queues = s.blv.queues := by
    rw [step.blv]; exact ⟨rfl, rfl, rfl⟩
  obtain ⟨hframes, hled, hqueues⟩ := hblv
  have hin' : ∃ g ∈ u.framesOf q, g.id = g0.id := ⟨f, by rw [State.framesOf_congr hframes q]; exact hin, rfl⟩
  have hcounted : u.counted q g0 = true := by rw [State.counted_congr hqueues]; exact hcount
  have haddr : u.address q g0 = { g0 with lfc := { g0.lfc with
      src := s.ownAddr
      dst := sub (s.ses k) sNEIGH
      esrc := if g0.lfc.relay then g0.lfc.esrc else s.ownAddr
      edst := if g0.lfc.relay then g0.lfc.edst else sub (s.ses k) sNEIGH } } := by
    simp only [State.address, hcounted, if_true, step.ownAddr, State.queueSes_congr hqueues]
    rw [show u.ses (s.queueSes q) = w from step.ses, hneigh]
  have hwire : sealFrame 0 (u.address q g0) = f.body := by
    rw [haddr]; simp [sealFrame, hg0, hsec]
  obtain ⟨hcand, hready, hq, hr, htxfc, v, hframe⟩ := u.dequeue_unsecured n 0 (f := g0) hsec hin'
  rw [← ht] at hcand hready hq hr htxfc hframe
  rw [hled] at hq hr
  refine ⟨hcand, ?_, hready, hq, hr, _, hframe, ?_⟩
  · rw [htxfc k, step.ses, htx]
  · simp only [State.handed, State.dequeued, hwire]
    rw [haddr]
    exact ⟨rfl, rfl, trivial, trivial, rfl, trivial, rfl, rfl⟩

/-- The sources of the security events belong to the always-on domain. -/
theorem State.sourceOn_exhausted (s : State) (h : s.domOn dAon = true) : s.sourceOn 144 = true := by
  have hd : sourceDomain 144 = dAon := by decide
  have hp : sourcePort 144 = none := by decide
  simp [State.sourceOn, hd, hp, h]

/-- R321, R322: with no counter left the frame stays QUEUED and the session is exhausted. -/
theorem State.fetchCounted_spent (s : State) (n : Nat) {q : Nat} {f : TxFrame}
    (hc : sub (s.ses (s.queueSes q)) sTXFC = 2 ^ 32 - 1) :
    let k := s.queueSes q
    let t := s.fetchCounted n q 0 f
    (t.blvPort n).cand = none ∧ t.blv.frames = s.blv.frames ∧ t.blv.led = s.blv.led ∧ sub (t.ses k) sEXH = 1 ∧
      (s.domOn dAon = true → fired s t 144 k) := by
  intro k t
  have ht : t = (s.markExhausted k s.tick (s.ses k)).dropCand n := by
    simp only [t, State.fetchCounted, s.takeCounter_spent hc]; rfl
  have step := SesWritten.markExhausted s k s.tick (s.ses k)
  rw [ht]
  refine ⟨congrArg BlvPort.cand (State.blvPort_setBlvPort _ n _), ?_, ?_, ?_, fun hon => ?_⟩
  · show (s.markExhausted k s.tick (s.ses k)).blv.frames = _
    rw [step.blv]
  · show (s.markExhausted k s.tick (s.ses k)).blv.led = _
    rw [step.blv]
  · show sub ((s.markExhausted k s.tick (s.ses k)).ses k) sEXH = 1
    rw [step.ses, sub_withSub_same _ (by simp [sEXH])]
    rfl
  · exact State.fired_fire { s.setSes k (withSub (s.ses k) sEXH 1) with blv.exh := put k s.tick s.blv.exh }
      (State.sourceOn_exhausted _ hon) k

end Sys2Proof.Machine

/-! The choice of a queue, the fetch of its head, exhaustion, shaping and cell returns (R243 to R247, R254, R255, R321,
R322). -/

namespace Sys2Proof.Machine

/-! ## The commands -/

/-- SCHEDULER_DECISION of a present port, the fabric being on, is the port's request for a candidate. -/
theorem exec_schedulerDecision {s : State} {n : Fin 16} (hfab : s.domOn dFab = true) (hn : n.val < s.ports) :
    exec (.schedulerDecision n) s = .next (s.nextCandidate n) := by
  show execSchedulerDecision n s = _
  simp [execSchedulerDecision, hfab, hn]

/-- R246: with no frame to send again, the head of the candidate is fetched next. -/
theorem State.nextFetch_cand {s : State} {n q : Nat} {f : TxFrame} {rest : List TxFrame} (ha : (s.txPort n).again = [])
    (hc : (s.blvPort n).cand = some q) (hf : s.framesOf q = f :: rest) : s.nextFetch n = some (q, f) := by
  simp [State.nextFetch, ha, hc, hf]

/-- R178, R279: a frame to be sent again is fetched before the candidate. -/
theorem State.nextFetch_again {s : State} {n q : Nat} {f : TxFrame} {more : List (Nat × Nat)}
    (ha : (s.txPort n).again = (q, f.id) :: more) (hf : s.frameOf q f.id = some f) (hr : f.relayOf = none) :
    s.nextFetch n = some (q, f) := by
  simp [State.nextFetch, ha, hf, hr]

/-- CANDIDATE_FETCH of a candidate: dropped when it no longer meets R244, else fetched once a packet has begun. -/
theorem exec_candidateFetch_cand {s : State} {n : Fin 16} {q : Nat} {f : TxFrame} {rest : List TxFrame}
    (ha : (s.txPort n.val).again = []) (hc : (s.blvPort n.val).cand = some q) (hf : s.framesOf q = f :: rest) :
    (s.candOk n.val q = false → exec (.candidateFetch n) s = .next (s.dropCand n.val)) ∧
      (s.candOk n.val q = true → (s.arcOpen (2 * n.val + 1)).arcIsOpen (2 * n.val + 1) = true →
        exec (.candidateFetch n) s = .next (s.fetch n.val q f)) := by
  have hx : exec (.candidateFetch n) s = execCandidateFetch n s := rfl
  rw [hx]
  constructor
  · intro hok; simp [execCandidateFetch, State.nextFetch_cand ha hc hf, ha, hok]
  · intro hok ho; simp [execCandidateFetch, State.nextFetch_cand ha hc hf, ha, hok, ho]

/-- CANDIDATE_FETCH of a frame to be sent again, once a packet has begun. -/
theorem exec_candidateFetch_again {s : State} {n : Fin 16} {q : Nat} {f : TxFrame} {more : List (Nat × Nat)}
    (ha : (s.txPort n.val).again = (q, f.id) :: more) (hf : s.frameOf q f.id = some f) (hr : f.relayOf = none)
    (ho : (s.arcOpen (2 * n.val + 1)).arcIsOpen (2 * n.val + 1) = true) :
    exec (.candidateFetch n) s = .next (s.fetch n.val q f) := by
  show execCandidateFetch n s = _
  simp [execCandidateFetch, State.nextFetch_again ha hf hr, ha, ho]

/-- R246, R321: the first fetch of a frame of a session that needs no key takes a counter. -/
theorem State.fetch_unsecured (s : State) (n : Nat) {q : Nat} {f : TxFrame} (hp : f.poison = false)
    (ht : f.timed = false) (hr : f.retained = false) (hsec : f.lfc.sec = false) (hc : s.counted q f = true) :
    s.fetch n q f = s.fetchCounted n q 0 f := by
  simp [State.fetch, State.fetchFirst, hp, ht, hr, hsec, hc]

/-- R178: a retained frame goes again from its cells. -/
theorem State.fetch_retained (s : State) (n q : Nat) {f : TxFrame} (hp : f.poison = false)
    (ht : f.timed = false) (hr : f.retained = true) : s.fetch n q f = (s.toPort n q f).dropCand n := by
  simp [State.fetch, hp, ht, hr]

/-! ## Fetching -/

/-- R246, R321: what CANDIDATE_FETCH does with the head of an eligible candidate, an unsecured unicast frame. -/
theorem State.fetch_candidate (s : State) (n : Fin 16) {q : Nat} {f : TxFrame} (hin : f ∈ s.framesOf q)
    (hcount : s.counted q f = true) (hsec : f.lfc.sec = false) (ht : f.timed = false) (hp : f.poison = false)
    (hr : f.retained = false) :
    let k := s.queueSes q
    let c := sub (s.ses k) sTXFC + 1
    let t := s.fetch n.val q f
    (t.blvPort n.val).cand = none ∧
      (c < 2 ^ 32 → sub (t.ses k) sTXFC = c ∧ (q, f.id) ∈ (t.txPort n.val).ready ∧
        t.blv.led.queued = s.blv.led.queued - f.cells ∧ t.blv.led.retained = s.blv.led.retained + f.cells ∧
        ∃ g : TxFrame, t.frameOf q f.id = some g ∧ g.lfc.fcnt = c ∧ g.lfc.seq = c % 65536 ∧ g.retained = true ∧
          g.ready = true ∧ g.body = f.body ∧ g.wire = f.body ∧ g.lfc.src = s.ownAddr ∧
          g.lfc.dst = sub (s.ses k) sNEIGH) ∧
      (c = 2 ^ 32 → s.domOn dAon = true → t.blv.frames = s.blv.frames ∧ t.blv.led = s.blv.led ∧
        sub (t.ses k) sEXH = 1 ∧ fired s t 144 k) := by
  intro k c t
  have hfetch : t = s.fetchCounted n.val q 0 f := s.fetch_unsecured n.val hp ht hr hsec hcount
  have hnext : c = sub (s.ses k) sTXFC + 1 := rfl
  have hlast : c ≤ 2 ^ 32 := sub_lt (s.ses k) sTXFC
  rw [hfetch]
  by_cases hc : c < 2 ^ 32
  · obtain ⟨hcand, taken⟩ := s.fetchCounted_next n.val hin hsec hcount hc
    exact ⟨hcand, fun _ => taken, fun h => absurd h (by omega)⟩
  · have hspent : sub (s.ses k) sTXFC = 2 ^ 32 - 1 := by omega
    obtain ⟨hcand, hframes, hled, hexh, hfired⟩ := s.fetchCounted_spent n.val (q := q) (f := f) hspent
    exact ⟨hcand, fun h => absurd h hc, fun _ hon => ⟨hframes, hled, hexh, hfired hon⟩⟩

/-! ## Cell returns -/

/-- R255: the oldest return frees its cells and posts what it owes. -/
theorem exec_cellReturnComplete {s : State} {r : Return} {rest : List Return} (h : s.blv.returns = r :: rest) :
    exec .cellReturnComplete s = .next (s.endReturn r rest) := by
  show execCellReturnComplete s = _
  simp [execCellReturnComplete, h]

/-- The cells of the return are free, and it is no longer in progress. -/
theorem State.endReturn_blv (s : State) (r : Return) (rest : List Return) :
    (s.endReturn r rest).blv = { s.blv with
      returns := rest
      led := { s.blv.led with free := s.blv.led.free + r.cells } } := by
  unfold State.endReturn State.postComplO
  split
  · exact State.postCompl_blv _ _
  · rfl

/-- R20: the completion it owes is posted once its cells are free. -/
theorem State.endReturn_owes (s : State) {r : Return} (rest : List Return) {c : Compl} (h : r.compl = some c) :
    s.endReturn r rest = State.postCompl { s with
      blv.returns := rest
      blv.led.free := s.blv.led.free + r.cells } c := by
  simp [State.endReturn, State.postComplO, h]

/-- A COMPL ring that is stopped keeps its producer index, and nothing is sent (R290). -/
theorem State.postCompl_stopped_keeps (s : State) {c : Compl} (hm : s.mode ≠ mSafe)
    (hs : s.flag (HIF_RSTAT_STOPPED c.ring) = true) : (s.postCompl c).posted = s.posted ∧
      (s.postCompl c).get (HIF_RPROD_P c.ring) = s.get (HIF_RPROD_P c.ring) := by
  rw [s.postCompl_stopped hm hs]
  refine ⟨rfl, State.get_of_reg (s.settleCompl_reg ?_ ?_)⟩ <;>
    simp only [HIF_RPROD_P, a_HIF_RPROD, a_HIF_RSTAT] <;> omega

/-- Settles O43: the choice by `strict_lowest` and `drr_serves`, the fetch by what taking a counter and the dequeue
leave, exhaustion by following each frame through the queues drained, shaping and returns by their one command. -/
theorem framesAreChosenAndFetched : Obligations.FramesAreChosenAndFetched := by
  refine ⟨fun s n hfab hn hsorted => ?decision, fun s n q f rest hagain hcand hhead => ?candidate,
    fun s n q f more hagain hin hp hrelay ht hr ho => ?again, fun s session t0 hexh => ?exhaustion,
    fun s i => ?shaping, fun s => ?returns⟩
  case decision =>
    have hx := exec_schedulerDecision hfab hn
    refine ⟨fun ha => by rw [hx, s.nextCandidate_idle ha], fun ha => ⟨_, hx, ?_⟩⟩
    rw [s.nextCandidate_asks ha, State.blvPort_setBlvPort]
    refine ⟨rfl, fun hc => congrArg Prod.fst (s.chosen_ctrl hc), fun hc c h2 hne hlow => ?_,
      fun hc hlow h3 h7 => ⟨fun hnone => ?_, fun hsome hquanta hlens => ?_⟩⟩
    · obtain ⟨q, hq, he⟩ := s.chosen_strict hc h2 hne hlow
      rw [he]
      exact ⟨q, rfl, nextAfter_mem hq, look_store_same _ _ _ _,
        nextAfter_least (s.eligibleOf_pairwise hsorted _ _ _) hq⟩
    · rw [s.chosen_drr hc hlow]
      exact drr_none hnone ⟨h3, h7⟩
    · rw [s.chosen_drr hc hlow]
      refine drr_serves (fun c q hc3 hc7 hq => ?_) ⟨h3, h7⟩ hsome
      have quantum := hquanta c hc3 hc7
      unfold State.headLen
      split
      · have := hlens c q _ _ hq ‹_›
        omega
      · omega
  case candidate =>
    obtain ⟨hdrop, hfetch⟩ := exec_candidateFetch_cand hagain hcand hhead
    exact ⟨hdrop, fun hok hcount hsec ht hp hr _ ho => ⟨_, hfetch hok ho,
      s.fetch_candidate n (by simp [hhead]) hcount hsec ht hp hr⟩⟩
  case again =>
    have hx := exec_candidateFetch_again hagain hin hrelay ho
    rw [s.fetch_retained n.val q hp ht hr] at hx
    obtain ⟨-, hready, hgone, hled, hses, -⟩ := s.toPort_dropCand n.val q (f := f)
      ⟨f, List.mem_of_find?_eq_some hin, rfl⟩
    exact ⟨_, hx, hses, hled, hready, hgone⟩
  case exhaustion =>
    have hx : ∀ u, execExhTimeout session s = .next u → exec (.exhTimeout session) s = .next u := fun _ h => h
    refine ⟨fun hdue => hx _ ?_, fun hdue => ⟨_, hx (s.exhaust session.toNat) ?_, ?_⟩⟩
    · simp only [execExhTimeout, hexh]
      exact congrArg _ (if_neg hdue)
    · simp only [execExhTimeout, hexh]
      exact congrArg _ (if_pos hdue)
    · have drains := s.exhaust_drains session.toNat
      refine ⟨?_, drains.regs, drains.sq, fun q hq f hf hr hn => ?_⟩
      · rw [drains.exh]
        simp [find_put]
      · exact forEach_drainQueue_gone hq _ hf hr hn
  case shaping =>
    have hx : ∀ b u, execShaperRefillVisit b i s = .next u → exec (.shaperRefillVisit b i) s = .next u := fun _ _ h => h
    refine ⟨fun hb hs => ⟨_, hx _ _ (by simp [execShaperRefillVisit, hb]), s.refillQueue_shaped hs⟩, fun h => hx _ _ ?_,
      fun hv hs => ⟨_, hx _ _ (by simp [execShaperRefillVisit, hv]), s.refillSes_shaped hs⟩, fun h => hx _ _ ?_⟩
    · rcases h with h | h <;> simp [execShaperRefillVisit, h, State.refillQueue_unshaped]
    · rcases h with h | h <;> simp [execShaperRefillVisit, h, State.refillSes_unshaped]
  case returns =>
    refine ⟨fun h => ?_, fun r rest h => ⟨_, exec_cellReturnComplete h, ?_, ?_, fun hnone => ?_,
      fun c hc hm hring _ => ?_⟩⟩
    · show execCellReturnComplete s = _
      simp [execCellReturnComplete, h]
    · rw [s.endReturn_blv]
    · rw [s.endReturn_blv]
    · simp [State.endReturn, State.postComplO, hnone]
    · rw [s.endReturn_owes rest hc]
      generalize hu : ({ s with
        blv.returns := rest
        blv.led.free := s.blv.led.free + r.cells } : State) = u
      have hregs : ∀ a, u.reg a = s.reg a := fun a => by rw [← hu]; rfl
      have hmode : u.mode ≠ mSafe := by rw [← hu]; exact hm
      refine ⟨fun hl => ?_, fun hs => ?_, ?_⟩
      · have hl' : u.flag (HIF_RSTAT_STOPPED c.ring) = false := by rw [← hu]; exact hl
        exact completed_congr (hregs _) (hregs _) (hregs _) (hregs _) (u.postCompl_completed hmode hring hl')
      · have hs' : u.flag (HIF_RSTAT_STOPPED c.ring) = true := by rw [← hu]; exact hs
        obtain ⟨hposted, hprod⟩ := u.postCompl_stopped_keeps hmode hs'
        exact ⟨hposted.trans (by rw [← hu]), hprod.trans (State.get_of_reg (hregs _))⟩
      · rw [u.postCompl_resv hmode hring, State.get_of_reg (hregs _)]

end Sys2Proof.Machine

/-! SUPPORT. Taking a descriptor (R288, R290, R299), and the ways it ends: with a completion at once, or with a frame or
a buffer that waits (R292 to R296). -/

namespace Sys2Proof.Machine

/-! ## Descriptors that may be taken -/

/-- R288, R290, R299: ring `n` is an enabled ring of the type, not stopped, has a descriptor, and its COMPL ring is
enabled, not stopped and has room beyond RESV; in SAFE none is taken. -/
def State.Ready (s : State) (n type : Nat) : Prop :=
  s.mode ≠ mSafe ∧ s.get (HIF_RCFG_TYPE n) = type ∧ s.flag (HIF_RCFG_EN n) = true ∧
    s.flag (HIF_RSTAT_STOPPED n) = false ∧ s.get (HIF_RPROD_P n) ≠ s.get (HIF_RCONS_C n) ∧
    s.get (HIF_RCFG_TYPE (s.peer n)) = 3 ∧ s.flag (HIF_RCFG_EN (s.peer n)) = true ∧
    s.flag (HIF_RSTAT_STOPPED (s.peer n)) = false ∧
    s.get (HIF_RSTAT_RESV (s.peer n)) + 1 + s.rFill 0 (s.peer n) ≤ 2 ^ s.get (HIF_RCFG_LOGSZ (s.peer n))

/-- R287: a ring has an entry where its indices differ. -/
theorem State.rFill_ne_zero (s : State) (n : Nat) :
    s.rFill 0 n ≠ 0 ↔ s.get (HIF_RPROD_P n) ≠ s.get (HIF_RCONS_C n) := by
  have hp : s.get (HIF_RPROD_P n) < 2 ^ 32 := s.get_lt _
  have hc : s.get (HIF_RCONS_C n) < 2 ^ 32 := s.get_lt _
  have hfill : s.rFill 0 n = (s.get (HIF_RPROD_P n) + 2 ^ 32 - s.get (HIF_RCONS_C n)) % 2 ^ 32 := rfl
  omega

/-- A live ring of function 0. -/
theorem State.rLive_iff (s : State) {n : Nat} (hn : n < 4096) (type : Nat) :
    s.rLive 0 n type = true ↔ s.get (HIF_RCFG_TYPE n) = type ∧ s.flag (HIF_RCFG_EN n) = true ∧
      s.flag (HIF_RSTAT_STOPPED n) = false := by
  simp [State.rLive, ringCount, hn, rType, rEn, rStopped, and_assoc]

theorem State.mayTake_iff (s : State) {n : Nat} (hn : n < 4096) (type : Nat) :
    s.mayTake n type = true ↔ s.Ready n type := by
  have room : s.rSize 0 (s.peer n) = 2 ^ s.get (HIF_RCFG_LOGSZ (s.peer n)) := rfl
  simp only [State.mayTake, State.credit, State.Ready, Bool.and_eq_true, bne_iff_ne, decide_eq_true_eq,
    s.rLive_iff hn, s.rLive_iff (s.peer_lt n), s.rFill_ne_zero, tCompl, room, and_assoc]

/-! ## A taken descriptor (R299) -/

@[simp] theorem State.take1_blv (s : State) (n : Nat) : (s.take1 n).blv = s.blv := rfl

theorem State.take1_queue (s : State) (n q : Nat) : (s.take1 n).queue q = s.queue q := by
  simp only [State.queue, State.take1_blv]

/-- The registers of a state that has taken a descriptor: C of its ring and RESV of its COMPL ring are written. -/
theorem State.take1_regs (s : State) (n : Nat) : (s.take1 n).regs =
    ((s.set (HIF_RCONS_C n) (s.get (HIF_RCONS_C n) + 1)).set (HIF_RSTAT_RESV (s.peer n))
      (s.get (HIF_RSTAT_RESV (s.peer n)) + 1)).regs := rfl

theorem State.take1_get (s : State) (n : Nat) (f : Field) : (s.take1 n).get f =
    ((s.set (HIF_RCONS_C n) (s.get (HIF_RCONS_C n) + 1)).set (HIF_RSTAT_RESV (s.peer n))
      (s.get (HIF_RSTAT_RESV (s.peer n)) + 1)).get f :=
  State.get_of_reg (State.reg_congr (s.take1_regs n) _)

/-- Every other register is as it was. -/
theorem State.take1_reg (s : State) {n a : Nat} (hc : a ≠ a_HIF_RCONS n) (hr : a ≠ a_HIF_RSTAT (s.peer n)) :
    (s.take1 n).reg a = s.reg a := by
  rw [State.reg_congr (s.take1_regs n)]
  exact (State.reg_set_other _ (f := HIF_RSTAT_RESV (s.peer n)) hr _).trans
    (State.reg_set_other _ (f := HIF_RCONS_C n) hc _)

/-- Registers beside those of the rings. -/
theorem State.take1_reg_outside (s : State) {n a : Nat} (hn : n < 4096) (ha : a < 0x40000 ∨ 0x60000 ≤ a) :
    (s.take1 n).reg a = s.reg a := by
  have hp := s.peer_lt n
  refine s.take1_reg ?_ ?_ <;> simp only [a_HIF_RCONS, a_HIF_RSTAT] <;> omega

/-- C advances. -/
theorem State.take1_cons (s : State) (n : Nat) :
    (s.take1 n).get (HIF_RCONS_C n) = (s.get (HIF_RCONS_C n) + 1) % 2 ^ 32 := by
  rw [s.take1_get, State.get_set_addr]
  · exact s.get_set_same (by simp [HIF_RCONS_C]) _
  · simp only [HIF_RCONS_C, HIF_RSTAT_RESV, a_HIF_RCONS, a_HIF_RSTAT]
    omega

/-- R299: the completion of the descriptor is reserved. -/
theorem State.take1_resv (s : State) {n : Nat} (h : s.get (HIF_RSTAT_RESV (s.peer n)) + 1 < 2 ^ 17) :
    (s.take1 n).get (HIF_RSTAT_RESV (s.peer n)) = s.get (HIF_RSTAT_RESV (s.peer n)) + 1 := by
  rw [s.take1_get, State.get_set_same _ (by simp [HIF_RSTAT_RESV])]
  exact Nat.mod_eq_of_lt h

theorem State.take1_stopped (s : State) (n : Nat) :
    (s.take1 n).get (HIF_RSTAT_STOPPED (s.peer n)) = s.get (HIF_RSTAT_STOPPED (s.peer n)) := by
  rw [s.take1_get, State.get_set_bits _ (.inr (by simp [HIF_RSTAT_RESV, HIF_RSTAT_STOPPED])), State.get_set_addr]
  simp only [HIF_RCONS_C, HIF_RSTAT_STOPPED, a_HIF_RCONS, a_HIF_RSTAT]
  omega

theorem State.take1_peer (s : State) (n : Nat) : (s.take1 n).peer n = s.peer n := by
  refine State.peer_congr (s.take1_reg ?_ ?_) <;> simp only [a_HIF_RCFG, a_HIF_RCONS, a_HIF_RSTAT] <;> omega

theorem State.take1_mode (s : State) {n : Nat} (hn : n < 4096) : (s.take1 n).mode = s.mode :=
  State.get_of_reg (s.take1_reg_outside hn (.inl (by decide)))

theorem State.take1_ownAddr (s : State) {n : Nat} (hn : n < 4096) : (s.take1 n).ownAddr = s.ownAddr :=
  State.ownAddr_congr (s.take1_mode hn) rfl rfl

theorem State.take1_profile (s : State) {n : Nat} (hn : n < 4096) (p : Nat) : (s.take1 n).profile p = s.profile p :=
  State.get_of_reg (s.take1_reg_outside hn (.inr (by simp only [PRT_PROFILE_ACT, a_PRT_PROFILE]; omega)))

theorem State.take1_floor (s : State) {n : Nat} (hn : n < 4096) (c : Nat) : (s.take1 n).floor c = s.floor c := by
  have hf : ∀ i, (s.take1 n).get (BLV_FLOOR_FLOOR i) = s.get (BLV_FLOOR_FLOOR i) := fun i =>
    State.get_of_reg (s.take1_reg_outside hn (.inr (by simp only [BLV_FLOOR_FLOOR, a_BLV_FLOOR]; omega)))
  induction c with
  | zero => exact hf 0
  | succ k ih => simp only [State.floor, hf, ih]

theorem State.take1_admitsCells (s : State) {n : Nat} (hn : n < 4096) (c k : Nat) :
    (s.take1 n).admitsCells c k = s.admitsCells c k := by
  simp only [State.admitsCells, s.take1_floor hn, State.take1_blv]

theorem State.take1_descCheck (s : State) {n : Nat} (hn : n < 4096) (x : TxDesc) :
    (s.take1 n).descCheck x = s.descCheck x := by
  unfold State.descCheck
  simp only [s.take1_profile hn]
  rfl

theorem State.take1_descCompl (s : State) (n : Nat) (x : TxDesc) (st : Nat) :
    (s.take1 n).descCompl n x st = s.descCompl n x st := by
  simp only [State.descCompl, s.take1_peer]

theorem State.take1_rxCompl (s : State) (n token st : Nat) : (s.take1 n).rxCompl n token st = s.rxCompl n token st := by
  simp only [State.rxCompl, s.take1_peer]

/-! ## How a taken descriptor ends -/

/-- C of ring `n` has advanced. -/
def Took (s t : State) (n : Nat) : Prop := t.get (HIF_RCONS_C n) = (s.get (HIF_RCONS_C n) + 1) % 2 ^ 32

/-- The descriptor has ended with its completion, and no cell has moved. -/
def Ends (s t : State) (n : Nat) (c : Compl) : Prop :=
  Took s t n ∧ completed s t c ∧ t.get (HIF_RSTAT_RESV c.ring) = s.get (HIF_RSTAT_RESV c.ring) ∧ t.blv = s.blv

/-- The descriptor's completion is reserved, and nothing has been sent. -/
def Waits (s t : State) (n : Nat) : Prop :=
  Took s t n ∧ t.posted = s.posted ∧
    t.get (HIF_RSTAT_RESV (s.peer n)) = s.get (HIF_RSTAT_RESV (s.peer n)) + 1

/-- R299: RESV of a COMPL ring of at most 2^16 entries has room for one descriptor more. -/
theorem State.Ready.resv_lt {s : State} {n type : Nat} (h : s.Ready n type)
    (hsize : s.get (HIF_RCFG_LOGSZ (s.peer n)) ≤ 16) : s.get (HIF_RSTAT_RESV (s.peer n)) + 1 < 2 ^ 17 := by
  obtain ⟨-, -, -, -, -, -, -, -, hroom⟩ := h
  have : 2 ^ s.get (HIF_RCFG_LOGSZ (s.peer n)) ≤ 2 ^ 16 := Nat.pow_le_pow_right (by omega) hsize
  omega

/-- From the state that has taken a descriptor of ring `n` to `u`, no ring's register has changed. -/
def SameRings (s u : State) : Prop := ∀ a, a < 0x60000 → u.reg a = s.reg a

/-- A completion posted once the descriptor is taken ends it. -/
theorem State.Ready.ends {s u : State} {n type : Nat} (h : s.Ready n type) (hn : n < 4096)
    (hsize : s.get (HIF_RCFG_LOGSZ (s.peer n)) ≤ 16) (hu : SameRings (s.take1 n) u) (hblv : u.blv = s.blv) {c : Compl}
    (hring : c.ring = s.peer n) : Ends s (u.postCompl c) n c := by
  have hresv := s.take1_resv (h.resv_lt hsize)
  obtain ⟨hm, -, -, -, -, -, -, hlive, -⟩ := h
  have hp := s.peer_lt n
  have low : ∀ {a}, (a = a_HIF_RBASELO c.ring ∨ a = a_HIF_RBASEHI c.ring ∨ a = a_HIF_RCFG c.ring ∨
      a = a_HIF_RPROD c.ring) → u.reg a = s.reg a := by
    intro a ha
    simp only [a_HIF_RBASELO, a_HIF_RBASEHI, a_HIF_RCFG, a_HIF_RPROD] at ha
    refine (hu a (by omega)).trans (s.take1_reg ?_ ?_) <;> simp only [a_HIF_RCONS, a_HIF_RSTAT] <;> omega
  have hstat : a_HIF_RSTAT (s.peer n) < 0x60000 := by simp only [a_HIF_RSTAT]; omega
  have hmode : u.mode ≠ mSafe := by
    rw [show u.mode = (s.take1 n).mode from State.get_of_reg (hu _ (by decide)), s.take1_mode hn]; exact hm
  have hlive' : u.flag (HIF_RSTAT_STOPPED c.ring) = false := by
    rw [hring, State.flag_of_reg (hu _ hstat), State.flag, s.take1_stopped]; exact hlive
  have hringlt : c.ring < 4096 := by rw [hring]; exact hp
  refine ⟨?_, completed_congr (low (by simp)) (low (by simp)) (low (by simp)) (low (by simp))
    (u.postCompl_completed hmode hringlt hlive'), ?_, by rw [u.postCompl_blv, hblv]⟩
  · refine (u.postCompl_cons c hn).trans ((State.get_of_reg (hu _ ?_)).trans (s.take1_cons n))
    simp only [HIF_RCONS_C, a_HIF_RCONS]
    omega
  · rw [u.postCompl_resv hmode hringlt, hring, State.get_of_reg (hu _ hstat), hresv]
    omega

/-- What is kept of the rings once the descriptor is taken, with nothing sent, leaves it waiting. -/
theorem State.Ready.waits {s u : State} {n type : Nat} (h : s.Ready n type) (hn : n < 4096)
    (hsize : s.get (HIF_RCFG_LOGSZ (s.peer n)) ≤ 16) (hu : SameRings (s.take1 n) u) (hp : u.posted = s.posted) :
    Waits s u n := by
  have hpeer := s.peer_lt n
  refine ⟨(State.get_of_reg (hu _ ?_)).trans (s.take1_cons n), hp,
    (State.get_of_reg (hu _ ?_)).trans (s.take1_resv (h.resv_lt hsize))⟩
  · simp only [HIF_RCONS_C, a_HIF_RCONS]; omega
  · simp only [HIF_RSTAT_RESV, a_HIF_RSTAT]; omega

end Sys2Proof.Machine

/-! SUPPORT. Transmit submissions (R292 to R295): the checks in their order, and the frame that a submission links. -/

namespace Sys2Proof.Machine

/-! ## The checks of R292 -/

/-- Check 1: a reserved field, a length or a time out of range. -/
def TxDesc.Malformed (x : TxDesc) : Prop := x.rsvdOk = false ∨ x.len = 0 ∨ 9184 < x.len ∨ 999999999 < x.ns

/-- The queue of a descriptor is bound. -/
def State.Bound (s : State) (x : TxDesc) : Prop := x.queue < s.queueCount ∧ sub (s.queue x.queue) qBOUND = 1

/-- Check 4: another class than the queue's, or SECURE where no session serves it. -/
def State.Unfit (s : State) (x : TxDesc) : Prop :=
  x.cls ≠ sub (s.queue x.queue) qCLASS ∨ (x.secure = true ∧ (sub (s.queue x.queue) qBCAST = 1 ∨ s.isT = true))

theorem State.descCheck_malformed (s : State) {x : TxDesc} (h : x.Malformed) : s.descCheck x = some 10 :=
  if_pos (by simpa [TxDesc.Malformed, or_assoc] using h)

theorem State.descCheck_auth (s : State) {x : TxDesc} (h : ¬ x.Malformed) (ha : x.auth = true) :
    s.descCheck x = if s.authOk x then none else some 10 := by
  unfold State.descCheck
  rw [if_neg (by simpa [TxDesc.Malformed, or_assoc] using h), if_pos ha]

/-- A well-formed submission to a queue goes through the checks of the queue. -/
theorem State.descCheck_queue (s : State) {x : TxDesc} (h : ¬ x.Malformed) (ha : x.auth = false) :
    (¬ s.Bound x → s.descCheck x = some 11) ∧
    (s.Bound x → s.qQuar x.queue = true → s.descCheck x = some 7) ∧
    (s.Bound x → s.qQuar x.queue = false → s.Unfit x → s.descCheck x = some 10) ∧
    (s.Bound x → s.qQuar x.queue = false → ¬ s.Unfit x → s.profile (s.queuePort x.queue) ≠ pfG3 →
      s.descCheck x = none) := by
  have formed := h
  have unbound : (s.queueCount ≤ x.queue ∨ sub (s.queue x.queue) qBOUND = 0) ↔ ¬ s.Bound x := by
    have := sub_lt (s.queue x.queue) qBOUND
    simp only [State.Bound, qBOUND] at this ⊢
    omega
  have unfit : (x.cls ≠ sub (s.queue x.queue) qCLASS ∨
      (x.secure && (sub (s.queue x.queue) qBCAST == 1 || s.isT)) = true) ↔ s.Unfit x := by
    simp [State.Unfit]
  unfold State.descCheck
  rw [if_neg (by simpa [TxDesc.Malformed, or_assoc] using formed), if_neg (by simp [ha])]
  dsimp only
  refine ⟨fun hb => if_pos (unbound.mpr hb), fun hb hq => ?_, fun hb hq hu => ?_, fun hb hq hu hp => ?_⟩
  all_goals rw [if_neg (fun e => unbound.mp e hb)]
  · rw [if_pos hq]
  · rw [if_neg (by simp [hq]), if_pos (unfit.mpr hu)]
  · rw [if_neg (by simp [hq]), if_neg (fun e => hu (unfit.mp e)), if_neg (fun e => hp e.1)]

/-! ## Linking a frame (R243, R254) -/

/-- R243, R254: a linked frame stands last in its queue, and its cells go from RX to QUEUED. -/
theorem State.linkFrame_spec (s : State) (q : Nat) (f : TxFrame) :
    let t := s.linkFrame q f
    t.regs = s.regs ∧ t.posted = s.posted ∧
      t.blv.led = { s.blv.led with rx := s.blv.led.rx - f.cells, queued := s.blv.led.queued + f.cells } ∧
      ∃ i e, t.framesOf q = s.framesOf q ++ [{ f with id := i, enq := s.tick, expire := e }] := by
  unfold State.linkFrame
  dsimp only
  split
  · exact ⟨rfl, rfl, rfl, _, _, State.framesOf_setFrames_same _ q _⟩
  · exact ⟨rfl, rfl, rfl, _, _, State.framesOf_setFrames_same _ q _⟩

/-- R254: an admitted submission takes its cells, which become QUEUED, and stands last in its queue; no register of a
ring changes and nothing is sent. -/
theorem State.submitLink_admitted (s : State) (r q : Nat) {d : TxDesc} {f : TxFrame}
    (h : s.admitsCells d.cls f.cells = true) :
    let t := s.submitLink r q d f
    SameRings s t ∧ t.posted = s.posted ∧
      t.blv.led = { s.blv.led with free := s.blv.led.free - f.cells, queued := s.blv.led.queued + f.cells } ∧
      ∃ i e, t.framesOf q = s.framesOf q ++ [{ f with id := i, enq := s.tick, expire := e }] := by
  obtain ⟨hregs, hposted, hled, hframes⟩ := ((s.takeCells f.cells).arcPass (32 + r % 4)).linkFrame_spec q f
  unfold State.submitLink
  rw [if_pos h]
  refine ⟨fun a ha => ?_, hposted, ?_, hframes⟩
  · rw [State.reg_congr hregs]
    refine State.reg_bump_other _ ?_ 1
    simp only [ARC_CNT_COMMIT, a_ARC_CNT]
    omega
  · rw [hled]
    show ({ s.blv.led with
      free := s.blv.led.free - f.cells
      rx := s.blv.led.rx + f.cells - f.cells
      queued := s.blv.led.queued + f.cells } : Ledger) = _
    rw [Nat.add_sub_cancel]

/-- A refused allocation is counted beside the rings' registers. -/
theorem State.countNoCell_sameRings (s : State) (rx : Bool) : SameRings s (s.countNoCell rx) := by
  intro a ha
  have hno : ∀ {f : Field}, f.addr = a_BLV_NOCELL → (s.bump f).reg a = s.reg a := fun hf =>
    s.reg_bump_other (by rw [hf]; simp only [a_BLV_NOCELL]; omega) 1
  unfold State.countNoCell
  split
  · rfl
  · split
    · exact hno rfl
    · exact hno rfl

@[simp] theorem State.countNoCell_blv (s : State) (rx : Bool) : (s.countNoCell rx).blv = s.blv := by
  unfold State.countNoCell
  split
  · rfl
  · split <;> rfl

theorem State.submitLink_refused (s : State) (r q : Nat) {d : TxDesc} {f : TxFrame}
    (h : s.admitsCells d.cls f.cells = false) :
    s.submitLink r q d f = (s.countNoCell false).postCompl (s.descCompl r d 2) := by
  unfold State.submitLink
  rw [if_neg (by simp [h])]

/-! ## Submissions -/

/-- A submission that fails a check completes with its status. -/
theorem State.submit_fails (s : State) (r : Nat) {d : TxDesc} {st : Nat} (h : s.descCheck d = some st)
    (body : List Byte) : s.submit r d body = s.postCompl (s.descCompl r d st) := by
  simp only [State.submit, h]

/-- R292: a submission of the own link layer. -/
theorem State.submit_own (s : State) (r : Nat) {d : TxDesc} (h : s.descCheck d = none) (ha : d.auth = false)
    (hp : s.profile (s.queuePort d.queue) ≠ pfG3) (body : List Byte) :
    s.submit r d body = s.submitLink r d.queue d (s.ownFrame d (s.submitFrame r d body)) := by
  simp [State.submit, h, ha, hp]

/-- R294: the AUTH frame of a submission to a node that did not knock through a repeater. -/
def State.directAuth (s : State) (d : TxDesc) (f : TxFrame) : TxFrame :=
  { f with
    auth := true
    port := d.queue
    lfc := { ftype := 4, src := s.ownAddr, dst := addrNone, esrc := s.ownAddr, edst := addrNone } }

/-- R294: an AUTH submission goes on the control queue of its port. -/
theorem State.submit_auth (s : State) (r : Nat) {d : TxDesc} (h : s.descCheck d = none) (ha : d.auth = true)
    {body : List Byte} (hj : ∀ j ∈ s.hif.joins, j.eui = leNat (body.take 8) → j.via = 0) :
    s.submit r d body = s.submitLink r (ctrlQueue d.queue) d (s.directAuth d (s.submitFrame r d body)) := by
  have noRelay : s.hif.joins.find?
      (fun j => j.eui == leNat ((s.submitFrame r d body).body.take 8) && j.via != 0) = none := by
    rw [List.find?_eq_none]
    intro j hjm
    simpa [State.submitFrame] using hj j hjm
  have direct : s.authFrame d (s.submitFrame r d body) = (s.directAuth d (s.submitFrame r d body), s) := by
    simp only [State.authFrame, noRelay]
    rfl
  simp only [State.submit, h, if_pos ha, direct]

/-- R221, R292: what a frame of the own link layer takes from its descriptor and its queue. -/
theorem State.ownFrame_fields (s : State) (d : TxDesc) (f : TxFrame) :
    ∃ l : Lfc, s.ownFrame d f = { f with lfc := l } ∧ l.sec = d.secure ∧
      (sub (s.queue d.queue) qBCAST = 1 → l.src = s.ownAddr ∧ l.dst = addrAll ∧ l.ackreq = false) ∧
      (¬ sub (s.queue d.queue) qBCAST = 1 → l.ackreq = true) := by
  unfold State.ownFrame
  dsimp only
  split
  case isTrue hb => exact ⟨_, rfl, rfl, fun _ => ⟨rfl, rfl, rfl⟩, fun h => absurd hb h⟩
  case isFalse hb => exact ⟨_, rfl, rfl, fun h => absurd h hb, fun _ => rfl⟩

/-- The body of a submission, of the descriptor's length. -/
def TxDesc.bodyOf (x : TxDesc) (body : List Byte) : List Byte := (body ++ List.replicate x.len 0).take x.len

theorem TxDesc.bodyOf_length (x : TxDesc) (body : List Byte) : (x.bodyOf body).length = x.len := by
  simp [TxDesc.bodyOf]

/-- TX_SUBMIT_DESCRIPTOR takes a descriptor where its ring is ready and its Arcade is not being flushed. -/
theorem exec_txSubmitDescriptor (s : State) (r : BitVec 12) (d : BitVec 256) (body : List Byte) :
    let go := s.Ready r.toNat 1 ∧ s.flag (ARC_CFG_FLUSH (32 + r.toNat % 4)) = false
    (¬ go → exec (.txSubmitDescriptor r d body) s = .next s) ∧
      (go → exec (.txSubmitDescriptor r d body) s =
        .next ((s.take1 r.toNat).submit r.toNat (TxDesc.ofBits d) ((TxDesc.ofBits d).bodyOf body))) := by
  intro go
  have guard : (s.mayTake r.toNat tTxSub && !s.hostHeld (32 + r.toNat % 4)) = true ↔ go := by
    simp only [Bool.and_eq_true, s.mayTake_iff r.isLt, Bool.not_eq_true', State.hostHeld, tTxSub, go]
  have hx : exec (.txSubmitDescriptor r d body) s = execTxSubmitDescriptor r d body s := rfl
  rw [hx]
  exact ⟨fun h => congrArg _ (if_neg (fun e => h (guard.mp e))), fun h => congrArg _ (if_pos (guard.mpr h))⟩

/-! ## A submission once its descriptor is taken -/

section
variable {s : State} {n : Nat} (hn : n < 4096) (hready : s.Ready n 1) (hsize : s.get (HIF_RCFG_LOGSZ (s.peer n)) ≤ 16)
include hn hready hsize

/-- A failed check ends the descriptor. -/
theorem submit_ends {x : TxDesc} {st : Nat} (h : s.descCheck x = some st) (body : List Byte) :
    Ends s ((s.take1 n).submit n x body) n (s.descCompl n x st) := by
  rw [(s.take1 n).submit_fails n ((s.take1_descCheck hn x).trans h), s.take1_descCompl]
  exact hready.ends hn hsize (fun _ _ => rfl) rfl rfl

/-- R256: a frame without cells ends the descriptor. -/
theorem submitLink_ends {x : TxDesc} {q : Nat} {f : TxFrame} (h : s.admitsCells x.cls f.cells = false) :
    Ends s ((s.take1 n).submitLink n q x f) n (s.descCompl n x 2) := by
  rw [(s.take1 n).submitLink_refused n q ((s.take1_admitsCells hn _ _).trans h), s.take1_descCompl]
  exact hready.ends hn hsize (State.countNoCell_sameRings _ _) (State.countNoCell_blv _ _) rfl

/-- R254: a frame with cells waits in its queue. -/
theorem submitLink_waits {x : TxDesc} {q : Nat} {f : TxFrame} (h : s.admitsCells x.cls f.cells = true) :
    let t := (s.take1 n).submitLink n q x f
    Waits s t n ∧
      t.blv.led = { s.blv.led with free := s.blv.led.free - f.cells, queued := s.blv.led.queued + f.cells } ∧
      ∃ i e, t.framesOf q = s.framesOf q ++ [{ f with id := i, enq := s.tick, expire := e }] := by
  obtain ⟨hrings, hposted, hled, hframes⟩ :=
    (s.take1 n).submitLink_admitted n q ((s.take1_admitsCells hn x.cls f.cells).trans h)
  exact ⟨hready.waits hn hsize hrings hposted, hled, hframes⟩

/-- R292: a submission of the own link layer that passes every check ends without cells, or waits as a frame at the end
of its queue. -/
theorem submit_own_outcome {x : TxDesc} {b : List Byte} (hlen : b.length = x.len) (hcheck : s.descCheck x = none)
    (ha : x.auth = false) (hown : s.profile (s.queuePort x.queue) ≠ pfG3) :
    let t := (s.take1 n).submit n x b
    let k := cellsOf x.len
    let bcast := sub (s.queue x.queue) qBCAST = 1
    (s.admitsCells x.cls k = false → Ends s t n (s.descCompl n x 2)) ∧
      (s.admitsCells x.cls k = true → Waits s t n ∧
        t.blv.led = { s.blv.led with free := s.blv.led.free - k, queued := s.blv.led.queued + k } ∧
        ∃ g : TxFrame, t.framesOf x.queue = s.framesOf x.queue ++ [g] ∧ g.body = b ∧ g.cls = x.cls ∧
          g.lfc.sec = x.secure ∧ g.cut = x.cut ∧ g.timed = x.timed ∧ g.launchNs = x.launch ∧
          g.compl = some (s.peer n, x.token, n) ∧ g.retained = false ∧ g.enq = s.tick ∧
          (bcast → g.lfc.src = s.ownAddr ∧ g.lfc.dst = addrAll ∧ g.lfc.ackreq = false) ∧
          (¬ bcast → g.lfc.ackreq = true)) := by
  intro t k bcast
  obtain ⟨l, hframe, hsec, hbcast, hucast⟩ := (s.take1 n).ownFrame_fields x ((s.take1 n).submitFrame n x b)
  rw [s.take1_queue] at hbcast hucast
  rw [s.take1_ownAddr hn] at hbcast
  have hcells : ((s.take1 n).ownFrame x ((s.take1 n).submitFrame n x b)).cells = k := by
    rw [hframe]; exact congrArg cellsOf hlen
  have ht : t = (s.take1 n).submitLink n x.queue x ((s.take1 n).ownFrame x ((s.take1 n).submitFrame n x b)) :=
    (s.take1 n).submit_own n ((s.take1_descCheck hn x).trans hcheck) ha (by rw [s.take1_profile hn]; exact hown) b
  rw [ht]
  refine ⟨fun hno => submitLink_ends hn hready hsize (by rw [hcells]; exact hno), fun hadm => ?_⟩
  obtain ⟨hwaits, hled, i, e, hframes⟩ :=
    submitLink_waits hn hready hsize (q := x.queue) ((congrArg (s.admitsCells x.cls) hcells).trans hadm)
  rw [hcells] at hled
  refine ⟨hwaits, hled, _, hframes, ?_⟩
  rw [hframe]
  exact ⟨rfl, rfl, hsec, rfl, rfl, rfl, congrArg (fun p => some (p, x.token, n)) (s.take1_peer n), rfl, rfl, hbcast,
    hucast⟩

/-- R294: an admitted AUTH submission waits as an AUTH frame on the control queue of its port. -/
theorem submit_auth_waits {x : TxDesc} {b : List Byte} (hlen : b.length = x.len) (hcheck : s.descCheck x = none)
    (ha : x.auth = true) (hauth : s.authOk x = true)
    (hj : ∀ j ∈ s.hif.joins, j.eui = leNat (b.take 8) → j.via = 0) (hadm : s.admitsCells 0 (cellsOf x.len) = true) :
    let t := (s.take1 n).submit n x b
    Waits s t n ∧ ∃ g : TxFrame, t.framesOf (ctrlQueue x.queue) = s.framesOf (ctrlQueue x.queue) ++ [g] ∧ g.body = b ∧
      g.auth = true ∧ g.lfc.ftype = 4 ∧ g.lfc.src = s.ownAddr ∧ g.lfc.dst = addrNone ∧ g.lfc.ackreq = false := by
  intro t
  have class0 : x.cls = 0 := by
    simp only [State.authOk, Bool.and_eq_true, beq_iff_eq] at hauth
    obtain ⟨⟨⟨⟨⟨-, hcls⟩, -⟩, -⟩, -⟩, -⟩ := hauth
    exact hcls
  have hcells : ((s.take1 n).directAuth x ((s.take1 n).submitFrame n x b)).cells = cellsOf x.len :=
    congrArg cellsOf hlen
  have ht : t = (s.take1 n).submitLink n (ctrlQueue x.queue) x
      ((s.take1 n).directAuth x ((s.take1 n).submitFrame n x b)) :=
    (s.take1 n).submit_auth n ((s.take1_descCheck hn x).trans hcheck) ha hj
  obtain ⟨hwaits, -, i, e, hframes⟩ := submitLink_waits hn hready hsize (q := ctrlQueue x.queue) (x := x)
    (f := (s.take1 n).directAuth x ((s.take1 n).submitFrame n x b)) (by rw [hcells, class0]; exact hadm)
  rw [ht]
  exact ⟨hwaits, _, hframes, rfl, rfl, rfl, s.take1_ownAddr hn, rfl, rfl⟩

end

end Sys2Proof.Machine

/-! Descriptors are taken and completed once: submissions, receive posts, read errors and deliveries (R20, R290, R292 to
R299). -/

namespace Sys2Proof.Machine

/-! ## Stopping a ring (R290, R300) -/

theorem State.putEvent_reg (s : State) (f r low data word3 : Nat) (lost : Bool) {a : Nat} (h : a ≠ (rP f r).addr) :
    (s.putEvent f r low data word3 lost).reg a = s.reg a := State.reg_set_other _ h _

theorem State.putPayload_reg (f r : Nat) (l : List Nat) {a : Nat} (h : a ≠ (rP f r).addr) (s : State) :
    (s.putPayload f r l).reg a = s.reg a := by
  induction l generalizing s with
  | nil => rfl
  | cons x rest ih => exact (ih _).trans (s.putEvent_reg f r _ _ _ _ h)

theorem State.putPayload_blv (f r : Nat) (l : List Nat) (s : State) : (s.putPayload f r l).blv = s.blv := by
  induction l generalizing s with
  | nil => rfl
  | cons x rest ih => exact ih _

/-- R300: a record changes nothing of the Boulevard. -/
theorem State.putRecord_blv (s : State) (kind r type data : Nat) (l : List Nat) :
    (s.putRecord kind r type data l).blv = s.blv := by
  unfold State.putRecord
  dsimp only
  split
  · rfl
  · split
    · split
      · exact (State.requestVector_blv _ _ _).trans (State.putPayload_blv 0 r l _)
      · exact State.putPayload_blv 0 r l _
    · rfl

/-- R300: below the vectors a record writes only the producer index of its ring, and that only of an event ring. -/
theorem State.putRecord_reg (s : State) (kind r type data : Nat) (l : List Nat) {a : Nat} (hv : a < a_MSIX_PBA 0)
    (hp : s.get (HIF_RCFG_TYPE r) = tEvent → a ≠ a_HIF_RPROD r) :
    (s.putRecord kind r type data l).reg a = s.reg a := by
  have dropped : a ≠ HIF_EVDROP_COUNT.addr := by
    simp only [HIF_EVDROP_COUNT, a_HIF_EVDROP, a_MSIX_PBA] at hv ⊢
    omega
  unfold State.putRecord
  dsimp only
  split
  · rfl
  · split
    case isTrue room =>
      have isEvent : s.get (HIF_RCFG_TYPE r) = tEvent := by
        simp only [State.eventRoom, State.rLive, Bool.and_eq_true, beq_iff_eq] at room
        obtain ⟨⟨⟨⟨-, htype⟩, -⟩, -⟩, -⟩ := room
        exact htype
      have hp' : a ≠ (rP 0 r).addr := hp isEvent
      have entries := (State.putPayload_reg 0 r l hp' _).trans
        (s.putEvent_reg 0 r s.tick (type + data % 2 ^ 24 * 256) (kind * 2 ^ 11 + l.length % 256 * 2 ^ 16)
          (s.ringLost 0 r) hp')
      split
      · exact (State.requestVector_reg _ hv _).trans entries
      · exact entries
    case isFalse => exact s.reg_bump_other dropped 1

/-- R290: a ring of another type than an event ring stops with its error; its indices and the Boulevard are as they
were. -/
theorem State.stopRing_spec (s : State) {n err : Nat} (hn : n < 4096) (he : err < 8)
    (htype : s.get (HIF_RCFG_TYPE n) ≠ tEvent) :
    let t := s.stopRing 0 n err
    t.flag (HIF_RSTAT_STOPPED n) = true ∧ t.get (HIF_RSTAT_ERR n) = err ∧
      t.get (HIF_RPROD_P n) = s.get (HIF_RPROD_P n) ∧ t.get (HIF_RCONS_C n) = s.get (HIF_RCONS_C n) ∧
      t.blv = s.blv := by
  intro t
  -- the status of the ring before RING_ERR is written
  set u := (s.set (HIF_RSTAT_STOPPED n) 1).set (HIF_RSTAT_ERR n) err with hu
  have ht : t = u.notifyRingErr 0 n err := rfl
  have other : ∀ {a}, a ≠ a_HIF_RSTAT n → u.reg a = s.reg a := fun h =>
    (State.reg_set_other _ (f := HIF_RSTAT_ERR n) h _).trans (s.reg_set_other (f := HIF_RSTAT_STOPPED n) h _)
  have kept : ∀ {a}, a < a_MSIX_PBA 0 → (u.get (HIF_RCFG_TYPE (u.get HIF_NOTCFG_RING)) = tEvent →
      a ≠ a_HIF_RPROD (u.get HIF_NOTCFG_RING)) → t.reg a = u.reg a := by
    intro a hv hp
    rw [ht]
    unfold State.notifyRingErr State.notify
    split
    · exact u.putRecord_reg 1 _ 6 _ _ hv hp
    · rfl
  have blv : t.blv = s.blv := by
    rw [ht]
    unfold State.notifyRingErr State.notify
    split
    · exact u.putRecord_blv 1 _ 6 _ _
    · rfl
  have stat : t.reg (a_HIF_RSTAT n) = u.reg (a_HIF_RSTAT n) :=
    kept (by simp only [a_HIF_RSTAT, a_MSIX_PBA]; omega) (fun _ => by simp only [a_HIF_RSTAT, a_HIF_RPROD]; omega)
  have prod : t.reg (a_HIF_RPROD n) = s.reg (a_HIF_RPROD n) := by
    refine (kept (by simp only [a_HIF_RPROD, a_MSIX_PBA]; omega) fun hev heq => htype ?_).trans
      (other (by simp only [a_HIF_RPROD, a_HIF_RSTAT]; omega))
    have hring : u.get HIF_NOTCFG_RING = n := by simp only [a_HIF_RPROD] at heq; omega
    rw [hring] at hev
    exact (State.get_of_reg (other (by simp only [HIF_RCFG_TYPE, a_HIF_RCFG, a_HIF_RSTAT]; omega))).symm.trans hev
  have cons : t.reg (a_HIF_RCONS n) = s.reg (a_HIF_RCONS n) :=
    (kept (by simp only [a_HIF_RCONS, a_MSIX_PBA]; omega)
      (fun _ => by simp only [a_HIF_RCONS, a_HIF_RPROD]; omega)).trans
      (other (by simp only [a_HIF_RCONS, a_HIF_RSTAT]; omega))
  refine ⟨?_, ?_, State.get_of_reg prod, State.get_of_reg cons, blv⟩
  · have stopped : u.get (HIF_RSTAT_STOPPED n) = 1 :=
      (State.get_set_bits _ (.inl (by simp [HIF_RSTAT_STOPPED, HIF_RSTAT_ERR])) err).trans
        (s.get_set_same (by simp [HIF_RSTAT_STOPPED]) 1)
    rw [State.flag_of_reg stat, State.flag, stopped]
    rfl
  · rw [State.get_of_reg stat, hu, State.get_set_same _ (by simp [HIF_RSTAT_ERR])]
    exact Nat.mod_eq_of_lt he

/-- DESCRIPTOR_READ_ERROR stops a live ring of descriptors that has one (R290). -/
theorem exec_descriptorReadError (s : State) (r : BitVec 12) :
    let n := r.toNat
    let due := s.mode ≠ mSafe ∧ (s.get (HIF_RCFG_TYPE n) = 1 ∨ s.get (HIF_RCFG_TYPE n) = 2) ∧
      s.flag (HIF_RCFG_EN n) = true ∧ s.flag (HIF_RSTAT_STOPPED n) = false ∧
      s.get (HIF_RPROD_P n) ≠ s.get (HIF_RCONS_C n)
    (¬ due → exec (.descriptorReadError r) s = .next s) ∧
      (due → exec (.descriptorReadError r) s = .next (s.stopRing 0 n 2)) := by
  intro n due
  have guard : (s.mode != mSafe && (s.rLive 0 n tTxSub || s.rLive 0 n tRxPost) && s.rFill 0 n != 0) = true ↔ due := by
    simp only [Bool.and_eq_true, Bool.or_eq_true, bne_iff_ne, s.rLive_iff (n := n) r.isLt, s.rFill_ne_zero, tTxSub,
      tRxPost, due]
    tauto
  have hx : exec (.descriptorReadError r) s = execDescriptorReadError r s := rfl
  rw [hx]
  exact ⟨fun h => congrArg _ (if_neg (fun e => h (guard.mp e))), fun h => congrArg _ (if_pos (guard.mpr h))⟩

/-! ## A body that could not be read (R292, R293) -/

/-- A submission whose body fails advances C, whatever check ends it. -/
theorem State.submitError_cons (s : State) {n : Nat} (hn : n < 4096) (x : TxDesc) :
    (s.submitError n x).get (HIF_RCONS_C n) = s.get (HIF_RCONS_C n) := by
  unfold State.submitError
  split
  · exact s.postCompl_cons _ hn
  · dsimp only
    split
    · rfl
    · refine (State.postCompl_cons _ _ hn).trans (State.get_of_reg (s.countNoCell_sameRings false _ ?_))
      simp only [HIF_RCONS_C, a_HIF_RCONS]
      omega

/-- R292, check 6: the cells an admissible one took return, and HOST_ERR is owed. -/
theorem State.submitError_returns (s : State) (n : Nat) {x : TxDesc} (hc : s.descCheck x = none)
    (ha : s.admitsCells x.cls (cellsOf x.len) = true) :
    let t := s.submitError n x
    t.posted = s.posted ∧ t.blv.led = { s.blv.led with free := s.blv.led.free - cellsOf x.len } ∧
      t.blv.returns = s.blv.returns ++ [⟨cellsOf x.len, some (s.descCompl n x 12), false⟩] := by
  intro t
  have ht : t = (s.takeCells (cellsOf x.len)).returnRx (cellsOf x.len) (some (s.descCompl n x 12)) := by
    simp only [t, State.submitError, hc, if_pos ha]
  rw [ht]
  refine ⟨rfl, ?_, rfl⟩
  show ({ s.blv.led with
    free := s.blv.led.free - cellsOf x.len
    rx := s.blv.led.rx + cellsOf x.len - cellsOf x.len } : Ledger) = _
  rw [Nat.add_sub_cancel]

/-- HOST_BODY_READ_ERROR of a descriptor just taken. -/
theorem exec_bodyReadError_taken (s : State) (r : BitVec 12) (d : BitVec 256) :
    (¬ s.Ready r.toNat 1 → exec (.hostBodyReadError (.taken r d)) s = .next s) ∧
      (s.Ready r.toNat 1 → exec (.hostBodyReadError (.taken r d)) s =
        .next ((s.take1 r.toNat).submitError r.toNat (TxDesc.ofBits d))) := by
  have guard := s.mayTake_iff r.isLt tTxSub
  have hx : exec (.hostBodyReadError (.taken r d)) s = execHostBodyReadError (.taken r d) s := rfl
  rw [hx]
  exact ⟨fun h => congrArg _ (if_neg (fun e => h (guard.mp e))), fun h => congrArg _ (if_pos (guard.mpr h))⟩

/-! ## Receive posts (R296) -/

/-- The buffer of a post. -/
def rxBufOf (d : BitVec 128) : RxBuf := ⟨bits d 0 64, bits d 64 16, bits d 96 32⟩

/-- A post of no bytes completes BAD_DESC. -/
theorem State.takeBuf_empty (s : State) (n : Nat) {d : BitVec 128} (h : (rxBufOf d).len = 0) :
    s.takeBuf n d = s.postCompl (s.rxCompl n (rxBufOf d).token 10) := if_pos h

/-- Another buffer waits behind those of its ring; no register of a ring changes and nothing is sent. -/
theorem State.takeBuf_waits (s : State) (n : Nat) {d : BitVec 128} (h : (rxBufOf d).len ≠ 0) :
    let t := s.takeBuf n d
    SameRings s t ∧ t.posted = s.posted ∧ t.blv = s.blv ∧
      look [] t.hif.bufs n = look [] s.hif.bufs n ++ [rxBufOf d] := by
  have ht : s.takeBuf n d = { s with hif.bufs := put n (look [] s.hif.bufs n ++ [rxBufOf d]) s.hif.bufs } := if_neg h
  rw [ht]
  exact ⟨fun _ _ => rfl, rfl, rfl, look_put_same _ _ _ _⟩

/-- RX_POST_DESCRIPTOR takes a descriptor where its ring is ready. -/
theorem exec_rxPostDescriptor (s : State) (r : BitVec 12) (d : BitVec 128) :
    (¬ s.Ready r.toNat 2 → exec (.rxPostDescriptor r d) s = .next s) ∧
      (s.Ready r.toNat 2 → exec (.rxPostDescriptor r d) s = .next ((s.take1 r.toNat).takeBuf r.toNat d)) := by
  have guard := s.mayTake_iff r.isLt tRxPost
  have hx : exec (.rxPostDescriptor r d) s = execRxPostDescriptor r d s := rfl
  rw [hx]
  exact ⟨fun h => congrArg _ (if_neg (fun e => h (guard.mp e))), fun h => congrArg _ (if_pos (guard.mpr h))⟩

/-! ## Deliveries (R296, R331) -/

/-- The delivery at the head of its class has gone back with the completion it owes: its cells return, and it waits for
the host no longer. -/
def GoneBack (s t : State) (c : Nat) (d : Delivery) (o : Option Compl) : Prop :=
  t.blv.returns = s.blv.returns ++ [(⟨d.frame.cells, o, false⟩ : Return)] ∧
    t.hif.deliveries = dropFirst (fun (y : Delivery) => y.cls == c) s.hif.deliveries

/-- R296: a frame dropped for want of a place is counted in its field and goes back without a completion. -/
theorem State.dropDelivery (s : State) (c : Nat) (d : Delivery) {f : Field} (hf : f.lo + f.w ≤ 32) :
    let t := ((s.undeliver c).bump f).returnRx d.frame.cells none
    GoneBack s t c d none ∧ t.get f = satAdd f.w (s.get f) 1 ∧ t.posted = s.posted :=
  ⟨⟨rfl, rfl⟩, (s.undeliver c).get_bump_same hf, rfl⟩

/-- RX_DELIVERY outside SAFE delivers the oldest frame of the class. -/
theorem exec_rxDelivery {s : State} {c : Fin 8} {d : Delivery} (hm : s.mode ≠ mSafe)
    (hd : s.hif.deliveries.find? (fun (y : Delivery) => y.cls == c.val) = some d) :
    exec (.rxDelivery c) s = .next (s.deliverHead c d) := by
  have hh : s.headOf c = some d := hd
  show execRxDelivery c s = _
  simp only [execRxDelivery, if_neg hm, hh]

/-- A class that is not mapped drops its frames. -/
theorem State.deliverHead_unmapped {s : State} {c : Nat} (d : Delivery) (h : s.flag (HIF_RXMAP_EN c) = false) :
    s.deliverHead c d = ((s.undeliver c).bump HIF_RXDROP_NOMAP).returnRx d.frame.cells none := by
  simp [State.deliverHead, h]

/-- Without a buffer, or while its Arcade is being flushed, the frame waits. -/
theorem State.deliverHead_waits {s : State} {c : Nat} (d : Delivery) (h : s.flag (HIF_RXMAP_EN c) = true)
    (hw : look [] s.hif.bufs (s.get (HIF_RXMAP_RING c)) = [] ∨
      s.flag (ARC_CFG_FLUSH (36 + s.get (HIF_RXMAP_RING c) % 4)) = true) : s.deliverHead c d = s := by
  unfold State.deliverHead
  simp only [h, Bool.not_true, Bool.false_eq_true, if_false]
  split
  · rfl
  next b rest hb =>
    rw [if_pos]
    exact hw.resolve_left (by simp [hb])

/-- Else the frame takes the next buffer. -/
theorem State.deliverHead_takes {s : State} {c : Nat} (d : Delivery) {b : RxBuf} {rest : List RxBuf}
    (h : s.flag (HIF_RXMAP_EN c) = true) (hb : look [] s.hif.bufs (s.get (HIF_RXMAP_RING c)) = b :: rest)
    (hf : s.flag (ARC_CFG_FLUSH (36 + s.get (HIF_RXMAP_RING c) % 4)) = false) :
    s.deliverHead c d = ({ s.undeliver c with
      hif.bufs := store [] (s.get (HIF_RXMAP_RING c)) rest s.hif.bufs } : State).intoBuf d
        (s.get (HIF_RXMAP_RING c)) b := by
  unfold State.deliverHead
  simp [h, hb, State.hostHeld, hf]

/-- R296, R331: what a frame leaves as it takes a buffer: RX_TOOBIG with the buffer unwritten, a buffer of zeros for one
that failed, else its header and body. -/
theorem State.intoBuf_spec (s : State) (d : Delivery) (r : Nat) (b : RxBuf) :
    let t := s.intoBuf d r b
    let room := 32 + d.body.length
    let back := fun st => t.blv.returns = s.blv.returns ++ [⟨d.frame.cells, some (s.deliverCompl d r b st), false⟩]
    t.hif = s.hif ∧ (b.len < room → t.posted = s.posted ∧ back 0x21) ∧
      (room ≤ b.len → d.failed = true → t.posted = .hostWrite b.addr (List.replicate room 0) :: s.posted ∧ back 0x20) ∧
      (room ≤ b.len → d.failed = false → back 0 ∧ t.posted = .hostWrite b.addr
        (rxHeader d.frame d.cls (s.get (PRT_G3CFG_PANID d.frame.port)) ++ d.body) :: s.posted) := by
  intro t room back
  by_cases hb : b.len < room
  · have ht : t = s.returnRx d.frame.cells (some (s.deliverCompl d r b 0x21)) := if_pos hb
    simp only [back, ht]
    exact ⟨rfl, fun _ => ⟨rfl, rfl⟩, fun h => absurd hb (by omega), fun h => absurd hb (by omega)⟩
  · cases hfail : d.failed with
    | true =>
      have ht : t = (s.post (.hostWrite b.addr (List.replicate room 0))).returnRx d.frame.cells
          (some (s.deliverCompl d r b 0x20)) := (if_neg hb).trans (if_pos hfail)
      simp only [back, ht]
      exact ⟨rfl, fun h => absurd h hb, fun _ _ => ⟨rfl, rfl⟩, fun _ h => Bool.noConfusion h⟩
    | false =>
      have ht : t = ((s.post (.hostWrite b.addr (rxHeader d.frame d.cls (s.get (PRT_G3CFG_PANID d.frame.port)) ++
          d.body))).arcPass (36 + r % 4)).returnRx d.frame.cells (some (s.deliverCompl d r b 0)) :=
        (if_neg hb).trans (if_neg (by simp [hfail]))
      simp only [back, ht]
      exact ⟨rfl, fun h => absurd h hb, fun _ h => Bool.noConfusion h, fun _ _ => ⟨rfl, rfl⟩⟩

/-- RX_BUFFER_WAIT_EXPIRY drops the oldest frame of a class that found no buffer in time (R296). -/
theorem exec_rxBufferWaitExpiry {s : State} {c : Fin 8} {d : Delivery}
    (hd : s.hif.deliveries.find? (fun (y : Delivery) => y.cls == c.val) = some d) :
    let due := look [] s.hif.bufs (s.get (HIF_RXMAP_RING c.val)) = [] ∧
      d.since + s.get (HIF_RXMAP_WAIT c.val) * 125 ≤ s.tick
    (¬ due → exec (.rxBufferWaitExpiry c) s = .next s) ∧
      (due → exec (.rxBufferWaitExpiry c) s =
        .next (((s.undeliver c).bump HIF_RXDROP_NOBUF).returnRx d.frame.cells none)) := by
  intro due
  have hh : s.headOf c = some d := hd
  have guard : ((look [] s.hif.bufs (s.get (HIF_RXMAP_RING c.val))).isEmpty &&
      decide (d.since + s.get (HIF_RXMAP_WAIT c.val) * tUs ≤ s.tick)) = true ↔ due := by
    simp only [Bool.and_eq_true, List.isEmpty_iff, decide_eq_true_eq]
    exact Iff.rfl
  have hx : exec (.rxBufferWaitExpiry c) s = execRxBufferWaitExpiry c s := rfl
  simp only [hx, execRxBufferWaitExpiry, hh]
  exact ⟨fun h => congrArg _ (if_neg (fun e => h (guard.mp e))), fun h => congrArg _ (if_pos (guard.mpr h))⟩

/-- Settles O48: a taken descriptor either ends with one completion (`State.Ready.ends`) or waits with it reserved
(`State.Ready.waits`); the checks of R292 or the length of a post decide which. A delivery or a read error returns the
cells with the completion it owes. -/
theorem descriptorsAreTakenAndCompletedOnce : Obligations.DescriptorsAreTakenAndCompletedOnce := by
  unfold Obligations.DescriptorsAreTakenAndCompletedOnce
  intro ready took ends waits
  refine ⟨fun s r d body => ?submit, fun s r d => ?post, fun s r => ?ringError, fun s r d => ?bodyError,
    fun s q f hf => ?linkedError, fun s c d hm hd => ?delivery, fun s c d hd => ?expiry⟩
  case submit =>
    intro n x b v bad bound bcast own go k
    have hn : n < 4096 := r.isLt
    obtain ⟨hno, hgo⟩ := exec_txSubmitDescriptor s r d body
    refine ⟨hno, fun h hsize => ⟨_, hgo h, ?_⟩⟩
    have hready : s.Ready n 1 := h.1
    have hlen : b.length = x.len := x.bodyOf_length body
    refine ⟨fun hbad => ?_, fun hbad ha hb => ?_, fun hbad ha hb hq => ?_, fun hbad ha hb hq hu => ?_,
      fun hbad ha hb hq hcls hsec hown => ?_, fun hbad ha hauth => ?_, fun hbad hauth ha hj hcells => ?_⟩
    · exact submit_ends hn hready hsize (s.descCheck_malformed hbad) b
    · obtain ⟨hcheck, -, -, -⟩ := s.descCheck_queue hbad ha
      exact submit_ends hn hready hsize (hcheck hb) b
    · obtain ⟨-, hcheck, -, -⟩ := s.descCheck_queue hbad ha
      exact submit_ends hn hready hsize (hcheck hb hq) b
    · obtain ⟨-, -, hcheck, -⟩ := s.descCheck_queue hbad ha
      exact submit_ends hn hready hsize (hcheck hb hq hu) b
    · have fit : ¬ s.Unfit x := by
        rintro (hc | ⟨hs, hbt⟩)
        · exact hc hcls
        · obtain ⟨hnb, hnt⟩ := hsec hs
          exact hbt.elim hnb (by simp [hnt])
      obtain ⟨-, -, -, hcheck⟩ := s.descCheck_queue hbad ha
      exact submit_own_outcome hn hready hsize hlen (hcheck hb hq fit hown) ha hown
    · refine submit_ends hn hready hsize ((s.descCheck_auth hbad ha).trans ?_) b
      rw [if_neg (by simp [hauth])]
    · exact submit_auth_waits hn hready hsize hlen ((s.descCheck_auth hbad ha).trans (if_pos hauth)) ha hauth hj hcells
  case post =>
    intro n b
    have hn : n < 4096 := r.isLt
    obtain ⟨hno, hgo⟩ := exec_rxPostDescriptor s r d
    refine ⟨hno, fun hready hsize => ⟨_, hgo hready, fun hlen => ?_, fun hlen => ?_⟩⟩
    · rw [(s.take1 n).takeBuf_empty n hlen, s.take1_rxCompl]
      exact State.Ready.ends hready hn hsize (fun _ _ => rfl) rfl rfl
    · obtain ⟨hrings, hposted, hblv, hbufs⟩ := (s.take1 n).takeBuf_waits n hlen
      exact ⟨State.Ready.waits hready hn hsize hrings hposted, hbufs, hblv⟩
  case ringError =>
    intro n due
    obtain ⟨hno, hgo⟩ := exec_descriptorReadError s r
    refine ⟨hno, fun h => ⟨_, hgo h, s.stopRing_spec r.isLt (by omega) ?_⟩⟩
    obtain ⟨-, htype | htype, -⟩ := h <;> exact htype ▸ by decide
  case bodyError =>
    intro n x k
    have hn : n < 4096 := r.isLt
    obtain ⟨hno, hgo⟩ := exec_bodyReadError_taken s r d
    refine ⟨hno, fun h => ⟨_, hgo h, ((s.take1 n).submitError_cons hn x).trans (s.take1_cons n), fun hc ha => ?_⟩⟩
    have := (s.take1 n).submitError_returns n ((s.take1_descCheck hn x).trans hc)
      ((s.take1_admitsCells hn x.cls k).trans ha)
    rwa [s.take1_descCompl] at this
  case linkedError =>
    have hx : exec (.hostBodyReadError (.linked q)) s = .next (s.completeTx q.toNat f 12) := by
      show execHostBodyReadError (.linked q) s = _
      simp only [execHostBodyReadError, hf]
    exact ⟨_, hx, s.completeTx_gone q.toNat f 12⟩
  case delivery =>
    intro r room back
    have hx := exec_rxDelivery hm hd
    refine ⟨fun hen => ?_, fun hen hwait => ?_, fun b rest hen hb hf => ?_⟩
    · obtain ⟨hback, hcount, hposted⟩ := s.dropDelivery c d (f := HIF_RXDROP_NOMAP) (by simp [HIF_RXDROP_NOMAP])
      rw [s.deliverHead_unmapped d hen] at hx
      exact ⟨_, hx, hback, hcount, hposted⟩
    · rw [hx, State.deliverHead_waits d hen hwait]
    · obtain ⟨hhif, htoobig, hfailed, hok⟩ := State.intoBuf_spec { s.undeliver c with
        hif.bufs := store [] r rest s.hif.bufs } d r b
      rw [State.deliverHead_takes d hen hb hf] at hx
      refine ⟨_, hx, ?_, fun h => ?_, fun h hfail => ?_, fun h hfail => ?_⟩
      · rw [hhif]; exact look_store_same _ _ _ _
      · exact ⟨(htoobig h).1, (htoobig h).2, by rw [hhif]; rfl⟩
      · exact ⟨(hfailed h hfail).1, (hfailed h hfail).2, by rw [hhif]; rfl⟩
      · exact ⟨⟨(hok h hfail).1, by rw [hhif]; rfl⟩, (hok h hfail).2⟩
  case expiry =>
    intro due
    obtain ⟨hno, hdue⟩ := exec_rxBufferWaitExpiry hd
    obtain ⟨⟨hreturns, hgone⟩, hcount, -⟩ := s.dropDelivery c d (f := HIF_RXDROP_NOBUF) (by simp [HIF_RXDROP_NOBUF])
    exact ⟨hno, fun h => ⟨_, hdue h, hgone, hcount, hreturns⟩⟩

end Sys2Proof.Machine

/-! The fuses, the lifecycle state and the anti-rollback counter over a step (R47, R53). -/

namespace Sys2Proof.Machine

/-- Settles O3: a step keeps what `Keeps` names but for the tick number, and the fuses, FIELD and the counter are a part
of it. -/
theorem fusesAreNeverUndone : Obligations.FusesAreNeverUndone := by
  intro s t hstep
  obtain ⟨n, hkeeps⟩ := step_keepsButTick hstep
  obtain ⟨hvariant, hstepping, heui⟩ := hkeeps.fuses
  exact ⟨hvariant, hstepping, heui, hkeeps.field, hkeeps.counter⟩

end Sys2Proof.Machine

/-! SUPPORT. Events and the registers beside them: what `changesOnly` names, built up operation by operation (R13, R67 to
R69). -/

namespace Sys2Proof.Machine

/-! ## Pending bits -/

/-- A register that holds no pending bit of a source (Table 03-8). -/
abbrev NotPending (a : Nat) : Prop := (a < 0x10100 ∨ 0x10140 ≤ a) ∧ (a < f1 0x380 ∨ f1 0x388 ≤ a)


theorem pendReg_ne {k a : Nat} (hk : k < 512) (ha : NotPending a) : a ≠ pendReg k := by
  obtain ⟨hsqr, hbur⟩ := ha
  simp only [pendReg, pendField, f1, a_BUR_PEND, a_SQR_PEND] at *
  split <;> simp only <;> omega

/-- Two sources have two pending bits. -/
theorem pendField_disjoint {j k : Nat} (hj : j < 512) (hk : k < 512) (h : j ≠ k) :
    (pendField j).addr ≠ (pendField k).addr ∨ (pendField k).lo + (pendField k).w ≤ (pendField j).lo ∨
      (pendField j).lo + (pendField j).w ≤ (pendField k).lo := by
  simp only [pendField, f1, a_BUR_PEND, a_SQR_PEND]
  split <;> split <;> simp only <;> omega

/-- An event writes no field but its pending bit. -/
theorem State.get_fire_other (s : State) {src : Nat} {g : Field} (h : g.addr ≠ (pendField src).addr ∨
    (pendField src).lo + (pendField src).w ≤ g.lo ∨ g.lo + g.w ≤ (pendField src).lo) (data : Nat) :
    (s.fire src data).get g = s.get g := by
  cases hon : s.sourceOn src with
  | false => rw [s.fire_off hon]
  | true =>
    have : (s.fire src data).get g = (s.raiseFlag (pendField src)).get g := by
      simp only [State.fire, hon, if_true]; rfl
    rw [this, s.get_raiseFlag_other h]

/-- The record of a source is staged by its own events alone. -/
theorem State.staged_fire_other (s : State) {src k : Nat} (h : k ≠ src) (data : Nat) :
    find (s.fire src data).sq.staged k = find s.sq.staged k := by
  unfold State.fire
  split
  · simp [find_put, h, State.raiseFlag]
  · rfl

/-- An event changes the staged records and the bits that the device set in this tick, and nothing else of the Square. -/
theorem State.sq_fire (s : State) (src data : Nat) :
    (s.fire src data).sq =
      { s.sq with staged := (s.fire src data).sq.staged, fresh := (s.fire src data).sq.fresh } := by
  unfold State.fire
  split <;> rfl

theorem State.onlyRegsSq_fire (s : State) (src data : Nat) : onlyRegsSq s (s.fire src data) := by
  unfold State.fire onlyRegsSq
  split <;> rfl

/-- Which sources can fire depends on the domains that are on and on the fuses. -/
theorem State.sourceOn_congr {s t : State} (hon : t.reg a_PWR_STAT = s.reg a_PWR_STAT) (ho : t.otp = s.otp) (src : Nat) :
    t.sourceOn src = s.sourceOn src := by
  have hdom : t.domOn = s.domOn := by funext d; simp only [State.domOn, State.get_of_reg (f := PWR_STAT_ON) hon]
  have hports : t.ports = s.ports := by simp only [State.ports, ho]
  simp only [State.sourceOn, hdom, hports]

/-- A source of PD_AON that belongs to no port fires where PD_AON is on. -/
theorem State.sourceOn_aon {s : State} {src : Nat} (hdom : sourceDomain src = dAon) (hport : sourcePort src = none)
    (h : s.domOn dAon = true) : s.sourceOn src = true := by
  simp [State.sourceOn, hdom, hport, h]

/-! ## What only sources and registers change -/

theorem onlyRegsSq.trans {s t u : State} (h : onlyRegsSq s t) (k : onlyRegsSq t u) : onlyRegsSq s u := by
  unfold onlyRegsSq at *
  rw [k, h]

theorem changesOnly.refl (s : State) : changesOnly s s [] [] :=
  ⟨⟨⟨by simp, fun _ _ => ⟨rfl, fun _ => rfl⟩, rfl⟩, fun _ _ => rfl⟩, rfl⟩

section
variable {s t : State} {l : List (Nat × Nat)} {regs : List Nat} (h : changesOnly s t l regs)
include h

theorem changesOnly.tick_eq : t.tick = s.tick := by rw [h.2]

/-- A register of the list may be named once more, or another one added. -/
theorem changesOnly.mono {regs' : List Nat} (hsub : regs ⊆ regs') : changesOnly s t l regs' := by
  obtain ⟨⟨hfires, hregs⟩, honly⟩ := h
  refine ⟨⟨hfires, fun a ha => hregs a fun hin => ha ?_⟩, honly⟩
  rcases List.mem_append.1 hin with hin | hin
  · exact List.mem_append_left _ (hsub hin)
  · exact List.mem_append_right _ hin

/-- A write of a register of the list that holds no pending bit; the Square may note the bits that the device sets. -/
theorem changesOnly.write {u : State} {a : Nat} (ha : a ∈ regs) (hp : NotPending a) (hl : ∀ e ∈ l, e.1 < 512)
    (hreg : ∀ b, b ≠ a → u.reg b = t.reg b) (hsq : u.sq = { t.sq with fresh := u.sq.fresh }) (honly : onlyRegsSq t u) :
    changesOnly s u l regs := by
  obtain ⟨⟨⟨hfired, hother, hsquare⟩, hregs⟩, ht⟩ := h
  have hstaged : u.sq.staged = t.sq.staged := by rw [hsq]
  have hflag : ∀ k, k < 512 → u.flag (pendField k) = t.flag (pendField k) := fun k hk =>
    State.flag_of_reg (hreg _ (pendReg_ne hk hp).symm)
  refine ⟨⟨⟨fun e he => ?_, fun k hk => ?_, ?_⟩, fun b hb => ?_⟩, ht.trans honly⟩
  · obtain ⟨hf, hstage⟩ := hfired e he
    exact ⟨(hflag _ (hl e he)).trans hf, by rw [hstaged, hstage]⟩
  · obtain ⟨hfind, hold⟩ := hother k hk
    exact ⟨by rw [hstaged, hfind], fun hk => (hflag k hk).trans (hold hk)⟩
  · rw [hsq, hsquare]
  · rw [hreg b fun hba => hb (List.mem_append_left _ (hba ▸ ha)), hregs b hb]

theorem changesOnly.set {f : Field} (ha : f.addr ∈ regs) (hp : NotPending f.addr) (hl : ∀ e ∈ l, e.1 < 512) (v : Nat) :
    changesOnly s (t.set f v) l regs :=
  h.write ha hp hl (fun _ hb => t.reg_set_other hb v) rfl rfl

theorem changesOnly.raiseFlag {f : Field} (ha : f.addr ∈ regs) (hp : NotPending f.addr) (hl : ∀ e ∈ l, e.1 < 512) :
    changesOnly s (t.raiseFlag f) l regs :=
  h.write ha hp hl (fun _ hb => t.reg_raiseFlag_other hb) rfl rfl

theorem changesOnly.clearW1c {a : Nat} (ha : a ∈ regs) (hp : NotPending a) (hl : ∀ e ∈ l, e.1 < 512) (m : Nat) (w : Word) :
    changesOnly s (t.clearW1c a m w) l regs :=
  h.write ha hp hl (fun _ hb => t.reg_setReg_other hb _) rfl rfl

/-- A register outside the list holds what it held. -/
theorem changesOnly.reg_eq {a : Nat} (ha : a ∉ regs) (hp : NotPending a) (hl : ∀ e ∈ l, e.1 < 512) : t.reg a = s.reg a := by
  refine h.1.2 a fun hin => ?_
  rcases List.mem_append.1 hin with hin | hin
  · exact ha hin
  · obtain ⟨e, he, rfl⟩ := List.mem_map.1 hin
    exact pendReg_ne (hl e he) hp rfl

/-- The sources that can fire are those that could. -/
theorem changesOnly.sourceOn_eq (ha : a_PWR_STAT ∉ regs) (hl : ∀ e ∈ l, e.1 < 512) (src : Nat) :
    t.sourceOn src = s.sourceOn src :=
  State.sourceOn_congr (h.reg_eq ha (by decide) hl) (by rw [h.2]) src

/-- One more source fires. -/
theorem changesOnly.fire {src : Nat} (hsrc : src < 512) (hl : ∀ e ∈ l, e.1 < 512) (hnew : src ∉ l.map Prod.fst)
    (hon : t.sourceOn src = true) (data : Nat) : changesOnly s (t.fire src data) (l ++ [(src, data)]) regs := by
  have htick := h.tick_eq
  obtain ⟨⟨⟨hfired, hother, hsquare⟩, hregs⟩, ht⟩ := h
  have hold : ∀ k, k < 512 → k ≠ src → (t.fire src data).flag (pendField k) = t.flag (pendField k) := fun k hk hne => by
    simp only [State.flag, t.get_fire_other (pendField_disjoint hk hsrc hne)]
  refine ⟨⟨⟨fun e he => ?_, fun k hk => ?_, ?_⟩, fun a ha => ?_⟩, ht.trans (t.onlyRegsSq_fire src data)⟩
  · rcases List.mem_append.1 he with he | he
    · have hne : e.1 ≠ src := fun heq => hnew (heq ▸ List.mem_map_of_mem he)
      obtain ⟨hf, hstage⟩ := hfired e he
      exact ⟨(hold _ (hl e he) hne).trans hf, (t.staged_fire_other hne data).trans hstage⟩
    · obtain rfl := List.mem_singleton.1 he
      obtain ⟨hf, hstage⟩ := t.fired_fire hon data
      rw [(hother src hnew).1, htick] at hstage
      exact ⟨hf, hstage⟩
  · simp only [List.map_append, List.map_cons, List.map_nil, List.mem_append, List.mem_singleton, not_or] at hk
    obtain ⟨hk, hne⟩ := hk
    obtain ⟨hfind, hflag⟩ := hother k hk
    exact ⟨(t.staged_fire_other hne data).trans hfind, fun hk => (hold k hk hne).trans (hflag hk)⟩
  · rw [t.sq_fire, hsquare]
  · simp only [List.map_append, List.map_cons, List.map_nil, List.mem_append, List.mem_singleton, not_or] at ha
    obtain ⟨hregs', hpend, hne⟩ := ha
    rw [t.reg_fire_other hne, hregs a (by simp [hregs', hpend])]

end

end Sys2Proof.Machine

/-! Mode requests (R36 to R38). -/

namespace Sys2Proof.Machine

/-- Table 02-6: the requested transitions that the current mode lists. -/
theorem listedMove_iff (cur want : Nat) : listedMove cur want = true ↔
    (cur = mStandby ∧ (want = 10 ∨ want = 11 ∨ want = 8 ∨ want = 9 ∨ (3 ≤ want ∧ want ≤ 6))) ∨
      ((3 ≤ cur ∧ cur ≤ 9 ∨ cur = 11) ∧ (want = 2 ∨ want = 10)) := by
  unfold listedMove
  split
  · simp [*, mStandby, mCoordinator, mRepeater, mMember, mTerminal, mMonitor, mSurvey, mFactory, mSafe]
    omega
  · simp [operating, mStandby, mSafe] at *
    omega

theorem State.profilesFit_eq_false {s : State} {m : Nat} :
    s.profilesFit m = false ↔ ∃ n, n < s.ports ∧ admits m (s.profile n) = false := by
  simp [State.profilesFit]

/-- R38: the reasons in their order. -/
theorem State.modeReason_eq (s : State) {c : Nat} (hc : c ≠ 0) : s.modeReason c =
    if s.boot.autoTick == some s.tick && s.boot.autoSafe then 6
    else if s.flag SYS_MODESTAT_BUSY || s.boot.autoTick == some s.tick then 3
    else if decide (c ≤ 11) && !s.offersMode c then 1
    else if c = s.mode ∧ c ≠ mProof then 0
    else if ¬ ((s.mode = mStandby ∧ (c = 10 ∨ c = 11 ∨ c = 8 ∨ c = 9 ∨ (3 ≤ c ∧ c ≤ 6))) ∨
      ((3 ≤ s.mode ∧ s.mode ≤ 9 ∨ s.mode = 11) ∧ (c = 2 ∨ c = 10))) then 2
    else if c = mFactory ∧ s.otp.field = true then 5
    else if ∃ n, n < s.ports ∧ admits c (s.profile n) = false then 4
    else 0 := by
  have hpos : 1 ≤ c := by omega
  unfold State.modeReason
  refine if_congr Iff.rfl rfl (if_congr Iff.rfl rfl (if_congr ?_ rfl (if_congr ?_ rfl (if_congr ?_ rfl
    (if_congr ?_ rfl (if_congr ?_ rfl rfl))))))
  · simp [hpos]
  · rw [Bool.and_eq_true, beq_iff_eq, bne_iff_ne, eq_comm]
  · simp only [Bool.not_eq_true', ← Bool.not_eq_true, listedMove_iff]
  · simp
  · simp only [Bool.not_eq_true', s.profilesFit_eq_false]

/-- ES456 of a request has fired. -/
theorem State.fire_request (s : State) (c : Nat) (hon : s.domOn dAon = true) :
    changesOnly s (s.fire 456 c) [(456, c)] [] :=
  (changesOnly.refl s).fire (by omega) (by simp) (by simp) (State.sourceOn_aon rfl rfl hon) c

/-- A field of SYS_MODESTAT is no pending bit. -/
theorem State.get_fire_modestat (s : State) {g : Field} (h : g.addr = a_SYS_MODESTAT) {src : Nat} (hsrc : src < 512)
    (data : Nat) : (s.fire src data).get g = s.get g :=
  s.get_fire_other (.inl (h ▸ pendReg_ne hsrc (by decide))) data

/-- A refused request. -/
def State.modeRefused (s : State) (c r : Nat) : State :=
  (((s.fire 456 c).raiseFlag SYS_MODESTAT_REFUSED).set SYS_MODESTAT_REASON r).fire 457 (s.mode + 16)

theorem State.modeRequest_refused {s : State} {c : Nat} (h : s.modeReason c ≠ 0) :
    s.modeRequest c = s.modeRefused c (s.modeReason c) := by
  simp only [State.modeRequest, h, ne_eq, not_false_eq_true, if_true, State.modeRefused]

theorem State.modeRefused_changes (s : State) (c r : Nat) (hon : s.domOn dAon = true) :
    changesOnly s (s.modeRefused c r) [(456, c), (457, s.mode + 16)] [a_SYS_MODESTAT] := by
  have h := ((s.fire_request c hon).mono (List.nil_subset [a_SYS_MODESTAT])).raiseFlag (f := SYS_MODESTAT_REFUSED)
    (by decide) (by decide) (by simp)
  have h := h.set (f := SYS_MODESTAT_REASON) (by decide) (by decide) (by simp) r
  refine h.fire (by omega) (by simp) (by simp) ?_ (s.mode + 16)
  rw [h.sourceOn_eq (by decide) (by simp)]
  exact State.sourceOn_aon rfl rfl hon

theorem State.get_modeRefused_other (s : State) {g : Field} (ha : g.addr = a_SYS_MODESTAT) (hg : g.lo + g.w ≤ 10)
    (c r : Nat) : (s.modeRefused c r).get g = s.get g := by
  rw [State.modeRefused, State.get_fire_modestat _ ha (by omega),
    State.get_set_bits _ (.inr (by simp only [SYS_MODESTAT_REASON]; omega)),
    State.get_raiseFlag_other _ (.inr (.inr (by simp only [SYS_MODESTAT_REFUSED]; omega))),
    State.get_fire_modestat _ ha (by omega)]

theorem State.modeRefused_refused (s : State) (c r : Nat) : (s.modeRefused c r).flag SYS_MODESTAT_REFUSED = true := by
  have h : (s.modeRefused c r).get SYS_MODESTAT_REFUSED = ((s.fire 456 c).raiseFlag SYS_MODESTAT_REFUSED).get SYS_MODESTAT_REFUSED := by
    rw [State.modeRefused, State.get_fire_modestat _ rfl (by omega), State.get_set_bits _ (by decide)]
  rw [State.flag, h]
  exact State.flag_raiseFlag _ (by decide) rfl

theorem State.modeRefused_reason (s : State) (c : Nat) {r : Nat} (hr : r < 16) :
    (s.modeRefused c r).get SYS_MODESTAT_REASON = r := by
  rw [State.modeRefused, State.get_fire_modestat _ rfl (by omega), State.get_set_same _ (by decide)]
  exact Nat.mod_eq_of_lt hr

theorem State.modeReason_lt (s : State) (c : Nat) : s.modeReason c < 16 := by
  unfold State.modeReason
  split_ifs <;> omega

/-- A request of the current mode, and one that begins a transition. -/
theorem State.modeRequest_accepted {s : State} {c : Nat} (h : s.modeReason c = 0) :
    s.modeRequest c = if s.mode = c then (s.fire 456 c).fire 457 c else (s.fire 456 c).beginMode c := by
  simp [State.modeRequest, h]

theorem State.modeKept_changes (s : State) (c : Nat) (hon : s.domOn dAon = true) :
    changesOnly s ((s.fire 456 c).fire 457 c) [(456, c), (457, c)] [] := by
  have h := s.fire_request c hon
  refine h.fire (by omega) (by simp) (by simp) ?_ c
  rw [h.sourceOn_eq (by simp) (by simp)]
  exact State.sourceOn_aon rfl rfl hon

theorem State.beginMode_changes (s : State) (c : Nat) (hon : s.domOn dAon = true) :
    changesOnly s ((s.fire 456 c).beginMode c) [(456, c)] [a_SYS_MODESTAT] :=
  (((s.fire_request c hon).mono (List.nil_subset [a_SYS_MODESTAT])).set (f := SYS_MODESTAT_TARGET) (by decide) (by decide)
    (by simp) c).set (f := SYS_MODESTAT_BUSY) (by decide) (by decide) (by simp) 1

/-- R425: a transition in progress shows its target and leaves MODE. -/
theorem State.beginMode_shows (s : State) {c : Nat} (hc : c < 16) :
    (s.beginMode c).mode = s.mode ∧ (s.beginMode c).get SYS_MODESTAT_TARGET = c ∧ (s.beginMode c).busy = true := by
  refine ⟨?_, ?_, ?_⟩
  · rw [State.mode, State.beginMode, State.get_set_bits _ (by decide), State.get_set_bits _ (by decide), State.mode]
  · rw [State.beginMode, State.get_set_bits _ (by decide), State.get_set_same _ (by decide)]
    exact Nat.mod_eq_of_lt hc
  · rw [State.busy, State.flag, State.beginMode, State.get_set_same _ (by decide)]
    rfl

/-- Settles O8: the reasons are those of R38 in its order, and each of the three answers is a chain of events and of
writes of SYS_MODESTAT. -/
theorem modeRequestIsJudged : Obligations.ModeRequestIsJudged := by
  intro s code hreach hon hcode c auto r
  have hr : s.modeReason c = r := s.modeReason_eq hcode
  have hexec : exec (.modeRequest code) s = .next (s.modeRequest c) := by
    show Host.Outcome.next (s.hostWrite 0 a_SYS_MODE (fun t => t.modeWrite code.val)) = _
    rw [State.hostWrite_reaches s hreach, State.modeWrite, if_neg hcode]
  refine ⟨_, hexec, fun h => ?_, fun h hm => ?_, fun h hm => ?_⟩
  case refine_1 =>
    rw [State.modeRequest_refused (hr ▸ h), hr]
    exact ⟨s.modeRefused_changes c r hon, s.modeRefused_refused c r, s.modeRefused_reason c (hr ▸ s.modeReason_lt c),
      s.get_modeRefused_other rfl (by decide) c r, s.get_modeRefused_other rfl (by decide) c r,
      congrArg (· == 1) (s.get_modeRefused_other rfl (by decide) c r)⟩
  case refine_2 =>
    rw [State.modeRequest_accepted (hr.trans h), if_pos hm]
    exact s.modeKept_changes c hon
  case refine_3 =>
    rw [State.modeRequest_accepted (hr.trans h), if_neg hm]
    obtain ⟨hmode, htarget, hbusy⟩ := (s.fire 456 c).beginMode_shows code.isLt
    exact ⟨s.beginMode_changes c hon, hmode.trans (s.get_fire_modestat rfl (by omega) c), htarget, hbusy⟩

end Sys2Proof.Machine

/-! SUPPORT. The line follows the mode and the profiles (R90, R126): which part of the state that may change. -/

namespace Sys2Proof.Machine

/-- What holds at the start and is kept by every pass holds at the end. -/
theorem forN_induct {σ : Type} {P : σ → Prop} {n : Nat} {f : Nat → σ → σ} {s : σ} (h : P s)
    (hf : ∀ k, k < n → ∀ t, P t → P (f k t)) : P (forN n f s) := by
  induction n with
  | zero => exact h
  | succ k ih => exact hf k (by omega) _ (ih fun j hj => hf j (by omega))

theorem forEach_induct {α σ : Type} {P : σ → Prop} {l : List α} {f : α → σ → σ} {s : σ} (h : P s)
    (hf : ∀ a, a ∈ l → ∀ t, P t → P (f a t)) : P (forEach l f s) := by
  induction l generalizing s with
  | nil => exact h
  | cons a r ih => exact ih (hf a (by simp) s h) fun b hb => hf b (by simp [hb])

theorem State.ports_le (s : State) : s.ports ≤ 16 := by
  unfold State.ports
  split_ifs <;> omega

/-- A register of the line, the MAC or the memories, but for the profile of a port. -/
abbrev LineReg (a : Nat) : Prop := 0x22000 ≤ a ∧ a < f1 0 ∧ a % 0x8000 ≠ 0

theorem LineReg.port {a n : Nat} (hn : n < 16) (h : 0x100000 < a ∧ a < 0x108000) : LineReg (a + 0x8000 * n) := by
  simp only [LineReg, f1]
  omega

/-- From `s` to `t` only registers of the line and the MAC, front-end records, receivers and the MAC have changed. -/
structure LineOnly (s t : State) : Prop where
  rest : t = { s with regs := t.regs, fe := t.fe, rx := t.rx, mac := t.mac }
  regs : ∀ a, ¬ LineReg a → t.reg a = s.reg a

namespace LineOnly

theorem refl (s : State) : LineOnly s s := ⟨rfl, fun _ _ => rfl⟩

theorem trans {s t u : State} (h : LineOnly s t) (k : LineOnly t u) : LineOnly s u :=
  ⟨by rw [k.rest, h.rest], fun a ha => (k.regs a ha).trans (h.regs a ha)⟩

theorem set (s : State) {f : Field} (h : LineReg f.addr) (v : Nat) : LineOnly s (s.set f v) :=
  ⟨rfl, fun _ ha => s.reg_set_other (by rintro rfl; exact ha h) v⟩

theorem addEdge (s : State) (e : Nat) (t : DecTarget) : LineOnly s (s.addEdge e t) := by
  unfold State.addEdge
  split
  · exact .refl s
  · exact ⟨rfl, fun _ _ => rfl⟩

theorem refreshK (s : State) {n : Nat} (hn : n < 16) : LineOnly s (s.refreshK n) := by
  unfold State.refreshK
  split
  · exact .refl s
  · exact (set s (.port (a := 0x100200) hn (by decide)) _).trans (.addEdge _ _ _)

theorem setRxState (s : State) {n : Nat} (hn : n < 16) (v : Nat) : LineOnly s (s.setRxState n v) := by
  have hset : ∀ t : State, LineOnly t (t.set (PRT_RXSTAT_STATE n) v) := fun t =>
    set t (.port (a := 0x100404) hn (by decide)) v
  unfold State.setRxState
  split
  · refine trans ?_ (hset _)
    exact ⟨rfl, fun _ _ => rfl⟩
  · exact hset s

theorem toSearch (s : State) {n : Nat} (hn : n < 16) : LineOnly s (s.toSearch n) := setRxState s hn _

theorem showMask (s : State) {n : Nat} (hn : n < 16) : LineOnly s (s.showMask n) :=
  (set s (.port (a := 0x1005C0) hn (by decide)) _).trans (set _ (.port (a := 0x1005C0) hn (by decide)) _)

theorem portsFollow (s : State) : LineOnly s s.portsFollow :=
  forN_induct (P := LineOnly s) (.refl s) fun n hn t h =>
    have hn : n < 16 := Nat.lt_of_lt_of_le hn s.ports_le
    (h.trans (.refreshK t hn)).trans (.toSearch _ hn)

theorem sfEnter (s : State) (st : Nat) : LineOnly s (s.sfEnter st) := by
  refine trans (trans (trans ?_ (set _ (f := MAC_SFSTAT_STATE) (by decide) st))
    (set _ (f := MAC_SFSTAT_MISS) (by decide) 0)) (set _ (f := MAC_SFSTAT_BIDX) (by decide) _)
  refine trans ?_ (set _ (f := MAC_ALLOCCTL_CDOWN) (by decide) 0)
  exact ⟨rfl, fun _ _ => rfl⟩

section
variable {s t : State} (h : LineOnly s t)
include h

theorem blv : t.blv = s.blv := by rw [h.rest]
theorem sq : t.sq = s.sq := by rw [h.rest]
theorem get {f : Field} (hf : ¬ LineReg f.addr) : t.get f = s.get f := State.get_of_reg (h.regs _ hf)
theorem flag {f : Field} (hf : ¬ LineReg f.addr) : t.flag f = s.flag f := State.flag_of_reg (h.regs _ hf)

end
end LineOnly

/-! ## The profile of a port (R35) -/

theorem not_lineReg_profile (n : Nat) : ¬ LineReg (a_PRT_PROFILE n) := by
  simp only [LineReg, a_PRT_PROFILE]
  omega

theorem modestat_ne_profile (n : Nat) : a_SYS_MODESTAT ≠ a_PRT_PROFILE n := by
  simp only [a_SYS_MODESTAT, a_PRT_PROFILE]
  omega

/-- R35, R90, R126: what follows a change of profile. -/
theorem State.profileNow_follows (s : State) {n : Nat} (hn : n < 16) (p : Nat) :
    LineOnly ((s.set (PRT_PROFILE_ACT n) p).set (PRT_PROFILE_PENDING n) 0) (s.profileNow n p) := by
  unfold State.profileNow
  extract_lets s1 s2
  split
  · exact .refl _
  · have hbase : LineOnly s1 s2 := by
      unfold s2
      split
      · exact .set _ (.port (a := 0x100300) hn (by decide)) _
      · exact .refl _
    exact (((hbase.trans (.addEdge _ _ _)).trans (.refreshK _ hn)).trans (.showMask _ hn)).trans (.toSearch _ hn)

theorem State.profileNow_spec (s : State) {n : Nat} (hn : n < 16) (p : Nat) :
    (s.profileNow n p).profile n = p % 8 ∧ (s.profileNow n p).flag (PRT_PROFILE_PENDING n) = false ∧
      (s.profileNow n p).mode = s.mode ∧ (s.profileNow n p).sq = s.sq ∧ (s.profileNow n p).blv = s.blv := by
  have h := s.profileNow_follows hn p
  refine ⟨?_, ?_, ?_, h.sq, h.blv⟩
  · rw [State.profile, h.get (not_lineReg_profile n), State.get_set_bits _ (.inr (by simp [PRT_PROFILE_ACT, PRT_PROFILE_PENDING])),
      State.get_set_same _ (by simp [PRT_PROFILE_ACT])]
    rfl
  · rw [h.flag (not_lineReg_profile n), State.flag, State.get_set_same _ (by simp [PRT_PROFILE_PENDING])]
    rfl
  · rw [State.mode, h.get (by decide), State.get_set_addr _ (modestat_ne_profile n),
      State.get_set_addr _ (modestat_ne_profile n), State.mode]

end Sys2Proof.Machine

/-! Writes of PRT[n]_PROFILE and the change they wait for (R35). -/

namespace Sys2Proof.Machine

/-- R35: when a change of port `n` to profile `p` is admitted. -/
theorem State.profileOk_iff (s : State) (n p : Nat) : s.profileOk n p = true ↔
    s.mode ≠ mProof ∧ s.mode ≠ mSafe ∧
      (if s.isT = true then p = pfOff ∨ p = pfHV ∨ p = pfBurin else p ≤ 5) ∧
      (p = pfBB ∨ s.flag (GRP_CFG_ACT (n / 4)) = false) ∧
      (p = pfOff ∨ p = pfBurin ∨ s.mode = mStandby ∧ s.busy = false ∧ s.domOn (dPair n) = true) := by
  have hoffers : s.offersProfile p = true ↔ if s.isT = true then p = pfOff ∨ p = pfHV ∨ p = pfBurin else p ≤ 5 := by
    unfold State.offersProfile
    split <;> simp [or_assoc]
  simp only [State.profileOk, Bool.and_eq_true, Bool.or_eq_true, hoffers, bne_iff_ne, beq_iff_eq, dataless, State.standbyOk,
    Bool.not_eq_true', and_assoc, or_assoc]

theorem dataless_iff (p : Nat) : dataless p = true ↔ p = pfOff ∨ p = pfBurin := by simp [dataless]

/-- What a write of PRT[n]_PROFILE stores before it is judged: REFUSED where the host clears it, and REQ. -/
def State.profileAsked (s : State) (n : Nat) (data : Word) : State :=
  (s.clearW1c (a_PRT_PROFILE n) 0x80 data).set (PRT_PROFILE_REQ n) (bits data 0 3)

theorem notPending_profile {n : Nat} (hn : n < 16) : NotPending (a_PRT_PROFILE n) := by
  simp only [NotPending, a_PRT_PROFILE, f1]
  omega

theorem State.profileAsked_changes (s : State) {n : Nat} (hn : n < 16) (data : Word) :
    changesOnly s (s.profileAsked n data) [] [a_PRT_PROFILE n] :=
  (((changesOnly.refl s).mono (List.nil_subset [a_PRT_PROFILE n])).clearW1c (by simp) (notPending_profile hn) (by simp)
    0x80 data).set (f := PRT_PROFILE_REQ n) (by simp [PRT_PROFILE_REQ]) (notPending_profile hn) (by simp) _

/-- Clearing flags leaves the fields whose bits the mask does not name. -/
theorem State.get_clearW1c_other (s : State) {f : Field} {m : Nat} (h : ∀ i, i < f.w → m.testBit (f.lo + i) = false) (a : Nat)
    (w : Word) : (s.clearW1c a m w).get f = s.get f := by
  by_cases e : f.addr = a
  · apply Nat.eq_of_testBit_eq
    intro i
    simp only [State.get, State.clearW1c, e, State.reg_setReg_same, testBit_bits]
    by_cases hi : i < f.w
    · have : (BitVec.ofNat 32 m).getLsbD (f.lo + i) = false := by simp [BitVec.getLsbD_ofNat, h i hi]
      by_cases hw : f.lo + i < 32
      · simp only [BitVec.getLsbD_and, BitVec.getLsbD_not, this, hw, decide_true, Bool.false_and, Bool.not_false,
          Bool.and_true]
      · simp only [BitVec.getLsbD_of_ge _ (f.lo + i) (Nat.le_of_not_lt hw)]
    · simp [hi]
  · exact s.get_setReg_other e _

theorem State.profileAsked_profile (s : State) (n : Nat) (data : Word) :
    (s.profileAsked n data).profile n = s.profile n := by
  rw [State.profile, State.profileAsked, State.get_set_bits _ (.inl (by simp [PRT_PROFILE_ACT, PRT_PROFILE_REQ])),
    State.get_clearW1c_other, State.profile]
  simp only [PRT_PROFILE_ACT]
  decide

theorem State.profileWrite_refused {s : State} {n : Nat} {data : Word} (h : s.profileOk n (bits data 0 3) = false) :
    s.profileWrite n data = (s.profileAsked n data).raiseFlag (PRT_PROFILE_REFUSED n) := by
  simp [State.profileWrite, h, State.profileAsked]

/-- The state in which a change of port `n` to profile `p` waits for the port. -/
def State.profileWaits (s : State) (n p : Nat) : State :=
  (s.set (PRT_PROFILE_PENDING n) 1).setFePort n { s.fePort n with wish := p }

theorem State.profileWrite_waits {s : State} {n : Nat} {data : Word} (h : s.profileOk n (bits data 0 3) = true)
    (hd : dataless (bits data 0 3) = true) (hi : s.portIdle n = false) :
    s.profileWrite n data = (s.profileAsked n data).profileWaits n (bits data 0 3) := by
  simp [State.profileWrite, h, hd, hi, State.profileAsked, State.profileWaits]

theorem State.profileWrite_now {s : State} {n : Nat} {data : Word} (h : s.profileOk n (bits data 0 3) = true)
    (hd : dataless (bits data 0 3) = false ∨ s.portIdle n = true) :
    s.profileWrite n data = (s.profileAsked n data).profileNow n (bits data 0 3) := by
  have : (dataless (bits data 0 3) && !s.portIdle n) = false := by
    rcases hd with hd | hd <;> simp [hd]
  simp [State.profileWrite, h, this, State.profileAsked]

theorem State.profileWaits_spec (s : State) (n p : Nat) :
    sameRegs s (s.profileWaits n p) [a_PRT_PROFILE n] ∧ (s.profileWaits n p).flag (PRT_PROFILE_PENDING n) = true ∧
      (s.profileWaits n p).profile n = s.profile n ∧ (s.profileWaits n p).sq = s.sq := by
  refine ⟨fun a ha => s.reg_set_other (by simpa [PRT_PROFILE_PENDING] using ha) 1, ?_, ?_, rfl⟩
  · show (s.set (PRT_PROFILE_PENDING n) 1).flag (PRT_PROFILE_PENDING n) = true
    rw [State.flag, s.get_set_same (by simp [PRT_PROFILE_PENDING])]
    rfl
  · exact s.get_set_bits (.inr (by simp [PRT_PROFILE_ACT, PRT_PROFILE_PENDING])) 1

/-- Settles O10: a write is refused, waits, or applies, by `profileOk` and by whether the port is idle; each of the three
is described once. -/
theorem profileChanges : Obligations.ProfileChanges := by
  refine ⟨fun s n data hreach => ?_, fun s n hpending hidle => ?_⟩
  case refine_1 =>
    intro p ok
    have hok : s.profileOk n p = true ↔ ok := s.profileOk_iff n p
    have hexec : exec (.profileWrite n data) s = .next (s.profileWrite n data) :=
      congrArg Host.Outcome.next (State.hostWrite_reaches s hreach _)
    have hasked := s.profileAsked_changes n.isLt data
    have hkept := s.profileAsked_profile n data
    refine ⟨_, hexec, fun hno => ?_, fun hyes hd hi => ?_, fun hyes hd => ?_⟩
    · rw [State.profileWrite_refused (by rw [← Bool.not_eq_true, hok]; exact hno)]
      refine ⟨hasked.raiseFlag (by simp [PRT_PROFILE_REFUSED]) (notPending_profile n.isLt) (by simp),
        State.flag_raiseFlag _ (by simp [PRT_PROFILE_REFUSED]) rfl, ?_⟩
      rw [← hkept]
      exact State.get_raiseFlag_other _ (.inr (.inr (by simp [PRT_PROFILE_ACT, PRT_PROFILE_REFUSED])))
    · rw [State.profileWrite_waits (hok.2 hyes) ((dataless_iff p).2 hd) hi]
      obtain ⟨hregs, hflag, hprofile, hsq⟩ := (s.profileAsked n data).profileWaits_spec n p
      refine ⟨fun a ha => (hregs a ha).trans (hasked.1.2 a (by simpa using ha)), hflag, hprofile.trans hkept, hsq⟩
    · have hd : dataless p = false ∨ s.portIdle n = true :=
        hd.imp_left fun ⟨hoff, hbur⟩ => by rw [← Bool.not_eq_true, dataless_iff]; tauto
      rw [State.profileWrite_now (hok.2 hyes) hd]
      obtain ⟨hprofile, hflag, hmode, -, hblv⟩ := (s.profileAsked n data).profileNow_spec n.isLt p
      refine ⟨hprofile.trans (Nat.mod_eq_of_lt (Nat.mod_lt _ (by decide))), hflag, hmode.trans ?_, hblv⟩
      exact State.get_of_reg (hasked.1.2 _ (by simpa [SYS_MODESTAT_MODE] using modestat_ne_profile n))
  case refine_2 =>
    obtain ⟨hprofile, hflag, -, hsq, hblv⟩ := s.profileNow_spec n.isLt (s.fePort n).wish
    refine ⟨s.profileNow n (s.fePort n).wish, ?_, hprofile, hflag, hsq, hblv⟩
    show Host.Outcome.next (if s.flag (PRT_PROFILE_PENDING n.val) && s.portIdle n.val then _ else _) = _
    rw [hpending, hidle]
    rfl

end Sys2Proof.Machine

/-! SUPPORT. The mailbox (R303): how a command is taken, and the three ways it goes on: it ends at once, it is in
progress, or it waits for a flash operation (R390). -/

namespace Sys2Proof.Machine

/-! ## Events that stay fired -/

/-- A source that has fired stays so where its pending register and the staged records stay. -/
theorem fired.congr {s t u : State} {src data : Nat} (h : fired s t src data) (hreg : u.reg (pendReg src) = t.reg (pendReg src))
    (hsq : u.sq.staged = t.sq.staged) : fired s u src data :=
  ⟨(State.flag_of_reg hreg).trans h.1, hsq ▸ h.2⟩

theorem fired.set {s t : State} {src data : Nat} (h : fired s t src data) (hsrc : src < 512) {f : Field}
    (hp : NotPending f.addr) (v : Nat) : fired s (t.set f v) src data :=
  h.congr (t.reg_set_other (pendReg_ne hsrc hp).symm v) rfl

theorem fired.fire_other {s t : State} {src k data : Nat} (h : fired s t src data) (hsrc : src < 512) (hk : k < 512)
    (hne : src ≠ k) (d : Nat) : fired s (t.fire k d) src data := by
  refine ⟨?_, (t.staged_fire_other hne d).trans h.2⟩
  rw [State.flag, t.get_fire_other (pendField_disjoint hsrc hk hne)]
  exact h.1

/-- A source fires in a state whose staged record of it and whose tick are as before. -/
theorem State.fired_fire_of {s t : State} {src : Nat} (h : t.sourceOn src = true) (htick : t.tick = s.tick)
    (hstaged : find t.sq.staged src = find s.sq.staged src) (data : Nat) : fired s (t.fire src data) src data := by
  have hf := t.fired_fire h data
  rwa [fired, hstaged, htick] at hf

/-! ## Taking a command -/

/-- A command is taken: OP and SEQ are stored, and ES448 fires. -/
def State.mbxTaken (s : State) (op seq : Nat) : State := ((s.set HIF_MBXCMD_OP op).set HIF_MBXCMD_SEQ seq).fire 448

theorem State.mbxCmd_busy {s : State} (hreach : s.reaches 1 0x8000) (h : s.flag HIF_MBXSTAT_BUSY = true) (op : Nat)
    (seq : BitVec 8) (ex : State → Bool) (f : State → State) : s.mbxCmd op seq ex f = s := by
  simp only [State.mbxCmd, State.hostWrite_reaches s hreach, State.mbxWrite, h, if_true]

theorem State.mbxWrite_idle {s : State} (h : s.flag HIF_MBXSTAT_BUSY = false) (op seq : Nat)
    (ex : State → Bool) (f : State → State) : s.mbxWrite op seq ex f =
      if ex (s.mbxTaken op seq) then (s.mbxTaken op seq).mbxNow seq 5 else f (s.mbxTaken op seq) := by
  rw [State.mbxWrite, if_neg (by simp [h])]
  rfl

theorem State.mbxCmd_idle {s : State} (hreach : s.reaches 1 0x8000) (h : s.flag HIF_MBXSTAT_BUSY = false) (op : Nat)
    (seq : BitVec 8) (ex : State → Bool) (f : State → State) : s.mbxCmd op seq ex f =
      if ex (s.mbxTaken op seq.toNat) then (s.mbxTaken op seq.toNat).mbxNow seq.toNat 5 else f (s.mbxTaken op seq.toNat) := by
  rw [State.mbxCmd, State.hostWrite_reaches s hreach, State.mbxWrite_idle h]

theorem State.mbxTaken_changes {s : State} (hon : s.domOn dAon = true) (op seq : Nat) :
    changesOnly s (s.mbxTaken op seq) [(448, 0)] [a_HIF_MBXCMD] := by
  have h := (((changesOnly.refl s).mono (List.nil_subset [a_HIF_MBXCMD])).set (f := HIF_MBXCMD_OP) (by simp [HIF_MBXCMD_OP])
    (by decide) (by simp) op).set (f := HIF_MBXCMD_SEQ) (by simp [HIF_MBXCMD_SEQ]) (by decide) (by simp) seq
  refine h.fire (by omega) (by simp) (by simp) ?_ 0
  rw [h.sourceOn_eq (by simp [a_PWR_STAT, a_HIF_MBXCMD, f1]) (by simp)]
  exact State.sourceOn_aon rfl rfl hon

/-- `u` is `s` after a command was taken: ES448 has fired, and beside its pending bit only HIF_MBXCMD has changed. -/
def Taken (s u : State) : Prop := changesOnly s u [(448, 0)] [a_HIF_MBXCMD]

section
variable {s u : State} (h : Taken s u)
include h

theorem Taken.hasFired : fired s u 448 0 := h.1.1.1 (448, 0) (by simp)

theorem Taken.reg_eq {a : Nat} (ha : a ≠ a_HIF_MBXCMD) (hp : NotPending a) : u.reg a = s.reg a :=
  changesOnly.reg_eq h (by simpa using ha) hp (by simp)

theorem Taken.get_eq {f : Field} (ha : f.addr ≠ a_HIF_MBXCMD) (hp : NotPending f.addr) : u.get f = s.get f :=
  State.get_of_reg (h.reg_eq ha hp)

theorem Taken.flag_eq {f : Field} (ha : f.addr ≠ a_HIF_MBXCMD) (hp : NotPending f.addr) : u.flag f = s.flag f :=
  State.flag_of_reg (h.reg_eq ha hp)

theorem Taken.mode_eq : u.mode = s.mode := h.get_eq (by decide) (by decide)
theorem Taken.busy_eq : u.busy = s.busy := h.flag_eq (by decide) (by decide)
theorem Taken.otp_eq : u.otp = s.otp := by rw [h.2]
theorem Taken.boot_eq : u.boot = s.boot := by rw [h.2]
theorem Taken.fsp_eq : u.fsp = s.fsp := by rw [h.2]
theorem Taken.tick_eq : u.tick = s.tick := by rw [h.2]

theorem Taken.standbyOk_eq : u.standbyOk = s.standbyOk := by
  rw [State.standbyOk, h.mode_eq, h.busy_eq, State.standbyOk]

theorem Taken.sourceOn_eq (src : Nat) : u.sourceOn src = s.sourceOn src :=
  changesOnly.sourceOn_eq h (by simp [a_PWR_STAT, a_HIF_MBXCMD, f1]) (by simp) src

theorem Taken.domOn_eq (d : Nat) : u.domOn d = s.domOn d :=
  congrArg (bitN · d) (h.get_eq (f := PWR_STAT_ON) (by decide) (by decide))

theorem Taken.staged_eq {src : Nat} (hne : src ≠ 448) : find u.sq.staged src = find s.sq.staged src :=
  (h.1.1.2.1 src (by simpa using hne)).1

/-- A source of PD_AON fires after the command was taken. -/
theorem Taken.fired_then (hon : s.domOn dAon = true) (src : Nat) (hdom : sourceDomain src = dAon) (hport : sourcePort src = none)
    (hne : src ≠ 448) {v : State} (hpwr : v.reg a_PWR_STAT = u.reg a_PWR_STAT) (htick : v.tick = u.tick) (hsq : v.sq = u.sq)
    (data : Nat) : fired s (v.fire src data) src data := by
  refine State.fired_fire_of (State.sourceOn_aon hdom hport ?_) (htick.trans h.tick_eq) (hsq ▸ h.staged_eq hne) data
  rw [State.domOn, State.get_of_reg (f := PWR_STAT_ON) hpwr]
  exact (h.domOn_eq dAon).trans hon

end

/-! ## How a command goes on -/

/-- The command `j` is in progress (R303). -/
def Began (s t : State) (j : MbxJob) : Prop :=
  t.hif.mbx = some j ∧ t.flag HIF_MBXSTAT_BUSY = true ∧ fired s t 448 0

/-- The command waits for the flash operation `o`, which begins, or waits behind the one in progress (R390). -/
def BeganFlash (s t : State) (seq : Nat) (o : FlashOp) : Prop :=
  Began s t { seq := seq, result := 0, waits := true } ∧
    (s.fsp.op = none → t.fsp = { s.fsp with op := some o } ∧ t.flag FSP_STAT_BUSY = true) ∧
    ∀ o', s.fsp.op = some o' → t.fsp = { s.fsp with waiting := s.fsp.waiting ++ [o] }

/-- The command has ended at once with a RESULT. -/
def EndedAtOnce (s t : State) (seq r : Nat) : Prop :=
  t.get HIF_MBXSTAT_RESULT = r ∧ t.get HIF_MBXSTAT_DONESEQ = seq ∧ t.flag HIF_MBXSTAT_BUSY = false ∧
    changesOnly s t [(448, 0)] [a_HIF_MBXCMD, a_HIF_MBXSTAT]

theorem State.flag_set_one (s : State) {f : Field} (h : f.lo + f.w ≤ 32) (hw : f.w = 1) : (s.set f 1).flag f = true := by
  simp [State.flag, s.get_set_same h, hw]

theorem State.flag_set_zero (s : State) {f : Field} (h : f.lo + f.w ≤ 32) : (s.set f 0).flag f = false := by
  simp [State.flag, s.get_set_same h]

/-- RESULT and DONESEQ as they are posted. -/
theorem State.mbxNow_shows (s : State) (seq r : Nat) :
    (s.mbxNow seq r).get HIF_MBXSTAT_RESULT = r % 8 ∧ (s.mbxNow seq r).get HIF_MBXSTAT_DONESEQ = seq % 256 ∧
      (s.mbxNow seq r).flag HIF_MBXSTAT_BUSY = s.flag HIF_MBXSTAT_BUSY := by
  refine ⟨?_, State.get_set_same _ (by decide) _, ?_⟩
  · rw [State.mbxNow, State.get_set_bits _ (by decide), State.get_set_same _ (by decide)]
    rfl
  · rw [State.flag, State.mbxNow, State.get_set_bits _ (by decide), State.get_set_bits _ (by decide), State.flag]

theorem State.began_mbxJob {s u : State} (h : fired s u 448 0) (j : MbxJob) : Began s (u.mbxJob j) j :=
  ⟨rfl, State.flag_set_one _ (by decide) rfl, fired.set (t := { u with hif.mbx := some j }) h (by omega) (by decide) 1⟩

theorem fired.mbxJob {s t : State} {src data : Nat} (h : fired s t src data) (hsrc : src < 512) (j : MbxJob) :
    fired s (t.mbxJob j) src data := fired.set (t := { t with hif.mbx := some j }) h hsrc (by decide) 1

section
variable {s t : State} {j : MbxJob} (h : Began s t j)
include h

theorem Began.set {f : Field} (ha : f.addr ≠ a_HIF_MBXSTAT) (hp : NotPending f.addr) (v : Nat) : Began s (t.set f v) j := by
  obtain ⟨hjob, hbusy, hfired⟩ := h
  exact ⟨hjob, (State.flag_of_reg (t.reg_set_other ha.symm v)).trans hbusy, hfired.set (by omega) hp v⟩

theorem Began.fire {k : Nat} (hk : k < 512) (hne : 448 ≠ k) (d : Nat) : Began s (t.fire k d) j := by
  obtain ⟨hjob, hbusy, hfired⟩ := h
  refine ⟨by rw [State.fire_hif, hjob], ?_, hfired.fire_other (by omega) hk hne d⟩
  exact (State.flag_of_reg (t.reg_fire_other (pendReg_ne hk (by decide)) d)).trans hbusy

theorem Began.withOtp (o : OtpSt) : Began s { t with otp := o } j := h

end

theorem State.beganFlash_mbxViaFlash {s u : State} (h : fired s u 448 0) (hfsp : u.fsp = s.fsp) (seq op region offset len : Nat) :
    BeganFlash s (u.mbxViaFlash seq op region offset len) seq (.mailbox op region offset len) := by
  obtain ⟨hjob, hbusy, hfired⟩ := u.began_mbxJob (s := s) h { seq := seq, result := 0, waits := true }
  have hjfsp : (u.mbxJob { seq := seq, result := 0, waits := true }).fsp = s.fsp := hfsp
  unfold State.mbxViaFlash State.flashStart
  generalize u.mbxJob { seq := seq, result := 0, waits := true } = v at hjob hbusy hfired hjfsp
  split
  case h_1 hnone =>
    refine ⟨⟨hjob, ?_, hfired.set (t := { v with fsp.op := _ }) (by omega) (by decide) 1⟩,
      fun _ => ⟨by rw [← hjfsp]; rfl, State.flag_set_one _ (by decide) rfl⟩,
      fun o' ho => absurd (hnone.symm.trans (hjfsp ▸ ho)) (by simp)⟩
    exact (State.flag_of_reg (State.reg_set_other _ (by decide) 1)).trans hbusy
  case h_2 o' hsome =>
    exact ⟨⟨hjob, hbusy, hfired⟩, fun ho => absurd (hsome.symm.trans (hjfsp ▸ ho)) (by simp), fun _ _ => by rw [← hjfsp]⟩

theorem Taken.endedAtOnce {s u : State} (h : Taken s u) (hidle : s.flag HIF_MBXSTAT_BUSY = false) (seq : BitVec 8) {r : Nat}
    (hr : r < 8) : EndedAtOnce s (u.mbxNow seq.toNat r) seq.toNat r := by
  obtain ⟨hresult, hdone, hbusy⟩ := u.mbxNow_shows seq.toNat r
  refine ⟨hresult.trans (Nat.mod_eq_of_lt hr), hdone.trans (Nat.mod_eq_of_lt seq.isLt),
    hbusy.trans ((h.flag_eq (by decide) (by decide)).trans hidle), ?_⟩
  exact ((changesOnly.mono h (by simp)).set (f := HIF_MBXSTAT_RESULT) (by simp [HIF_MBXSTAT_RESULT]) (by decide) (by simp)
    r).set (f := HIF_MBXSTAT_DONESEQ) (by simp [HIF_MBXSTAT_DONESEQ]) (by decide) (by simp) seq.toNat

end Sys2Proof.Machine

/-! SUPPORT. The commands of the mailbox, one after the other (Table 13-10). -/

namespace Sys2Proof.Machine

/-- A command reaches the mailbox, and none is in progress. -/
structure MbxReady (s : State) : Prop where
  reach : s.reaches 1 0x8000
  on : s.domOn dAon = true
  idle : s.flag HIF_MBXSTAT_BUSY = false

namespace MbxReady

variable {s : State} (h : MbxReady s)
include h

theorem taken (op : Nat) (seq : BitVec 8) : Taken s (s.mbxTaken op seq.toNat) := State.mbxTaken_changes h.on op seq.toNat

/-- In a mode that its row does not exclude the command is carried out. -/
theorem goes {op : Nat} {seq : BitVec 8} {ex : State → Bool} (f : State → State)
    (hex : ex (s.mbxTaken op seq.toNat) = false) : s.mbxCmd op seq ex f = f (s.mbxTaken op seq.toNat) := by
  rw [State.mbxCmd_idle h.reach h.idle, hex]
  rfl

/-- In a mode that its row excludes the command ends at once with MODE. -/
theorem excluded {op : Nat} {seq : BitVec 8} {ex : State → Bool} (f : State → State)
    (hex : ex (s.mbxTaken op seq.toNat) = true) :
    EndedAtOnce s (s.mbxCmd op seq ex f) seq.toNat 5 := by
  rw [State.mbxCmd_idle h.reach h.idle, hex]
  exact (h.taken op seq).endedAtOnce h.idle seq (by decide)

theorem notSafe_eq (op : Nat) (seq : BitVec 8) : notSafe (s.mbxTaken op seq.toNat) = (s.mode == mSafe) := by
  rw [notSafe, (h.taken op seq).mode_eq]

theorem notStandby_eq (op : Nat) (seq : BitVec 8) : notStandby (s.mbxTaken op seq.toNat) = !s.standbyOk := by
  rw [notStandby, (h.taken op seq).standbyOk_eq]

theorem began (op : Nat) (seq : BitVec 8) (j : MbxJob) : Began s ((s.mbxTaken op seq.toNat).mbxJob j) j :=
  State.began_mbxJob (h.taken op seq).hasFired j

theorem beganFlash (o : Nat) (seq : BitVec 8) (op region offset len : Nat) :
    BeganFlash s ((s.mbxTaken o seq.toNat).mbxViaFlash seq.toNat op region offset len) seq.toNat
      (.mailbox op region offset len) :=
  State.beganFlash_mbxViaFlash (h.taken o seq).hasFired (h.taken o seq).fsp_eq _ _ _ _ _

end MbxReady

/-- R303: a command that is written while BUSY is 1 changes nothing. -/
theorem mailbox_busy {s : State} {seq op : BitVec 8} {c : Instr} (hreach : s.reaches 1 0x8000)
    (hbusy : s.flag HIF_MBXSTAT_BUSY = true)
    (hc : c ∈ [.status seq, .confirm seq, .commit seq, .restart seq, .flashWrite seq, .flashRead seq, .setBoot seq,
      .safeprof seq, .history seq, .lifecycle seq, .mailboxBadOp op seq]) : exec c s = .next s := by
  have hcmd : ∀ {o ex f}, Host.Outcome.next (φ := Fault) (ρ := Refusal) (s.mbxCmd o seq ex f) = .next s :=
    congrArg _ (State.mbxCmd_busy hreach hbusy _ _ _ _)
  simp only [List.mem_cons, List.not_mem_nil, or_false] at hc
  obtain rfl | rfl | rfl | rfl | rfl | rfl | rfl | rfl | rfl | rfl | rfl := hc
  case inl =>
    show Host.Outcome.next (if _ then s.mbxWrite _ _ _ _ else s.mbxCmd _ _ _ _) = _
    rw [State.mbxCmd_busy hreach hbusy, State.mbxWrite, if_pos hbusy, ite_self]
  iterate 9 exact hcmd
  show Host.Outcome.next (if _ then s else s.mbxCmd _ _ _ _) = _
  rw [State.mbxCmd_busy hreach hbusy, ite_self]

/-- R304: STATUS, which PROOF answers from step 5 on whatever path the command takes. -/
theorem status_began {s : State} (seq : BitVec 8) (hon : s.domOn dAon = true) (hidle : s.flag HIF_MBXSTAT_BUSY = false)
    (hpath : s.reaches 1 0x8000 ∨ s.mode = mProof ∧ 5 ≤ s.boot.step) :
    ∃ t : State, exec (.status seq) s = .next t ∧ Began s t
      { seq := seq.toNat, result := 0, arg0 := some (s.reg a_SYS_BOOTSTAT).toNat
        arg1 := some (s.reg a_SYS_MODESTAT).toNat } := by
  have htaken : Taken s (s.mbxTaken 1 seq.toNat) := State.mbxTaken_changes hon 1 seq.toNat
  have hgoes : exec (.status seq) s = .next ((s.mbxTaken 1 seq.toNat).mbxStatus seq.toNat) := by
    show Host.Outcome.next (if s.mode == mProof && decide (5 ≤ s.boot.step) then s.mbxWrite _ _ _ _ else _) = _
    split
    case isTrue => rw [State.mbxWrite_idle hidle]; rfl
    case isFalse hside =>
      have hreach := hpath.resolve_right fun hp => hside (by simp [hp])
      rw [State.mbxCmd_idle hreach hidle]
      rfl
  refine ⟨_, hgoes, ?_⟩
  rw [State.mbxStatus, htaken.reg_eq (by decide) (by decide), htaken.reg_eq (by decide) (by decide)]
  exact State.began_mbxJob htaken.hasFired _

/-! ## What a taken command does -/

section
variable {s u : State} (h : Taken s u) (hon : s.domOn dAon = true) (seq : Nat)
include h

/-- R48: CONFIRM with TRIAL waits for the flash, and without TRIAL is refused. -/
theorem Taken.confirm_trial (ht : s.flag SYS_BOOTSTAT_TRIAL = true) :
    BeganFlash s (u.mbxConfirm seq) seq (.mailbox 2 0 0 0) := by
  rw [State.mbxConfirm, h.flag_eq (by decide) (by decide), if_pos ht]
  exact State.beganFlash_mbxViaFlash h.hasFired h.fsp_eq _ _ _ _ _

theorem Taken.confirm_refused (ht : s.flag SYS_BOOTSTAT_TRIAL = false) :
    Began s (u.mbxConfirm seq) { seq := seq, result := 1 } ∧ (u.mbxConfirm seq).fsp = s.fsp := by
  rw [State.mbxConfirm, h.flag_eq (by decide) (by decide), if_neg (by simp [ht])]
  exact ⟨State.began_mbxJob h.hasFired _, h.fsp_eq⟩

/-- R47: COMMIT with TRIAL is refused. -/
theorem Taken.commit_trial (ht : s.flag SYS_BOOTSTAT_TRIAL = true) :
    Began s (u.mbxCommit seq) { seq := seq, result := 1 } ∧ (u.mbxCommit seq).otp = s.otp := by
  rw [State.mbxCommit, h.flag_eq (by decide) (by decide), if_pos ht]
  exact ⟨State.began_mbxJob h.hasFired _, h.otp_eq⟩

include hon in
/-- R47: COMMIT without TRIAL raises the counter to the lower SEC_VER. -/
theorem Taken.commit_raises (ht : s.flag SYS_BOOTSTAT_TRIAL = false) :
    Began s (u.mbxCommit seq) { seq := seq, result := 0 } ∧
      (u.mbxCommit seq).otp = { s.otp with counter := max s.otp.counter s.boot.secVer } ∧
      (s.otp.counter < s.boot.secVer → fired s (u.mbxCommit seq) 152 0) := by
  have hbegan := State.began_mbxJob h.hasFired { seq := seq, result := 0 }
  rw [State.mbxCommit, h.flag_eq (by decide) (by decide), if_neg (by simp [ht]), h.otp_eq, h.boot_eq]
  by_cases hlt : s.otp.counter < s.boot.secVer
  · rw [if_pos hlt]
    refine ⟨((hbegan.withOtp _).set (by decide) (by decide) _).fire (by omega) (by omega) 0, ?_, fun _ => ?_⟩
    · rw [State.fire_otp, State.set_otp, max_eq_right hlt.le, ← h.otp_eq]
      rfl
    · refine h.fired_then hon 152 rfl rfl (by omega) ?_ ?_ ?_ 0
      · rw [State.reg_set_other _ (by decide)]
        exact State.reg_set_other _ (by decide) 1
      · rfl
      · rfl
  · rw [if_neg hlt]
    exact ⟨hbegan, h.otp_eq.trans (by rw [max_eq_left (not_lt.1 hlt)]), fun hlt' => absurd hlt' hlt⟩

/-- A warm boot is asked for, in the tick in which ES008 will fire. -/
def State.restartAsked (u : State) : State :=
  { { u.set HIF_MBXSTAT_BUSY 1 with boot.warmRestart := true } with tick := u.tick + 1 }

include hon in
/-- R52, R429: RESTART asks for a warm boot and raises ES008 in the next tick. -/
theorem Taken.restart : fired s u.mbxRestart 448 0 ∧ u.mbxRestart.boot.warmRestart = true ∧ u.mbxRestart.tick = s.tick ∧
    u.mbxRestart.flag HIF_MBXSTAT_BUSY = true ∧ u.mbxRestart.flag (pendField 8) = true ∧
    (find s.sq.staged 8 = none → find u.mbxRestart.sq.staged 8 = some (stageRec none 8 (s.tick + 1) 0)) := by
  have hcmd : fired s u.restartAsked 448 0 :=
    (h.hasFired.set (by omega) (f := HIF_MBXSTAT_BUSY) (by decide) 1).congr (State.reg_congr rfl _) rfl
  have hon : u.restartAsked.domOn dAon = true := by
    rw [← hon, ← h.domOn_eq]
    exact congrArg (bitN · dAon) (u.get_set_addr (f := HIF_MBXSTAT_BUSY) (g := PWR_STAT_ON) (by decide) 1)
  have hbusy : u.restartAsked.flag HIF_MBXSTAT_BUSY = true := u.flag_set_one (by decide) rfl
  have hfires := u.restartAsked.fired_fire (src := 8) (State.sourceOn_aon rfl rfl hon) 0
  obtain ⟨hflag, hstaged⟩ := hfires
  refine ⟨(hcmd.fire_other (by omega) (by omega) (by omega) 0).congr (State.reg_congr rfl _) rfl, ?_, h.tick_eq, ?_,
    (State.flag_of_reg (State.reg_congr rfl _)).trans hflag, fun hnone => ?_⟩
  · exact congrArg BootSt.warmRestart (State.fire_boot _ 8 0)
  · refine (State.flag_of_reg ?_).trans hbusy
    exact State.reg_fire_other _ (pendReg_ne (by omega) (by decide)) 0
  · have hfind : find u.restartAsked.sq.staged 8 = none := (h.staged_eq (by omega)).trans hnone
    have htick : u.restartAsked.tick = s.tick + 1 := congrArg (· + 1) h.tick_eq
    rw [hfind, htick] at hstaged
    exact hstaged

/-- R303, R385: the arguments of FLASH_WRITE and FLASH_READ. -/
theorem Taken.mbxArg_eq {i : Nat} (hi : i < 8) : u.mbxArg i = s.get (HIF_MBXARG_ARG i) := by
  refine h.get_eq ?_ ?_ <;> simp only [HIF_MBXARG_ARG, a_HIF_MBXARG, a_HIF_MBXCMD, NotPending, f1] <;> omega

theorem Taken.flashWrite {r o n : Nat} (hr : s.get (HIF_MBXARG_ARG 0) = r) (ho : s.get (HIF_MBXARG_ARG 1) = o)
    (hn : s.get (HIF_MBXARG_ARG 2) = n) : u.mbxFlashWrite seq =
      if 4 < r ∨ 4096 < n ∨ (r < 4 ∧ (o % 4096 ≠ 0 ∨ n ≠ 4096 ∨ regionSize r < o + n)) then
        u.mbxJob { seq := seq, result := 2 }
      else if r < 4 ∧ s.get SYS_BOOTSTAT_PAIR = r / 2 ∧ s.mode ≠ mSafe then u.mbxJob { seq := seq, result := 1 }
      else u.mbxViaFlash seq 5 r o n := by
  rw [State.mbxFlashWrite, h.mbxArg_eq (by omega), h.mbxArg_eq (by omega), h.mbxArg_eq (by omega), hr, ho, hn]
  refine if_congr Iff.rfl rfl (if_congr ?_ rfl rfl)
  rw [State.runningRegion, h.mode_eq, h.get_eq (by decide) (by decide)]
  simp [and_assoc]

theorem Taken.flashRead {r o n : Nat} (hr : s.get (HIF_MBXARG_ARG 0) = r) (ho : s.get (HIF_MBXARG_ARG 1) = o)
    (hn : s.get (HIF_MBXARG_ARG 2) = n) : u.mbxFlashRead seq =
      if 4 < r ∨ 4096 < n ∨ regionSize r < o + n then u.mbxJob { seq := seq, result := 2 }
      else u.mbxViaFlash seq 6 r o n := by
  rw [State.mbxFlashRead, h.mbxArg_eq (by omega), h.mbxArg_eq (by omega), h.mbxArg_eq (by omega), hr, ho, hn]

/-- Table 13-10: LIFECYCLE with another key than its own, in FIELD, and out of MANUFACTURE. -/
theorem Taken.lifecycle_badArg (hr : s.get (HIF_MBXARG_ARG 0) ≠ 0x4649454C) :
    Began s (u.mbxLifecycle seq) { seq := seq, result := 2 } ∧ (u.mbxLifecycle seq).otp = s.otp := by
  rw [State.mbxLifecycle, h.mbxArg_eq (by omega), if_pos hr]
  exact ⟨State.began_mbxJob h.hasFired _, h.otp_eq⟩

theorem Taken.lifecycle_refused (hr : s.get (HIF_MBXARG_ARG 0) = 0x4649454C) (hf : s.otp.field = true) :
    Began s (u.mbxLifecycle seq) { seq := seq, result := 1 } ∧ (u.mbxLifecycle seq).otp = s.otp := by
  rw [State.mbxLifecycle, h.mbxArg_eq (by omega), if_neg (not_not.2 hr), h.otp_eq, if_pos hf]
  exact ⟨State.began_mbxJob h.hasFired _, h.otp_eq⟩

include hon in
theorem Taken.lifecycle_sets (hr : s.get (HIF_MBXARG_ARG 0) = 0x4649454C) (hf : s.otp.field = false) :
    Began s (u.mbxLifecycle seq) { seq := seq, result := 0 } ∧
      (u.mbxLifecycle seq).otp = { s.otp with field := true } ∧ fired s (u.mbxLifecycle seq) 152 1 := by
  rw [State.mbxLifecycle, h.mbxArg_eq (by omega), if_neg (not_not.2 hr), if_neg (by simp [h.otp_eq, hf])]
  have hfuse : fired s ({ u with otp.field := true }.fire 152 1) 152 1 := by
    refine h.fired_then hon 152 rfl rfl (by omega) (State.reg_congr ?_ _) ?_ ?_ 1 <;> rfl
  have hcmd : fired s ({ u with otp.field := true }.fire 152 1) 448 0 := by
    refine fired.fire_other (h.hasFired.congr (State.reg_congr ?_ _) ?_) (by omega) (by omega) (by omega) 1 <;> rfl
  have hotp : ({ u with otp.field := true }.fire 152 1).otp = { s.otp with field := true } := by
    rw [State.fire_otp, ← h.otp_eq]
  exact ⟨State.began_mbxJob hcmd _, hotp, hfuse.mbxJob (by omega) _⟩

end

/-! ## HISTORY (R74) -/

theorem leBytes_length (n x : Nat) : (leBytes n x).length = n := by
  induction n generalizing x with
  | zero => rfl
  | succ k ih => simp [leBytes, ih]

theorem leBytes_drop (m n x : Nat) : (leBytes (m + n) x).drop m = leBytes n (x / 256 ^ m) := by
  induction m generalizing x with
  | zero => simp
  | succ k ih =>
    rw [show k + 1 + n = k + n + 1 by omega, leBytes, List.drop_succ_cons, ih, Nat.div_div_eq_div_mul, pow_succ']

theorem leBytes_take (m n x : Nat) : (leBytes (m + n) x).take m = leBytes m x := by
  induction m generalizing x with
  | zero => rfl
  | succ k ih => rw [show k + 1 + n = k + n + 1 by omega, leBytes, List.take_succ_cons, ih, leBytes]

theorem leNat_leBytes (n x : Nat) : leNat (leBytes n x) = x % 256 ^ n := by
  induction n generalizing x with
  | zero => simp [leBytes, leNat, Nat.mod_one]
  | succ k ih => 
    rw [leBytes, leNat, ih, pow_succ', Nat.mod_mul]
    simp

/-- A block of a list that is put together from blocks of `c` elements. -/
theorem flatten_block {α β : Type} {g : α → List β} {c : Nat} (hg : ∀ x, (g x).length = c) {l : List α} {i : Nat} {x : α}
    (h : l[i]? = some x) (tail : List β) : (((l.map g).flatten ++ tail).drop (c * i)).take c = g x := by
  induction l generalizing i with
  | nil => simp at h
  | cons a r ih =>
    rw [List.map_cons, List.flatten_cons, List.append_assoc]
    cases i with
    | zero =>
      obtain rfl : a = x := by simpa using h
      simp [← hg a]
    | succ j =>
      rw [Nat.mul_succ, Nat.add_comm, ← List.drop_drop, ← hg a, List.drop_left, hg a]
      exact ih (by simpa using h)

theorem length_flatten_blocks {α β : Type} {g : α → List β} {c : Nat} (hg : ∀ x, (g x).length = c) (l : List α) :
    (l.map g).flatten.length = c * l.length := by
  simp [List.length_flatten, Function.comp_def, hg, Nat.mul_comm]

/-- The data buffer after bytes are put into it. -/
theorem State.putMbx_get (s : State) {b : List Byte} {w : Nat} (hw : w < ceilDiv b.length 4) :
    (s.putMbx b).get (HIF_MBXBUF_DATA w) = leNat ((b.drop (4 * w)).take 4) % 2 ^ 32 := by
  unfold State.putMbx
  generalize ceilDiv b.length 4 = n at hw
  induction n with
  | zero => omega
  | succ k ih =>
    rw [forN]
    by_cases hk : w = k
    · subst hk
      exact State.get_set_same _ (by simp [HIF_MBXBUF_DATA]) _
    · rw [State.get_set_addr _ (by simp only [HIF_MBXBUF_DATA, a_HIF_MBXBUF, f1]; omega)]
      exact ih (by omega)

/-- What HISTORY puts into the data buffer: the records, and zero beyond them. -/
def historyBytes (l : List EvRec) : List Byte :=
  ((l.map (fun r : EvRec => leBytes 16 r.word)).flatten ++ List.replicate 1024 0).take 1024

theorem historyBytes_length (l : List EvRec) : (historyBytes l).length = 1024 := by
  rw [historyBytes, List.length_take, List.length_append, List.length_replicate]
  omega

theorem historyBytes_word (l : List EvRec) {w : Nat} (hw : w < 256) : ((historyBytes l).drop (4 * w)).take 4 =
    (((l.map (fun r : EvRec => leBytes 16 r.word)).flatten ++ List.replicate 1024 0).drop (4 * w)).take 4 := by
  rw [historyBytes, List.drop_take, List.take_take, min_eq_left (by omega)]

/-- Word `k` of record `i`. -/
theorem historyBytes_record {l : List EvRec} {i k : Nat} {r : EvRec} (hl : l.length ≤ 64) (h : l[i]? = some r) (hk : k < 4) :
    leNat (((historyBytes l).drop (4 * (4 * i + k))).take 4) = r.word / 2 ^ (32 * k) % 2 ^ 32 := by
  have hi : i < l.length := (List.getElem?_eq_some_iff.1 h).1
  have hblock := flatten_block (g := fun r : EvRec => leBytes 16 r.word) (fun r => leBytes_length 16 r.word) h
    (List.replicate 1024 0)
  rw [historyBytes_word l (by omega), show 4 * (4 * i + k) = 16 * i + 4 * k by omega, ← List.drop_drop]
  generalize List.drop (16 * i) _ = rest at hblock ⊢
  have hword : (rest.drop (4 * k)).take 4 = leBytes 4 (r.word / 256 ^ (4 * k)) := by
    calc (rest.drop (4 * k)).take 4 = ((rest.take 16).drop (4 * k)).take 4 := by
          rw [List.drop_take, List.take_take, min_eq_left (by omega)]
      _ = ((leBytes (4 * k + (4 + (12 - 4 * k))) r.word).drop (4 * k)).take 4 := by
          rw [hblock, show 4 * k + (4 + (12 - 4 * k)) = 16 by omega]
      _ = leBytes 4 (r.word / 256 ^ (4 * k)) := by rw [leBytes_drop, leBytes_take]
  rw [hword, leNat_leBytes, show (256 : Nat) = 2 ^ 8 by rfl, ← pow_mul, ← pow_mul]
  congr 3
  omega

theorem leNat_replicate_zero (n : Nat) : leNat (List.replicate n 0) = 0 := by
  induction n with
  | zero => rfl
  | succ k ih => rw [List.replicate_succ, leNat, ih]; rfl

/-- Beyond the records the buffer is zero. -/
theorem historyBytes_beyond {l : List EvRec} {w : Nat} (h : 4 * l.length ≤ w) (hw : w < 256) :
    leNat (((historyBytes l).drop (4 * w)).take 4) = 0 := by
  have hlen := length_flatten_blocks (g := fun r : EvRec => leBytes 16 r.word) (fun r => leBytes_length 16 r.word) l
  rw [historyBytes_word l hw, List.drop_append, List.drop_eq_nil_of_le (by omega), List.nil_append, List.drop_replicate,
    List.take_replicate, leNat_replicate_zero]

theorem State.mbxHistory_eq (s : State) (seq : Nat) : s.mbxHistory seq =
    (s.putMbx (historyBytes s.sq.history)).mbxJob { seq := seq, result := 0, arg0 := some s.sq.history.length } := rfl

theorem Taken.history {s u : State} (h : Taken s u) (seq : Nat) (hlen : s.sq.history.length ≤ 64) :
    Began s (u.mbxHistory seq) { seq := seq, result := 0, arg0 := some s.sq.history.length } ∧
      (∀ i r k, s.sq.history[i]? = some r → k < 4 →
        (u.mbxHistory seq).get (HIF_MBXBUF_DATA (4 * i + k)) = EvRec.word r / 2 ^ (32 * k) % 2 ^ 32) ∧
      ∀ w, 4 * s.sq.history.length ≤ w → w < 256 → (u.mbxHistory seq).get (HIF_MBXBUF_DATA w) = 0 := by
  have hsq : u.sq.history = s.sq.history := by rw [h.1.1.2.2]
  have hput : ∀ b : List Byte, b.length ≤ 4096 → fired s (u.putMbx b) 448 0 := fun b hb =>
    forN_induct (P := fun t => fired s t 448 0) h.hasFired fun w hw t ht => ht.set (by omega) (by
      simp only [NotPending, HIF_MBXBUF_DATA, a_HIF_MBXBUF, f1]; omega) _
  have hget : ∀ w, w < 256 → (u.mbxHistory seq).get (HIF_MBXBUF_DATA w) =
      leNat (((historyBytes s.sq.history).drop (4 * w)).take 4) % 2 ^ 32 := fun w hw => by
    rw [State.mbxHistory_eq, hsq, ← State.putMbx_get u (by rw [historyBytes_length]; exact hw)]
    exact State.get_set_addr _ (by simp only [HIF_MBXBUF_DATA, a_HIF_MBXBUF, HIF_MBXSTAT_BUSY, a_HIF_MBXSTAT, f1]; omega) 1
  refine ⟨?_, fun i r k hr hk => ?_, fun w hlo hw => ?_⟩
  · rw [State.mbxHistory_eq, hsq]
    exact State.began_mbxJob (hput _ (by simp [historyBytes_length])) _
  · have hi : i < s.sq.history.length := (List.getElem?_eq_some_iff.1 hr).1
    rw [hget _ (by omega), historyBytes_record hlen hr hk, Nat.mod_mod]
  · rw [hget w hw, historyBytes_beyond hlo hw, Nat.zero_mod]

end Sys2Proof.Machine

/-! The mailbox: what each command starts, refuses and returns (R303, R304, R385, R390, R429). -/

namespace Sys2Proof.Machine

/-! ## The end of a command -/

/-- MAILBOX_COMMAND_END of the command `j`. -/
def State.mbxEnded (s : State) (j : MbxJob) : State :=
  ({ (s.putArg 0 j.arg0).putArg 1 j.arg1 with hif.mbx := none }.mbxNow j.seq j.result).set HIF_MBXSTAT_BUSY 0

theorem exec_mailboxCommandEnd {s : State} {j : MbxJob} (h : s.hif.mbx = some j) :
    exec .mailboxCommandEnd s = .next (if j.waits then s else s.mbxEnded j) := by
  show execMailboxCommandEnd s = _
  rw [execMailboxCommandEnd, h]
  rfl

theorem State.putArg_reg (s : State) {i a : Nat} (h : a ≠ a_HIF_MBXARG i) (v : Option Nat) :
    (s.putArg i v).reg a = s.reg a := by
  cases v with
  | none => rfl
  | some x => exact s.reg_set_other h x

theorem State.putArg_get (s : State) (i v : Nat) : (s.putArg i (some v)).get (HIF_MBXARG_ARG i) = v % 2 ^ 32 :=
  s.get_set_same (by simp [HIF_MBXARG_ARG]) v

theorem State.mbxEnded_reg (s : State) (j : MbxJob) {a : Nat} (h : a ≠ a_HIF_MBXSTAT) :
    (s.mbxEnded j).reg a = ((s.putArg 0 j.arg0).putArg 1 j.arg1).reg a := by
  rw [State.mbxEnded, State.reg_set_other _ h, State.mbxNow, State.reg_set_other _ h, State.reg_set_other _ h]
  exact State.reg_congr rfl a

theorem State.mbxEnded_spec (s : State) (j : MbxJob) : (s.mbxEnded j).hif.mbx = none ∧
    (s.mbxEnded j).flag HIF_MBXSTAT_BUSY = false ∧ (s.mbxEnded j).get HIF_MBXSTAT_RESULT = j.result % 8 ∧
    (s.mbxEnded j).get HIF_MBXSTAT_DONESEQ = j.seq % 256 ∧
    (∀ v, j.arg0 = some v → (s.mbxEnded j).get (HIF_MBXARG_ARG 0) = v % 2 ^ 32) ∧
    (∀ v, j.arg1 = some v → (s.mbxEnded j).get (HIF_MBXARG_ARG 1) = v % 2 ^ 32) ∧
    sameRegs s (s.mbxEnded j) [a_HIF_MBXSTAT, a_HIF_MBXARG 0, a_HIF_MBXARG 1] := by
  obtain ⟨hresult, hdone, -⟩ :=
    State.mbxNow_shows { (s.putArg 0 j.arg0).putArg 1 j.arg1 with hif.mbx := none } j.seq j.result
  refine ⟨rfl, State.flag_set_zero _ (by decide), ?_, ?_, fun v hv => ?_, fun v hv => ?_, fun a ha => ?_⟩
  · exact (State.get_set_bits _ (by decide) 0).trans hresult
  · exact (State.get_set_bits _ (by decide) 0).trans hdone
  · rw [State.get_of_reg (s.mbxEnded_reg j (by decide)), State.get_of_reg (State.putArg_reg _ (by decide) _), hv,
      State.putArg_get]
  · rw [State.get_of_reg (s.mbxEnded_reg j (by decide)), hv, State.putArg_get]
  · simp only [List.mem_cons, List.not_mem_nil, or_false, not_or] at ha
    obtain ⟨hstat, h0, h1⟩ := ha
    rw [s.mbxEnded_reg j hstat, State.putArg_reg _ h1, State.putArg_reg _ h0]

/-! ## The commands -/

section
variable {s : State} (h : MbxReady s) (seq : BitVec 8)
include h

/-- CONFIRM and COMMIT out of SAFE. -/
theorem MbxReady.exec_confirm (hm : s.mode ≠ mSafe) :
    exec (.confirm seq) s = .next ((s.mbxTaken 2 seq.toNat).mbxConfirm seq.toNat) :=
  congrArg Host.Outcome.next (h.goes _ (by simp [h.notSafe_eq, hm]))

theorem MbxReady.exec_commit (hm : s.mode ≠ mSafe) :
    exec (.commit seq) s = .next ((s.mbxTaken 3 seq.toNat).mbxCommit seq.toNat) :=
  congrArg Host.Outcome.next (h.goes _ (by simp [h.notSafe_eq, hm]))

/-- LIFECYCLE in STANDBY. -/
theorem MbxReady.exec_lifecycle (hs : s.standbyOk = true) :
    exec (.lifecycle seq) s = .next ((s.mbxTaken 10 seq.toNat).mbxLifecycle seq.toNat) :=
  congrArg Host.Outcome.next (h.goes _ (by simp [h.notStandby_eq, hs]))

theorem MbxReady.exec_flashWrite :
    exec (.flashWrite seq) s = .next ((s.mbxTaken 5 seq.toNat).mbxFlashWrite seq.toNat) :=
  congrArg Host.Outcome.next (h.goes _ rfl)

theorem MbxReady.exec_flashRead :
    exec (.flashRead seq) s = .next ((s.mbxTaken 6 seq.toNat).mbxFlashRead seq.toNat) :=
  congrArg Host.Outcome.next (h.goes _ rfl)

end

/-- Settles O50: a command is taken (`Taken`), and what its row does from there is one lemma for each of its outcomes. -/
theorem mailboxCommandsRunToTheirResult : Obligations.MailboxCommandsRunToTheirResult := by
  unfold Obligations.MailboxCommandsRunToTheirResult
  intro at_ idle began atOnce flash ends
  refine ⟨fun s seq op c hat hbusy hc => mailbox_busy hat.1 hbusy hc, fun s seq hat hidle => ?_,
    fun s seq hm hstep hidle hon => status_began seq hon hidle (.inr ⟨hm, hstep⟩), fun s seq hat hidle => ?_,
    fun s seq hat hidle => ?_, fun s seq hat hidle hlen => ?_, fun s op seq hat hidle hop => ?_,
    fun s => ⟨fun hnone => ?_, fun j hj => ⟨fun hwaits => ?_, fun hgo => ?_⟩⟩⟩
  case refine_1 =>
    have h : MbxReady s := ⟨hat.1, hat.2, hidle⟩
    refine ⟨status_began seq h.on hidle (.inl h.reach), fun hm => ⟨⟨_, rfl, ?_⟩, ⟨_, rfl, ?_⟩⟩, fun hm ht => ⟨?_, ?_⟩,
      fun hm ht => ⟨?_, ?_⟩⟩
    · exact h.excluded _ (by simp [h.notSafe_eq, hm])
    · exact h.excluded _ (by simp [h.notSafe_eq, hm])
    · exact ⟨_, h.exec_confirm seq hm, (h.taken 2 seq).confirm_trial _ ht⟩
    · exact ⟨_, h.exec_commit seq hm, (h.taken 3 seq).commit_trial _ ht⟩
    · exact ⟨_, h.exec_confirm seq hm, (h.taken 2 seq).confirm_refused _ ht⟩
    · exact ⟨_, h.exec_commit seq hm, (h.taken 3 seq).commit_raises h.on _ ht⟩
  case refine_2 =>
    have h : MbxReady s := ⟨hat.1, hat.2, hidle⟩
    exact ⟨_, congrArg Host.Outcome.next (h.goes _ rfl), (h.taken 4 seq).restart h.on⟩
  case refine_3 =>
    intro r o n badW badR held
    have h : MbxReady s := ⟨hat.1, hat.2, hidle⟩
    have hwrite := (h.taken 5 seq).flashWrite seq.toNat (r := r) (o := o) (n := n) rfl rfl rfl
    have hread := (h.taken 6 seq).flashRead seq.toNat (r := r) (o := o) (n := n) rfl rfl rfl
    refine ⟨fun hbad => ⟨_, h.exec_flashWrite seq, ?_⟩, fun hok hheld => ⟨_, h.exec_flashWrite seq, ?_⟩,
      fun hok hfree => ⟨_, h.exec_flashWrite seq, ?_⟩, fun hbad => ⟨_, h.exec_flashRead seq, ?_⟩,
      fun hok => ⟨_, h.exec_flashRead seq, ?_⟩, ⟨_, congrArg Host.Outcome.next (h.goes _ rfl), ?_⟩,
      ⟨_, congrArg Host.Outcome.next (h.goes _ rfl), h.beganFlash 8 seq 8 0 0 256⟩, fun hs => ⟨_, rfl, ?_⟩,
      fun hs hr => ⟨_, h.exec_lifecycle seq hs, (h.taken 10 seq).lifecycle_badArg _ hr⟩,
      fun hs hr hf => ⟨_, h.exec_lifecycle seq hs, (h.taken 10 seq).lifecycle_refused _ hr hf⟩,
      fun hs hr hf => ⟨_, h.exec_lifecycle seq hs, (h.taken 10 seq).lifecycle_sets h.on _ hr hf⟩⟩
    · rw [hwrite, if_pos hbad]
      exact ⟨h.began 5 seq _, (h.taken 5 seq).fsp_eq⟩
    · rw [hwrite, if_neg hok, if_pos hheld]
      exact ⟨h.began 5 seq _, (h.taken 5 seq).fsp_eq⟩
    · rw [hwrite, if_neg hok, if_neg hfree]
      exact h.beganFlash 5 seq 5 r o n
    · rw [hread, if_pos hbad]
      exact ⟨h.began 6 seq _, (h.taken 6 seq).fsp_eq⟩
    · rw [hread, if_neg hok]
      exact h.beganFlash 6 seq 6 r o n
    · rw [(h.taken 7 seq).mbxArg_eq (by omega)]
      exact h.beganFlash 7 seq 7 (r % 4) 0 0
    · exact h.excluded _ (by simp [h.notStandby_eq, hs])
  case refine_4 =>
    have h : MbxReady s := ⟨hat.1, hat.2, hidle⟩
    exact ⟨_, congrArg Host.Outcome.next (h.goes _ rfl), (h.taken 9 seq).history _ hlen⟩
  case refine_5 =>
    have h : MbxReady s := ⟨hat.1, hat.2, hidle⟩
    refine ⟨_, congrArg Host.Outcome.next ((if_neg hop).trans (h.goes _ rfl)), ?_⟩
    exact (h.taken op.toNat seq).endedAtOnce h.idle seq (by decide)
  case refine_6 =>
    show execMailboxCommandEnd s = _
    rw [execMailboxCommandEnd, hnone]
  case refine_7 => rw [exec_mailboxCommandEnd hj, if_pos hwaits]
  case refine_8 =>
    refine ⟨_, by rw [exec_mailboxCommandEnd hj, hgo]; rfl, s.mbxEnded_spec j⟩

end Sys2Proof.Machine

/-! SUPPORT. What the end of frames, the loss of a domain and Burin leave of the system's own state: the relation `Calm`,
its closure lemmas, and the lemmas of the primitive updates and of the operations of the line. -/

namespace Sys2Proof.Machine

/-- The registers of the identity, the mode, the boot and the lock. -/
def sysRegs : List Nat := [a_SYS_ID, a_SYS_CAP, a_SYS_MODESTAT, a_SYS_BOOTSTAT, a_SYS_LOCK]

/-- Those, the registers of pending bits, the power state and Burin's control. -/
def heldRegs : List Nat :=
  sysRegs ++ [a_PWR_STAT, a_BUR_CTL] ++ (List.range 16).map a_SQR_PEND ++ (List.range 2).map a_BUR_PEND

/-- A register that no clause of `Calm` speaks of. -/
abbrev Free (a : Nat) : Prop := a ∉ heldRegs

theorem Free.of_range {a : Nat} (h : 0x22000 ≤ a ∧ a < f1 0) : Free a := by
  have held : ∀ b ∈ heldRegs, b < 0x22000 ∨ f1 0 ≤ b := by decide
  intro ha
  have := held a ha
  omega

theorem Free.port {b n : Nat} (hn : n < 16) (h : 0x22000 ≤ b ∧ b < 0x110000) : Free (b + 0x8000 * n) :=
  Free.of_range (by simp only [f1]; omega)

theorem pendReg_mem {k : Nat} (hk : k < 512) : pendReg k ∈ heldRegs := by
  unfold pendReg pendField
  split
  · exact List.mem_append_right _ (List.mem_map_of_mem (List.mem_range.2 (by omega)))
  · exact List.mem_append_left _ (List.mem_append_right _ (List.mem_map_of_mem (List.mem_range.2 (by omega))))

theorem framePorts_lt {n p : Nat} (hn : n < 16) {grouped : Bool} (h : p ∈ framePorts n grouped) :
    p < 16 := by
  unfold framePorts at h
  split at h <;> simp at h <;> omega

/-- From `s` to `t` nothing has changed of the system's registers, the fault and ACT of Burin, the fuses, the host
interface, the WARM_N and PORST_N pins; no pending bit is lost, no domain has come on, and those that SAFE keeps are as they
were. -/
structure Calm (s t : State) : Prop where
  sys : ∀ a ∈ sysRegs, t.reg a = s.reg a
  pend : ∀ k, k < 512 → s.flag (pendField k) = true → t.flag (pendField k) = true
  fault : t.get BUR_CTL_PROT_FAULT = s.get BUR_CTL_PROT_FAULT
  act : t.get BUR_CTL_ACT = s.get BUR_CTL_ACT
  off : ∀ d, t.domOn d = true → s.domOn d = true
  safe : ∀ d, bitN safeDomains d = true → t.domOn d = s.domOn d
  otp : t.otp = s.otp
  hif : t.hif = s.hif
  warm : t.boot.warmLow = s.boot.warmLow
  porst : t.pw.porstLow = s.pw.porstLow

namespace Calm

theorem refl (s : State) : Calm s s :=
  ⟨fun _ _ => rfl, fun _ _ h => h, rfl, rfl, fun _ h => h, fun _ _ => rfl, rfl, rfl, rfl, rfl⟩

theorem trans {s t u : State} (h : Calm s t) (k : Calm t u) : Calm s u where
  sys a ha := (k.sys a ha).trans (h.sys a ha)
  pend j hj hs := k.pend j hj (h.pend j hj hs)
  fault := k.fault.trans h.fault
  act := k.act.trans h.act
  off d hd := h.off d (k.off d hd)
  safe d hd := (k.safe d hd).trans (h.safe d hd)
  otp := k.otp.trans h.otp
  hif := k.hif.trans h.hif
  warm := k.warm.trans h.warm
  porst := k.porst.trans h.porst

/-- Where the registers that `Calm` speaks of are as they were. -/
theorem of_regs {s t : State} (hr : ∀ a ∈ heldRegs, t.reg a = s.reg a) (ho : t.otp = s.otp := by rfl)
    (hh : t.hif = s.hif := by rfl) (hw : t.boot.warmLow = s.boot.warmLow := by rfl)
    (hp : t.pw.porstLow = s.pw.porstLow := by rfl) : Calm s t where
  sys a ha := hr a (by simp [heldRegs, ha])
  pend k hk hs := (State.flag_of_reg (hr _ (pendReg_mem hk))).trans hs
  fault := State.get_of_reg (hr _ (by decide))
  act := State.get_of_reg (hr _ (by decide))
  off d hd := by rwa [State.domOn, State.get_of_reg (f := PWR_STAT_ON) (hr _ (by decide))] at hd
  safe d _ := congrArg (bitN · d) (State.get_of_reg (f := PWR_STAT_ON) (hr _ (by decide)))
  otp := ho
  hif := hh
  warm := hw
  porst := hp

/-- An update of the other parts of the state. -/
theorem other {s t : State} (h : t.regs = s.regs := by rfl) (ho : t.otp = s.otp := by rfl)
    (hh : t.hif = s.hif := by rfl) (hw : t.boot.warmLow = s.boot.warmLow := by rfl)
    (hp : t.pw.porstLow = s.pw.porstLow := by rfl) : Calm s t :=
  of_regs (fun a _ => State.reg_congr h a) ho hh hw hp

theorem set (s : State) {f : Field} (h : Free f.addr) (v : Nat) : Calm s (s.set f v) :=
  of_regs fun _ ha => s.reg_set_other (by rintro rfl; exact h ha) v

theorem setReg (s : State) {a : Nat} (h : Free a) (v : Word) : Calm s (s.setReg a v) :=
  of_regs fun _ ha => s.reg_setReg_other (by rintro rfl; exact h ha) v

theorem ite {s a b : State} {c : Prop} [Decidable c] (h : Calm s a) (k : Calm s b) : Calm s (if c then a else b) := by
  split <;> assumption

theorem forN {s : State} {n : Nat} {f : Nat → State → State} (hf : ∀ k, k < n → ∀ t, Calm t (f k t)) :
    Calm s (forN n f s) :=
  forN_induct (P := Calm s) (.refl s) fun k hk t h => h.trans (hf k hk t)

theorem forEach {α : Type} {l : List α} {f : α → State → State} {s : State} (hf : ∀ a ∈ l, ∀ t, Calm t (f a t)) :
    Calm s (forEach l f s) :=
  forEach_induct (P := Calm s) (.refl s) fun a ha t h => h.trans (hf a ha t)

theorem lineOnly {s t : State} (h : LineOnly s t) : Calm s t := by
  have held : ∀ a ∈ heldRegs, ¬ LineReg a := by decide
  exact of_regs (fun a ha => h.regs a (held a ha)) (by rw [h.rest]) (by rw [h.rest]) (by rw [h.rest]) (by rw [h.rest])

/-- An event sets a pending bit (R68). -/
theorem fire (s : State) {src : Nat} (hsrc : src < 512) (data : Nat) : Calm s (s.fire src data) where
  sys a ha := s.reg_fire_other (pendReg_ne hsrc ((by decide : ∀ a ∈ sysRegs, NotPending a) a ha)) data
  pend k hk hs := by
    by_cases hon : s.sourceOn src = true
    · by_cases hne : k = src
      · exact hne ▸ (s.fired_fire hon data).1
      · exact (congrArg (· == 1) (s.get_fire_other (pendField_disjoint hk hsrc hne) data)).trans hs
    · rwa [s.fire_off (by simpa using hon)]
  fault := s.get_fire_other (.inl (pendReg_ne hsrc (by decide))) data
  act := s.get_fire_other (.inl (pendReg_ne hsrc (by decide))) data
  off d hd := by
    rwa [State.domOn, s.get_fire_other (g := PWR_STAT_ON) (.inl (pendReg_ne hsrc (by decide)))] at hd
  safe d _ := congrArg (bitN · d) (s.get_fire_other (g := PWR_STAT_ON) (.inl (pendReg_ne hsrc (by decide))) data)
  otp := s.fire_otp src data
  hif := s.fire_hif src data
  warm := congrArg BootSt.warmLow (s.fire_boot src data)
  porst := congrArg PowerSt.porstLow (s.fire_pw src data)

/-! ## The transmitter and its driver (R159, R165 to R168) -/

theorem setTxPort (s : State) (n : Nat) (p : TxPort) : Calm s (s.setTxPort n p) := other

theorem trimOn (s : State) (n k a b e : Nat) : Calm s (s.trimOn n k a b e) := by
  unfold State.trimOn
  extract_lets p l runs
  clear_value l runs
  split
  · exact other
  · exact refl s

theorem trimOnTime (s : State) (n a b e : Nat) : Calm s (s.trimOnTime n a b e) :=
  forN fun k _ t => trimOn t n k a b e

theorem refreshLd (s : State) {n : Nat} (hn : n < 16) : Calm s (s.refreshLd n) := by
  have hset : ∀ (t : State) {f : Field} (v : Nat), f.addr = a_PRT_LDCTL n → Calm t (t.set f v) := fun t f v hf =>
    set t (by rw [hf]; exact .port (b := 0x100700) hn (by decide)) v
  unfold State.refreshLd
  extract_lets want s1
  have h1 : Calm s s1 := hset s (f := PRT_LDCTL_BURHOLD n) _ rfl
  clear_value want s1
  split
  · exact h1
  · refine trans (h1.trans (hset s1 (f := PRT_LDCTL_LDEN n) (b2n want) rfl)) ?_
    exact setTxPort _ _ _

theorem refreshLds (s : State) : Calm s s.refreshLds :=
  forN fun _ hk t => refreshLd t (Nat.lt_of_lt_of_le hk s.ports_le)

theorem airEnd (s : State) {n : Nat} (hn : n < 16) (a : Air) (outcome e : Nat) : Calm s (s.airEnd n a outcome e) := by
  unfold State.airEnd
  refine trans (trans (t := (s.setTxPort n _).setCsma n _) other (fire _ (by unfold esPort; omega) outcome))
    (forEach fun p hp t => ?_)
  have ht1 : Calm t (if e < a.full then t.trimOnTime p a.start a.full e else t) := ite (trimOnTime _ _ _ _ _) (refl t)
  exact (ht1.trans other).trans (refreshLd _ (framePorts_lt hn hp))

theorem stopLine (s : State) {n : Nat} (hn : n < 16) : Calm s (s.stopLine n) := by
  unfold State.stopLine
  split
  · exact airEnd s hn _ _ _
  · exact refl s

/-! ## The receive FIFO (R268 to R275) -/

theorem arcFire (s : State) {i : Nat} (hi : i < 40) (bit : Nat) : Calm s (s.arcFire i bit) := by
  unfold State.arcFire
  split
  · exact ite other (fire s (by omega) bit)
  · exact fire s (by omega) bit

theorem arcHandOver (s : State) {i : Nat} (hi : i < 40) : Calm s (s.arcHandOver i) := by
  unfold State.arcHandOver
  exact ite (ite (trans other (arcFire _ hi 1)) other) (refl s)

theorem arcOpen (s : State) {i : Nat} (hi : i < 40) : Calm s (s.arcOpen i) := by
  have hroom : Calm s (if s.arcRoom i then s else s.arcHandOver i) := ite (refl s) (arcHandOver s hi)
  unfold State.arcOpen
  exact ite other (ite (hroom.trans other) (ite hroom (hroom.trans other)))

theorem bump (s : State) {f : Field} (h : Free f.addr) (n : Nat) : Calm s (s.bump f n) := set s h _

theorem arcRewind (s : State) {i : Nat} (hi : i < 40) : Calm s (s.arcRewind i) := by
  unfold State.arcRewind
  refine ite (trans other (bump _ (.of_range ?_) 1)) other
  simp only [ARC_CNT_REWIND, a_ARC_CNT, f1]
  omega

/-! ## The end of a frame in reception (R141) -/

theorem rxOpenNext (s : State) {n : Nat} (hn : n < 16) : Calm s (s.rxOpenNext n) :=
  ite (refl s) (arcOpen s (by omega))

theorem poisonRelay (s : State) (id : Nat) : Calm s (s.poisonRelay id) := by
  unfold State.poisonRelay
  exact ite (trans other (bump _ (by decide) 1)) (refl s)

theorem latchOffsets (s : State) {n : Nat} (hn : n < 16) (a : Acq) : Calm s (s.latchOffsets n a) :=
  (set s (.port (b := 0x100408) hn (by decide)) _).trans (set _ (.port (b := 0x10040C) hn (by decide)) _)

theorem dropBlocks (s : State) (n id : Nat) : Calm s (s.dropBlocks n id) :=
  trans (trans other (set _ (f := GRP_DECSTAT_WAIT) (by decide) _)) (set _ (f := GRP_DECSTAT_PEAK) (by decide) _)

theorem rxEnd (s : State) {n : Nat} (hn : n < 16) (a : Acq) {reason : Nat} (hr : reason < 16) : Calm s (s.rxEnd n a reason) := by
  unfold State.rxEnd
  extract_lets p current owner s1 s2 s3
  have h1 : Calm s s1 := ((ite (latchOffsets s hn a) (refl s)).trans (dropBlocks _ n a.id)).trans other
  have h2 : Calm s s2 := ite ((h1.trans (arcRewind s1 (by omega))).trans (rxOpenNext _ hn)) h1
  have h3 : Calm s s3 := (h2.trans (bump s2 (.of_range (by
    simp only [PRT_RXFAIL_COUNT, a_PRT_RXFAIL, f1]; omega)) 1)).trans (poisonRelay _ a.id)
  exact ite ((h3.trans (lineOnly (.toSearch s3 hn))).trans other) h3

theorem rxAbandon (s : State) {n : Nat} (hn : n < 16) {reason : Nat} (hr : reason < 16) : Calm s (s.rxAbandon n reason) :=
  forEach fun a _ t => (rxEnd t hn a hr).trans (fire _ (by unfold esPort; omega) reason)

end Calm
end Sys2Proof.Machine

/-! SUPPORT. Domains that go off, the change of Burin, and the entry into SAFE (R50, R51, R193, R394). -/

namespace Sys2Proof.Machine

/-! ## Resets of registers -/

/-- A register that a reset does not reach. -/
theorem State.reg_resetWhere (s : State) {p : Nat → Row → Nat → Bool} {a : Nat}
    (h : ∀ r i j, rowOf regMap a = some (r, i, j) → p a r i = false) : (s.resetWhere p).reg a = s.reg a := by
  have hfind : ∀ t : Tab Word, find (t.filterMap (resetEntry p)) a = find t a := by
    intro t
    induction t with
    | nil => rfl
    | cons e rest ih =>
      obtain ⟨k, v⟩ := e
      by_cases hk : k = a
      · subst hk
        have : resetEntry p (k, v) = some (k, v) := by
          cases hrow : rowOf regMap k with
          | none => simp [resetEntry, hrow]
          | some q =>
            obtain ⟨r, i, j⟩ := q
            simp [resetEntry, hrow, h r i j hrow]
        simp [this, find]
      · have : ∀ e', resetEntry p (k, v) = some e' → e'.1 = k := by
          intro e' he
          unfold resetEntry at he
          split at he
          · cases he; rfl
          · split at he
            · simp only at he
              split at he <;> cases he
              rfl
            · cases he; rfl
        rw [List.filterMap_cons, find, if_neg hk]
        split
        · exact ih
        · rename_i e' he
          obtain ⟨k', v'⟩ := e'
          obtain rfl : k' = k := this _ he
          rw [find, if_neg hk, ih]
  simp only [State.reg, look, State.resetWhere, hfind]

/-- The domains of the registers that `Calm` speaks of. -/
theorem heldRegs_domain : ∀ a ∈ heldRegs, (rowOf regMap a).all (fun q => decide (rowDomain q.1 q.2.1 = dAon ∨
    rowDomain q.1 q.2.1 = dHif)) = true := by decide +kernel

theorem State.reg_set_vcnt (s : State) (st : Nat) {a : Nat} (h0 : a ≠ a_KEY_VCNT0) (h1 : a ≠ a_KEY_VCNT1) (v : Nat) :
    (s.set (vcnt st) v).reg a = s.reg a := by
  refine s.reg_set_other ?_ v
  unfold vcnt
  split_ifs <;> assumption

/-- The registers that a slot of the vault does not show in. -/
theorem State.reg_setSlot (s : State) {k a : Nat} (hslot : a ≠ a_KEY_SLOT k) (h0 : a ≠ a_KEY_VCNT0) (h1 : a ≠ a_KEY_VCNT1)
    (st usage size key : Nat) : (s.setSlot k st usage size key).reg a = s.reg a := by
  unfold State.setSlot
  extract_lets old s1 s2 s3
  have hcounts : s2.reg a = s.reg a := (s1.reg_set_vcnt st h0 h1 _).trans (s.reg_set_vcnt old h0 h1 _)
  have hslots : s3.reg a = s2.reg a :=
    ((State.reg_set_other _ hslot size).trans (State.reg_set_other _ hslot usage)).trans (s2.reg_set_other hslot st)
  clear_value s3
  refine Eq.trans (State.reg_congr ?_ a) (hslots.trans hcounts)
  rfl

namespace Calm

theorem resetDomain (s : State) {d : Nat} (hd : d ≠ dAon ∧ d ≠ dHif) :
    Calm s (s.resetWhere (fun _ r i => decide (2 ≤ r.reach) && rowDomain r i == d)) := by
  refine of_regs fun a ha => s.reg_resetWhere fun r i j hrow => ?_
  have := heldRegs_domain a ha
  rw [hrow] at this
  obtain ⟨haon, hhif⟩ := hd
  rcases of_decide_eq_true this with h | h <;> simp [h, haon.symm, hhif.symm]

/-! ## What blocks lose with their domain (R394) -/

theorem setSlot (s : State) {k : Nat} (hk : k < 256) (st usage size key : Nat) : Calm s (s.setSlot k st usage size key) := by
  have hslot : Free (a_KEY_SLOT k) := .of_range (by simp only [a_KEY_SLOT, f1]; omega)
  have hcnt : Free a_KEY_VCNT0 ∧ Free a_KEY_VCNT1 := by decide
  exact of_regs fun a ha => s.reg_setSlot (by rintro rfl; exact hslot ha) (by rintro rfl; exact hcnt.1 ha)
    (by rintro rfl; exact hcnt.2 ha) _ _ _ _

theorem slotsLost (s : State) (a b : Nat) : Calm s (s.slotsLost a b) :=
  forN fun _ hk t => ite (setSlot t hk _ _ _ _) (refl t)

theorem showCph (s : State) : Calm s s.showCph :=
  ((set s (f := CPH_STAT_WAIT) (by decide) _).trans (set _ (f := CPH_STAT_BUSY) (by decide) _)).trans
    (set _ (f := CPH_STAT_CTX) (by decide) _)

theorem cphIdle (s : State) : Calm s s.cphIdle := by
  have hslots : Calm s (Machine.forN 256 (fun k t => if t.get (KEY_SLOT_REFCNT k) = 0 then t
      else t.set (KEY_SLOT_REFCNT k) 0) s) :=
    forN fun k hk t => ite (refl t) (set t (.of_range (by simp only [KEY_SLOT_REFCNT, a_KEY_SLOT, f1]; omega)) 0)
  unfold State.cphIdle
  exact ((hslots.trans other).trans (set _ (f := KEY_KCCNT_VALID) (by decide) 0)).trans (showCph _)

theorem setTb (s : State) {b : Nat} (hb : b < 2) (x : TbSt) : Calm s (s.setTb b x) := by
  have hpend : Free (TIM_TBPEND_PEND b).addr := .of_range (by simp only [TIM_TBPEND_PEND, a_TIM_TBPEND, f1]; omega)
  have hslew : Free (TIM_TBSTAT_SLEWING b).addr := .of_range (by simp only [TIM_TBSTAT_SLEWING, a_TIM_TBSTAT, f1]; omega)
  unfold State.setTb
  refine trans (trans ?_ (set _ hpend _)) (set _ hslew _)
  exact ite other other

theorem basesLost (s : State) : Calm s s.basesLost := by
  have clear : ∀ (t : State) (b : Nat), b < 2 → Calm t (((t.setTb b {}).set (TIM_TBSTAT_VALID b) 0).set (TIM_TBSTAT_HOLD b) 0) := by
    intro t b hb
    have hstat : Free (a_TIM_TBSTAT b) := .of_range (by simp only [a_TIM_TBSTAT, f1]; omega)
    exact ((setTb t hb {}).trans (set _ (f := TIM_TBSTAT_VALID b) hstat 0)).trans (set _ (f := TIM_TBSTAT_HOLD b) hstat 0)
  unfold State.basesLost
  refine trans (trans ((clear s 0 (by omega)).trans (clear _ 1 (by omega))) ?_) (set _ (f := TIM_PTOFS_PTOFS) (by decide) 0)
  exact other

theorem fixAreas (s : State) : Calm s s.fixAreas := ite (set s (f := MAC_TMSCFG_LINKS) (by decide) 4) (refl s)

theorem portLost (s : State) (n : Nat) : Calm s (s.portLost n) := other

/-- R394, R395: what a domain holds is lost; one that SAFE keeps is not switched. -/
theorem domainLost (s : State) {d : Nat} (hd : bitN safeDomains d = false) : Calm s (s.domainLost d) := by
  have hne : ∀ k, bitN safeDomains k = true → d ≠ k := by rintro k hk rfl; simp [hd] at hk
  unfold State.domainLost
  extract_lets s1 mem s2
  have h2 : Calm s s2 := (resetDomain s ⟨hne dAon rfl, hne dHif rfl⟩).trans other
  clear_value s2
  rw [if_neg (hne dProt rfl)]
  refine h2.trans ?_
  refine ite ((basesLost s2).trans other) (ite (trans other (fixAreas _)) (ite ?_ (ite other (ite other (ite other ?_)))))
  · exact ((cphIdle s2).trans (slotsLost _ _ _)).trans (slotsLost _ _ _)
  · exact ite ((portLost s2 _).trans (portLost _ _)) (refl s2)

end Calm

/-! ## Which domains are on (R392) -/

/-- A domain is on where its bit of PWR_STAT is set. -/
theorem State.domOn_eq (s : State) (d : Nat) : s.domOn d = (decide (d < 20) && (s.reg a_PWR_STAT).getLsbD d) := by
  have h := testBit_bits (s.reg a_PWR_STAT) 0 20 d
  rw [Nat.zero_add, Nat.testBit_eq_decide_div_mod_eq] at h
  rw [← h]
  rfl

/-- A domain is switched; every other one is as it was. -/
theorem State.domOn_setOn (s : State) {d : Nat} (hd : d < 20) (b : Bool) (e : Nat) :
    (s.setOn d b).domOn e = if e = d then b else s.domOn e := by
  simp only [State.domOn_eq, State.setOn, State.set, State.reg_setReg_same, getLsbD_withBits]
  by_cases he : e = d
  · subst he
    cases b <;> simp [hd, show e < 32 by omega, b2n]
  · by_cases h20 : e < 20
    · rw [if_neg (show ¬ (d ≤ e ∧ e < d + 1) by omega), if_neg he]
      simp [h20, show e < 32 by omega]
    · simp [he, h20]

theorem State.domOn_showPower (s : State) (d : Nat) : s.showPower.domOn d = s.domOn d :=
  congrArg (bitN · d) (s.get_set_bits (f := PWR_STAT_BUSY) (g := PWR_STAT_ON) (by decide) _)

namespace Calm

/-- A write of PWR_STAT that brings no domain up and leaves those that SAFE keeps. -/
theorem power (s : State) {f : Field} (hf : f.addr = a_PWR_STAT) (v : Nat)
    (off : ∀ d, (s.set f v).domOn d = true → s.domOn d = true)
    (safe : ∀ d, bitN safeDomains d = true → (s.set f v).domOn d = s.domOn d) : Calm s (s.set f v) where
  sys a ha := s.reg_set_other (hf ▸ (by decide : ∀ a ∈ sysRegs, a ≠ a_PWR_STAT) a ha) v
  pend k hk hs := (State.flag_of_reg (s.reg_set_other (hf ▸ (pendReg_ne hk (by decide)).symm) v)).trans hs
  fault := s.get_set_addr (by rw [hf]; decide) v
  act := s.get_set_addr (by rw [hf]; decide) v
  off := off
  safe := safe
  otp := rfl
  hif := rfl
  warm := rfl
  porst := rfl

theorem showPower (s : State) : Calm s s.showPower :=
  power s rfl _ (fun d hd => by rwa [← State.showPower, s.domOn_showPower] at hd) fun d _ => s.domOn_showPower d

theorem settle (s : State) (d : Nat) : Calm s (s.settle d) := by
  unfold State.settle
  refine trans ?_ (showPower _)
  exact other

theorem setOff (s : State) {d : Nat} (hd : d < 20) (hs : bitN safeDomains d = false) : Calm s (s.setOn d false) :=
  power s rfl _ (fun e he => by
      rw [← State.setOn, s.domOn_setOn hd] at he
      split at he
      · exact nomatch he
      · exact he)
    fun e he => by
      rw [← State.setOn, s.domOn_setOn hd, if_neg]
      rintro rfl
      simp [hs] at he

theorem domainDown (s : State) {d : Nat} (hd : d < 20) (hs : bitN safeDomains d = false) : Calm s (s.domainDown d) :=
  (((settle s d).trans (domainLost _ hs)).trans (setOff _ hd hs)).trans (fire _ (by omega) d)

theorem gateStep (s : State) {d : Nat} (hd : d < 20) :
    Calm s (if bitN safeDomains d then s else if s.domOn d then s.domainDown d else s.settle d) := by
  split
  · exact refl s
  · rename_i hs
    exact ite (domainDown s hd (by simpa using hs)) (settle s d)

theorem gateSafe (s : State) : Calm s s.gateSafe := forN fun _ hk t => gateStep t hk

/-! ## Burin (R193) -/

theorem showPending (s : State) : Calm s s.showPending where
  sys a ha := s.reg_set_other ((by decide : ∀ a ∈ sysRegs, a ≠ BUR_CTL_PENDING.addr) a ha) _
  pend k hk hs := (State.flag_of_reg (s.reg_set_other (pendReg_ne (a := a_BUR_CTL) hk (by decide)).symm _)).trans hs
  fault := s.get_set_bits (by decide) _
  act := s.get_set_bits (by decide) _
  off d hd := by rwa [State.domOn, State.showPending, State.get_set_addr _ (by decide)] at hd
  safe d _ := congrArg (bitN · d) (s.get_set_addr (f := BUR_CTL_PENDING) (g := PWR_STAT_ON) (by decide) _)
  otp := rfl
  hif := rfl
  warm := rfl
  porst := rfl

theorem burApplyTx (s : State) {n : Nat} (hn : n < 16) : Calm s (s.burApplyTx n) := by
  unfold State.burApplyTx
  refine trans ?_ (refreshLd _ hn)
  exact other

theorem burChange (s : State) : Calm s s.burChange := by
  unfold State.burChange
  split
  refine ite (refl s) (trans (trans ?_ (forN fun k hk t => ?_)) (showPending _))
  · exact other
  · exact ite (burApplyTx t (Nat.lt_of_lt_of_le hk s.ports_le)) (refl t)

/-! ## The log is closed (R387) -/

theorem flashPut (s : State) (a : Nat) (b : List Byte) : Calm s (s.flashPut a b) := by
  induction b generalizing s a with
  | nil => exact refl s
  | cons x r ih => exact trans other (ih _ (a + 1))

theorem flashErase (s : State) (a len : Nat) : Calm s (s.flashErase a len) := by
  unfold State.flashErase
  extract_lets c fl s1 s2
  have h2 : Calm s s2 := by
    refine trans ?_ (set _ (f := FSP_WEAR2_MAX) (by decide) _)
    exact other
  exact ite (h2.trans (fire _ (by omega) a)) h2

theorem writeLog (s : State) (l : List Nat) : Calm s (s.writeLog l) := by
  unfold State.writeLog
  extract_lets k a s1 b pad s2
  have h1 : Calm s s1 := ite (flashErase s _ _) (refl s)
  exact (h1.trans (flashPut s1 _ _)).trans other

theorem closeLog (s : State) : Calm s s.closeLog := by
  unfold State.closeLog
  extract_lets l fl s1
  have h1 : Calm s s1 := other
  exact ite (h1.trans (forEach fun u _ t => writeLog t u)) h1

end Calm
end Sys2Proof.Machine

/-! SUPPORT. The state in SAFE (R50, R51): what an entry into it shows and what it leaves. -/

namespace Sys2Proof.Machine

/-! ## The mode as it is shown (R32, R304) -/

theorem State.reg_showProg (s : State) {a : Nat} (h : a ≠ a_HIF_MBXSTAT) : s.showProg.reg a = s.reg a := by
  rw [State.showProg, State.reg_set_other _ h, State.reg_set_other _ h]

theorem State.get_setMode (s : State) (m : Nat) {f : Field} (h : f.addr ≠ a_HIF_MBXSTAT) : (s.setMode m).get f =
    (((s.set SYS_MODESTAT_MODE m).set SYS_MODESTAT_TARGET m).set SYS_MODESTAT_BUSY 0).get f :=
  State.get_of_reg (State.reg_showProg _ h)

/-- The device is in mode `m`, and no transition is in progress. -/
structure ShowsMode (t : State) (m : Nat) : Prop where
  mode : t.mode = m
  target : t.get SYS_MODESTAT_TARGET = m
  busy : t.busy = false

theorem ShowsMode.congr {s t : State} {m : Nat} (h : ShowsMode s m) (hreg : t.reg a_SYS_MODESTAT = s.reg a_SYS_MODESTAT) :
    ShowsMode t m :=
  ⟨(State.get_of_reg hreg).trans h.mode, (State.get_of_reg hreg).trans h.target, (State.flag_of_reg hreg).trans h.busy⟩

theorem State.setMode_shows (s : State) {m : Nat} (hm : m < 16) : ShowsMode (s.setMode m) m := by
  refine ⟨?_, ?_, ?_⟩
  · rw [State.mode, s.get_setMode m (by decide), State.get_set_bits _ (by decide), State.get_set_bits _ (by decide),
      State.get_set_same _ (by decide)]
    exact Nat.mod_eq_of_lt hm
  · rw [s.get_setMode m (by decide), State.get_set_bits _ (by decide), State.get_set_same _ (by decide)]
    exact Nat.mod_eq_of_lt hm
  · rw [State.busy, State.flag, s.get_setMode m (by decide), State.get_set_same _ (by decide)]
    rfl

theorem State.reg_setMode (s : State) (m : Nat) {a : Nat} (h : a ≠ a_SYS_MODESTAT) (hx : a ≠ a_HIF_MBXSTAT) :
    (s.setMode m).reg a = s.reg a := by
  rw [State.setMode, State.reg_showProg _ hx, State.reg_set_other _ h, State.reg_set_other _ h, State.reg_set_other _ h]

/-! ## What a boot and an entry into SAFE leave (R40, R53) -/

/-- The identity, the lock, the fuses and the pins are as they were. -/
structure Part (s t : State) : Prop where
  regs : ∀ a ∈ [a_SYS_ID, a_SYS_CAP, a_SYS_LOCK], t.reg a = s.reg a
  otp : t.otp = s.otp
  warm : t.boot.warmLow = s.boot.warmLow
  porst : t.pw.porstLow = s.pw.porstLow

namespace Part

theorem refl (s : State) : Part s s := ⟨fun _ _ => rfl, rfl, rfl, rfl⟩

theorem trans {s t u : State} (h : Part s t) (k : Part t u) : Part s u :=
  ⟨fun a ha => (k.regs a ha).trans (h.regs a ha), k.otp.trans h.otp, k.warm.trans h.warm, k.porst.trans h.porst⟩

theorem of_calm {s t : State} (h : Calm s t) : Part s t :=
  ⟨fun a ha => h.sys a ((by decide : ∀ a ∈ [a_SYS_ID, a_SYS_CAP, a_SYS_LOCK], a ∈ sysRegs) a ha), h.otp, h.warm, h.porst⟩

theorem other {s t : State} (h : t.regs = s.regs := by rfl) (ho : t.otp = s.otp := by rfl)
    (hw : t.boot.warmLow = s.boot.warmLow := by rfl) (hp : t.pw.porstLow = s.pw.porstLow := by rfl) : Part s t :=
  ⟨fun a _ => State.reg_congr h a, ho, hw, hp⟩

theorem setReg (s : State) {a : Nat} (h : a ∉ [a_SYS_ID, a_SYS_CAP, a_SYS_LOCK]) (v : Word) : Part s (s.setReg a v) :=
  ⟨fun _ hb => s.reg_setReg_other (by rintro rfl; exact h hb) v, rfl, rfl, rfl⟩

theorem set (s : State) {f : Field} (h : f.addr ∉ [a_SYS_ID, a_SYS_CAP, a_SYS_LOCK]) (v : Nat) : Part s (s.set f v) :=
  setReg s h _

theorem ite {s a b : State} {c : Prop} [Decidable c] (h : Part s a) (k : Part s b) : Part s (if c then a else b) := by
  split <;> assumption

theorem showProg (s : State) : Part s s.showProg := (set s (by decide) _).trans (set _ (by decide) _)

theorem setMode (s : State) (m : Nat) : Part s (s.setMode m) :=
  (((set s (f := SYS_MODESTAT_MODE) (by decide) m).trans (set _ (f := SYS_MODESTAT_TARGET) (by decide) m)).trans
    (set _ (f := SYS_MODESTAT_BUSY) (by decide) 0)).trans (showProg _)

end Part

/-! ## The entry into SAFE (R50, R51) -/

/-- From `s` the device has entered SAFE with a reason, into `t`. -/
structure InSafe (s t : State) (reason : Nat) : Prop where
  shows : ShowsMode t mSafe
  reason : t.get SYS_BOOTSTAT_SAFE_REASON = reason % 16
  boot : ∀ g : Field, g.addr = a_SYS_BOOTSTAT → g.lo + g.w ≤ 9 ∨ 13 ≤ g.lo → t.get g = s.get g
  fires : s.domOn dAon = true → t.flag (pendField 457) = true
  pend : ∀ k, k < 512 → s.flag (pendField k) = true → t.flag (pendField k) = true
  bufs : t.hif.bufs = []
  deliveries : t.hif.deliveries = []
  gated : ∀ d, d < 20 → bitN safeDomains d = false → t.domOn d = false
  fault : t.get BUR_CTL_PROT_FAULT = s.get BUR_CTL_PROT_FAULT
  act : t.get BUR_CTL_ACT = s.get BUR_CTL_ACT
  part : Part s t

/-- What `InSafe` says depends on the start by what `Calm` keeps of it. -/
theorem InSafe.after {s u t : State} {reason : Nat} (h : Calm s u) (k : InSafe u t reason) : InSafe s t reason where
  shows := k.shows
  reason := k.reason
  boot g hg hd := (k.boot g hg hd).trans (State.get_of_reg (hg ▸ h.sys _ (by decide)))
  fires hon := k.fires ((h.safe dAon rfl).trans hon)
  pend j hj hs := k.pend j hj (h.pend j hj hs)
  bufs := k.bufs
  deliveries := k.deliveries
  gated := k.gated
  fault := k.fault.trans h.fault
  act := k.act.trans h.act
  part := (Part.of_calm h).trans k.part

/-- R50: every domain that SAFE does not keep is off. -/
theorem State.gateSafe_off (s : State) {d : Nat} (hd : d < 20) (hs : bitN safeDomains d = false) :
    s.gateSafe.domOn d = false := by
  have hstep : ∀ (t : State), (if bitN safeDomains d then t else if t.domOn d then t.domainDown d else t.settle d).domOn d =
      false := fun t => by
    rw [if_neg (by simp [hs])]
    split
    case isTrue =>
      have hoff : ((((t.settle d).domainLost d).setOn d false)).domOn d = false := by rw [State.domOn_setOn _ hd, if_pos rfl]
      exact Bool.eq_false_iff.2 fun h => by simp [(Calm.fire _ (by omega) d).off d h] at hoff
    case isFalse h => exact Bool.eq_false_iff.2 fun hon => h ((Calm.settle t d).off d hon)
  have hall : ∀ n, n ≤ 20 → d < n → (forN n (fun d t => if bitN safeDomains d then t
      else if t.domOn d then t.domainDown d else t.settle d) s).domOn d = false := fun n => by
    induction n with
    | zero => omega
    | succ k ih =>
      intro hk hdk
      rw [forN]
      by_cases h : d = k
      · exact h ▸ hstep _
      · refine Bool.eq_false_iff.2 fun hon => ?_
        have hbefore := (Calm.gateStep _ (show k < 20 by omega)).off d hon
        rw [ih (by omega) (by omega)] at hbefore
        exact nomatch hbefore
  exact hall 20 (le_refl _) hd

/-- Steps 1 and 2 of R51: nothing waits for the host, and the device shows SAFE. -/
def State.safeShown (s : State) (reason : Nat) : State :=
  ((s.dmaStop.set SYS_BOOTSTAT_SAFE_REASON reason).setMode mSafe).fire 457 mSafe

theorem State.safeNow_eq (s : State) (reason : Nat) : s.safeNow reason =
    ((forN 16 (fun n t => (t.stopLine n).rxAbandon n fRESET) s).safeShown reason).gateSafe.burChange.refreshLds := rfl

/-- Registers that an entry into SAFE does not show it in. -/
theorem State.reg_safeShown (s : State) (reason : Nat) {a : Nat} (hm : a ≠ a_SYS_MODESTAT) (hb : a ≠ a_SYS_BOOTSTAT)
    (hx : a ≠ a_HIF_MBXSTAT) (hp : a ≠ pendReg 457) : (s.safeShown reason).reg a = s.reg a := by
  rw [State.safeShown, State.reg_fire_other _ hp, State.reg_setMode _ _ hm hx, State.reg_set_other _ hb]
  exact State.reg_congr rfl a

theorem State.get_safeShown_boot (s : State) (reason : Nat) {g : Field} (hg : g.addr = a_SYS_BOOTSTAT) :
    (s.safeShown reason).get g = (s.set SYS_BOOTSTAT_SAFE_REASON reason).get g := by
  rw [State.safeShown, State.get_fire_other _ (.inl (pendReg_ne (by omega) (by rw [hg]; decide)))]
  exact (State.get_of_reg (State.reg_setMode _ _ (by rw [hg]; decide) (by rw [hg]; decide))).trans
    (State.get_of_reg (State.reg_congr rfl _))

theorem State.flag_safeShown_pend (s : State) (reason : Nat) {k : Nat} (hk : k < 512)
    (h : s.flag (pendField k) = true) : (s.safeShown reason).flag (pendField k) = true := by
  refine (Calm.fire _ (by omega) mSafe).pend k hk ((State.flag_of_reg ?_).trans h)
  show State.reg _ (pendReg k) = s.reg (pendReg k)
  rw [State.reg_setMode _ _ (pendReg_ne hk (by decide)).symm (pendReg_ne hk (by decide)).symm,
    State.reg_set_other _ (pendReg_ne hk (by decide)).symm]
  exact State.reg_congr rfl _

theorem State.part_safeShown (s : State) (reason : Nat) : Part s (s.safeShown reason) :=
  ((Part.trans .other (.set _ (f := SYS_BOOTSTAT_SAFE_REASON) (by decide) reason)).trans (.setMode _ mSafe)).trans
    (.of_calm (.fire _ (by omega) mSafe))

theorem State.safeShown_inSafe (s : State) {t : State} {reason : Nat} (h : Calm (s.safeShown reason) t)
    (hgated : ∀ d, d < 20 → bitN safeDomains d = false → t.domOn d = false) : InSafe s t reason where
  shows := by
    refine ShowsMode.congr ?_ (h.sys _ (by decide))
    exact ((s.dmaStop.set SYS_BOOTSTAT_SAFE_REASON reason).setMode_shows (m := mSafe) (by decide)).congr
      (State.reg_fire_other _ (by decide) _)
  reason := by
    rw [State.get_of_reg (h.sys _ (by decide)), State.get_safeShown_boot _ _ rfl, State.get_set_same _ (by decide)]
    rfl
  boot g hg hd := by
    rw [State.get_of_reg (s := s.safeShown reason) (by rw [hg]; exact h.sys _ (by decide)), State.get_safeShown_boot _ _ hg,
      State.get_set_bits _ (by simp only [SYS_BOOTSTAT_SAFE_REASON]; omega)]
  fires hon := by
    refine h.pend 457 (by omega) (State.fired_fire _ (State.sourceOn_aon rfl rfl ?_) mSafe).1
    rw [← hon]
    refine congrArg (bitN · dAon) (State.get_of_reg (f := PWR_STAT_ON) ?_)
    rw [State.reg_setMode _ _ (by decide) (by decide), State.reg_set_other _ (by decide)]
    exact State.reg_congr rfl _
  pend k hk hs := h.pend k hk (s.flag_safeShown_pend reason hk hs)
  bufs := by rw [h.hif, State.safeShown, State.fire_hif]; rfl
  deliveries := by rw [h.hif, State.safeShown, State.fire_hif]; rfl
  gated := hgated
  fault := h.fault.trans (State.get_of_reg (s.reg_safeShown reason (by decide) (by decide) (by decide) (by decide)))
  act := h.act.trans (State.get_of_reg (s.reg_safeShown reason (by decide) (by decide) (by decide) (by decide)))
  part := (s.part_safeShown reason).trans (.of_calm h)

theorem State.safeNow_inSafe (s : State) (reason : Nat) : InSafe s (s.safeNow reason) reason := by
  rw [State.safeNow_eq]
  refine .after (.forN fun n hn t => (Calm.stopLine t hn).trans (.rxAbandon _ hn (by decide)))
    (State.safeShown_inSafe _ ((Calm.gateSafe _).trans ((Calm.burChange _).trans (.refreshLds _))) fun d hd hs => ?_)
  refine Bool.eq_false_iff.2 fun hon => ?_
  have hgate := ((Calm.burChange _).trans (.refreshLds _)).off d hon
  rw [State.gateSafe_off _ hd hs] at hgate
  exact nomatch hgate

/-- Table 02-11: an automatic entry into SAFE out of another mode. -/
theorem State.enterSafe_inSafe {s : State} (h : s.mode ≠ mSafe) (reason : Nat) : InSafe s (s.enterSafe reason) reason := by
  have hnow := s.safeNow_inSafe reason
  rw [State.enterSafe, if_neg h]
  generalize s.safeNow reason = t at hnow ⊢
  have hcalm : Calm t (t.automatic true) := .other
  exact {
    shows := hnow.shows.congr rfl
    reason := hnow.reason
    boot := hnow.boot
    fires := hnow.fires
    pend := hnow.pend
    bufs := hnow.bufs
    deliveries := hnow.deliveries
    gated := hnow.gated
    fault := hnow.fault
    act := hnow.act
    part := hnow.part.trans (.of_calm hcalm) }

end Sys2Proof.Machine

/-! A watchdog expiry (R45, R49): the tables a pair starts on, the pairs, and the entry into SAFE. -/

namespace Sys2Proof.Machine

namespace Calm

/-! ## The tables a pair starts on (R264, R325, R338) -/

theorem showAct (s : State) : Calm s s.showAct := set s (f := BLV_POOLCFG_ACT) (by decide) _

theorem startRebuild (s : State) : Calm s s.startRebuild := by
  unfold State.startRebuild
  refine trans ?_ (showAct _)
  exact other

theorem endRebuild (s : State) : Calm s s.endRebuild := by
  unfold State.endRebuild
  refine ite (trans (ite (trans ?_ (set _ (f := BLV_POOLCFG_CELLS) (by decide) 8192)) ?_) (showAct _)) (refl s)
  · exact other
  · exact other

theorem redrawDirKey (s : State) : Calm s s.redrawDirKey := by
  have htake : Calm s (s.takeFree (2 ^ 256)).2 := other
  unfold State.redrawDirKey
  refine (htake.trans (setSlot _ (k := 2) (by decide) kEPH (2 ^ uXTS) 1 (s.takeFree (2 ^ 256)).1)).trans ?_
  exact other

theorem freshTables (s : State) : Calm s s.freshTables := ((startRebuild s).trans (endRebuild _)).trans (redrawDirKey _)

theorem restoreMarks (s : State) : Calm s s.restoreMarks :=
  forEach fun r hr t => setReg t (.of_range (by
    have hrow : r.kind = 2 ∧ r.index < 4 := by simpa using List.of_mem_filter hr
    simp only [a_MEM_MARK, f1]
    omega)) _

theorem showProg (s : State) : Calm s s.showProg :=
  (set s (f := HIF_MBXSTAT_PROG) (by decide) _).trans (set _ (f := HIF_MBXSTAT_MODE) (by decide) _)

theorem bootStep (s : State) (k : Nat) : Calm s (s.bootStep k) := by
  unfold State.bootStep
  refine trans ?_ (showProg _)
  exact other

theorem bootTables (s : State) : Calm s s.bootTables :=
  ((freshTables s).trans (restoreMarks _)).trans (bootStep _ 12)

end Calm

/-! ## Pending bits that stay -/

/-- No pending bit is lost from `s` to `t`. -/
def PendKept (s t : State) : Prop := ∀ k, k < 512 → s.flag (pendField k) = true → t.flag (pendField k) = true

namespace PendKept

theorem refl (s : State) : PendKept s s := fun _ _ h => h

theorem trans {s t u : State} (h : PendKept s t) (k : PendKept t u) : PendKept s u :=
  fun j hj hs => k j hj (h j hj hs)

theorem set (s : State) {f : Field} (hp : NotPending f.addr) (v : Nat) : PendKept s (s.set f v) :=
  fun _ hk hs => (State.flag_of_reg (s.reg_set_other (pendReg_ne hk hp).symm v)).trans hs

theorem enterSafe (s : State) (reason : Nat) : PendKept s (s.enterSafe reason) := by
  by_cases h : s.mode = mSafe
  · rw [State.enterSafe, if_pos h]
    exact refl s
  · exact (State.enterSafe_inSafe h reason).pend

theorem noPair (s : State) : PendKept s s.noPair := by
  unfold State.noPair
  split <;> exact enterSafe s _

end PendKept

/-! ## The pairs (R45, R49) -/

theorem resultOf_addr (p : Nat) : (resultOf p).addr = a_SYS_BOOTSTAT := by
  unfold resultOf
  split <;> rfl

theorem PendKept.tryPair (s : State) (f : BootFindings) (p : Nat) : PendKept s (s.tryPair f p) := by
  have hresult : PendKept s (s.set (resultOf p) (s.pairResult f p)) := .set s (by rw [resultOf_addr]; decide) _
  unfold State.tryPair
  extract_lets r s1
  split
  · refine (hresult.trans ?_).trans (.set _ (f := SYS_BOOTSTAT_PAIR) (by decide) p)
    exact fun _ _ h => h
  · exact hresult

theorem PendKept.retryChosen (s : State) : PendKept s s.retryChosen := by
  unfold State.retryChosen
  split
  · exact .noPair s
  · exact (PendKept.set s (f := SYS_BOOTSTAT_CAUSE) (by decide) 3).trans (Calm.bootTables _).pend

/-- R49: the running pair `p` is recorded with WATCHDOG, and runs no longer. -/
def State.watchdogNoted (s : State) (p : Nat) : State :=
  (({ s with boot.running := 3 }.set (resultOf p) 7).set SYS_BOOTSTAT_PAIR 3).set SYS_BOOTSTAT_TRIAL 0

theorem State.retryPair_eq (s : State) (f : BootFindings) : s.retryPair f =
    if s.get (resultOf (1 - s.boot.running)) ≠ 0 then (s.watchdogNoted s.boot.running).noPair
    else ((s.watchdogNoted s.boot.running).tryPair f (1 - s.boot.running)).retryChosen := rfl

theorem State.reg_watchdogNoted (s : State) (p : Nat) {a : Nat} (h : a ≠ a_SYS_BOOTSTAT) :
    (s.watchdogNoted p).reg a = s.reg a := by
  rw [State.watchdogNoted, State.reg_set_other _ h, State.reg_set_other _ h, State.reg_set_other _ (by rwa [resultOf_addr])]
  exact State.reg_congr rfl a

theorem State.get_watchdogNoted (s : State) (p : Nat) : (s.watchdogNoted p).get (resultOf p) = 7 := by
  have hbits : 3 ≤ (resultOf p).lo ∧ (resultOf p).lo + (resultOf p).w ≤ 32 ∧ (resultOf p).w = 3 := by
    unfold resultOf
    split <;> decide
  rw [State.watchdogNoted, State.get_set_bits _ (.inl (by simp only [SYS_BOOTSTAT_TRIAL]; omega)),
    State.get_set_bits _ (.inl (by simp only [SYS_BOOTSTAT_PAIR]; omega)), State.get_set_same _ hbits.2.1, hbits.2.2]
  rfl

theorem PendKept.retryPair (s : State) (f : BootFindings) : PendKept s (s.retryPair f) := by
  have hnoted : PendKept s (s.watchdogNoted s.boot.running) := fun k hk h =>
    (State.flag_of_reg (s.reg_watchdogNoted _ (pendReg_ne (a := a_SYS_BOOTSTAT) hk (by decide)).symm)).trans h
  rw [State.retryPair_eq]
  split
  · exact hnoted.trans (.noPair _)
  · exact (hnoted.trans (.tryPair _ f _)).trans (.retryChosen _)

/-- R49: the other pair has a result already, so that none remains: the device enters SAFE. -/
theorem State.retryPair_safe {s : State} {p : Nat} (hm : s.mode ≠ mSafe) (hp : s.boot.running = p)
    (hother : s.get (resultOf (1 - p)) ≠ 0) (f : BootFindings) :
    (s.retryPair f).mode = mSafe ∧ (s.retryPair f).get SYS_BOOTSTAT_SAFE_REASON = sfWATCHDOG ∧
      (s.retryPair f).get (resultOf p) = 7 := by
  have hnoted : (s.watchdogNoted p).mode ≠ mSafe := by
    rwa [State.mode, State.get_of_reg (s.reg_watchdogNoted p (by decide))]
  have hresult := s.get_watchdogNoted p
  have hseven : (s.watchdogNoted p).get SYS_BOOTSTAT_A_RESULT = 7 ∨ (s.watchdogNoted p).get SYS_BOOTSTAT_B_RESULT = 7 := by
    unfold resultOf at hresult
    split at hresult
    · exact .inl hresult
    · exact .inr hresult
  have hsafe := State.enterSafe_inSafe hnoted sfWATCHDOG
  have hbits : (resultOf p).lo + (resultOf p).w ≤ 9 := by
    unfold resultOf
    split <;> decide
  rw [State.retryPair_eq, hp, if_pos hother, State.noPair, if_pos hseven]
  exact ⟨hsafe.shows.mode, hsafe.reason, (hsafe.boot _ (resultOf_addr p) (.inl hbits)).trans hresult⟩

/-! ## The obligation -/

theorem State.execWatchdogExpiry_eq {s : State} (core : Fin 2) (f : BootFindings) (hstep : 10 ≤ s.boot.step)
    (hm : s.mode ≠ mSafe) (hp : s.pw.porstLow = false) : exec (.watchdogExpiry core f) s = .next
      (if s.flag SYS_MODESTAT_READY then (s.fire 9 core.val).enterSafe sfWATCHDOG
       else (s.fire 9 core.val).retryPair f) := by
  show Host.Outcome.next (if s.boot.step < 10 ∨ s.mode = mSafe ∨ s.pw.porstLow then s else _) = _
  rw [if_neg (by simp [hm, hp]; omega)]

/-- Settles O13: ES009 fires into a state with the same mode, pairs and results, from which either SAFE is entered or
the other pair is looked at. -/
theorem watchdogLeadsToSafeOrTheOtherPair : Obligations.WatchdogLeadsToSafeOrTheOtherPair := by
  unfold Obligations.WatchdogLeadsToSafeOrTheOtherPair
  intro s core f hstep hm hp hon
  have hfired := (s.fired_fire (src := 9) (State.sourceOn_aon rfl rfl hon) core.val).1
  have hget : ∀ {g : Field}, g.addr ≠ pendReg 9 → (s.fire 9 core.val).get g = s.get g := fun h =>
    s.get_fire_other (.inl h) _
  have hmode : (s.fire 9 core.val).mode ≠ mSafe := by
    rwa [State.mode, hget (by decide)]
  have hrun : (s.fire 9 core.val).boot.running = s.boot.running := by rw [s.fire_boot]
  refine ⟨_, State.execWatchdogExpiry_eq core f hstep hm hp, ?_⟩
  cases hr : s.flag SYS_MODESTAT_READY with
  | true =>
    have hsafe := State.enterSafe_inSafe hmode sfWATCHDOG
    exact ⟨hsafe.pend 9 (by decide) hfired, fun _ => ⟨hsafe.shows.mode, hsafe.reason⟩, nofun, nofun⟩
  | false =>
    refine ⟨PendKept.retryPair _ f 9 (by decide) hfired, nofun, fun _ hpair hother => ?_, fun _ hpair hother => ?_⟩
    · exact State.retryPair_safe hmode (hrun.trans hpair) ((hget (by decide)).trans_ne hother) f
    · exact State.retryPair_safe hmode (hrun.trans hpair) ((hget (by decide)).trans_ne hother) f

end Sys2Proof.Machine

/-! The completion of a requested transition (R39, R425). -/

namespace Sys2Proof.Machine

/-! ## The entry into an operating mode (R194, R424) -/

namespace Calm

theorem startTb1 (s : State) : Calm s s.startTb1 := by
  have hstart : ∀ v, Calm s (s.startTb 1 v) := fun v => by
    unfold State.startTb
    exact (setTb s (by decide) _).trans (set _ (f := TIM_TBSTAT_VALID 1) (by decide) 1)
  unfold State.startTb1
  exact ite (refl s) (ite (hstart _) (hstart _))

theorem tableNow (s : State) (l : List Alloc) (gen : Nat) : Calm s (s.tableNow l gen) := by
  unfold State.tableNow
  refine trans (trans ?_ (set _ (f := MAC_ALLOCCTL_TGEN) (by decide) gen)) (set _ (f := MAC_ALLOCCTL_CDOWN) (by decide) 0)
  exact other

theorem entryTable (s : State) : Calm s s.entryTable := by
  unfold State.entryTable
  exact ite (tableNow s _ _) (tableNow s _ _)

end Calm

/-- R39, step 2 on: the device shows mode `m`, and ES457 has fired. -/
def State.arrived (s : State) (m : Nat) : State := (s.setMode m).fire 457 m

theorem State.arrive_follows (s : State) (m : Nat) : LineOnly (s.arrived m) (s.arrive m) := .portsFollow _

theorem State.enterMode_calm (s : State) (m : Nat) : Calm (s.arrived m) (s.enterMode m) := by
  have hsf : Calm (s.arrived m) ((s.arrive m).sfEnter (entryState m)) :=
    .lineOnly ((s.arrive_follows m).trans (.sfEnter _ _))
  unfold State.enterMode
  extract_lets s1 s2 s3
  have h2 : Calm (s.arrived m) s2 := .ite (hsf.trans (.startTb1 s1)) hsf
  have h3 : Calm (s.arrived m) s3 := .ite (h2.trans (.entryTable s2)) h2
  exact .ite h3 (h3.trans (.set s3 (f := MAC_TMSCFG_ACT) (by decide) 1))

theorem State.arrived_shows (s : State) {m : Nat} (hm : m < 16) : ShowsMode (s.arrived m) m :=
  (s.setMode_shows hm).congr (State.reg_fire_other _ (by decide) m)

theorem State.arrived_fires (s : State) (m : Nat) (hon : s.domOn dAon = true) :
    (s.arrived m).flag (pendField 457) = true := by
  refine (State.fired_fire _ (State.sourceOn_aon rfl rfl ?_) m).1
  rw [← hon]
  exact congrArg (bitN · dAon) (State.get_of_reg (f := PWR_STAT_ON) (State.reg_setMode s m (by decide) (by decide)))

/-- What a state shows that keeps what `Calm` keeps of the arrival in mode `m`. -/
theorem State.arrived_then {s t : State} {m : Nat} (h : Calm (s.arrived m) t) (hm : m < 16) (hon : s.domOn dAon = true) :
    ShowsMode t m ∧ t.flag (pendField 457) = true :=
  ⟨(s.arrived_shows hm).congr (h.sys _ (by decide)), h.pend 457 (by decide) (s.arrived_fires m hon)⟩

/-! ## The entry into STANDBY (R39, R425) -/

/-- R425: requests and waits for acknowledgements end. -/
def State.waitsEnded (s : State) : State :=
  { s with
    tx := s.tx.map (fun (e : Nat × TxPort) => (e.1, { e.2 with ack := none }))
    hif.joins := if s.mode = mCoordinator ∨ s.mode = mIsland then [] else s.hif.joins }

theorem State.enterStandby_follows (s : State) : LineOnly (s.waitsEnded.arrived mStandby) s.enterStandby :=
  (s.waitsEnded.arrive_follows mStandby).trans (.sfEnter _ sfOWN)

theorem State.arrived_blv (s : State) (m : Nat) : (s.arrived m).blv = s.blv := by
  rw [State.arrived, State.fire_blv]
  rfl

theorem State.arrived_posted (s : State) (m : Nat) : (s.arrived m).posted = s.posted := by
  rw [State.arrived, State.fire_posted]
  rfl

/-! ## What the two commands do -/

theorem State.execModeEntryComplete_eq {s : State} {m : Nat} (hm : s.get SYS_MODESTAT_TARGET = m) (hb : s.busy = true)
    (hproof : s.mode ≠ mProof) (hstandby : m ≠ mStandby) : exec .modeEntryComplete s = .next
      (if m = mSafe then s.closeLog.safeNow sfREQUEST else s.enterMode m) := by
  subst hm
  show Host.Outcome.next (if s.busy && s.get SYS_MODESTAT_TARGET != mStandby && s.mode != mProof then _ else s) = _
  rw [if_pos (by simp [hb, hproof, hstandby])]

theorem State.execStandbyTransitionComplete_eq {s : State} (hb : s.busy = true) (hm : s.get SYS_MODESTAT_TARGET = mStandby)
    (hquiet : ∀ n, n < s.ports → (s.txPort n).air = none ∧ (s.txPort n).win = none ∧ (s.rxPort n).frames = []) :
    exec .standbyTransitionComplete s = .next s.enterStandby := by
  have hall : (List.range s.ports).all s.quiet = true := List.all_eq_true.2 fun n hn => by
    obtain ⟨hair, hwin, hframes⟩ := hquiet n (List.mem_range.1 hn)
    simp [State.quiet, hair, hwin, hframes]
  show Host.Outcome.next (if s.leaving && _ then s.enterStandby else s) = _
  rw [if_pos (by simp [State.leaving, hb, hm, hall])]

/-- The domains that SAFE keeps (R50). -/
theorem safeDomains_eq : ∀ d, d < 20 → d ∉ [0, 1, 2, 9, 10] → bitN safeDomains d = false := by decide

/-- Settles O9: the entry into SAFE is that of R50 and R51; for another mode all that follows the arrival is of the line,
the MAC and the time bases. -/
theorem modeTransitionsComplete : Obligations.ModeTransitionsComplete := by
  unfold Obligations.ModeTransitionsComplete
  refine ⟨fun s hb hproof hon hstandby => ?_, fun s hb hm hon hquiet => ?_⟩
  · intro m
    refine ⟨_, State.execModeEntryComplete_eq rfl hb hproof hstandby, ?_⟩
    by_cases hm : m = mSafe
    · have hsafe := InSafe.after (.closeLog s) (s.closeLog.safeNow_inSafe sfREQUEST)
      rw [if_pos hm, hm]
      exact ⟨hsafe.shows.mode, hsafe.shows.target, hsafe.shows.busy, hsafe.fires hon, fun _ =>
        ⟨hsafe.reason, hsafe.deliveries, hsafe.bufs, fun d hd hkept => hsafe.gated d hd (safeDomains_eq d hd hkept)⟩⟩
    · obtain ⟨hshows, hfires⟩ := State.arrived_then (s.enterMode_calm m) (s.get_lt SYS_MODESTAT_TARGET) hon
      rw [if_neg hm]
      exact ⟨hshows.mode, hshows.target, hshows.busy, hfires, fun h => absurd h hm⟩
  · have hline := s.enterStandby_follows
    obtain ⟨hshows, hfires⟩ := State.arrived_then (s := s.waitsEnded) (.lineOnly hline) (by decide) hon
    refine ⟨_, State.execStandbyTransitionComplete_eq hb hm hquiet, hshows.mode, hshows.busy, hfires, ?_, ?_⟩
    · exact hline.blv.trans (s.waitsEnded.arrived_blv mStandby)
    · exact (by rw [hline.rest] : s.enterStandby.posted = _).trans (s.waitsEnded.arrived_posted mStandby)

end Sys2Proof.Machine

/-! SUPPORT. What runs at a boot (R40, R41, R193, R312, R395): Burin's start, the vault, the domains, and the relation
`Held` that they keep. -/

namespace Sys2Proof.Machine

/-! ## The trip inputs (R174, R181) -/

namespace Calm

theorem setTrip (s : State) (i : Nat) (t : TripIn) : Calm s (s.setTrip i t) := other

theorem setBurPort (s : State) (n : Nat) (p : BurPort) : Calm s (s.setBurPort n p) := other

theorem setBit (s : State) {f : Field} (h : Free f.addr) (i : Nat) (b : Bool) : Calm s (s.setBit f i b) :=
  set s (f := ⟨f.addr, f.lo + i, 1⟩) h _

theorem dropRepeats (s : State) : Calm s s.dropRepeats := forN fun _ _ t => setBurPort t _ _

theorem raiseStuck (s : State) {i : Nat} (hi : i < 8) : Calm s (s.raiseStuck i) :=
  ((setBit s (f := BUR_STAT_STUCK) (by decide) i true).trans (fire _ (by omega) 1)).trans (dropRepeats _)

theorem rearmTrip (s : State) {i : Nat} (hi : i < 8) : Calm s (s.rearmTrip i) :=
  ((setTrip s i _).trans (setBit _ (f := BUR_STAT_STUCK) (by decide) i false)).trans (fire _ (by omega) 0)

theorem tripDue (s : State) {i : Nat} (hi : i < 8) : Calm s (s.tripDue i) := by
  have hrearm : ∀ t : State, Calm t (match (t.trip i).rearm with
      | some e => if e ≤ t.tick ∧ t.stuck i then t.rearmTrip i else t
      | none => t) := fun t => by
    split
    · exact ite (rearmTrip t hi) (refl t)
    · exact refl t
  unfold State.tripDue
  extract_lets t s1
  have h1 : Calm s s1 := by
    unfold s1
    split
    · exact ite ((setTrip s i _).trans (raiseStuck _ hi)) (refl s)
    · exact refl s
  exact h1.trans (hrearm s1)

theorem burChoose (s : State) (n : Nat) : Calm s (s.burChoose n) := by
  unfold State.burChoose
  extract_lets p open_
  refine ite (refl s) (ite (setBurPort s n _) ?_)
  split
  · exact refl s
  · exact setBurPort s n _

theorem reqNew (s : State) (n c i : Nat) : Calm s (s.reqNew n c i) := (setBurPort s n _).trans (burChoose _ n)

theorem tripAssert (s : State) {i : Nat} (hi : i < 8) : Calm s (s.tripAssert i) := by
  unfold State.tripAssert
  extract_lets raised s1 s2 window opened s3
  have h2 : Calm s s2 :=
    ((setTrip s i _).trans (setBit _ (f := BUR_STAT_TIN) (by decide) i true)).trans (fire s1 (by omega) _)
  exact ite h2 ((h2.trans (setTrip s2 i _)).trans (forN fun n _ t => ite (reqNew t n _ i) (refl t)))

theorem tripRelease (s : State) {i : Nat} (hi : i < 8) : Calm s (s.tripRelease i) :=
  ((setTrip s i _).trans (setBit _ (f := BUR_STAT_TIN) (by decide) i false)).trans (fire _ (by omega) _)

theorem refreshTrip (s : State) {i : Nat} (hi : i < 8) : Calm s (s.refreshTrip i) := by
  unfold State.refreshTrip
  extract_lets want s0 s1 closed s2
  have h0 : Calm s s0 := tripDue s hi
  have h1 : Calm s s1 := ite h0 (ite (h0.trans (tripAssert s0 hi)) (h0.trans (tripRelease s0 hi)))
  have h2 : Calm s s2 := h1.trans (setTrip s1 i _)
  exact ite h1 (ite (h2.trans (rearmTrip s2 hi)) h2)

theorem loadSafe (s : State) (w : List Word) (src : Nat) : Calm s (s.loadSafe w src) := by
  unfold State.loadSafe
  refine trans (trans (trans ?_ (set _ (f := BUR_SAFEINFO_VER) (by decide) _))
    (set _ (f := BUR_SAFEINFO_SRC) (by decide) _)) (burChange _)
  exact other

end Calm

/-! ## The start of Burin (R41, R192) -/

theorem State.burStart_of_none {s : State} (h : s.burChange.bur.next = none) : s.burStart = s.burChange := by
  simp only [State.burStart, h]

/-- The change that waits takes effect at once. -/
theorem State.burStart_of_some {s : State} {t act : Nat} {w : List Word} (h : s.burChange.bur.next = some (t, act, w)) :
    Calm (s.burChange.set BUR_CTL_ACT act) s.burStart := by
  have hset : Calm (s.burChange.set BUR_CTL_ACT act)
      ({ s.burChange with bur.words := w, bur.next := none }.set BUR_CTL_ACT act) := .other
  simp only [State.burStart, h]
  refine ((hset.trans (.forN fun n _ t => ?_)).trans (.forN fun i _ t => .refreshTrip t (by omega))).trans (.showPending _)
  exact .other

theorem State.refreshLd_bur (s : State) (n : Nat) : (s.refreshLd n).bur = s.bur := by
  unfold State.refreshLd
  extract_lets want s1
  split <;> rfl

/-- ACT and the words of the profile in force, or of the one that waits. -/
def State.burNow (s : State) : Nat × List Word :=
  match s.bur.next with
  | some (_, a, v) => (a, v)
  | none => (s.get BUR_CTL_ACT, s.bur.words)

/-- R193: nothing changes, or what shall be in force waits for the next tick. -/
theorem State.burChange_cases (s : State) : (s.burNow = s.burTarget ∧ s.burChange = s) ∨
    s.burChange.bur.next = some (s.tick + 1, s.burTarget) := by
  have heq : s.burChange = if s.burNow = s.burTarget then s else
      (forN s.ports (fun n (t : State) => if t.burFree n && (t.burPort n).chosen.isNone then t.burApplyTx n else t)
        { s with bur.next := some (s.tick + 1, s.burTarget) }).showPending := rfl
  by_cases h : s.burNow = s.burTarget
  · exact .inl ⟨h, by rw [heq, if_pos h]⟩
  · rw [heq, if_neg h]
    refine .inr (forN_induct (P := fun t : State => t.bur.next = some (s.tick + 1, s.burTarget)) rfl fun n _ t ht => ?_)
    split
    · rw [State.burApplyTx, State.refreshLd_bur]
      exact ht
    · exact ht

/-- R192: with PD_PROT faulty no profile is in force, and none waits but the empty one. -/
theorem State.burChange_faulty {s : State} (h : s.flag BUR_CTL_PROT_FAULT = true) :
    (s.burChange.bur.next = none ∧ s.burChange.get BUR_CTL_ACT = 0) ∨
      ∃ t w, s.burChange.bur.next = some (t, 0, w) := by
  have htarget : s.burTarget = (0, []) := by simp [State.burTarget, h]
  rcases s.burChange_cases with ⟨hnow, heq⟩ | hnext
  · rw [heq]
    rw [htarget, State.burNow] at hnow
    split at hnow
    case h_1 t a v hn => exact .inr ⟨t, v, by rw [hn, (Prod.mk.inj hnow).1]⟩
    case h_2 hn => exact .inl ⟨hn, (Prod.mk.inj hnow).1⟩
  · exact .inr ⟨_, [], by rw [hnext, htarget]⟩

theorem State.burStart_faulty {s : State} (h : s.flag BUR_CTL_PROT_FAULT = true) :
    s.burStart.flag BUR_CTL_PROT_FAULT = true ∧ s.burStart.get BUR_CTL_ACT = 0 := by
  have hchange : s.burChange.flag BUR_CTL_PROT_FAULT = true := (congrArg (· == 1) (Calm.burChange s).fault).trans h
  rcases State.burChange_faulty h with ⟨hnext, hact⟩ | ⟨t, w, hnext⟩
  · rw [State.burStart_of_none hnext]
    exact ⟨hchange, hact⟩
  · have hcalm := State.burStart_of_some hnext
    have hfault : (s.burChange.set BUR_CTL_ACT 0).flag BUR_CTL_PROT_FAULT = true :=
      (congrArg (· == 1) (State.get_set_bits _ (by decide) _)).trans hchange
    exact ⟨(congrArg (· == 1) hcalm.fault).trans hfault, hcalm.act.trans (State.get_set_same _ (by decide) 0)⟩

/-! ## The registers of the system that are held -/

/-- The registers of the identity, the mode, the boot and the lock, the fuses and the pins are as they were. -/
structure Held (s t : State) : Prop where
  sys : ∀ a ∈ sysRegs, t.reg a = s.reg a
  otp : t.otp = s.otp
  warm : t.boot.warmLow = s.boot.warmLow
  porst : t.pw.porstLow = s.pw.porstLow

namespace Held

theorem of_calm {s t : State} (h : Calm s t) : Held s t := ⟨h.sys, h.otp, h.warm, h.porst⟩

theorem refl (s : State) : Held s s := of_calm (.refl s)

theorem trans {s t u : State} (h : Held s t) (k : Held t u) : Held s u :=
  ⟨fun a ha => (k.sys a ha).trans (h.sys a ha), k.otp.trans h.otp, k.warm.trans h.warm, k.porst.trans h.porst⟩

theorem part {s t : State} (h : Held s t) : Part s t :=
  ⟨fun a ha => h.sys a ((by decide : ∀ a ∈ [a_SYS_ID, a_SYS_CAP, a_SYS_LOCK], a ∈ sysRegs) a ha), h.otp, h.warm, h.porst⟩

theorem set (s : State) {f : Field} (h : f.addr ∉ sysRegs) (v : Nat) : Held s (s.set f v) :=
  ⟨fun _ ha => s.reg_set_other (by rintro rfl; exact h ha) v, rfl, rfl, rfl⟩

theorem ite {s a b : State} {c : Prop} [Decidable c] (h : Held s a) (k : Held s b) : Held s (if c then a else b) := by
  split <;> assumption

theorem forN {s : State} {n : Nat} {f : Nat → State → State} (hf : ∀ k, k < n → ∀ t, Held t (f k t)) :
    Held s (forN n f s) :=
  forN_induct (P := Held s) (.refl s) fun k hk t h => h.trans (hf k hk t)

theorem forEach {α : Type} {l : List α} {f : α → State → State} {s : State} (hf : ∀ a ∈ l, ∀ t, Held t (f a t)) :
    Held s (forEach l f s) :=
  forEach_induct (P := Held s) (.refl s) fun a ha t h => h.trans (hf a ha t)

/-- A slot of the vault shows in no register of the system, whatever number OTP gives it. -/
theorem setSlot (s : State) (k st usage size key : Nat) : Held s (s.setSlot k st usage size key) := by
  have hlow : ∀ a ∈ sysRegs, a < 0x90000 := by decide
  refine ⟨fun a ha => ?_, rfl, rfl, rfl⟩
  have := hlow a ha
  exact s.reg_setSlot (by simp only [a_KEY_SLOT]; omega) (by simp only [a_KEY_VCNT0]; omega)
    (by simp only [a_KEY_VCNT1]; omega) _ _ _ _

theorem loadVault (s : State) : Held s s.loadVault := by
  have hrecords : Held s (Machine.forEach s.otp.keys (fun (r : OtpKey) t =>
      if r.ok then t.setSlot r.slot kOTP r.usage r.size r.key else t.fire 148 r.slot) s) :=
    forEach fun r _ t => ite (setSlot t _ _ _ _ _) (of_calm (.fire t (by decide) _))
  have hdraw : ∀ t : State, Held t (t.takeFree (2 ^ 256)).2 := fun t => of_calm .other
  exact (hrecords.trans (hdraw _)).trans (setSlot _ 3 kEPH (2 ^ uKEK) 1 _)

theorem burStart (s : State) : Held s s.burStart := by
  have hchange : Held s s.burChange := of_calm (.burChange s)
  cases hnext : s.burChange.bur.next with
  | none => rwa [State.burStart_of_none hnext]
  | some e =>
    exact (hchange.trans (set _ (f := BUR_CTL_ACT) (by decide) _)).trans (of_calm (State.burStart_of_some hnext))

theorem domainStart (s : State) {d : Nat} (hd : d < 20) : Held s (s.domainStart d) := by
  have hedge : ∀ (t : State) (e : Nat) (x : DecTarget), Held t (t.addEdge e x) := fun t e x =>
    of_calm (.lineOnly (.addEdge t e x))
  have hjoint : ∀ (t : State) {n : Nat}, n < 16 → Held t (t.showJoint n) := fun t n hn =>
    of_calm (.set t (f := PRT_RXSTAT_JOINT n) (.port (b := 0x100404) hn (by decide)) _)
  have hback : Held s s.msnBack := of_calm (by
    unfold State.msnBack
    split
    · exact .other
    · exact .refl s)
  unfold State.domainStart
  refine ite ((of_calm (.loadSafe s _ 1)).trans (burStart _)) (ite (loadVault s) (ite (of_calm .other)
    (ite (hback.trans (forN fun i _ t => hedge t _ _)) ?_)))
  split
  · exact (((hjoint s (by omega)).trans (hjoint _ (by omega))).trans (hedge _ _ _)).trans (hedge _ _ _)
  · exact refl s

theorem domainUp (s : State) {d : Nat} (hd : d < 20) : Held s (s.domainUp d) :=
  ((set s (f := ⟨a_PWR_STAT, d, 1⟩) (by decide : a_PWR_STAT ∉ sysRegs) _).trans (domainStart _ hd)).trans
    (of_calm (.fire _ (by decide) _))

end Held
end Sys2Proof.Machine

/-! SUPPORT. The second half of a boot (Table 02-7, steps 7 to 12): Proof, and what ends in SAFE (R43, R45). -/

namespace Sys2Proof.Machine

/-! ## Proof -/

/-- Proof goes on from `s` to `t`: the mode stays, no fault found is lost, and Burin's fault and ACT are as they were. -/
structure Proving (s t : State) : Prop where
  part : Part s t
  mode : t.reg a_SYS_MODESTAT = s.reg a_SYS_MODESTAT
  fail : s.get SYS_BOOTSTAT_PROOF_FAIL ≠ 0 → t.get SYS_BOOTSTAT_PROOF_FAIL ≠ 0
  fault : t.get BUR_CTL_PROT_FAULT = s.get BUR_CTL_PROT_FAULT
  act : t.get BUR_CTL_ACT = s.get BUR_CTL_ACT

/-- The faults that Proof has found are the old ones and the new ones. -/
theorem State.get_failProof (s : State) (n : Nat) :
    (s.failProof n).get SYS_BOOTSTAT_PROOF_FAIL = (s.get SYS_BOOTSTAT_PROOF_FAIL ||| n) % 2 ^ 8 :=
  State.get_set_same _ (by decide) _

theorem State.failProof_ne_zero (s : State) {n : Nat} (hn : n < 2 ^ 8) (h : n ≠ 0 ∨ s.get SYS_BOOTSTAT_PROOF_FAIL ≠ 0) :
    (s.failProof n).get SYS_BOOTSTAT_PROOF_FAIL ≠ 0 := by
  have hold : s.get SYS_BOOTSTAT_PROOF_FAIL < 2 ^ 8 := s.get_lt SYS_BOOTSTAT_PROOF_FAIL
  rw [s.get_failProof, Nat.mod_eq_of_lt (Nat.or_lt_two_pow hold hn), Ne, Nat.or_eq_zero_iff]
  omega

namespace Proving

theorem of_calm {s t : State} (h : Calm s t) : Proving s t where
  part := .of_calm h
  mode := h.sys _ (by decide)
  fail hs := by rwa [State.get_of_reg (h.sys _ (by decide))]
  fault := h.fault
  act := h.act

theorem trans {s t u : State} (h : Proving s t) (k : Proving t u) : Proving s u where
  part := h.part.trans k.part
  mode := k.mode.trans h.mode
  fail hs := k.fail (h.fail hs)
  fault := k.fault.trans h.fault
  act := k.act.trans h.act

theorem failProof (s : State) {n : Nat} (hn : n < 2 ^ 8) : Proving s (s.failProof n) where
  part := .set s (f := SYS_BOOTSTAT_PROOF_FAIL) (by decide) _
  mode := s.reg_set_other (by decide) _
  fail hs := s.failProof_ne_zero hn (.inr hs)
  fault := s.get_set_addr (by decide) _
  act := s.get_set_addr (by decide) _

theorem train (s : State) (f : BootFindings) : Proving s (s.train f) := by
  have hfault : ∀ (t : State) (ch rk : Nat), t.dramFault ch rk < 2 ^ 8 := fun t ch rk => by
    have hb : ∀ b, b2n b ≤ 1 := by decide
    unfold State.dramFault
    split
    · rename_i c r _
      extract_lets bad
      have h0 := hb (bad 0)
      have h1 := hb (bad 1)
      omega
    · split_ifs <;> decide
  unfold State.train
  extract_lets kept fit ch two rk
  exact (of_calm (((Calm.set s (f := MEM_CFG_CH) (by decide) ch).trans (.set _ (f := MEM_CFG_RANKS) (by decide) rk)).trans
    (.set _ (f := MEM_CFG_CAP) (by decide) _))).trans (failProof _ (hfault s ch rk))

end Proving

namespace Calm

theorem appendRepair (s : State) (rec : List Byte) : Calm s (s.appendRepair rec) := by
  unfold State.appendRepair
  split
  · exact (flashPut s _ _).trans other
  · exact (((flashErase s _ _).trans (flashPut _ _ _)).trans (flashErase _ _ _)).trans other

theorem repairRow (s : State) (j : Nat) (r : Repair) (spare : Bool) : Calm s (s.repairRow j r spare) := by
  have hrow : ∀ t : State, Calm t (if j < 8 then (t.setReg (a_MEM_REPLOG0 j) (BitVec.ofNat 32 r.w0)).setReg
      (a_MEM_REPLOG1 j) (BitVec.ofNat 32 (if spare then 2 else 4)) else t) := fun t => by
    split
    · exact (setReg t (.of_range (by simp only [a_MEM_REPLOG0, f1]; omega)) _).trans
        (setReg _ (.of_range (by simp only [a_MEM_REPLOG1, f1]; omega)) _)
    · exact refl t
  exact (appendRepair s _).trans (hrow _)

theorem postPackage (s : State) (f : BootFindings) : Calm s (s.postPackage f) := by
  unfold State.postPackage
  extract_lets due
  refine forEach fun j _ t => ?_
  split
  · exact repairRow t _ _ _
  · exact refl t

end Calm

theorem Proving.bootMemory (s : State) (f : BootFindings) : Proving s (s.bootMemory f) := by
  unfold State.bootMemory
  extract_lets fresh s1
  have h1 : Proving s s1 := (of_calm (.ite (.postPackage s f) (.refl s))).trans (.train _ f)
  refine h1.trans (of_calm ?_)
  exact .other

/-! ## The pairs (R45 to R48) -/

namespace Part

theorem enterSafe (s : State) (reason : Nat) : Part s (s.enterSafe reason) := by
  by_cases h : s.mode = mSafe
  · rw [State.enterSafe, if_pos h]
    exact refl s
  · exact (State.enterSafe_inSafe h reason).part

theorem tryPair (s : State) (f : BootFindings) (p : Nat) : Part s (s.tryPair f p) := by
  have hresult : ∀ v, Part s (s.set (resultOf p) v) := fun v => set s (by rw [resultOf_addr]; decide) v
  unfold State.tryPair
  extract_lets r s1
  refine ite (((hresult r).trans ?_).trans (set _ (f := SYS_BOOTSTAT_PAIR) (by decide) p)) (hresult r)
  exact other

theorem endTrial (s : State) : Part s s.endTrial := by
  have hwrite : ∀ b, Part s (s.writeBoot b) := fun b =>
    of_calm ((Calm.flashErase s _ 4096).trans (.flashPut _ _ _))
  unfold State.endTrial
  extract_lets p
  split
  · exact ite (hwrite _) (refl s)
  · exact refl s

theorem selectPair (s : State) (f : BootFindings) : Part s (s.selectPair f) := by
  have hmark : ∀ t : State, Part t t.markTrial := fun t => ite other (refl t)
  have hsecond : ∀ (t : State) (p : Nat) (trial : Bool), Part t (t.secondPair f p trial) := fun t p trial =>
    ite (set t (f := SYS_BOOTSTAT_TRIAL) (by decide) _) (tryPair t f _)
  exact (((endTrial s).trans (hmark _)).trans (tryPair _ f _)).trans (hsecond _ _ _)

theorem bootChosen (s : State) : Part s s.bootChosen :=
  ite (ite (enterSafe s _) (enterSafe s _)) (of_calm (.bootTables s))

theorem bootImages (s : State) (f : BootFindings) : Part s (s.bootImages f) := by
  have hnone : Part s { s with boot.running := 3 } := other
  exact ((hnone.trans (of_calm (.bootStep _ 9))).trans (selectPair _ f)).trans (bootChosen _)

end Part

/-! ## The end of Proof (R43) -/

/-- R43: the state that the findings of Proof are looked at in. -/
def State.found (s : State) (f : BootFindings) : State := (s.bootMemory f).failProof f.proofFail.toNat

theorem proofFail_lt (f : BootFindings) : f.proofFail.toNat < 2 ^ 8 :=
  Nat.lt_trans f.proofFail.isLt (by decide)

theorem State.found_proving (s : State) (f : BootFindings) : Proving s (s.found f) :=
  (Proving.bootMemory s f).trans (Proving.failProof _ (proofFail_lt f))

theorem State.bootLate_part (s : State) (f : BootFindings) : Part s (s.bootLate f) :=
  (s.found_proving f).part.trans (.ite ((Part.of_calm (.bootStep _ 9)).trans (.enterSafe _ _)) (.bootImages _ f))

/-- A unit that fails Proof ends in SAFE with reason PROOF, with Burin as it was. -/
theorem State.bootLate_fails {s : State} {f : BootFindings} (hm : s.mode = mProof)
    (h : f.proofFail ≠ 0 ∨ s.get SYS_BOOTSTAT_PROOF_FAIL ≠ 0) : (s.bootLate f).mode = mSafe ∧
      (s.bootLate f).get SYS_BOOTSTAT_SAFE_REASON = sfPROOF ∧
      (s.bootLate f).get BUR_CTL_PROT_FAULT = s.get BUR_CTL_PROT_FAULT ∧
      (s.bootLate f).get BUR_CTL_ACT = s.get BUR_CTL_ACT := by
  have hfail : (s.found f).get SYS_BOOTSTAT_PROOF_FAIL ≠ 0 := by
    refine State.failProof_ne_zero _ (proofFail_lt f) (h.imp (fun hf => ?_) (Proving.bootMemory s f).fail)
    exact fun hz => hf (BitVec.eq_of_toNat_eq hz)
  have hprov : Proving s ((s.found f).bootStep 9) := (s.found_proving f).trans (.of_calm (.bootStep _ 9))
  have hmode : ((s.found f).bootStep 9).mode ≠ mSafe := by
    rw [State.mode, State.get_of_reg hprov.mode, ← State.mode, hm]
    decide
  have hsafe := State.enterSafe_inSafe hmode sfPROOF
  have heq : s.bootLate f = ((s.found f).bootStep 9).enterSafe sfPROOF := if_pos hfail
  rw [heq]
  exact ⟨hsafe.shows.mode, hsafe.reason, hsafe.fault.trans hprov.fault, hsafe.act.trans hprov.act⟩

end Sys2Proof.Machine

/-! The cold boot, the warm boot and the end of start-up (R40, R43, R44, R53, R56). -/

namespace Sys2Proof.Machine

/-! ## Steps 1 to 6 of a cold boot (R40, R41, R43) -/

/-- Table 02-7, steps 1 and 2: the reset registers, with what the fuses show. -/
def State.coldShown (s : State) : State := s.coldState.pllUp.showFuses

theorem State.reg_coldState (s : State) {a : Nat} (h : a ≠ a_GPI_IN) : s.coldState.reg a = resetWord a :=
  State.reg_setReg_other _ h _

theorem State.reg_showFuses (s : State) {a : Nat} (hid : a ≠ a_SYS_ID) (hcap : a ≠ a_SYS_CAP) (hboot : a ≠ a_SYS_BOOTSTAT) :
    s.showFuses.reg a = s.reg a := by
  unfold State.showFuses
  extract_lets part s1 s2
  have h1 : s1.reg a = s.reg a := by
    rw [State.reg_set_other _ hid, State.reg_set_other _ hid, State.reg_set_other _ hid]
  have h2 : s2.reg a = s1.reg a := by
    rw [State.reg_set_other _ hcap, State.reg_set_other _ hcap, State.reg_set_other _ hcap]
  rw [State.reg_set_other _ hboot, State.reg_set_other _ hcap, State.reg_set_other _ hcap, h2, h1]

theorem State.coldShown_mode (s : State) : s.coldShown.reg a_SYS_MODESTAT = resetWord a_SYS_MODESTAT := by
  rw [State.coldShown, State.reg_showFuses _ (by decide) (by decide) (by decide), State.pllUp,
    State.reg_set_other _ (by decide), State.reg_set_other _ (by decide), State.reg_coldState _ (by decide)]

theorem State.mode_of_reset {s : State} (h : s.reg a_SYS_MODESTAT = resetWord a_SYS_MODESTAT) : s.mode = mProof :=
  (congrArg (bits · 0 4) h).trans (by decide)

theorem State.showFuses_stepping (s : State) : s.showFuses.get SYS_ID_STEPPING = s.otp.stepping.toNat := by
  unfold State.showFuses
  extract_lets part s1 s2
  have h1 : s1.get SYS_ID_STEPPING = s.otp.stepping.toNat :=
    (State.get_set_same _ (by decide) _).trans (Nat.mod_eq_of_lt s.otp.stepping.isLt)
  have h2 : s2.get SYS_ID_STEPPING = s1.get SYS_ID_STEPPING := by
    rw [State.get_set_addr _ (by decide), State.get_set_addr _ (by decide), State.get_set_addr _ (by decide)]
  rw [State.get_set_addr _ (by decide), State.get_set_addr _ (by decide), State.get_set_addr _ (by decide), h2, h1]

theorem State.showFuses_ports (s : State) : s.showFuses.get SYS_CAP_PORTS = s.ports := by
  unfold State.showFuses
  extract_lets part s1 s2
  have h2 : s2.get SYS_CAP_PORTS = s.ports := by
    rw [State.get_set_bits _ (by decide), State.get_set_bits _ (by decide), State.get_set_same _ (by decide)]
    exact Nat.mod_eq_of_lt (Nat.lt_of_le_of_lt s.ports_le (by decide))
  rw [State.get_set_addr _ (by decide), State.get_set_bits _ (by decide), State.get_set_bits _ (by decide), h2]

/-- The present port domains are on, and the vault is loaded. -/
def State.earlyOn (s : State) : State :=
  forN 8 (fun j t => if bitN t.present (12 + j) then t.domainStart (12 + j) else t)
    (s.coldShown.set PWR_STAT_ON s.present).loadVault.fixAreas

/-- R43: PD_PROT is proven at step 3. -/
def State.earlyProven (s : State) (f : BootFindings) : State :=
  if f.protFault then (s.earlyOn.set BUR_CTL_PROT_FAULT 1).failProof 128 else s.earlyOn

/-- R41: Burin starts with the profile of the store. -/
def State.burLoaded (s : State) : State :=
  { s with boot.step := 4 }.loadSafe (State.otpProfile { s with boot.step := 4 }) 1

theorem State.bootEarly_eq (s : State) (f : BootFindings) :
    s.bootEarly f = (s.earlyProven f).burLoaded.burStart.refreshLds.bootStep 6 := rfl

theorem State.earlyOn_held (s : State) : Held s.coldShown s.earlyOn :=
  (((Held.set _ (f := PWR_STAT_ON) (by decide) _).trans (.loadVault _)).trans (.of_calm (.fixAreas _))).trans
    (.forN fun _ hj t => .ite (.domainStart t (by omega)) (.refl t))

theorem State.burLoaded_calm (s : State) : Calm s s.burLoaded := by
  refine Calm.trans ?_ (.loadSafe _ _ _)
  exact .other

theorem State.bootEarly_held (s : State) (f : BootFindings) : Held (s.earlyProven f) (s.bootEarly f) := by
  rw [State.bootEarly_eq]
  exact ((Held.of_calm (State.burLoaded_calm _)).trans (.burStart _)).trans
    (.of_calm ((Calm.refreshLds _).trans (.bootStep _ 6)))

theorem State.earlyProven_part (s : State) (f : BootFindings) : Part s.coldShown (s.earlyProven f) :=
  have hon : Part s.coldShown s.earlyOn := s.earlyOn_held.part
  .ite ((hon.trans (.set _ (f := BUR_CTL_PROT_FAULT) (by decide) 1)).trans
    (.set _ (f := SYS_BOOTSTAT_PROOF_FAIL) (by decide) _)) hon

theorem State.bootEarly_part (s : State) (f : BootFindings) : Part s.coldShown (s.bootEarly f) :=
  (s.earlyProven_part f).trans (s.bootEarly_held f).part

theorem State.bootEarly_mode (s : State) (f : BootFindings) : (s.bootEarly f).mode = mProof := by
  have hproven : (s.earlyProven f).reg a_SYS_MODESTAT = s.earlyOn.reg a_SYS_MODESTAT := by
    unfold State.earlyProven
    split
    · rw [State.failProof, State.reg_set_other _ (by decide), State.reg_set_other _ (by decide)]
    · rfl
  have hreg : (s.bootEarly f).reg a_SYS_MODESTAT = resetWord a_SYS_MODESTAT :=
    calc (s.bootEarly f).reg a_SYS_MODESTAT
      _ = (s.earlyProven f).reg a_SYS_MODESTAT := (s.bootEarly_held f).sys _ (by decide)
      _ = s.coldShown.reg a_SYS_MODESTAT := hproven.trans (s.earlyOn_held.sys _ (by decide))
      _ = resetWord a_SYS_MODESTAT := s.coldShown_mode
  exact State.mode_of_reset hreg

/-- R43: a faulty PD_PROT is a fault of Proof, and Burin stays off. -/
theorem State.bootEarly_faulty (s : State) {f : BootFindings} (h : f.protFault = true) :
    (s.bootEarly f).get SYS_BOOTSTAT_PROOF_FAIL ≠ 0 ∧ (s.bootEarly f).flag BUR_CTL_PROT_FAULT = true ∧
      (s.bootEarly f).get BUR_CTL_ACT = 0 := by
  have heq : s.earlyProven f = (s.earlyOn.set BUR_CTL_PROT_FAULT 1).failProof 128 := if_pos h
  have hfail : (s.earlyProven f).get SYS_BOOTSTAT_PROOF_FAIL ≠ 0 := by
    rw [heq]
    exact State.failProof_ne_zero _ (by decide) (.inl (by decide))
  have hfault : (s.earlyProven f).get BUR_CTL_PROT_FAULT = 1 := by
    rw [heq, State.failProof, State.get_set_addr _ (by decide), State.get_set_same _ (by decide)]
    rfl
  have hloaded : (s.earlyProven f).burLoaded.flag BUR_CTL_PROT_FAULT = true := by
    rw [State.flag, (State.burLoaded_calm _).fault, hfault]
    rfl
  obtain ⟨hkept, hact⟩ := State.burStart_faulty hloaded
  have hcalm : Calm (s.earlyProven f).burLoaded.burStart (s.bootEarly f) := (Calm.refreshLds _).trans (.bootStep _ 6)
  refine ⟨?_, (congrArg (· == 1) hcalm.fault).trans hkept, hcalm.act.trans hact⟩
  rwa [State.get_of_reg ((s.bootEarly_held f).sys _ (by decide))]

/-! ## The cold boot -/

/-- The state that a cold boot ends in. -/
def State.coldBooted (s : State) (f : BootFindings) : State :=
  if s.boot.warmLow then s.bootEarly f else (s.bootEarly f).bootLate f

theorem State.execColdBoot_eq {s : State} (f : BootFindings) (hstart : s.boot.step = 0 ∨ s.pw.porstLow = true)
    (hcore : s.pw.supplyLow.getLsbD 0 = false) (hafe : s.pw.supplyLow.getLsbD 1 = false) :
    exec (.coldBoot f) s = .next (s.coldBooted f) := by
  show Host.Outcome.next (if (s.boot.step = 0 ∨ s.pw.porstLow) ∧ s.pw.supplyLow.getLsbD 0 = false ∧
    s.pw.supplyLow.getLsbD 1 = false then _ else s) = _
  rw [if_pos ⟨hstart, hcore, hafe⟩, State.coldBooted]

theorem State.coldBooted_part (s : State) (f : BootFindings) : Part s.coldShown (s.coldBooted f) :=
  .ite (s.bootEarly_part f) ((s.bootEarly_part f).trans (State.bootLate_part _ f))

theorem State.coldBooted_tick (s : State) (f : BootFindings) : (s.coldBooted f).tick = 0 :=
  have hearly := State.bootEarly_keeps (Keeps.refl { s with tick := 0 }) f
  (Keeps.ite hearly (State.bootLate_keeps hearly f)).tick

/-! ## The warm boot (R53) -/

/-- The identity and the lock are not reset by a warm boot. -/
theorem part_reach : ∀ a ∈ [a_SYS_ID, a_SYS_CAP, a_SYS_LOCK],
    (rowOf regMap a).all (fun q => decide (q.1.reach < 2)) = true := by decide +kernel

theorem Calm.cutOnTime (s : State) (n : Nat) : Calm s (s.cutOnTime n) := by
  unfold State.cutOnTime
  split
  · exact .forEach fun p _ t => .trimOnTime t _ _ _ _
  · exact .refl s

theorem Part.discardEvents (s : State) (reach : Nat → Bool) : Part s (s.discardEvents reach) := .other

theorem Part.dmaStop (s : State) : Part s s.dmaStop := .other

theorem Part.blocksReset (s : State) : Part s s.blocksReset := .other

theorem Part.resetRegs (s : State) : Part s (s.resetRegs (fun _ r _ => decide (2 ≤ r.reach))) := by
  have hwhere : Part s (s.resetWhere (fun _ r _ => decide (2 ≤ r.reach))) :=
    ⟨fun a ha => s.reg_resetWhere fun r i j hrow => by
      have := part_reach a ha
      rw [hrow] at this
      exact decide_eq_false (Nat.not_le.2 (of_decide_eq_true this)), rfl, rfl, rfl⟩
  exact (hwhere.trans (.setReg _ (by decide) _)).trans (.set _ (f := FSP_STAT_BUSY) (by decide) _)

/-- R53: SYS_BOOTSTAT after a restart shows the fault of PD_PROT that it showed before. -/
theorem proofFail_kept {x : Nat} (hx : 128 ≤ x ∧ x < 2 ^ 8) (ctr : Nat) :
    bits (BitVec.ofNat 32 (3 + x / 128 * 128 * 2 ^ 13 + 2 * 2 ^ 21 + ctr % 256 * 2 ^ 24)) 13 8 ≠ 0 := by
  rw [bits, BitVec.toNat_ofNat]
  omega

/-- What a restart leaves of the line, the records, the host interface and the boot. -/
def State.partsCleared (s : State) : State :=
  { s with
    tx := s.tx.map (fun (e : Nat × TxPort) => (e.1, e.2.kept))
    fe.port := s.fe.port.map (fun (e : Nat × FePort) => (e.1, e.2.kept))
    fe.ms := []
    hif := { linkUp := s.hif.linkUp }
    sq.lost := []
    fsp.waiting := s.fsp.waiting.filter (fun (o : FlashOp) => o.rank != 3)
    boot.step := 6
    boot.running := 3
    boot.warmRestart := false }

/-- The registers that a restart shows, `boot` in SYS_BOOTSTAT. -/
def State.restartShown (s : State) (boot : Nat) : State :=
  ((s.setReg a_PWR_REQ 0xFFFFF).setReg a_SYS_MODESTAT (resetWord a_SYS_MODESTAT)).setReg a_SYS_BOOTSTAT (BitVec.ofNat 32 boot)

/-- Every present domain is on, and Burin follows. -/
def State.domainsRaised (s : State) : State :=
  ((forN 20 (fun d t => if bitN t.present d && (!t.domOn d || t.pw.resetting.getLsbD d) then (t.settle d).domainUp d else t)
    s).fixAreas.burChange.refreshLds).showProg

/-- The line stops, and the blocks and registers are reset. -/
def State.blocksCleared (s : State) : State :=
  ((((forN 16 (fun n t => t.cutOnTime n) s).discardEvents warmReach).dmaStop.cphIdle.slotsLost kPROV kPROV).blocksReset.resetRegs
    (fun _ r _ => decide (2 ≤ r.reach))).logsReset

/-- SYS_BOOTSTAT after a restart of the mailbox. -/
def State.restartBoot (s : State) : Nat :=
  3 + s.get SYS_BOOTSTAT_PROOF_FAIL / 128 * 128 * 2 ^ 13 + 2 * 2 ^ 21 + s.otp.counter % 256 * 2 ^ 24

theorem State.warmReset_eq (s : State) :
    s.warmReset 2 = (s.blocksCleared.partsCleared.restartShown s.restartBoot).domainsRaised := rfl

theorem State.blocksCleared_part (s : State) : Part s s.blocksCleared := by
  have hstop : Part s ((forN 16 (fun n t => t.cutOnTime n) s).discardEvents warmReach) :=
    (Part.of_calm (.forN fun n _ t => .cutOnTime t n)).trans (.discardEvents _ _)
  have hblocks := ((hstop.trans (.dmaStop _)).trans (.of_calm ((Calm.cphIdle _).trans (.slotsLost _ kPROV kPROV)))).trans
    (.blocksReset _)
  exact ((((hblocks.trans (.resetRegs _)).trans (.set _ (f := PWR_STAT_REFUSED) (by decide) 0)).trans
    (.set _ (f := CLK_STAT_LOCKLOSS) (by decide) 0)).trans (.set _ (f := CLK_STAT_REFLOSS) (by decide) 0))

theorem State.restartShown_part (s : State) (boot : Nat) : Part s (s.partsCleared.restartShown boot) := by
  have hcleared : Part s s.partsCleared := .other
  exact ((hcleared.trans (.setReg _ (a := a_PWR_REQ) (by decide) _)).trans
    (.setReg _ (a := a_SYS_MODESTAT) (by decide) _)).trans (.setReg _ (a := a_SYS_BOOTSTAT) (by decide) _)

theorem State.domainsRaised_held (s : State) : Held s s.domainsRaised :=
  (Held.forN fun d hd t => .ite ((Held.of_calm (.settle t d)).trans (.domainUp _ hd)) (.refl t)).trans
    (.of_calm ((((Calm.fixAreas _).trans (.burChange _)).trans (.refreshLds _)).trans (.showProg _)))

/-- R53: what a restart of the mailbox starts from. -/
theorem State.warmReset_spec (s : State) : Part s (s.warmReset 2) ∧ (s.warmReset 2).mode = mProof ∧
    (128 ≤ s.get SYS_BOOTSTAT_PROOF_FAIL → (s.warmReset 2).get SYS_BOOTSTAT_PROOF_FAIL ≠ 0) := by
  have hheld := (s.blocksCleared.partsCleared.restartShown s.restartBoot).domainsRaised_held
  have hmode : (s.blocksCleared.partsCleared.restartShown s.restartBoot).reg a_SYS_MODESTAT = resetWord a_SYS_MODESTAT :=
    (State.reg_setReg_other _ (by decide) _).trans (State.reg_setReg_same _ _ _)
  have hboot : (s.blocksCleared.partsCleared.restartShown s.restartBoot).reg a_SYS_BOOTSTAT =
      BitVec.ofNat 32 s.restartBoot := State.reg_setReg_same _ _ _
  rw [s.warmReset_eq]
  refine ⟨(s.blocksCleared_part.trans (State.restartShown_part _ _)).trans hheld.part,
    State.mode_of_reset ((hheld.sys _ (by decide)).trans hmode), fun h128 => ?_⟩
  rw [State.get_of_reg (hheld.sys _ (by decide))]
  exact ne_of_eq_of_ne (congrArg (bits · 13 8) hboot) (proofFail_kept ⟨h128, s.get_lt SYS_BOOTSTAT_PROOF_FAIL⟩ _)

/-- R56: neither the pin nor the mailbox asks for a warm boot any more. -/
def State.unasked (s : State) : State :=
  { s with
    boot.warmLow := false
    boot.warmRestart := false }

/-- The state that steps 7 to 12 of a warm boot start from. -/
def State.warmStart (s : State) : State :=
  (if s.boot.warmLow then s.set SYS_BOOTSTAT_CAUSE 1 else s.warmReset 2).unasked

theorem State.reg_unasked (s : State) (a : Nat) : s.unasked.reg a = s.reg a := rfl

theorem State.get_unasked (s : State) (f : Field) : s.unasked.get f = s.get f := rfl

theorem State.otp_unasked (s : State) : s.unasked.otp = s.otp := rfl

theorem State.execWarmBoot_eq {s : State} (f : BootFindings) (hstep : 6 ≤ s.boot.step)
    (hask : s.boot.warmLow = true ∨ s.boot.warmRestart = true) : exec (.warmBoot f) s = .next (s.warmStart.bootLate f) := by
  show Host.Outcome.next (if 6 ≤ s.boot.step ∧ (s.boot.warmLow ∨ s.boot.warmRestart) then _ else _) = _
  rw [if_pos ⟨hstep, hask⟩]
  rfl

/-- The device is in PROOF, with the faults of PD_PROT that the cold boot found. -/
theorem State.warmStart_spec {s : State} (h : (s.boot.warmLow = true ∧ s.mode = mProof) ∨
    (s.boot.warmLow = false ∧ s.boot.warmRestart = true)) : s.warmStart.reg a_SYS_LOCK = s.reg a_SYS_LOCK ∧
      s.warmStart.otp = s.otp ∧ s.warmStart.mode = mProof ∧
      (128 ≤ s.get SYS_BOOTSTAT_PROOF_FAIL → s.warmStart.get SYS_BOOTSTAT_PROOF_FAIL ≠ 0) := by
  rw [State.warmStart, State.reg_unasked, State.otp_unasked, State.mode, State.get_unasked, State.get_unasked]
  rcases h with ⟨hlow, hmode⟩ | ⟨hlow, -⟩
  · rw [if_pos hlow]
    refine ⟨s.reg_set_other (by decide) 1, rfl, (s.get_set_addr (by decide) 1).trans hmode, fun h128 => ?_⟩
    rw [State.get_set_bits _ (by decide)]
    omega
  · obtain ⟨hpart, hmode, hfail⟩ := s.warmReset_spec
    rw [if_neg (by simp [hlow])]
    exact ⟨hpart.regs _ (by decide), hpart.otp, hmode, hfail⟩

theorem State.warmStart_tick {s : State} (f : BootFindings) (hstep : 6 ≤ s.boot.step)
    (hask : s.boot.warmLow = true ∨ s.boot.warmRestart = true) : (s.warmStart.bootLate f).tick = s.tick :=
  (execWarmBoot_keeps (Keeps.refl s) f _ (State.execWarmBoot_eq f hstep hask)).tick

/-! ## The end of start-up (R40, R43) -/

/-- Table 02-7, step 13: STANDBY, and READY. -/
def State.stoodUp (s : State) : State := ({ s with boot.step := 13 }.setMode mStandby).set SYS_MODESTAT_READY 1

/-- The state that START_UP_COMPLETE ends in. -/
def State.startedUp (s : State) : State := (s.ready.automatic false).portsFollow

theorem State.startedUp_follows (s : State) :
    LineOnly ((s.stoodUp.fire 457 mStandby).automatic false) s.startedUp := by
  have hready : LineOnly (s.stoodUp.fire 457 mStandby) s.ready := .sfEnter _ _
  refine LineOnly.trans ?_ (.portsFollow _)
  exact ⟨by rw [State.automatic, State.automatic, hready.rest], hready.regs⟩

theorem State.stoodUp_shows (s : State) : ShowsMode s.stoodUp mStandby ∧ s.stoodUp.flag SYS_MODESTAT_READY = true := by
  have hmode := State.setMode_shows { s with boot.step := 13 } (m := mStandby) (by decide)
  refine ⟨⟨?_, ?_, ?_⟩, State.flag_set_one _ (by decide) rfl⟩
  · exact (State.get_set_bits _ (by decide) 1).trans hmode.mode
  · exact (State.get_set_bits _ (by decide) 1).trans hmode.target
  · exact (congrArg (· == 1) (State.get_set_bits _ (by decide) 1)).trans hmode.busy

theorem State.stoodUp_fires {s : State} (hon : s.domOn dAon = true) :
    fired s (s.stoodUp.fire 457 mStandby) 457 mStandby := by
  refine State.fired_fire_of (State.sourceOn_aon rfl rfl ?_) rfl rfl mStandby
  rw [← hon]
  refine congrArg (bitN · dAon) (State.get_of_reg (f := PWR_STAT_ON) ?_)
  exact (State.reg_set_other _ (by decide) 1).trans (State.reg_setMode _ mStandby (by decide) (by decide))

theorem State.execStartUpComplete_eq {s : State} (hm : s.mode = mProof) (hstep : s.boot.step = 12) :
    exec .startUpComplete s = .next s.startedUp := by
  show Host.Outcome.next (if s.mode = mProof ∧ s.boot.step = 12 then s.startedUp else s) = _
  rw [if_pos ⟨hm, hstep⟩]

/-! ## The obligation -/

/-- Settles O11: a cold boot shows the fuses and then holds them, a boot that finds a fault ends in the entry into SAFE,
and all that follows the change to STANDBY is of the line and the MAC. -/
theorem bootsRunTheirSteps : Obligations.BootsRunTheirSteps := by
  unfold Obligations.BootsRunTheirSteps
  refine ⟨fun s f hstart hcore hafe => ?_, fun s f hstep hask => ?_, fun s hm hstep hon => ?_⟩
  · have hpart := s.coldBooted_part f
    have hfails := State.bootLate_fails (f := f) (s.bootEarly_mode f)
    have hbooted : s.boot.warmLow = false → s.coldBooted f = (s.bootEarly f).bootLate f := fun h => if_neg (by simp [h])
    have hheld : s.boot.warmLow = true → s.coldBooted f = s.bootEarly f := fun h => if_pos h
    refine ⟨_, State.execColdBoot_eq f hstart hcore hafe, s.coldBooted_tick f, hpart.otp, hpart.porst, ?_, ?_,
      fun hlow => ?_, fun hlow hfault => ?_, fun hprot => ?_⟩
    · exact (State.get_of_reg (hpart.regs _ (by decide))).trans s.coldState.pllUp.showFuses_stepping
    · exact (State.get_of_reg (hpart.regs _ (by decide))).trans s.coldState.pllUp.showFuses_ports
    · rw [hheld hlow]
      exact ⟨s.bootEarly_mode f, rfl⟩
    · rw [hbooted hlow]
      obtain ⟨hmode, hreason, -⟩ := hfails (hfault.symm.imp_right fun h => (s.bootEarly_faulty h).1)
      exact ⟨hmode, hreason⟩
    · obtain ⟨hfail, hflag, hact⟩ := s.bootEarly_faulty hprot
      cases hlow : s.boot.warmLow with
      | true =>
        rw [hheld hlow]
        exact ⟨hflag, hact⟩
      | false =>
        rw [hbooted hlow]
        obtain ⟨-, -, hfault, hkept⟩ := hfails (.inr hfail)
        exact ⟨(congrArg (· == 1) hfault).trans hflag, hkept.trans hact⟩
  · have hasked : s.boot.warmLow = true ∨ s.boot.warmRestart = true := hask.imp And.left And.right
    obtain ⟨hlock, hotp, hmode, hfail⟩ := State.warmStart_spec hask
    have hpart := s.warmStart.bootLate_part f
    refine ⟨_, State.execWarmBoot_eq f hstep hasked, State.warmStart_tick f hstep hasked, hpart.otp.trans hotp, hpart.warm,
      (hpart.regs _ (by decide)).trans hlock, fun hfault => ?_⟩
    obtain ⟨hsafe, hreason, -⟩ := State.bootLate_fails hmode (hfault.imp_right hfail)
    exact ⟨hsafe, hreason⟩
  · have hline := s.startedUp_follows
    obtain ⟨hshows, hready⟩ := s.stoodUp_shows
    obtain ⟨hflag, hstaged⟩ := State.stoodUp_fires hon
    have hmodestat : s.startedUp.reg a_SYS_MODESTAT = s.stoodUp.reg a_SYS_MODESTAT :=
      (hline.regs _ (by decide)).trans (State.reg_fire_other _ (by decide) mStandby)
    have hend := hshows.congr hmodestat
    refine ⟨_, State.execStartUpComplete_eq hm hstep, hend.mode, hend.target, hend.busy, ?_, ⟨?_, ?_⟩, ?_⟩
    · exact (State.flag_of_reg hmodestat).trans hready
    · exact (hline.flag (by decide)).trans hflag
    · rw [hline.sq]
      exact hstaged
    · refine hline.blv.trans ?_
      exact State.fire_blv _ 457 mStandby

end Sys2Proof.Machine

/-! The tick number: only time and PORST_N move it (R57, R398, R402). -/

namespace Sys2Proof.Machine

/-- TIME_BASE_ADVANCE answers a next state, whose tick number is later by what it names (R356). -/
theorem exec_timeBaseAdvance_tick (n : Nat) (clips : List Clip) (s : State) :
    ∃ t : State, exec (.timeBaseAdvance n clips) s = .next t ∧ t.tick = s.tick + n :=
  ⟨_, rfl, (execTimeBaseAdvance_keeps n clips (Keeps.refl { s with tick := s.tick + n }) _ rfl).tick⟩

/-- Settles O4: the commands named are those of `MovesTick`, and of every other one the tick number is part of what
`Keeps` names. -/
theorem tickIsNeverStepped : Obligations.TickIsNeverStepped := by
  refine ⟨fun c s t hcold hsupply hporst htime hx => ?_, exec_timeBaseAdvance_tick⟩
  have hc : ¬ MovesTick c := by
    rintro (⟨f, hf⟩ | ⟨k, hk⟩ | hp | ⟨n, clips, hn⟩)
    · exact hcold f hf
    · exact hsupply k hk
    · exact hporst hp
    · exact htime n clips hn
  exact (exec_keeps hc (Keeps.refl s) t hx).tick

end Sys2Proof.Machine

/-! Records drain in order of tick and source (R69 to R74). -/

namespace Sys2Proof.Machine

/-! ## The record that drains next (R69) -/

theorem EvRec.before_iff (a b : EvRec) :
    a.before b = true ↔ a.tick < b.tick ∨ a.tick = b.tick ∧ a.source < b.source := by
  simp [EvRec.before]

/-- What is known of the record chosen among some: it is one of them of a past tick, and none of a past tick precedes
it; where none is chosen, none is of a past tick. -/
def DrainsFirst (now : Nat) (l : List EvRec) (o : Option EvRec) : Prop :=
  match o with
  | none => ∀ x ∈ l, now ≤ x.tick
  | some r => r ∈ l ∧ r.tick < now ∧ ∀ x ∈ l, x.tick < now → ¬ x.before r = true

/-- One step of the choice. -/
def pickRecord (now : Nat) (o : Option EvRec) (x : EvRec) : Option EvRec :=
  if now ≤ x.tick then o
  else match o with
    | none => some x
    | some r => if x.before r then some x else some r

theorem State.nextRecord_eq (s : State) :
    s.nextRecord = (s.sq.staged.map Prod.snd).foldl (pickRecord s.tick) none := rfl

/-- A record of the present tick does not change the choice. -/
theorem DrainsFirst.append_present {now : Nat} {l : List EvRec} {o : Option EvRec} (h : DrainsFirst now l o) {x : EvRec}
    (hx : now ≤ x.tick) : DrainsFirst now (l ++ [x]) o := by
  cases o with
  | none => simpa [DrainsFirst, or_imp, forall_and, hx] using h
  | some r =>
    obtain ⟨hr, hpast, hmin⟩ := h
    refine ⟨List.mem_append_left _ hr, hpast, fun y hy hlt => ?_⟩
    rcases List.mem_append.1 hy with hy | hy
    · exact hmin y hy hlt
    · obtain rfl := List.mem_singleton.1 hy
      omega

/-- A record that is chosen stays so when the next one does not precede it. -/
theorem DrainsFirst.append_later {now : Nat} {l : List EvRec} {r x : EvRec} (h : DrainsFirst now l (some r))
    (hx : ¬ x.before r = true) : DrainsFirst now (l ++ [x]) (some r) := by
  obtain ⟨hr, hpast, hmin⟩ := h
  refine ⟨List.mem_append_left _ hr, hpast, fun y hy hlt => ?_⟩
  rcases List.mem_append.1 hy with hy | hy
  · exact hmin y hy hlt
  · obtain rfl := List.mem_singleton.1 hy
    exact hx

/-- A record of a past tick that precedes the chosen one takes its place, since it precedes all that one did. -/
theorem DrainsFirst.append_earlier {now : Nat} {l : List EvRec} {r x : EvRec} (h : DrainsFirst now l (some r))
    (hx : x.before r = true) (hnow : x.tick < now) : DrainsFirst now (l ++ [x]) (some x) := by
  obtain ⟨-, -, hmin⟩ := h
  refine ⟨by simp, hnow, fun y hy hlt => ?_⟩
  simp only [EvRec.before_iff] at *
  rcases List.mem_append.1 hy with hy | hy
  · have := hmin y hy hlt
    omega
  · obtain rfl := List.mem_singleton.1 hy
    omega

/-- The first record of a past tick is chosen. -/
theorem DrainsFirst.append_first {now : Nat} {l : List EvRec} {x : EvRec} (h : DrainsFirst now l none)
    (hnow : x.tick < now) : DrainsFirst now (l ++ [x]) (some x) := by
  refine ⟨by simp, hnow, fun y hy hlt => ?_⟩
  rcases List.mem_append.1 hy with hy | hy
  · have := h y hy
    omega
  · obtain rfl := List.mem_singleton.1 hy
    simp [EvRec.before_iff]

theorem DrainsFirst.pick {now : Nat} {l : List EvRec} {o : Option EvRec} (h : DrainsFirst now l o) (x : EvRec) :
    DrainsFirst now (l ++ [x]) (pickRecord now o x) := by
  unfold pickRecord
  split
  next hx => exact h.append_present hx
  next hx =>
    cases o with
    | none => exact h.append_first (by omega)
    | some r =>
      dsimp only
      split
      next hb => exact h.append_earlier hb (by omega)
      next hb => exact h.append_later hb

theorem drainsFirst_foldl (now : Nat) (l : List EvRec) : DrainsFirst now l (l.foldl (pickRecord now) none) := by
  induction l using List.reverseRecOn with
  | nil => simp [DrainsFirst]
  | append_singleton l x ih =>
    rw [List.foldl_append]
    exact ih.pick x

theorem State.nextRecord_drainsFirst (s : State) : DrainsFirst s.tick (s.sq.staged.map Prod.snd) s.nextRecord :=
  drainsFirst_foldl s.tick _

/-- A record drains next exactly where some staged record is of a past tick. -/
theorem State.nextRecord_eq_none_iff (s : State) : s.nextRecord = none ↔ ∀ e ∈ s.sq.staged, s.tick ≤ e.2.tick := by
  have h := s.nextRecord_drainsFirst
  cases hn : s.nextRecord with
  | none =>
    rw [hn] at h
    exact iff_of_true rfl fun e he => h e.2 (List.mem_map_of_mem he)
  | some r =>
    rw [hn] at h
    obtain ⟨hr, hpast, -⟩ := h
    obtain ⟨e, he, rfl⟩ := List.mem_map.1 hr
    refine iff_of_false nofun fun hall => ?_
    have := hall e he
    omega

/-! ## What draining changes (R70, R71, R74) -/

/-- The staged records and the history are the same. -/
def SameRecords (s t : State) : Prop := t.sq.staged = s.sq.staged ∧ t.sq.history = s.sq.history

theorem SameRecords.trans {s t u : State} (h : SameRecords s t) (k : SameRecords t u) : SameRecords s u :=
  ⟨k.1.trans h.1, k.2.trans h.2⟩

/-- The event log takes a record into the units of the flash store, and nothing else changes. -/
theorem State.logRecord_eq (s : State) (r : EvRec) : s.logRecord r = { s with fsp := (s.logRecord r).fsp } := by
  unfold State.logRecord
  split
  · dsimp only
    split <;> rfl
  · rfl

theorem State.recordOut_sameRecords (s : State) (t : Target) (r : EvRec) : SameRecords s (s.recordOut t r) := by
  unfold State.recordOut
  split <;> exact ⟨rfl, rfl⟩

theorem State.requestVector_sameRecords (s : State) (f v : Nat) : SameRecords s (s.requestVector f v) := by
  obtain h | h | ⟨_, _, -, h⟩ := s.requestVector_cases f v <;> rw [h] <;> exact ⟨rfl, rfl⟩

/-- The record has left the staging slots, and entered the history and the event log. -/
def State.unstage (s : State) (r : EvRec) : State :=
  { s with
    sq.staged := del r.source s.sq.staged
    sq.history := keepHistory s.sq.history r }.logRecord r

theorem State.unstage_eq (s : State) (r : EvRec) : s.unstage r = { s with
    sq.staged := del r.source s.sq.staged
    sq.history := keepHistory s.sq.history r
    fsp := (s.unstage r).fsp } := State.logRecord_eq _ r

/-- In SAFE a record reaches no ring and requests no vector (R74). -/
theorem State.drain_safe {s : State} (h : s.mode = mSafe) (r : EvRec) : s.drain r = s.unstage r := by
  simp only [State.drain, h, if_true, State.unstage]

/-- R70: a record whose route says so goes to its ring. -/
def State.ringOut (s : State) (t : Target) (r : EvRec) : State := if t.toRing then s.recordOut t r else s

theorem State.ringOut_sameRecords (s : State) (t : Target) (r : EvRec) : SameRecords s (s.ringOut t r) := by
  unfold State.ringOut
  split
  · exact s.recordOut_sameRecords t r
  · exact ⟨rfl, rfl⟩

/-- Out of SAFE a record goes to its ring, and the last one of its tick for a vector requests it (R70, R71). -/
theorem State.drain_running {s : State} (h : s.mode ≠ mSafe) (r : EvRec) :
    s.drain r = (let t := s.routeOf r.source
      let u := (s.unstage r).ringOut t r
      if t.irq && !u.moreForVector t r.tick then u.requestVector t.func t.vec else u) := by
  simp only [State.drain, h, if_false]
  rfl

/-- Once a record is out of its slot, what is left of draining it touches no staged record and no history. -/
theorem State.drain_sameRecords (s : State) (r : EvRec) : SameRecords (s.unstage r) (s.drain r) := by
  by_cases h : s.mode = mSafe
  · rw [State.drain_safe h]
    exact ⟨rfl, rfl⟩
  · have hring := (s.unstage r).ringOut_sameRecords (s.routeOf r.source) r
    rw [State.drain_running h]
    dsimp only
    split
    · exact hring.trans (State.requestVector_sameRecords _ _ _)
    · exact hring

theorem State.drain_records (s : State) (r : EvRec) :
    (s.drain r).sq.staged = del r.source s.sq.staged ∧ (s.drain r).sq.history = keepHistory s.sq.history r := by
  obtain ⟨hstaged, hhistory⟩ := s.drain_sameRecords r
  exact ⟨by rw [hstaged, s.unstage_eq], by rw [hhistory, s.unstage_eq]⟩

/-! ## RECORD_DRAIN -/

theorem exec_recordDrain_some {s : State} {r : EvRec} (h : s.nextRecord = some r) :
    exec .recordDrain s = .next (s.drain r) := by
  show execRecordDrain s = _
  simp only [execRecordDrain, h]

theorem exec_recordDrain_none {s : State} (h : s.nextRecord = none) : exec .recordDrain s = .next s := by
  show execRecordDrain s = _
  simp only [execRecordDrain, h]

/-- Settles O14: the record that drains is chosen as `DrainsFirst` says, and draining it takes out its slot alone. -/
theorem recordsDrainInOrder : Obligations.RecordsDrainInOrder := by
  refine ⟨fun s ⟨e, he, hpast⟩ hkeys => ?_, fun s hall => exec_recordDrain_none (s.nextRecord_eq_none_iff.2 hall)⟩
  obtain ⟨r, hr⟩ : ∃ r, s.nextRecord = some r := Option.ne_none_iff_exists'.1 fun hnone => by
    have := s.nextRecord_eq_none_iff.1 hnone e he
    omega
  have hfirst := s.nextRecord_drainsFirst
  rw [hr] at hfirst
  obtain ⟨hmem, hlt, hmin⟩ := hfirst
  obtain ⟨⟨k, r⟩, hin, rfl⟩ := List.mem_map.1 hmem
  obtain rfl : r.source = k := hkeys _ hin
  obtain ⟨hstaged, hhistory⟩ := s.drain_records r
  refine ⟨s.drain r, r.source, r, exec_recordDrain_some hr, hin, hlt, fun x hx hxlt hbefore => ?_, ?_, fun j hj => ?_,
    hhistory, (State.drain_keeps (Keeps.refl s) r).tick, fun hsafe => ?_⟩
  · exact hmin x.2 (List.mem_map_of_mem hx) hxlt ((EvRec.before_iff _ _).2 hbefore)
  · rw [hstaged, find_del, if_pos rfl]
  · rw [hstaged, find_del, if_neg hj]
  · rw [State.drain_safe hsafe, s.unstage_eq]
    exact ⟨rfl, rfl, fun _ => rfl⟩

end Sys2Proof.Machine

/-! Silent violations are counted, and the first one is captured (R76). -/

namespace Sys2Proof.Machine

/-! ## Recording a violation -/

/-- R76: an access is captured where none was since the count was zero, or where the captured one is of the same tick
and ranks after it. -/
def State.Captures (s : State) (a : Access) : Prop :=
  s.get SYS_VIOLCNT_COUNT = 0 ∨
    (s.sq.violTick = s.tick ∧ s.get SYS_VIOLINFO_VALID = 1 ∧ accessRank a < s.sq.violRank)

/-- The word of SYS_VIOLADDR for an access: its offset or its fabric address. -/
def violAddr (a : Access) : Word :=
  match a with
  | .host _ _ o _ => o
  | .internal o _ => o

/-- The word of SYS_VIOLINFO for an access: VALID, WRITE, the function, the BAR and KIND. -/
def violInfo (a : Access) (kind : Nat) : Word :=
  match a with
  | .host f b _ w => BitVec.ofNat 32 (1 + 2 * b2n w + 4 * f.val + 8 * b.val + 16 * kind)
  | .internal _ w => BitVec.ofNat 32 (1 + 2 * b2n w + 16 * kind)

theorem State.violate_captures {s : State} {a : Access} (h : s.Captures a) (kind : Nat) : s.violate a kind =
    { ((s.bump SYS_VIOLCNT_COUNT).setReg a_SYS_VIOLADDR (violAddr a)).setReg a_SYS_VIOLINFO (violInfo a kind) with
      sq.violTick := s.tick, sq.violRank := accessRank a } := by
  have hcap : (s.get SYS_VIOLCNT_COUNT == 0 || (s.sq.violTick == s.tick && s.flag SYS_VIOLINFO_VALID
      && decide (accessRank a < s.sq.violRank))) = true := by
    simpa [State.Captures, State.flag, and_assoc] using h
  simp only [State.violate, hcap, if_true]
  cases a <;> rfl

theorem State.violate_counts {s : State} {a : Access} (h : ¬ s.Captures a) (kind : Nat) :
    s.violate a kind = s.bump SYS_VIOLCNT_COUNT := by
  have hcap : (s.get SYS_VIOLCNT_COUNT == 0 || (s.sq.violTick == s.tick && s.flag SYS_VIOLINFO_VALID
      && decide (accessRank a < s.sq.violRank))) = false := by
    simpa [State.Captures, State.flag, and_assoc] using h
  simp only [State.violate, hcap, Bool.false_eq_true, if_false]

/-- From `s` to `t` a violation of a kind has been recorded: it is counted, and captured where R76 says so. -/
structure Violated (s t : State) (a : Access) (kind : Nat) : Prop where
  count : t.get SYS_VIOLCNT_COUNT = min (s.get SYS_VIOLCNT_COUNT + 1) 0xFFFF
  regs : sameRegs s t [a_SYS_VIOLCNT, a_SYS_VIOLADDR, a_SYS_VIOLINFO]
  staged : t.sq.staged = s.sq.staged
  captured : s.Captures a → (t.reg a_SYS_VIOLADDR = violAddr a ∧ t.reg a_SYS_VIOLINFO = violInfo a kind) ∧
    t.sq.violTick = s.tick ∧ t.sq.violRank = accessRank a
  kept : ¬ s.Captures a →
    t.reg a_SYS_VIOLADDR = s.reg a_SYS_VIOLADDR ∧ t.reg a_SYS_VIOLINFO = s.reg a_SYS_VIOLINFO

/-- COUNT saturates at 0xFFFF. -/
theorem State.get_bump_violations (s : State) :
    (s.bump SYS_VIOLCNT_COUNT).get SYS_VIOLCNT_COUNT = min (s.get SYS_VIOLCNT_COUNT + 1) 0xFFFF :=
  s.get_bump_same (by decide)

theorem State.violate_violated (s : State) (a : Access) (kind : Nat) : Violated s (s.violate a kind) a kind := by
  by_cases h : s.Captures a
  · rw [State.violate_captures h]
    refine ⟨?_, fun x hx => ?_, rfl, fun _ => ⟨⟨?_, State.reg_setReg_same _ _ _⟩, rfl, rfl⟩, fun hn => absurd h hn⟩
    · refine Eq.trans ?_ s.get_bump_violations
      exact (State.get_setReg_other _ (by decide) _).trans (State.get_setReg_other _ (by decide) _)
    · simp only [List.mem_cons, List.not_mem_nil, or_false, not_or] at hx
      obtain ⟨hcnt, haddr, hinfo⟩ := hx
      exact (State.reg_setReg_other _ hinfo _).trans
        ((State.reg_setReg_other _ haddr _).trans (s.reg_bump_other hcnt 1))
    · exact (State.reg_setReg_other _ (by decide) _).trans (State.reg_setReg_same _ _ _)
  · rw [State.violate_counts h]
    refine ⟨s.get_bump_violations, fun x hx => ?_, rfl, fun hc => absurd hc h, fun _ => ⟨?_, ?_⟩⟩
    · exact s.reg_bump_other (fun hcnt => hx (by simp [hcnt, SYS_VIOLCNT_COUNT])) 1
    · exact s.reg_bump_other (by decide) 1
    · exact s.reg_bump_other (by decide) 1

/-- Taking a free value beforehand changes nothing of the record. -/
theorem Violated.of_free {s t : State} {a : Access} {kind n : Nat} (h : Violated { s with free := n } t a kind) :
    Violated s t a kind :=
  ⟨h.count, h.regs, h.staged, h.captured, h.kept⟩

/-- Nor does the answer sent to the access afterwards. -/
theorem Violated.post {s t : State} {a : Access} {kind : Nat} (h : Violated s t a kind) (o : Output) :
    Violated s (t.post o) a kind :=
  ⟨h.count, h.regs, h.staged, h.captured, h.kept⟩

/-! ## Accesses -/

/-- Table 13-2: an offset below the size of its BAR lies in it; function 1 has BAR0 alone. -/
theorem inBar_of_lt {f b : Fin 2} {o : Nat}
    (h : o < (if f.val = 0 then (if b.val = 0 then 0x200000 else 0x1000000) else 0x10000)) (hf1 : f.val = 1 → b.val = 0) :
    inBar f b o = true := by
  unfold inBar
  split
  next hf => simpa [hf] using h
  next hf => simpa [hf, hf1 (by omega)] using h

/-- A host access to a BAR, aligned in BAR0, that is a silent violation is recorded. -/
theorem State.hostAccess_violated (s : State) {f b : Fin 2} {o : Word} {w : Bool} {kind : Nat}
    (hin : inBar f b o.toNat = true) (halign : b.val = 0 → o.toNat % 4 = 0)
    (hkind : s.violationKind f b o.toNat w = some kind) (act : State → State) :
    Violated s (s.hostAccess f b o w act) (.host f b o w) kind := by
  have hbus : (!inBar f b o.toNat || (b == 0 && o.toNat % 4 != 0)) = false := by
    simp only [hin, Bool.not_true, Bool.false_or, Bool.and_eq_false_imp, beq_iff_eq, bne_eq_false_iff_eq]
    rintro rfl
    exact halign rfl
  have hrec := (State.violate_violated { s with free := s.free + 1 } (.host f b o w) kind).of_free
  simp only [State.hostAccess, hbus, Bool.false_eq_true, if_false, hkind]
  cases w with
  | true => exact hrec
  | false => exact hrec.post _

theorem exec_silentViolation_host (f b : Fin 2) (o : Word) (w : Bool) (s : State) :
    exec (.silentViolation (.host f b o w)) s = .next (s.hostAccess f b o w id) := rfl

theorem exec_silentViolation_internal (o : Word) (w : Bool) (s : State) :
    exec (.silentViolation (.internal o w)) s = .next (s.violate (.internal o w) 4) := rfl

/-- Settles O16: a host access and an internal request are both recorded as `Violated` says, the latter with KIND 4. -/
theorem violationsAreCountedAndCaptured : Obligations.ViolationsAreCountedAndCaptured := by
  intro s a kind _ ha
  obtain ⟨t, hx, hv⟩ : ∃ t, exec (.silentViolation a) s = .next t ∧ Violated s t a kind := by
    cases a with
    | host f b o w =>
      obtain ⟨hlt, hf1, halign, hkind⟩ := ha
      exact ⟨_, exec_silentViolation_host f b o w s, s.hostAccess_violated (inBar_of_lt hlt hf1) halign hkind id⟩
    | internal o w =>
      subst ha
      exact ⟨_, exec_silentViolation_internal o w s, s.violate_violated _ 4⟩
  refine ⟨t, hx, hv.count, hv.regs, hv.staged, ?_⟩
  split
  next hc =>
    obtain ⟨hwords, htick, hrank⟩ := hv.captured hc
    cases a <;> exact ⟨hwords, htick, hrank⟩
  next hc => exact hv.kept hc

end Sys2Proof.Machine

/-! Software events, the tick, refused requests and SYS_LOCK (R60, R73, R286). -/

namespace Sys2Proof.Machine

/-- A host read that reaches its register does what it does. -/
theorem State.hostRead_reads (s : State) {func off : Nat} (h : s.violationKind func 0 off false = none)
    (f : State → State) : s.hostRead func off f = f s := by
  simp [State.hostRead, h]

/-- A software event of PD_AON fires and changes nothing else. -/
theorem State.swEvent_changes (s : State) (num : Fin 8) (data : Nat) (hon : s.domOn dAon = true) :
    changesOnly s (s.swEvent num data) [(488 + num.val, data)] [] := by
  have hdom : sourceDomain (488 + num.val) = dAon := by
    revert num
    decide
  have hport : sourcePort (488 + num.val) = none := by
    revert num
    decide
  exact (changesOnly.refl s).fire (by omega) (by simp) (by simp) (State.sourceOn_aon hdom hport hon) data

theorem exec_softwareEvent {s : State} (h : s.reaches 0 a_SQR_SWEVT) (num : Fin 8) (data : BitVec 29) :
    exec (.softwareEvent num data) s = .next (s.swEvent num data.toNat) :=
  congrArg Host.Outcome.next (s.hostWrite_reaches h _)

theorem exec_tickReadLatch {s : State} (h : s.readable 0 a_SQR_TICK_LO) : exec .tickReadLatch s = .next s.latchTick :=
  congrArg Host.Outcome.next (s.hostRead_reads h _)

theorem State.latchTick_hi (s : State) : s.latchTick.get SQR_TICK_HI_TICK_HI = s.tick / 2 ^ 32 % 2 ^ 32 :=
  State.get_set_same (f := SQR_TICK_HI_TICK_HI) _ (by decide) _

theorem State.latchTick_regs (s : State) : sameRegs s s.latchTick [a_SQR_TICK_LO, SQR_TICK_HI_TICK_HI.addr] := by
  intro a ha
  simp only [List.mem_cons, List.not_mem_nil, or_false, not_or] at ha
  obtain ⟨hlo, hhi⟩ := ha
  exact (State.reg_set_other _ hhi _).trans (State.reg_set_other (f := SQR_TICK_LO_TICK_LO) _ hlo _)

/-- Table 13-11: the accesses answered with Unsupported Request. -/
theorem badRequest_access (f : Fin 2) (o : Word) (n : Nat) : badRequest (.access f o n) = true ↔
    n ∉ [4, 8] ∨ o.toNat % n ≠ 0 ∨ o.toNat ≥ (if f.val = 0 then 0x200000 else 0x10000) := by
  have hbar : inBar f 0 o.toNat = decide (o.toNat < (if f.val = 0 then 0x200000 else 0x10000)) := by
    unfold inBar
    split <;> simp
  simp [badRequest, hbar, or_assoc]

theorem badRequest_config (f : Nat) : badRequest (.config f) = true ↔ 2 ≤ f := by simp [badRequest]

/-- A request of Table 13-11 is answered, and any other leaves the state. -/
theorem exec_unsupportedRequest (s : State) (r : BadRequest) : exec (.unsupportedRequest r) s =
    .next (if badRequest r then { s with posted := .unsupported :: s.posted } else s) := rfl

theorem exec_sysLockWrite {s : State} (h : s.reaches 0 a_SYS_LOCK) :
    exec .sysLockWrite s = .next (s.set SYS_LOCK_LOCK 1) :=
  congrArg Host.Outcome.next (s.hostWrite_reaches h _)

theorem State.locked_set_lock (s : State) : (s.set SYS_LOCK_LOCK 1).locked = true := by
  have h : (s.set SYS_LOCK_LOCK 1).get SYS_LOCK_LOCK = 1 := s.get_set_same (by decide) 1
  simp [State.locked, State.flag, h]

/-- Settles O15: each access does what its register's or its request's lemma says. -/
theorem squareAccessesAnswer : Obligations.SquareAccessesAnswer := by
  refine ⟨fun s num data hreach hon => ?event, fun s hread => ?tick, fun s r => ?request, fun s f b o => rfl,
    fun s hreach => ?lock⟩
  case event => exact ⟨_, exec_softwareEvent hreach num data, s.swEvent_changes num _ hon⟩
  case tick => exact ⟨_, exec_tickReadLatch hread, rfl, s.latchTick_hi, rfl, s.latchTick_regs⟩
  case request =>
    refine ⟨_, exec_unsupportedRequest s r, fun h => if_pos ?_⟩
    cases r with
    | access f o n => exact (badRequest_access f o n).2 h
    | config f => exact (badRequest_config f).2 h
  case lock =>
    refine ⟨_, exec_sysLockWrite hreach, s.locked_set_lock, rfl, fun a ha => ?_⟩
    exact s.reg_set_other (f := SYS_LOCK_LOCK) (List.mem_singleton.not.1 ha) 1

end Sys2Proof.Machine

/-! Calibration passes (R83, R84). -/

namespace Sys2Proof.Machine

/-- A front-end record read after it is written. -/
@[simp] theorem State.fePort_setFePort_same (s : State) (n : Nat) (p : FePort) : (s.setFePort n p).fePort n = p :=
  look_store_same _ _ _ _

theorem State.fePort_setFePort_other (s : State) {m n : Nat} (h : m ≠ n) (p : FePort) :
    (s.setFePort n p).fePort m = s.fePort m :=
  look_store_other _ _ h _ _

/-- Front-end records are no registers. -/
@[simp] theorem State.reg_setFePort (s : State) (n : Nat) (p : FePort) (a : Nat) : (s.setFePort n p).reg a = s.reg a := rfl
@[simp] theorem State.get_setFePort (s : State) (n : Nat) (p : FePort) (f : Field) : (s.setFePort n p).get f = s.get f := rfl
@[simp] theorem State.sq_setFePort (s : State) (n : Nat) (p : FePort) : (s.setFePort n p).sq = s.sq := rfl

/-- A front-end record depends on the table of them. -/
theorem State.fePort_congr {s t : State} (h : t.fe = s.fe) (n : Nat) : t.fePort n = s.fePort n := by
  simp only [State.fePort, h]

/-- R84: when a calibration pass is due. -/
theorem State.calDue_iff (s : State) (n : Nat) : s.calDue n = true ↔
    n < s.ports ∧ s.domOn dProt = true ∧ s.mode ≠ mProof ∧ (s.fePort n).calActive = false ∧
      s.get (PRT_AFE_CAL_INT n) ≠ 0 ∧ (s.fePort n).calStart + s.get (PRT_AFE_CAL_INT n) * 12500000 ≤ s.tick := by
  have h : 100 * tMs = 12500000 := rfl
  rw [← h]
  simp [State.calDue, and_assoc]

/-- R84: a pass begins where one is due. -/
theorem exec_calibrationPassStart {s : State} {n : Fin 16} (h : s.calDue n.val = true) :
    exec (.calibrationPassStart n) s =
      .next (s.setFePort n.val { s.fePort n.val with calActive := true, calStart := s.tick }) :=
  congrArg Host.Outcome.next (if_pos h)

/-- No pass runs on port `n`. -/
def State.calIdle (s : State) (n : Nat) : State := s.setFePort n { s.fePort n with calActive := false }

/-- R84: the running pass of port `n` has ended and ES487 has fired. -/
def State.calEnded (s : State) (n : Nat) : State := (s.calIdle n).fire 487 n

theorem exec_calibrationPassEnd {s : State} {n : Fin 16} (h : (s.fePort n.val).calActive = true) (limit : Bool) :
    exec (.calibrationPassEnd n limit) s =
      .next (if limit then (s.calEnded n.val).raiseFlag (PRT_AFE_CAL_LIMIT n.val) else s.calEnded n.val) :=
  congrArg Host.Outcome.next (if_pos h)

theorem notPending_afe {n : Nat} (hn : n < 16) : NotPending (a_PRT_AFE n) := by
  simp only [NotPending, a_PRT_AFE, f1]
  omega

/-- The end of a pass, from the state in which the pass no longer runs: only ES487 is new. -/
theorem State.calEnded_changes (s : State) (n : Nat) (hon : s.domOn dAon = true) :
    changesOnly (s.calIdle n) (s.calEnded n) [(487, n)] [] :=
  (changesOnly.refl (s.calIdle n)).fire (by omega) (by simp) (by simp) (State.sourceOn_aon (s := s.calIdle n) rfl rfl hon) n

theorem State.calEnded_fePort (s : State) (n : Nat) : ((s.calEnded n).fePort n).calActive = false := by
  rw [State.calEnded, State.fePort_congr (State.fire_fe _ _ _), State.calIdle, State.fePort_setFePort_same]

/-- CAL_LIMIT is raised where a coefficient reached the end of its range. -/
theorem State.calLimit_changes (s : State) {n : Nat} (hn : n < 16) (hon : s.domOn dAon = true) :
    changesOnly (s.calIdle n) ((s.calEnded n).raiseFlag (PRT_AFE_CAL_LIMIT n)) [(487, n)] [a_PRT_AFE n] :=
  ((s.calEnded_changes n hon).mono (List.nil_subset _)).raiseFlag (f := PRT_AFE_CAL_LIMIT n)
    (List.mem_singleton_self _) (notPending_afe hn) (by simp)

/-- Settles O19: a due pass writes its front-end record alone; the end of a pass is ES487 into a state that differs from
the first in that record alone, and CAL_LIMIT where it is raised. -/
theorem calibrationPassesRun : Obligations.CalibrationPassesRun := by
  refine ⟨fun s n hport hprot hmode hidle hint hdue => ?start, fun s n limit hactive hon => ?finish⟩
  case start =>
    have h : s.calDue n.val = true := (s.calDue_iff n.val).2 ⟨hport, hprot, hmode, hidle, hint, hdue⟩
    refine ⟨_, exec_calibrationPassStart h, ?_, ?_, rfl, fun m hm => s.fePort_setFePort_other hm _⟩ <;>
      rw [State.fePort_setFePort_same]
  case finish =>
    have hended := s.calEnded_changes n.val hon
    have hafe : (s.calEnded n.val).reg (a_PRT_AFE n.val) = s.reg (a_PRT_AFE n.val) :=
      hended.reg_eq (by simp) (notPending_afe n.isLt) (by simp)
    refine ⟨_, exec_calibrationPassEnd hactive limit, ?_⟩
    cases limit with
    | true =>
      have hlimit := s.calLimit_changes n.isLt hon
      have hgain := (s.calEnded n.val).get_raiseFlag_other (f := PRT_AFE_CAL_LIMIT n.val) (g := PRT_AFE_GAIN n.val)
        (.inr (.inr (by simp [PRT_AFE_CAL_LIMIT, PRT_AFE_GAIN])))
      exact ⟨s.calEnded_fePort n.val, hlimit.1, hgain.trans (State.get_of_reg hafe),
        fun _ => State.flag_raiseFlag _ (by simp [PRT_AFE_CAL_LIMIT]) rfl, nofun, by rw [if_pos rfl, hlimit.2]; rfl⟩
    | false =>
      exact ⟨s.calEnded_fePort n.val, (hended.mono (List.nil_subset _)).1, State.get_of_reg hafe, nofun, fun _ => hafe,
        by rw [if_neg nofun, hended.2]; rfl⟩

end Sys2Proof.Machine

/-! SUPPORT. Registers of a kind that an operation leaves (R11): the relation `KeptRegs` and its closure lemmas. -/

namespace Sys2Proof.Machine

/-- From `s` to `t` no register of the kind `R` has changed. -/
def KeptRegs (R : Nat → Prop) (s t : State) : Prop := ∀ a, R a → t.reg a = s.reg a

namespace KeptRegs

variable {R : Nat → Prop} {s t u : State}

theorem refl (s : State) : KeptRegs R s s := fun _ _ => rfl

theorem trans (h : KeptRegs R s t) (k : KeptRegs R t u) : KeptRegs R s u := fun a ha => (k a ha).trans (h a ha)

/-- An update of other parts of the state. -/
theorem other (h : t.regs = s.regs := by rfl) : KeptRegs R s t := fun a _ => State.reg_congr h a

theorem set (s : State) {f : Field} (h : ¬ R f.addr) (v : Nat) : KeptRegs R s (s.set f v) :=
  fun _ ha => s.reg_set_other (by rintro rfl; exact h ha) v

theorem fire (s : State) (hR : ∀ a, R a → NotPending a) {src : Nat} (hsrc : src < 512) (data : Nat) :
    KeptRegs R s (s.fire src data) := fun a ha => s.reg_fire_other (pendReg_ne hsrc (hR a ha)) data

theorem ite {a b : State} {c : Prop} [Decidable c] (h : KeptRegs R s a) (k : KeptRegs R s b) :
    KeptRegs R s (if c then a else b) := by
  split <;> assumption

theorem forN {n : Nat} {f : Nat → State → State} (hf : ∀ k, k < n → ∀ t, KeptRegs R t (f k t)) (s : State) :
    KeptRegs R s (forN n f s) :=
  forN_induct (P := KeptRegs R s) (refl s) fun k hk t h => h.trans (hf k hk t)

theorem get {f : Field} (h : KeptRegs R s t) (hf : R f.addr) : t.get f = s.get f := State.get_of_reg (h _ hf)

theorem flag {f : Field} (h : KeptRegs R s t) (hf : R f.addr) : t.flag f = s.flag f := State.flag_of_reg (h _ hf)

end KeptRegs
end Sys2Proof.Machine

/-! SUPPORT. The passing of time leaves the registers of the analog front ends (R79, R356). -/

namespace Sys2Proof.Machine

/-- A register of a port's analog front end: PRT_AFE or PRT_CLIP (R79, R80). -/
abbrev AfeReg (a : Nat) : Prop := 0x100000 ≤ a ∧ a < 0x180000 ∧ 0x100 ≤ a % 0x8000 ∧ a % 0x8000 < 0x200

theorem afeReg_clip {n : Nat} (hn : n < 16) : AfeReg (a_PRT_CLIP n) := by
  simp only [AfeReg, a_PRT_CLIP]
  omega

theorem AfeReg.notPending (a : Nat) (h : AfeReg a) : NotPending a := by
  simp only [AfeReg, NotPending, f1] at *
  omega

namespace KeptRegs

abbrev Afe (s t : State) : Prop := KeptRegs AfeReg s t

/-! ## Burin (R174, R181, R193) -/

theorem fireAfe (s : State) {src : Nat} (hsrc : src < 512) (data : Nat) : Afe s (s.fire src data) :=
  fire s AfeReg.notPending hsrc data

theorem setBit (s : State) {f : Field} (h : ¬ AfeReg f.addr) (i : Nat) (b : Bool) :
    Afe s (s.setBit f i b) :=
  set s (f := ⟨f.addr, f.lo + i, 1⟩) h _

theorem setTrip (s : State) (i : Nat) (t : TripIn) : Afe s (s.setTrip i t) := other

theorem setBurPort (s : State) (n : Nat) (p : BurPort) : Afe s (s.setBurPort n p) := other

theorem raiseStuck (s : State) {i : Nat} (hi : i < 8) : Afe s (s.raiseStuck i) :=
  ((setBit s (f := BUR_STAT_STUCK) (by decide) i true).trans (fireAfe _ (by omega) 1)).trans
    (forN (fun n _ t => setBurPort t n _) _)

theorem rearmTrip (s : State) {i : Nat} (hi : i < 8) : Afe s (s.rearmTrip i) :=
  ((setTrip s i _).trans (setBit _ (f := BUR_STAT_STUCK) (by decide) i false)).trans (fireAfe _ (by omega) 0)

theorem tripDue (s : State) {i : Nat} (hi : i < 8) : Afe s (s.tripDue i) := by
  unfold State.tripDue
  extract_lets t s1
  have h1 : Afe s s1 := by
    unfold s1
    split
    · exact ite ((setTrip s i _).trans (raiseStuck _ hi)) (refl s)
    · exact refl s
  clear_value s1
  split
  · exact ite (h1.trans (rearmTrip s1 hi)) h1
  · exact h1

theorem burChoose (s : State) (n : Nat) : Afe s (s.burChoose n) := by
  unfold State.burChoose
  extract_lets p open_
  refine ite (refl s) (ite (setBurPort s n _) ?_)
  split
  · exact refl s
  · exact setBurPort s n _

theorem reqNew (s : State) (n c i : Nat) : Afe s (s.reqNew n c i) := (setBurPort s n _).trans (burChoose _ n)

theorem tripAssert (s : State) {i : Nat} (hi : i < 8) : Afe s (s.tripAssert i) := by
  unfold State.tripAssert
  extract_lets raised s1 s2 window opened s3
  have h2 : Afe s s2 := ((setTrip s i _).trans (setBit _ (f := BUR_STAT_TIN) (by decide) i true)).trans
    (fireAfe s1 (by omega) _)
  exact ite h2 ((h2.trans (setTrip s2 i _)).trans (forN (fun n _ t => ite (reqNew t n _ i) (refl t)) _))

theorem tripRelease (s : State) {i : Nat} (hi : i < 8) : Afe s (s.tripRelease i) :=
  ((setTrip s i _).trans (setBit _ (f := BUR_STAT_TIN) (by decide) i false)).trans (fireAfe _ (by omega) _)

theorem refreshTrip (s : State) {i : Nat} (hi : i < 8) : Afe s (s.refreshTrip i) := by
  unfold State.refreshTrip
  extract_lets want s0 s1 closed s2
  have h0 : Afe s s0 := tripDue s hi
  have h1 : Afe s s1 := ite h0 (ite (h0.trans (tripAssert s0 hi)) (h0.trans (tripRelease s0 hi)))
  have h2 : Afe s s2 := h1.trans (setTrip s1 i _)
  exact ite h1 (ite (h2.trans (rearmTrip s2 hi)) h2)

theorem addEdge (s : State) (e : Nat) (t : DecTarget) : Afe s (s.addEdge e t) := ite (refl s) other

theorem burDetChange (s : State) (old : Word) (n : Nat) : Afe s (s.burDetChange old n) := by
  unfold State.burDetChange
  extract_lets w moved s1
  have h1 : Afe s s1 := ite (addEdge s _ _) (refl s)
  exact ite (h1.trans (setBurPort s1 n _)) h1

theorem burSettle (s : State) : Afe s s.burSettle := by
  unfold State.burSettle
  split
  · exact refl s
  · refine ite (refl s) ?_
    extract_lets old was words s1 s2 s3
    have h1 : Afe s s1 := by
      refine trans (R := AfeReg) ?_ (set _ (f := BUR_CTL_ACT) (by decide) _)
      exact other
    clear_value s1
    have h2 : Afe s s2 := ite (h1.trans (fireAfe s1 (by omega) _)) h1
    have h3 : Afe s s3 := h2.trans (forN (fun n _ t => burDetChange t _ n) s2)
    exact (h3.trans (forN (fun i _ t => refreshTrip t (by omega)) s3)).trans
      (set _ (f := BUR_CTL_PENDING) (by decide) _)

/-! ## Time (R356, R370) -/

theorem advancePt (s : State) (n : Nat) : Afe s (s.advancePt n) := ite (set _ (by decide) _) (refl s)

theorem setTb (s : State) {b : Nat} (hb : b < 2) (x : TbSt) : Afe s (s.setTb b x) := by
  have hpend : ¬ AfeReg (a_TIM_TBPEND b) := by simp only [AfeReg, a_TIM_TBPEND]; omega
  have hstat : ¬ AfeReg (a_TIM_TBSTAT b) := by simp only [AfeReg, a_TIM_TBSTAT]; omega
  unfold State.setTb
  exact ((ite other other : Afe s _).trans (set _ (f := TIM_TBPEND_PEND b) hpend _)).trans
    (set _ (f := TIM_TBSTAT_SLEWING b) hstat _)

theorem advanceTb (s : State) {b : Nat} (hb : b < 2) (n : Nat) : Afe s (s.advanceTb b n) :=
  ite (setTb s hb _) (refl s)

theorem syncOut (s : State) (src : Nat) : Afe s (s.syncOut src) := by
  unfold State.syncOut
  refine ite (trans ?_ (fireAfe _ (by omega) 0)) (refl s)
  exact other

theorem syncAt (s : State) (tick : Nat) : Afe s (s.syncAt tick) := by
  unfold State.syncAt
  refine ite (syncOut s 3) ?_
  exact (syncOut { s with tick := tick } 3).trans other

theorem syncSeconds (s later : State) : Afe later (s.syncSeconds later) :=
  ite (forN (fun _ _ t => syncAt t _) later) (refl later)

theorem showSettles (s : State) : Afe s s.showSettles := by
  have hport : ∀ n, n < 16 → ∀ t : State, Afe t (t.showSettle n) := fun n _ t =>
    ite (set t (f := PRT_DEC_SETTLE n) (by simp only [AfeReg, PRT_DEC_SETTLE, a_PRT_DEC]; omega) _) (refl t)
  have hms : ∀ i, i < 4 → ∀ t : State, Afe t (t.showMsSettle i) := fun i hi t =>
    ite (set t (f := TIM_MSSTAT_SETTLING i) (by simp only [AfeReg, TIM_MSSTAT_SETTLING, a_TIM_MSSTAT]; omega) _) (refl t)
  exact (forN hport s).trans (forN hms _)

/-- R356: with no miss to decide, the passing of time leaves the analog front ends. -/
theorem advance {s : State} (h : s.mac.winPend = false) (n : Nat) : Afe s (s.advance n) := by
  have hmiss : s.orphanDecide = s := if_neg (by simp [h])
  unfold State.advance
  refine ite (refl s) ?_
  extract_lets s1 fresh s2
  have h1 : Afe s s1 := by
    unfold s1
    rw [hmiss]
    exact ((advancePt s n).trans (advanceTb _ (by omega) n)).trans (advanceTb _ (by omega) n)
  have h2 : Afe s s2 := by
    refine h1.trans (trans ?_ (burSettle _))
    exact other
  clear_value s2
  refine (h2.trans (trans ?_ (showSettles _))).trans (syncSeconds s _)
  exact other

end KeptRegs
end Sys2Proof.Machine

/-! Port detectors and clipped samples (R79, R81, R95, R96). -/

namespace Sys2Proof.Machine

/-! ## What a window of magnitudes latches (R95) -/

/-- The largest of some magnitudes. -/
def detPeak (mags : List (BitVec 16)) : Nat := mags.foldl (fun a m => max a m.toNat) 0

/-- The mean square of some magnitudes, rounded down. -/
def meanSquare (mags : List (BitVec 16)) : Nat := mags.foldl (fun a m => a + m.toNat * m.toNat) 0 / mags.length

/-- The greatest of a number and some magnitudes is at least each of them and is one of them. -/
theorem foldl_max_spec (mags : List (BitVec 16)) (x : Nat) :
    x ≤ mags.foldl (fun a m => max a m.toNat) x ∧ (∀ m ∈ mags, m.toNat ≤ mags.foldl (fun a m => max a m.toNat) x) ∧
      (mags.foldl (fun a m => max a m.toNat) x = x ∨ ∃ m ∈ mags, m.toNat = mags.foldl (fun a m => max a m.toNat) x) := by
  induction mags generalizing x with
  | nil => simp
  | cons y r ih =>
    obtain ⟨hle, hall, hex⟩ := ih (max x y.toNat)
    simp only [List.foldl_cons, List.forall_mem_cons, List.exists_mem_cons_iff]
    refine ⟨(le_max_left _ _).trans hle, ⟨(le_max_right _ _).trans hle, hall⟩, ?_⟩
    rcases hex with hex | hex
    · rcases max_choice x y.toNat with hmax | hmax <;> rw [hmax] at hex ⊢
      · exact .inl hex
      · exact .inr (.inl hex.symm)
    · exact .inr (.inr hex)

theorem le_detPeak {mags : List (BitVec 16)} {m : BitVec 16} (h : m ∈ mags) : m.toNat ≤ detPeak mags :=
  (foldl_max_spec mags 0).2.1 m h

theorem detPeak_attained (mags : List (BitVec 16)) : detPeak mags = 0 ∨ ∃ m ∈ mags, m.toNat = detPeak mags :=
  (foldl_max_spec mags 0).2.2

theorem detPeak_lt (mags : List (BitVec 16)) : detPeak mags < 2 ^ 16 := by
  rcases detPeak_attained mags with h | ⟨m, -, h⟩
  · rw [h]; decide
  · exact h ▸ m.isLt

theorem meanSquare_eq (mags : List (BitVec 16)) :
    meanSquare mags = (mags.map (fun m => m.toNat * m.toNat)).sum / mags.length := by
  rw [meanSquare, List.sum_eq_foldl, List.foldl_map]

/-- A root mean square of 16-bit magnitudes has 16 bits. -/
theorem sqrt_meanSquare_lt (mags : List (BitVec 16)) : Nat.sqrt (meanSquare mags) < 2 ^ 16 := by
  rw [Nat.sqrt_lt, meanSquare_eq]
  have hsum := List.sum_le_card_nsmul (mags.map (fun m => m.toNat * m.toNat)) (65535 * 65535) (by
    intro x hx
    obtain ⟨m, -, rfl⟩ := List.mem_map.1 hx
    have := m.isLt
    exact Nat.mul_le_mul (by omega) (by omega))
  rw [List.length_map, smul_eq_mul] at hsum
  have := Nat.div_le_div_right (c := mags.length) hsum
  have := Nat.div_le_of_le_mul (Nat.le_refl (mags.length * (65535 * 65535)))
  omega

/-! ## The end of a window -/

/-- R95: the envelope after the counted outputs of a window. -/
def State.envAfter (s : State) (n : Nat) (mags : List (BitVec 16)) : BitVec 24 :=
  mags.foldl (envStep (s.get (PRT_DETCFG_ATTACK n)) (s.get (PRT_DETCFG_DECAY n))) (s.fePort n).env

/-- What the registers of a detector show after a window. -/
def State.detShown (s : State) (n : Nat) (mags : List (BitVec 16)) : State :=
  (((((s.set (PRT_DETPK_PEAK n) (detPeak mags)).set (PRT_DETRMS_RMS n)
    (if mags.length = 0 then 0 else isqrt (meanSquare mags))).set (PRT_DETSTAT_COUNT n) mags.length).set
    (PRT_DETSTAT_INVALID n) (b2n (mags.length == 0))).count (PRT_DETSTAT_SEQ n)).set (PRT_DETENV_ENV n)
    ((s.envAfter n mags).toNat / 256)

/-- The detector of port `n` after a window: its registers, its envelope, and WIN and SLOT as written. -/
def State.detLatched (s : State) (n : Nat) (mags : List (BitVec 16)) : State :=
  (s.detShown n mags).setFePort n { s.fePort n with
    env := s.envAfter n mags
    win := s.get (PRT_DETCFG_WIN n)
    slotWin := s.flag (PRT_DETCFG_SLOT n) }

theorem exec_detectorWindowEnd {s : State} {n : Fin 16} (hn : n.val < s.ports) (hon : s.domOn (dPair n.val) = true)
    (mags : List (BitVec 16)) : exec (.detectorWindowEnd n mags) s = .next (s.detLatched n.val mags) :=
  congrArg Host.Outcome.next (if_pos (by simp [hn, hon]))

section
variable (s : State) (n : Nat) (mags : List (BitVec 16))

theorem State.detShown_regs :
    sameRegs s (s.detShown n mags) [a_PRT_DETPK n, a_PRT_DETRMS n, a_PRT_DETENV n, a_PRT_DETSTAT n] := by
  intro a ha
  simp only [List.mem_cons, List.not_mem_nil, or_false, not_or] at ha
  obtain ⟨hpk, hrms, henv, hstat⟩ := ha
  simp only [State.detShown, State.count]
  rw [State.reg_set_other _ henv, State.reg_set_other _ hstat, State.reg_set_other _ hstat, State.reg_set_other _ hstat,
    State.reg_set_other _ hrms, State.reg_set_other _ hpk]

/-- The registers of a detector are four. -/
theorem detRegs_ne : a_PRT_DETPK n ≠ a_PRT_DETRMS n ∧ a_PRT_DETPK n ≠ a_PRT_DETENV n ∧ a_PRT_DETPK n ≠ a_PRT_DETSTAT n ∧
    a_PRT_DETRMS n ≠ a_PRT_DETENV n ∧ a_PRT_DETRMS n ≠ a_PRT_DETSTAT n ∧ a_PRT_DETENV n ≠ a_PRT_DETSTAT n := by
  simp only [a_PRT_DETPK, a_PRT_DETRMS, a_PRT_DETENV, a_PRT_DETSTAT]
  omega

theorem State.detShown_peak : (s.detShown n mags).get (PRT_DETPK_PEAK n) = detPeak mags := by
  obtain ⟨hrms, henv, hstat, -⟩ := detRegs_ne n
  simp only [State.detShown, State.count]
  rw [State.get_set_addr _ henv, State.get_set_addr _ hstat, State.get_set_addr _ hstat, State.get_set_addr _ hstat,
    State.get_set_addr _ hrms, State.get_set_same _ (by simp [PRT_DETPK_PEAK])]
  exact Nat.mod_eq_of_lt (detPeak_lt mags)

theorem State.detShown_rms : (s.detShown n mags).get (PRT_DETRMS_RMS n) =
    if mags.length = 0 then 0 else Nat.sqrt (meanSquare mags) := by
  obtain ⟨-, -, -, henv, hstat, -⟩ := detRegs_ne n
  simp only [State.detShown, State.count]
  rw [State.get_set_addr _ henv, State.get_set_addr _ hstat, State.get_set_addr _ hstat, State.get_set_addr _ hstat,
    State.get_set_same _ (by simp [PRT_DETRMS_RMS])]
  refine Nat.mod_eq_of_lt ?_
  split
  · exact Nat.two_pow_pos _
  · exact sqrt_meanSquare_lt mags

theorem State.detShown_env : (s.detShown n mags).get (PRT_DETENV_ENV n) = (s.envAfter n mags).toNat / 256 := by
  rw [State.detShown, State.get_set_same _ (by simp [PRT_DETENV_ENV])]
  have := (s.envAfter n mags).isLt
  exact Nat.mod_eq_of_lt (by simp only [PRT_DETENV_ENV]; omega)

theorem State.detShown_count : (s.detShown n mags).get (PRT_DETSTAT_COUNT n) = mags.length % 2 ^ 21 := by
  obtain ⟨-, -, -, -, -, henv⟩ := detRegs_ne n
  simp only [State.detShown, State.count]
  rw [State.get_set_addr _ henv.symm, State.get_set_bits _ (.inr (by simp [PRT_DETSTAT_COUNT, PRT_DETSTAT_SEQ])),
    State.get_set_bits _ (.inr (by simp [PRT_DETSTAT_COUNT, PRT_DETSTAT_INVALID])),
    State.get_set_same _ (by simp [PRT_DETSTAT_COUNT])]
  rfl

theorem State.detShown_invalid : (s.detShown n mags).get (PRT_DETSTAT_INVALID n) = if mags = [] then 1 else 0 := by
  obtain ⟨-, -, -, -, -, henv⟩ := detRegs_ne n
  simp only [State.detShown, State.count]
  rw [State.get_set_addr _ henv.symm, State.get_set_bits _ (.inr (by simp [PRT_DETSTAT_INVALID, PRT_DETSTAT_SEQ])),
    State.get_set_same _ (by simp [PRT_DETSTAT_INVALID])]
  cases mags <;> rfl

theorem State.detShown_seq : (s.detShown n mags).get (PRT_DETSTAT_SEQ n) = (s.get (PRT_DETSTAT_SEQ n) + 1) % 256 := by
  obtain ⟨-, -, hpk, -, hrms, henv⟩ := detRegs_ne n
  simp only [State.detShown, State.count]
  rw [State.get_set_addr _ henv.symm, State.get_set_same _ (by simp [PRT_DETSTAT_SEQ]),
    State.get_set_bits _ (.inl (by simp [PRT_DETSTAT_INVALID, PRT_DETSTAT_SEQ])),
    State.get_set_bits _ (.inl (by simp [PRT_DETSTAT_COUNT, PRT_DETSTAT_SEQ])), State.get_set_addr _ hrms.symm,
    State.get_set_addr _ hpk.symm]
  rfl

theorem State.detShown_onlyRegs : onlyRegs s (s.detShown n mags) := rfl

/-- A window's registers are those of `State.detShown`. -/
theorem State.detLatched_reg (a : Nat) : (s.detLatched n mags).reg a = (s.detShown n mags).reg a :=
  State.reg_setFePort _ _ _ _

theorem State.detLatched_get (f : Field) : (s.detLatched n mags).get f = (s.detShown n mags).get f :=
  State.get_setFePort _ _ _ _

theorem State.detLatched_sq : (s.detLatched n mags).sq = s.sq := by
  rw [State.detLatched, State.sq_setFePort, s.detShown_onlyRegs n mags]

/-- R95, R96: only registers and the record of the detector change. -/
theorem State.detLatched_only : (s.detLatched n mags) =
    { s with regs := (s.detLatched n mags).regs, fe.port := (s.detLatched n mags).fe.port } := by
  have h := s.detShown_onlyRegs n mags
  unfold State.detLatched
  rw [h]
  rfl

/-- R96: the detector's record after a window. -/
theorem State.detLatched_fePort : (s.detLatched n mags).fePort n = { s.fePort n with
    env := s.envAfter n mags
    win := s.get (PRT_DETCFG_WIN n)
    slotWin := s.flag (PRT_DETCFG_SLOT n) } := State.fePort_setFePort_same _ _ _

end

/-! ## Clipped samples (R79, R81) -/

theorem State.get_bump (s : State) {f : Field} (h : f.lo + f.w ≤ 32) (k : Nat) :
    (s.bump f k).get f = satAdd f.w (s.get f) k := by
  have := Nat.two_pow_pos f.w
  rw [State.bump, s.get_set_same h, Nat.mod_eq_of_lt (by unfold satAdd; omega)]

/-- The clipped samples of one port and tick. -/
def State.clipped (s : State) (c : Clip) : State :=
  (s.bump (PRT_CLIP_ADC c.port.val) c.adc).bump (PRT_CLIP_DAC c.port.val) c.dac

theorem State.clipped_adc (s : State) (c : Clip) : (s.clipped c).get (PRT_CLIP_ADC c.port.val) =
    min (s.get (PRT_CLIP_ADC c.port.val) + c.adc) 0xFFFF := by
  rw [State.clipped, State.bump, State.get_set_bits _ (.inr (by simp [PRT_CLIP_ADC, PRT_CLIP_DAC])),
    State.get_bump _ (by simp [PRT_CLIP_ADC])]
  rfl

theorem State.clipped_dac (s : State) (c : Clip) : (s.clipped c).get (PRT_CLIP_DAC c.port.val) =
    min (s.get (PRT_CLIP_DAC c.port.val) + c.dac) 0xFFFF := by
  rw [State.clipped, State.get_bump _ (by simp [PRT_CLIP_DAC]), State.bump,
    State.get_set_bits _ (.inl (by simp [PRT_CLIP_ADC, PRT_CLIP_DAC]))]
  rfl

theorem State.clipped_other (s : State) (c : Clip) {m : Nat} (h : m ≠ c.port.val) :
    (s.clipped c).reg (a_PRT_CLIP m) = s.reg (a_PRT_CLIP m) := by
  have hne : a_PRT_CLIP m ≠ a_PRT_CLIP c.port.val := by simp only [a_PRT_CLIP]; omega
  exact (State.reg_bump_other _ hne _).trans (s.reg_bump_other hne _)

/-- R79: the clipped samples of a present port are counted in the tick that passes. -/
theorem exec_timeBaseAdvance_clip {s : State} {c : Clip} (hn : c.port.val < s.ports) (hon : s.domOn dProt = true) :
    exec (.timeBaseAdvance 1 [c]) s = .next ((s.clipped c).advance 1) :=
  congrArg (fun t : State => Host.Outcome.next (t.advance 1)) (if_pos (c := c.port.val < s.ports ∧ _) ⟨hn, hon⟩)

/-- Settles O21: a window's end is `State.detLatched`; the passing of time leaves the counts of clipped samples, so they
are what counting made them. -/
theorem detectorWindowsLatch : Obligations.DetectorWindowsLatch := by
  refine ⟨fun s n mags hn hon hlen => ?window, fun s c hn hon hwin => ?clip⟩
  case window =>
    have hport := s.detLatched_fePort n.val mags
    refine ⟨s.detLatched n.val mags, exec_detectorWindowEnd hn hon mags, ?_⟩
    simp only [State.detLatched_get, s.detShown_count, s.detShown_invalid, s.detShown_seq, s.detShown_peak, s.detShown_rms,
      s.detShown_env, s.detLatched_sq, hport, ← meanSquare_eq]
    refine ⟨Nat.mod_eq_of_lt (by omega), trivial, trivial, fun m hm => le_detPeak hm, detPeak_attained mags, ?_, ?_, trivial,
      trivial, trivial, fun a ha => ?_, s.detLatched_only n.val mags⟩
    · rintro rfl
      exact ⟨rfl, rfl⟩
    · intro hne
      rw [if_neg (by simpa using hne)]
      exact ⟨Nat.sqrt_le _, Nat.lt_succ_sqrt _⟩
    · exact (s.detLatched_reg n.val mags a).trans (s.detShown_regs n.val mags a ha)
  case clip =>
    have hkept : KeptRegs.Afe (s.clipped c) ((s.clipped c).advance 1) :=
      KeptRegs.advance (s := s.clipped c) hwin 1
    have hself := afeReg_clip c.port.isLt
    exact ⟨_, exec_timeBaseAdvance_clip hn hon, (hkept.get hself).trans (s.clipped_adc c),
      (hkept.get hself).trans (s.clipped_dac c), fun m hm hne => (hkept _ (afeReg_clip hm)).trans (s.clipped_other c hne)⟩

end Sys2Proof.Machine

/-! SUPPORT. What the end of a frame in reception leaves (R141): the front end, the time bases and ES191. -/

namespace Sys2Proof.Machine

/-- A register that the end of a frame in reception does not write. -/
abbrev RxSpared (a : Nat) : Prop := NotPending a ∧
  (a < 0x70000 ∨ (0xA0000 ≤ a ∧ a < 0xB0000) ∨ (0x100000 ≤ a ∧ a < 0x180000 ∧ a % 0x8000 < 0x300))

/-- From `s` to `t` frames in reception have ended: the front end and all but some registers are as they were, and ES191
has not fired. -/
structure RxEnded (s t : State) : Prop where
  rest : t = { s with regs := t.regs, sq := t.sq, rx := t.rx, arc := t.arc, blv := t.blv, mac := t.mac }
  regs : KeptRegs RxSpared s t
  sync : find t.sq.staged 191 = find s.sq.staged 191

namespace RxEnded

theorem refl (s : State) : RxEnded s s := ⟨rfl, .refl s, rfl⟩

theorem trans {s t u : State} (h : RxEnded s t) (k : RxEnded t u) : RxEnded s u :=
  ⟨by rw [k.rest, h.rest], h.regs.trans k.regs, k.sync.trans h.sync⟩

/-- An update of the receivers, the transmit FIFOs, the frames or the MAC. -/
theorem other {s t : State}
    (h : t = { s with regs := t.regs, sq := t.sq, rx := t.rx, arc := t.arc, blv := t.blv, mac := t.mac } := by rfl)
    (hregs : t.regs = s.regs := by rfl) (hsq : find t.sq.staged 191 = find s.sq.staged 191 := by rfl) : RxEnded s t :=
  ⟨h, .other hregs, hsq⟩

theorem ite {s a b : State} {c : Prop} [Decidable c] (h : RxEnded s a) (k : RxEnded s b) :
    RxEnded s (if c then a else b) := by
  split <;> assumption

theorem set (s : State) {f : Field} (h : ¬ RxSpared f.addr) (v : Nat) : RxEnded s (s.set f v) := ⟨rfl, .set s h v, rfl⟩

theorem fire (s : State) {src : Nat} (hsrc : src < 512) (hne : src ≠ 191) (data : Nat) : RxEnded s (s.fire src data) :=
  ⟨by unfold State.fire; split <;> rfl, .fire s (fun _ ha => ha.1) hsrc data, s.staged_fire_other hne.symm data⟩

/-! ## The receive FIFO (R268 to R275) -/

theorem arcFire (s : State) {i : Nat} (hi : i < 40) (bit : Nat) : RxEnded s (s.arcFire i bit) := by
  have hfire : RxEnded s (s.fire (336 + i) bit) := fire s (by omega) (by omega) bit
  unfold State.arcFire
  split
  · exact ite (other rfl rfl (by rw [find_put, if_neg (by omega)])) hfire
  · exact hfire

theorem arcHandOver (s : State) {i : Nat} (hi : i < 40) : RxEnded s (s.arcHandOver i) := by
  unfold State.arcHandOver
  exact ite (ite (trans other (arcFire _ hi 1)) other) (refl s)

theorem arcOpen (s : State) {i : Nat} (hi : i < 40) : RxEnded s (s.arcOpen i) := by
  have hroom : RxEnded s (if s.arcRoom i then s else s.arcHandOver i) := ite (refl s) (arcHandOver s hi)
  unfold State.arcOpen
  exact ite other (ite (hroom.trans other) (ite hroom (hroom.trans other)))

theorem arcRewind (s : State) {i : Nat} (hi : i < 40) : RxEnded s (s.arcRewind i) := by
  unfold State.arcRewind
  refine ite (trans other (set _ (f := ARC_CNT_REWIND i) ?_ _)) other
  simp only [RxSpared, ARC_CNT_REWIND, a_ARC_CNT]
  omega

/-! ## The end of a frame (R141) -/

theorem rxOpenNext (s : State) {n : Nat} (hn : n < 16) : RxEnded s (s.rxOpenNext n) :=
  ite (refl s) (arcOpen s (by omega))

theorem poisonRelay (s : State) (id : Nat) : RxEnded s (s.poisonRelay id) := by
  unfold State.poisonRelay
  exact ite (trans other (set _ (f := MAC_CTCNT_POISONED) (by decide) _)) (refl s)

theorem latchOffsets (s : State) {n : Nat} (a : Acq) : RxEnded s (s.latchOffsets n a) := by
  refine (set s (f := PRT_RXOFS_FOFS n) ?_ _).trans (set _ (f := PRT_RXSOFS_SOFS n) ?_ _) <;>
    simp only [RxSpared, PRT_RXOFS_FOFS, PRT_RXSOFS_SOFS, a_PRT_RXOFS, a_PRT_RXSOFS] <;> omega

theorem dropBlocks (s : State) (n id : Nat) : RxEnded s (s.dropBlocks n id) :=
  trans (trans other (set _ (f := GRP_DECSTAT_WAIT) (by decide) _)) (set _ (f := GRP_DECSTAT_PEAK) (by decide) _)

theorem toSearch (s : State) (n : Nat) : RxEnded s (s.toSearch n) := by
  refine trans ?_ (set _ (f := PRT_RXSTAT_STATE n) (by simp only [RxSpared, PRT_RXSTAT_STATE, a_PRT_RXSTAT]; omega) _)
  exact ite other (refl s)

theorem rxEnd (s : State) {n : Nat} (hn : n < 16) (a : Acq) {reason : Nat} (hr : reason < 16) :
    RxEnded s (s.rxEnd n a reason) := by
  unfold State.rxEnd
  extract_lets p current owner s1 s2 s3
  have h1 : RxEnded s s1 := ((ite (latchOffsets s a) (refl s)).trans (dropBlocks _ n a.id)).trans other
  have h2 : RxEnded s s2 := ite ((h1.trans (arcRewind s1 (by omega))).trans (rxOpenNext _ hn)) h1
  have h3 : RxEnded s s3 := (h2.trans (set s2 (f := PRT_RXFAIL_COUNT n reason) (by
    simp only [RxSpared, PRT_RXFAIL_COUNT, a_PRT_RXFAIL]; omega) _)).trans (poisonRelay _ a.id)
  exact ite ((h3.trans (toSearch s3 n)).trans other) h3

/-- R141: the frame whose samples are being taken fails. -/
theorem rxAbandonCur (s : State) {n : Nat} (hn : n < 16) {reason : Nat} (hr : reason < 16) :
    RxEnded s (s.rxAbandonCur n reason) := by
  unfold State.rxAbandonCur
  split
  · exact (rxEnd s hn _ hr).trans (fire _ (by unfold esPort; omega) (by unfold esPort; omega) reason)
  · exact refl s

theorem fe {s t : State} (h : RxEnded s t) : t.fe = s.fe := by rw [h.rest]

end RxEnded
end Sys2Proof.Machine

/-! SUPPORT. The chains that a reset edge restarts (R89 to R92, Table 04-8). -/

namespace Sys2Proof.Machine

/-! ## What a restart leaves -/

/-- A register that a restart of the chains does not write. -/
abbrev DecSpared (a : Nat) : Prop := NotPending a ∧
  (a < 0x70000 ∨ (0xA0000 ≤ a ∧ a < 0xA0800) ∨ (0x100000 ≤ a ∧ a < 0x180000 ∧ a % 0x8000 < 0x200))

/-- From `s` to `t` chains have restarted: the edges that wait, what selects a chain's k, and the registers of DECSYNC are
as they were, and ES191 has not fired. -/
structure Restarted (s t : State) : Prop where
  rest : t = { s with regs := t.regs, sq := t.sq, fe := t.fe, rx := t.rx, arc := t.arc, blv := t.blv, mac := t.mac }
  edges : t.fe.edges = s.fe.edges
  regs : KeptRegs DecSpared s t
  kField : ∀ n, n < 16 → t.get (PRT_DEC_K n) = s.get (PRT_DEC_K n)
  sync : find t.sq.staged 191 = find s.sq.staged 191

namespace Restarted

theorem refl (s : State) : Restarted s s := ⟨rfl, rfl, .refl s, fun _ _ => rfl, rfl⟩

theorem trans {s t u : State} (h : Restarted s t) (k : Restarted t u) : Restarted s u :=
  ⟨by rw [k.rest, h.rest], k.edges.trans h.edges, h.regs.trans k.regs, fun n hn => (k.kField n hn).trans (h.kField n hn),
    k.sync.trans h.sync⟩

theorem ite {s a b : State} {c : Prop} [Decidable c] (h : Restarted s a) (k : Restarted s b) :
    Restarted s (if c then a else b) := by
  split <;> assumption

theorem forN {n : Nat} {f : Nat → State → State} (hf : ∀ k, k < n → ∀ t, Restarted t (f k t)) (s : State) :
    Restarted s (forN n f s) :=
  forN_induct (P := Restarted s) (refl s) fun k hk t h => h.trans (hf k hk t)

theorem rxEnded {s t : State} (h : RxEnded s t) : Restarted s t where
  rest := by rw [h.rest]
  edges := by rw [h.fe]
  regs a ha := h.regs a ⟨ha.1, by have := ha.2; omega⟩
  kField n hn := h.regs.get (f := PRT_DEC_K n) (by simp only [RxSpared, NotPending, PRT_DEC_K, a_PRT_DEC, f1]; omega)
  sync := h.sync

theorem setFePort (s : State) (n : Nat) (p : FePort) : Restarted s (s.setFePort n p) :=
  ⟨rfl, rfl, .other, fun _ _ => rfl, rfl⟩

theorem setMs (s : State) (i : Nat) (p : MsPort) : Restarted s (s.setMs i p) := ⟨rfl, rfl, .other, fun _ _ => rfl, rfl⟩

/-- A field of no register that selects a chain's k, and not that selection itself. -/
theorem set (s : State) {f : Field} (h : ¬ DecSpared f.addr)
    (hk : ∀ n, n < 16 → f.addr ≠ a_PRT_DEC n ∨ 4 ≤ f.lo) (v : Nat) : Restarted s (s.set f v) where
  rest := rfl
  edges := rfl
  regs := .set s h v
  kField n hn := by
    rcases hk n hn with hk | hk
    · exact s.get_set_addr hk.symm v
    · exact s.get_set_bits (.inr (by simpa [PRT_DEC_K] using hk)) v
  sync := rfl

section
variable {s t : State} (h : Restarted s t)
include h

theorem domOn (d : Nat) : t.domOn d = s.domOn d := congrArg (bitN · d) (h.regs.get (f := PWR_STAT_ON) (by decide))

theorem ports : t.ports = s.ports := by rw [State.ports, h.rest]; rfl

theorem effK {n : Nat} (hn : n < 16) : t.effK n = s.effK n := by
  have hmode : t.mode = s.mode := h.regs.get (f := SYS_MODESTAT_MODE) (by decide)
  have hprofile : t.profile n = s.profile n :=
    h.regs.get (f := PRT_PROFILE_ACT n) (by
      simp only [DecSpared, NotPending, PRT_PROFILE_ACT, a_PRT_PROFILE, f1]; omega)
  simp only [State.effK, h.kField n hn, hmode, hprofile]

end
end Restarted

/-! ## The operations -/

/-- R92: the outputs of a chain that carry SETTLING, by its k. -/
def chainLen (k : Nat) : Nat := if k = 0 then 0 else if k = 1 then 22 else if k = 2 then 25 else 26

/-- The data chain of port `n` restarted at edge `e`. -/
def State.chainAt (s : State) (e n : Nat) : State :=
  (s.setFePort n { s.fePort n with chainEdge := e, chainL := chainLen (s.effK n) }).set (PRT_DEC_SETTLE n)
    (chainLen (s.effK n))

theorem State.resetChain_on {s : State} {n : Nat} (hon : s.domOn (dPair n) = true) (hn : n < s.ports) (e : Nat) :
    s.resetChain e n = if s.effK n = 0 then s.chainAt e n else (s.chainAt e n).rxAbandonCur n fRESET :=
  if_pos (by simp [hon, hn])

theorem State.resetChain_off {s : State} {n : Nat} (h : ¬ (s.domOn (dPair n) = true ∧ n < s.ports)) (e : Nat) :
    s.resetChain e n = s :=
  if_neg (by simpa using h)

theorem Restarted.chainAt (s : State) {n : Nat} (hn : n < 16) (e : Nat) : Restarted s (s.chainAt e n) := by
  refine (setFePort s n _).trans (set _ (f := PRT_DEC_SETTLE n) ?_ (fun _ _ => .inr (by simp [PRT_DEC_SETTLE])) _)
  simp only [DecSpared, PRT_DEC_SETTLE, a_PRT_DEC]
  omega

theorem Restarted.resetChain (s : State) (e n : Nat) : Restarted s (s.resetChain e n) := by
  by_cases h : s.domOn (dPair n) = true ∧ n < s.ports
  · obtain ⟨hon, hn⟩ := h
    have h16 : n < 16 := Nat.lt_of_lt_of_le hn s.ports_le
    have hchain := chainAt s h16 e
    rw [State.resetChain_on hon hn]
    exact ite hchain (hchain.trans (rxEnded (.rxAbandonCur _ h16 (by decide))))
  · rw [State.resetChain_off h]
    exact refl s

theorem Restarted.resetBurDec (s : State) (e n : Nat) : Restarted s (s.resetBurDec e n) :=
  ite (setFePort s n _) (refl s)

/-- There are four mains-sense inputs to enable. -/
theorem State.lt_of_enabled {s : State} {i : Nat} (h : bitN (s.get TIM_MSCTL_EN) i = true) : i < 4 := by
  by_contra hi
  have hlt : s.get TIM_MSCTL_EN < 2 ^ i :=
    Nat.lt_of_lt_of_le (s.get_lt TIM_MSCTL_EN) (Nat.pow_le_pow_right (by omega) (by simpa [TIM_MSCTL_EN] using hi))
  simp [bitN, Nat.div_eq_of_lt hlt] at h

theorem Restarted.resetMains (s : State) (e i : Nat) : Restarted s (s.resetMains e i) := by
  unfold State.resetMains
  split
  · rename_i h
    have hi : i < 4 := State.lt_of_enabled (Bool.and_eq_true_iff.1 h).2
    refine (setMs s i _).trans (set _ (f := TIM_MSSTAT_SETTLING i) ?_ (fun n hn => .inl ?_) 1)
    · simp only [DecSpared, TIM_MSSTAT_SETTLING, a_TIM_MSSTAT]
      omega
    · simp only [TIM_MSSTAT_SETTLING, a_TIM_MSSTAT, a_PRT_DEC]
      omega
  · exact refl s

theorem Restarted.applyTarget (s : State) (e : Nat) (x : DecTarget) : Restarted s (s.applyTarget e x) := by
  cases x with
  | all =>
    exact ((forN (fun n _ t => resetChain t e n) s).trans (forN (fun n _ t => resetBurDec t e n) _)).trans
      (forN (fun i _ t => resetMains t e i) _)
  | port n => exact resetChain s e n
  | burin n => exact resetBurDec s e n
  | mains i => exact resetMains s e i

/-! ## What one pass of a loop brings about -/

/-- What pass `k` brings about, and every other pass keeps, holds at the end. -/
theorem forN_reaches {σ : Type} {Q P : σ → Prop} {n k : Nat} {f : Nat → σ → σ} (hk : k < n) {s : σ} (h : Q s)
    (hQ : ∀ j t, Q t → Q (f j t)) (hmake : ∀ t, Q t → P (f k t)) (hkeep : ∀ j t, Q t → P t → P (f j t)) :
    P (forN n f s) := by
  have hreach : ∀ j, Q (forN j f s) := fun j => forN_induct h fun i _ t => hQ i t
  induction n with
  | zero => omega
  | succ j ih =>
    by_cases hj : k = j
    · exact hj ▸ hmake _ (hreach k)
    · exact hkeep j _ (hreach j) (ih (by omega))

theorem forEach_reaches {α σ : Type} {Q P : σ → Prop} {l : List α} {a : α} {f : α → σ → σ} (ha : a ∈ l) {s : σ} (h : Q s)
    (hQ : ∀ b t, Q t → Q (f b t)) (hmake : ∀ t, Q t → P (f a t)) (hkeep : ∀ b t, Q t → P t → P (f b t)) :
    P (forEach l f s) := by
  induction l generalizing s with
  | nil => exact nomatch ha
  | cons b r ih =>
    rcases List.mem_cons.1 ha with rfl | ha
    · exact (forEach_induct (P := fun t => Q t ∧ P t) ⟨hQ _ s h, hmake s h⟩ fun c _ t ht =>
        ⟨hQ c t ht.1, hkeep c t ht.1 ht.2⟩).2
    · exact ih ha (hQ b s h)

/-! ## The chain of one port -/

/-- In `t` the data chain of port `n` last restarted at edge `e`, with the outputs to settle that its k in `s` gives. -/
def State.RestartedAt (s t : State) (e n : Nat) : Prop :=
  (t.fePort n).chainEdge = e ∧ (t.fePort n).chainL = chainLen (s.effK n)

theorem State.chainAt_fePort (s : State) (e n : Nat) : (s.chainAt e n).fePort n =
    { s.fePort n with chainEdge := e, chainL := chainLen (s.effK n) } := s.fePort_setFePort_same n _

theorem State.chainAt_fePort_other (s : State) (e : Nat) {m n : Nat} (h : m ≠ n) : (s.chainAt e n).fePort m = s.fePort m :=
  s.fePort_setFePort_other h _

/-- A restart shows in the front-end record that it writes, whatever frame it ends. -/
theorem State.resetChain_fePort {s : State} {n : Nat} (hon : s.domOn (dPair n) = true) (hn : n < s.ports) (e m : Nat) :
    (s.resetChain e n).fePort m = (s.chainAt e n).fePort m := by
  rw [State.resetChain_on hon hn]
  split
  · rfl
  · exact State.fePort_congr (RxEnded.rxAbandonCur _ (Nat.lt_of_lt_of_le hn s.ports_le) (by decide)).fe m

namespace Restarted

theorem resetBurDec_keeps {s t : State} {e n : Nat} (k : s.RestartedAt t e n) (m : Nat) :
    s.RestartedAt (t.resetBurDec e m) e n := by
  unfold State.resetBurDec
  split
  · by_cases hne : n = m
    · subst hne
      rwa [State.RestartedAt, State.fePort_setFePort_same]
    · rwa [State.RestartedAt, State.fePort_setFePort_other _ hne]
  · exact k

theorem resetMains_keeps {s t : State} {e n : Nat} (k : s.RestartedAt t e n) (i : Nat) :
    s.RestartedAt (t.resetMains e i) e n := by
  unfold State.resetMains
  split <;> exact k

section
variable {s t : State} {n : Nat} (h : Restarted s t) (hon : s.domOn (dPair n) = true) (hn : n < s.ports) (e : Nat)
include h hon hn

/-- R92: the chain of a present port whose domain is on restarts. -/
theorem resetChain_at : s.RestartedAt (t.resetChain e n) e n := by
  rw [State.RestartedAt, State.resetChain_fePort ((h.domOn _).trans hon) (h.ports ▸ hn), State.chainAt_fePort,
    h.effK (Nat.lt_of_lt_of_le hn s.ports_le)]
  exact ⟨rfl, rfl⟩

/-- What restarts at the same edge leaves the chain so. -/
theorem resetChain_keeps (k : s.RestartedAt t e n) (m : Nat) : s.RestartedAt (t.resetChain e m) e n := by
  by_cases hm : t.domOn (dPair m) = true ∧ m < t.ports
  · by_cases hne : n = m
    · exact hne ▸ h.resetChain_at hon hn e
    · rwa [State.RestartedAt, State.resetChain_fePort hm.1 hm.2, State.chainAt_fePort_other _ _ hne]
  · rwa [State.resetChain_off hm]

/-- R90: an edge that reaches every chain reaches that of the port. -/
theorem applyTarget_all : s.RestartedAt (t.applyTarget e .all) e n := by
  have hchain : s.RestartedAt (Machine.forN 16 (fun n t => t.resetChain e n) t) e n :=
    forN_reaches (Q := Restarted s) (Nat.lt_of_lt_of_le hn s.ports_le) h (fun m u hu => hu.trans (resetChain u e m))
      (fun u hu => hu.resetChain_at hon hn e) (fun m u hu hat => hu.resetChain_keeps hon hn e hat m)
  have hbur : s.RestartedAt (Machine.forN 16 (fun n t => t.resetBurDec e n) _) e n :=
    forN_induct (P := fun u => s.RestartedAt u e n) hchain fun m _ u hu => resetBurDec_keeps hu m
  exact forN_induct (P := fun u => s.RestartedAt u e n) hbur fun i _ u hu => resetMains_keeps hu i

theorem applyTarget_keeps (k : s.RestartedAt t e n) (x : DecTarget) : s.RestartedAt (t.applyTarget e x) e n := by
  cases x with
  | all => exact h.applyTarget_all hon hn e
  | port m => exact h.resetChain_keeps hon hn e k m
  | burin m => exact resetBurDec_keeps k m
  | mains i => exact resetMains_keeps k i

end
end Restarted

/-! ## The earliest edge (R92, R94) -/

/-- The edges that wait, without those at `e`. -/
def State.edgesPast (s : State) (e : Nat) : State := { s with fe.edges := s.fe.edges.filter (fun p => p.1 != e) }

/-- What is due at edge `e` takes effect. -/
def State.edgeTaken (s : State) (e : Nat) : State :=
  forEach (s.fe.edges.filter (fun p => p.1 == e)) (fun p t => t.applyTarget e p.2) (s.edgesPast e)

theorem State.edgeTaken_restarted (s : State) (e : Nat) : Restarted (s.edgesPast e) (s.edgeTaken e) :=
  forEach_induct (P := Restarted (s.edgesPast e)) (.refl _) fun p _ t ht => ht.trans (.applyTarget t e p.2)

theorem State.edgeTaken_at {s : State} {e : Nat} (he : (e, DecTarget.all) ∈ s.fe.edges) {n : Nat}
    (hon : s.domOn (dPair n) = true) (hn : n < s.ports) : s.RestartedAt (s.edgeTaken e) e n :=
  forEach_reaches (Q := Restarted (s.edgesPast e)) (P := fun t => s.RestartedAt t e n)
    (List.mem_filter.2 ⟨he, by simp⟩) (.refl _) (fun p t ht => ht.trans (.applyTarget t e p.2))
    (fun t ht => ht.applyTarget_all hon hn e) (fun p t ht hat => ht.applyTarget_keeps hon hn e hat p.2)

/-- R90: the reset is counted, and the tick that holds the edge is shown. -/
def State.edgeCounted (s : State) (e : Nat) : State :=
  ((s.edgeTaken e).count SYS_DECSYNC_COUNT).set SYS_DECSYNCT_TICK (e / 2)

/-- The edges that writes of CMD have scheduled (R370). -/
def State.withSyncEdges (s : State) (l : List Nat) : State := { s with time.syncEdges := l }

theorem State.get_withSyncEdges (s : State) (l : List Nat) (f : Field) : (s.withSyncEdges l).get f = s.get f := rfl

/-- A due edge that reaches every chain; SYNC_OUT may follow one that a write of CMD has scheduled (R370). -/
def State.edgeDone (s : State) (e : Nat) : State :=
  if e ∈ s.time.syncEdges then
    ((s.edgeCounted e).withSyncEdges ((s.edgeCounted e).time.syncEdges.filter (fun x => x != e))).syncOut 1
  else s.edgeCounted e

end Sys2Proof.Machine

/-! Reset edges (R90 to R94, R370): where they fall, and what the earliest does. -/

namespace Sys2Proof.Machine

/-! ## Where edges fall (R90, R91) -/

theorem State.mem_addEdge (s : State) (e : Nat) (t : DecTarget) (x : Nat × DecTarget) :
    x ∈ (s.addEdge e t).fe.edges ↔ x ∈ s.fe.edges ∨ x = (e, t) := by
  unfold State.addEdge
  split
  · rename_i h
    refine ⟨.inl, fun hx => hx.elim id ?_⟩
    rintro rfl
    simpa using h
  · exact List.mem_cons.trans or_comm

theorem State.decSyncOn_iff (s : State) : s.decSyncOn = true ↔ s.mode ≠ mProof ∧ s.mode ≠ mSafe := by
  simp [State.decSyncOn]

theorem State.addEdge_only (s : State) (e : Nat) (t : DecTarget) :
    s.addEdge e t = { s with fe.edges := (s.addEdge e t).fe.edges } := by
  unfold State.addEdge
  split <;> rfl

/-- R91: an edge of SYNC_IN is scheduled where PIN_EN is set. -/
def State.syncInSeen (s : State) (e : Nat) : State :=
  if s.flag SYS_DECSYNC_PIN_EN && s.decSyncOn then (s.fire 190).addEdge (2 * s.tick + e) .all else s.fire 190

theorem exec_syncInEdge (s : State) (e : Fin 8) : exec (.syncInEdge e) s = .next (s.syncInSeen e.val) := rfl

/-- ES190 fires, and beside its bit no register and no other event changes. -/
theorem State.syncInSeen_spec (s : State) (e : Nat) (hon : s.domOn dAon = true) :
    changes s (s.syncInSeen e) [(190, 0)] [] ∧
      s.syncInSeen e = { s with
        regs := (s.syncInSeen e).regs
        sq := (s.syncInSeen e).sq
        fe.edges := (s.syncInSeen e).fe.edges } := by
  have hfire : changesOnly s (s.fire 190) [(190, 0)] [] :=
    (changesOnly.refl s).fire (by omega) (by simp) (by simp) (State.sourceOn_aon rfl rfl hon) 0
  unfold State.syncInSeen
  split
  · refine ⟨?_, ?_⟩
    · rw [State.addEdge_only]
      exact hfire.1
    · rw [State.addEdge_only, hfire.2]
  · refine ⟨hfire.1, ?_⟩
    rw [State.fire_fe]
    exact hfire.2

theorem State.mem_syncInSeen (s : State) (e : Nat) (x : Nat × DecTarget) : x ∈ (s.syncInSeen e).fe.edges ↔
    x ∈ s.fe.edges ∨ (x = (2 * s.tick + e, .all) ∧ s.flag SYS_DECSYNC_PIN_EN = true ∧ s.mode ≠ mProof ∧ s.mode ≠ mSafe) := by
  unfold State.syncInSeen
  split
  · rename_i h
    rw [Bool.and_eq_true, State.decSyncOn_iff] at h
    rw [State.mem_addEdge, State.fire_fe]
    tauto
  · rename_i h
    rw [Bool.and_eq_true, State.decSyncOn_iff] at h
    rw [State.fire_fe]
    tauto

theorem exec_decsyncCmd {s : State} (h : s.reaches 0 a_SYS_DECSYNC) : exec .decsyncCmd s = .next s.decsyncCmd :=
  congrArg Host.Outcome.next (s.hostWrite_reaches h _)

/-- R91: E of a write of CMD is the first SCLK edge of tick T + 2. -/
theorem State.decsyncCmd_on {s : State} (h : s.decSyncOn = true) : s.decsyncCmd =
    (s.addEdge (2 * (s.tick + 2)) .all).withSyncEdges
      (s.time.syncEdges.filter (fun x => x != 2 * (s.tick + 2)) ++ [2 * (s.tick + 2)]) := if_pos h

theorem State.decsyncCmd_off {s : State} (h : ¬ s.decSyncOn = true) : s.decsyncCmd = s := if_neg h

theorem State.decsyncCmd_spec (s : State) :
    s.decsyncCmd = { s with fe.edges := s.decsyncCmd.fe.edges, time.syncEdges := s.decsyncCmd.time.syncEdges } ∧
      (s.mode ≠ mProof → s.mode ≠ mSafe → 2 * (s.tick + 2) ∈ s.decsyncCmd.time.syncEdges) ∧
      ∀ x, x ∈ s.decsyncCmd.fe.edges ↔ x ∈ s.fe.edges ∨
        (x = (2 * (s.tick + 2), DecTarget.all) ∧ s.mode ≠ mProof ∧ s.mode ≠ mSafe) := by
  by_cases h : s.decSyncOn = true
  · have hmode := s.decSyncOn_iff.1 h
    rw [State.decsyncCmd_on h]
    refine ⟨?_, fun _ _ => List.mem_append_right _ (List.mem_singleton_self _), fun x => ?_⟩
    · rw [State.addEdge_only]
      rfl
    · refine (s.mem_addEdge _ _ x).trans ?_
      tauto
  · have hmode := mt s.decSyncOn_iff.2 h
    rw [State.decsyncCmd_off h]
    refine ⟨rfl, fun hp hs => absurd ⟨hp, hs⟩ hmode, fun x => ?_⟩
    tauto

/-! ## The earliest edge (R92) -/

theorem leastBy_eq_none {α : Type} {key : α → Nat} {l : List α} : leastBy key l = none ↔ l = [] := by
  cases l with
  | nil => simp [leastBy]
  | cons a r =>
    unfold leastBy
    split
    · simp
    · split <;> simp

/-- The element chosen is of the list, and none of the list has a smaller key. -/
theorem leastBy_spec {α : Type} {key : α → Nat} {l : List α} {b : α} (h : leastBy key l = some b) :
    b ∈ l ∧ ∀ a ∈ l, key b ≤ key a := by
  induction l generalizing b with
  | nil => exact nomatch h
  | cons a r ih =>
    unfold leastBy at h
    split at h
    · rename_i hnone
      obtain rfl := Option.some.inj h
      simp [leastBy_eq_none.1 hnone]
    · rename_i c hsome
      obtain ⟨hc, hle⟩ := ih hsome
      split at h <;> obtain rfl := Option.some.inj h
      · refine ⟨List.mem_cons_self, List.forall_mem_cons.2 ⟨le_rfl, fun x hx => ?_⟩⟩
        have := hle x hx
        omega
      · exact ⟨List.mem_cons_of_mem _ hc, List.forall_mem_cons.2 ⟨by omega, hle⟩⟩

/-- The key of the element chosen is the least key. -/
theorem leastBy_eq_some {α : Type} {key : α → Nat} {l : List α} {a : α} (ha : a ∈ l) (h : ∀ x ∈ l, key a ≤ key x) :
    ∃ b, leastBy key l = some b ∧ key b = key a := by
  cases hb : leastBy key l with
  | none => exact absurd ha (leastBy_eq_none.1 hb ▸ List.not_mem_nil)
  | some b =>
    obtain ⟨hmem, hle⟩ := leastBy_spec hb
    exact ⟨b, rfl, Nat.le_antisymm (hle a ha) (h b hmem)⟩

theorem exec_decimatorReset {s : State} {e : Nat} (he : (e, DecTarget.all) ∈ s.fe.edges)
    (hleast : ∀ x ∈ s.fe.edges, e ≤ x.1)
    (hdue : e ≤ 2 * s.tick + 1) : exec .decimatorReset s = .next (s.edgeDone e) := by
  obtain ⟨⟨e', x⟩, hx, heq⟩ := leastBy_eq_some (key := fun p : Nat × DecTarget => p.1) he hleast
  obtain rfl : e = e' := heq.symm
  have hall : (s.fe.edges.filter (fun p => p.1 == e)).any (fun p => p.2 == .all) = true :=
    List.any_eq_true.2 ⟨_, List.mem_filter.2 ⟨he, by simp⟩, by simp⟩
  show execDecimatorReset s = _
  simp only [execDecimatorReset, hx]
  rw [if_pos (by omega), if_pos hall]
  rfl

/-- Before the earliest edge nothing happens. -/
theorem exec_decimatorReset_early {s : State} (h : ∀ x ∈ s.fe.edges, 2 * s.tick + 1 < x.1) :
    exec .decimatorReset s = .next s := by
  show execDecimatorReset s = _
  unfold execDecimatorReset
  split
  · rfl
  · rename_i e x hx
    have := h _ (leastBy_spec hx).1
    rw [if_neg (by omega)]

/-! ## What it does -/

/-- R370: SYNC_OUT rises, and ES191 fires, where SRC selects the cause. -/
theorem State.syncOut_fires {s t : State} {src : Nat} (hsrc : t.get TIM_SYNCCFG_SRC = src) (hfab : t.domOn dFab = true)
    (haon : t.domOn dAon = true) (htick : t.tick = s.tick) (hstaged : find t.sq.staged 191 = find s.sq.staged 191) :
    fired s (t.syncOut src) 191 0 ∧ (t.syncOut src).time.syncFall = s.tick + 8 := by
  rw [State.syncOut, if_pos ⟨hsrc, hfab⟩, State.fire_time, ← htick]
  refine ⟨State.fired_fire_of ?_ ?_ ?_ 0, rfl⟩
  · exact State.sourceOn_aon rfl rfl haon
  · exact htick
  · exact hstaged

theorem State.syncOut_off {s : State} {src : Nat} (h : s.get TIM_SYNCCFG_SRC ≠ src) : s.syncOut src = s :=
  if_neg fun hs => h hs.1

theorem State.syncOut_reg (s : State) (src : Nat) {a : Nat} (ha : NotPending a) : (s.syncOut src).reg a = s.reg a := by
  unfold State.syncOut
  split
  · exact State.reg_fire_other _ (pendReg_ne (by omega) ha) 0
  · rfl

theorem State.syncOut_fe (s : State) (src : Nat) : (s.syncOut src).fe = s.fe := by
  unfold State.syncOut
  split
  · rw [State.fire_fe]
  · rfl

theorem State.syncOut_tick (s : State) (src : Nat) : (s.syncOut src).tick = s.tick := by
  unfold State.syncOut
  split
  · rw [State.fire_tick]
  · rfl

/-- SYNC_OUT is no part of what the edge leaves in the front end and in the registers. -/
theorem State.edgeDone_counted (s : State) (e : Nat) : (s.edgeDone e).fe = (s.edgeTaken e).fe ∧
    (s.edgeDone e).tick = (s.edgeTaken e).tick ∧ ∀ a, NotPending a → (s.edgeDone e).reg a = (s.edgeCounted e).reg a := by
  unfold State.edgeDone
  split
  · rw [State.syncOut_fe, State.syncOut_tick]
    exact ⟨rfl, rfl, fun a ha => State.syncOut_reg _ 1 ha⟩
  · exact ⟨rfl, rfl, fun _ _ => rfl⟩

section
variable (s : State) (e : Nat)

theorem State.edgeTaken_tick : (s.edgeTaken e).tick = s.tick := by rw [(s.edgeTaken_restarted e).rest]; rfl

theorem State.edgeCounted_count : (s.edgeCounted e).get SYS_DECSYNC_COUNT = (s.get SYS_DECSYNC_COUNT + 1) % 256 := by
  rw [State.edgeCounted, State.get_set_addr _ (by decide), State.count, State.get_set_same _ (by decide),
    (s.edgeTaken_restarted e).regs.get (by decide)]
  rfl

theorem State.edgeCounted_tick : (s.edgeCounted e).get SYS_DECSYNCT_TICK = e / 2 % 2 ^ 32 :=
  State.get_set_same _ (by decide) _

theorem State.edgeCounted_reg {a : Nat} (ha : DecSpared a) (hsync : a ≠ a_SYS_DECSYNC ∧ a ≠ a_SYS_DECSYNCT) :
    (s.edgeCounted e).reg a = s.reg a := by
  rw [State.edgeCounted, State.reg_set_other _ hsync.2, State.count, State.reg_set_other _ hsync.1]
  exact (s.edgeTaken_restarted e).regs a ha

theorem State.edgeCounted_staged : find (s.edgeCounted e).sq.staged 191 = find s.sq.staged 191 :=
  (s.edgeTaken_restarted e).sync

end

/-- R370: an edge of a write of CMD raises SYNC_OUT where SRC is 1. -/
theorem State.edgeDone_sync {s : State} {e : Nat} (he : e ∈ s.time.syncEdges) (hsrc : s.get TIM_SYNCCFG_SRC = 1)
    (hfab : s.domOn dFab = true) (haon : s.domOn dAon = true) :
    fired s (s.edgeDone e) 191 0 ∧ (s.edgeDone e).time.syncFall = s.tick + 8 := by
  have hreg : ∀ f : Field, f.addr = a_PWR_STAT ∨ f.addr = a_TIM_SYNCCFG → (s.edgeCounted e).get f = s.get f := fun f hf =>
    State.get_of_reg (by rcases hf with hf | hf <;> rw [hf] <;> exact s.edgeCounted_reg e (by decide) (by decide))
  have hdom : ∀ d, (s.edgeCounted e).domOn d = s.domOn d := fun d => congrArg (bitN · d) (hreg PWR_STAT_ON (.inl rfl))
  rw [State.edgeDone, if_pos he]
  exact State.syncOut_fires ((hreg TIM_SYNCCFG_SRC (.inr rfl)).trans hsrc) ((hdom dFab).trans hfab)
    ((hdom dAon).trans haon) (s.edgeTaken_tick e) (s.edgeCounted_staged e)

/-- Another edge does not. -/
theorem State.edgeDone_noSync {s : State} {e : Nat} (h : e ∉ s.time.syncEdges ∨ s.get TIM_SYNCCFG_SRC ≠ 1) :
    find (s.edgeDone e).sq.staged 191 = find s.sq.staged 191 := by
  rw [← s.edgeCounted_staged e, State.edgeDone]
  split
  · rename_i he
    have hsrc : ((s.edgeCounted e).withSyncEdges ((s.edgeCounted e).time.syncEdges.filter (fun x => x != e))).get
        TIM_SYNCCFG_SRC ≠ 1 := by
      rw [State.get_withSyncEdges, State.get_of_reg (f := TIM_SYNCCFG_SRC) (s.edgeCounted_reg e (by decide) (by decide))]
      exact h.resolve_left (not_not_intro he)
    rw [State.syncOut_off hsrc]
    rfl
  · rfl

/-- Settles O20: a reset edge is `State.edgeDone`, whose targets leave what `Restarted` names, and of them the one that
reaches every chain restarts each. -/
theorem decimatorsResetOnTheirEdges : Obligations.DecimatorsResetOnTheirEdges := by
  refine ⟨fun s e hon => ?pin, fun s hreach => ?cmd, fun s e he hleast hdue => ?due, fun s h => exec_decimatorReset_early h⟩
  case pin =>
    obtain ⟨hchanges, honly⟩ := s.syncInSeen_spec e.val hon
    exact ⟨_, exec_syncInEdge s e, hchanges, s.mem_syncInSeen e.val, honly⟩
  case cmd => exact ⟨_, exec_decsyncCmd hreach, s.decsyncCmd_spec⟩
  case due =>
    obtain ⟨hfe, htick, hreg⟩ := s.edgeDone_counted e
    refine ⟨_, exec_decimatorReset he hleast hdue, fun x hx => ?_, ?_, ?_, htick.trans (s.edgeTaken_tick e),
      fun hcmd hsrc hfab haon => State.edgeDone_sync hcmd hsrc hfab haon, State.edgeDone_noSync, fun n hn hon => ?_⟩
    · rw [hfe, (s.edgeTaken_restarted e).edges] at hx
      obtain ⟨hx, hne⟩ := List.mem_filter.1 hx
      exact ⟨by simpa using hne, hx⟩
    · exact (State.get_of_reg (hreg a_SYS_DECSYNC (by decide))).trans (s.edgeCounted_count e)
    · exact (State.get_of_reg (hreg a_SYS_DECSYNCT (by decide))).trans (s.edgeCounted_tick e)
    · rw [State.fePort_congr hfe]
      exact State.edgeTaken_at he hon hn

end Sys2Proof.Machine

/-! SUPPORT. Mains sensing: which registers its operations write, and the cycle that a crossing closes (R97 to R102). -/

namespace Sys2Proof.Machine

/-! ## Records and registers -/

/-- The record of a mains-sense input read after it is written. -/
@[simp] theorem State.ms_setMs_same (s : State) (i : Nat) (p : MsPort) : (s.setMs i p).ms i = p := look_store_same _ _ _ _

@[simp] theorem State.reg_setMs (s : State) (i : Nat) (p : MsPort) (a : Nat) : (s.setMs i p).reg a = s.reg a := rfl

@[simp] theorem State.get_setMs (s : State) (i : Nat) (p : MsPort) (f : Field) : (s.setMs i p).get f = s.get f := rfl

theorem State.ms_congr {s t : State} (h : t.fe = s.fe) (i : Nat) : t.ms i = s.ms i := by simp only [State.ms, h]

/-- R98: an input is sensed. -/
theorem State.msOn_iff (s : State) (i : Nat) :
    s.msOn i = true ↔ s.domOn dMsn = true ∧ bitN (s.get TIM_MSCTL_EN) i = true := by
  simp [State.msOn]

/-- ES178 to ES181 and ES192 are sources of PD_MSN. -/
theorem State.sourceOn_msn {s : State} {src : Nat} (h : 178 ≤ src ∧ src < 182 ∨ src = 192) (hon : s.domOn dMsn = true) :
    s.sourceOn src = true := by
  have hdom : sourceDomain src = dMsn := by
    unfold sourceDomain
    rw [if_neg (by omega), if_neg (by omega), if_neg (by omega), if_neg (by omega), if_pos (by omega)]
  have hport : sourcePort src = none := by
    unfold sourcePort
    rw [if_neg (by omega), if_neg (by omega), if_neg (by omega), if_neg (by omega), if_neg (by omega)]
  simp [State.sourceOn, hdom, hport, hon]

/-- A register of mains sensing. -/
abbrev MsReg (a : Nat) : Prop := 0xA0800 ≤ a ∧ a < 0xA0D00

theorem MsReg.notPending (a : Nat) (h : MsReg a) : NotPending a := by
  simp only [MsReg, NotPending, f1] at *
  omega

theorem msReg_stat {i : Nat} (hi : i < 4) : MsReg (a_TIM_MSSTAT i) := by
  simp only [MsReg, a_TIM_MSSTAT]
  omega

/-- The registers that the end of a cycle writes. -/
def cycleRegs (i : Nat) : List Nat := [a_TIM_MSFREQ i, a_TIM_MSRMS i, a_TIM_MSPEAK i, a_TIM_MSSTAT i]

theorem mem_cycleRegs {i a : Nat} : a ∈ cycleRegs i ↔
    a = 0xA0820 + 4 * i ∨ a = 0xA0830 + 4 * i ∨ a = 0xA0850 + 4 * i ∨ a = 0xA0880 + 4 * i := by
  simp [cycleRegs, a_TIM_MSFREQ, a_TIM_MSRMS, a_TIM_MSPEAK, a_TIM_MSSTAT]

theorem msReg_cycle {i a : Nat} (hi : i < 4) (ha : a ∈ cycleRegs i) : MsReg a := by
  rw [mem_cycleRegs] at ha
  simp only [MsReg]
  omega

/-! ## The end of a cycle (R100, R101) -/

/-- Whether a cycle is valid depends on the nominal frequency, the configuration of the input and its record. -/
theorem State.cycleOk_congr {s t : State} {i : Nat} (hctl : t.reg a_TIM_MSCTL = s.reg a_TIM_MSCTL)
    (hcfg : t.reg (a_TIM_MSCFG i) = s.reg (a_TIM_MSCFG i)) (hfe : t.fe = s.fe) (t0 x : Nat) :
    t.cycleOk i t0 x = s.cycleOk i t0 x := by
  have hnom : t.flag TIM_MSCTL_NOM = s.flag TIM_MSCTL_NOM := State.flag_of_reg hctl
  have hk : t.get (TIM_MSCFG_K i) = s.get (TIM_MSCFG_K i) := State.get_of_reg hcfg
  have hdelay : t.getI (TIM_MSCFG_DELAY i) = s.getI (TIM_MSCFG_DELAY i) := by
    rw [State.getI, State.get_of_reg (f := TIM_MSCFG_DELAY i) hcfg, State.getI]
  have hperiod : t.periodOk (x - t0) = s.periodOk (x - t0) := by
    unfold State.periodOk
    rw [hnom]
  have hsettle : t.settleEnd i = s.settleEnd i := by
    unfold State.settleEnd
    rw [hk, State.ms_congr hfe]
  unfold State.cycleOk
  rw [hperiod, hsettle, hk, hdelay, State.ms_congr hfe]

theorem State.periodOk_of_cycleOk {s : State} {i t0 x : Nat} (h : s.cycleOk i t0 x = true) : s.periodOk (x - t0) = true := by
  simp only [State.cycleOk, Bool.and_eq_true] at h
  exact h.1.1

/-- R101: FREQ_OOR is set where it was clear, and ES192 fires. -/
theorem State.setOor_set {s : State} {i : Nat} (h : s.flag (TIM_MSSTAT_FREQ_OOR i) = true) : s.setOor i = s := if_pos h

theorem State.setOor_clear {s : State} {i : Nat} (h : s.flag (TIM_MSSTAT_FREQ_OOR i) = false) :
    s.setOor i = (s.set (TIM_MSSTAT_FREQ_OOR i) 1).fire 192 i := if_neg (by simp [h])

theorem State.setOor_reg (s : State) (i : Nat) {a : Nat} (hp : NotPending a) (ha : a ≠ a_TIM_MSSTAT i) :
    (s.setOor i).reg a = s.reg a := by
  unfold State.setOor
  split
  · rfl
  · rw [State.reg_fire_other _ (pendReg_ne (by omega) hp), State.reg_set_other (f := TIM_MSSTAT_FREQ_OOR i) _ ha]

/-- What the registers of an input show after a valid cycle. -/
def State.cycleShown (s : State) (i t0 x rms peak : Nat) : State :=
  ((((s.set (TIM_MSFREQ_FREQ i) (tS * 65536 * 65536 / (x - t0))).set (TIM_MSRMS_RMS i) rms).set
    (TIM_MSPEAK_PEAK i) peak).set (TIM_MSSTAT_VALID i) 1).set (TIM_MSSTAT_FREQ_OOR i) 0

/-- R100: the registers after a valid cycle. -/
theorem State.closeCycle_valid {s : State} {i t0 x : Nat} (h : s.cycleOk i t0 x = true) (rms peak a : Nat) :
    (s.closeCycle i t0 x rms peak).reg a = (s.cycleShown i t0 x rms peak).reg a := by
  unfold State.closeCycle
  extract_lets ok s1 s2 m
  have h1 : s1 = s.cycleShown i t0 x rms peak := if_pos h
  have h2 : s2 = s1 := if_pos (State.periodOk_of_cycleOk h)
  rw [State.reg_setMs, h2, h1]

/-- R100, R101: the registers after an invalid one. -/
theorem State.closeCycle_invalid {s : State} {i t0 x : Nat} (h : s.cycleOk i t0 x = false) (rms peak a : Nat) :
    (s.closeCycle i t0 x rms peak).reg a =
      (if s.periodOk (x - t0) then s.set (TIM_MSSTAT_VALID i) 0 else (s.set (TIM_MSSTAT_VALID i) 0).setOor i).reg a := by
  unfold State.closeCycle
  extract_lets ok s1 s2 m
  have h1 : s1 = s.set (TIM_MSSTAT_VALID i) 0 := if_neg (Bool.not_eq_true _ ▸ h)
  rw [State.reg_setMs, ← h1]

/-- The registers of the measurements of an input are four. -/
theorem cycleRegs_ne (i : Nat) : a_TIM_MSFREQ i ≠ a_TIM_MSRMS i ∧ a_TIM_MSFREQ i ≠ a_TIM_MSPEAK i ∧
    a_TIM_MSFREQ i ≠ a_TIM_MSSTAT i ∧ a_TIM_MSRMS i ≠ a_TIM_MSPEAK i ∧ a_TIM_MSRMS i ≠ a_TIM_MSSTAT i ∧
    a_TIM_MSPEAK i ≠ a_TIM_MSSTAT i := by
  simp only [a_TIM_MSFREQ, a_TIM_MSRMS, a_TIM_MSPEAK, a_TIM_MSSTAT]
  omega

section
variable (s : State) (i t0 x rms peak : Nat)

theorem State.cycleShown_freq : (s.cycleShown i t0 x rms peak).get (TIM_MSFREQ_FREQ i) =
    125000000 * 65536 * 65536 / (x - t0) % 2 ^ 32 := by
  obtain ⟨hrms, hpeak, hstat, -⟩ := cycleRegs_ne i
  unfold State.cycleShown tS
  generalize 125000000 * 65536 * 65536 / (x - t0) = freq
  rw [State.get_set_addr _ hstat, State.get_set_addr _ hstat, State.get_set_addr _ hpeak, State.get_set_addr _ hrms,
    State.get_set_same _ (by simp [TIM_MSFREQ_FREQ])]
  rfl

theorem State.cycleShown_rms : (s.cycleShown i t0 x rms peak).get (TIM_MSRMS_RMS i) = rms % 2 ^ 24 := by
  obtain ⟨-, -, -, hpeak, hstat, -⟩ := cycleRegs_ne i
  unfold State.cycleShown
  rw [State.get_set_addr _ hstat, State.get_set_addr _ hstat, State.get_set_addr _ hpeak,
    State.get_set_same _ (by simp [TIM_MSRMS_RMS])]
  rfl

theorem State.cycleShown_peak : (s.cycleShown i t0 x rms peak).get (TIM_MSPEAK_PEAK i) = peak % 2 ^ 24 := by
  obtain ⟨-, -, -, -, -, hstat⟩ := cycleRegs_ne i
  unfold State.cycleShown
  rw [State.get_set_addr _ hstat, State.get_set_addr _ hstat, State.get_set_same _ (by simp [TIM_MSPEAK_PEAK])]
  rfl

theorem State.cycleShown_valid : (s.cycleShown i t0 x rms peak).get (TIM_MSSTAT_VALID i) = 1 := by
  unfold State.cycleShown
  rw [State.get_set_bits _ (.inr (by simp [TIM_MSSTAT_VALID, TIM_MSSTAT_FREQ_OOR])),
    State.get_set_same _ (by simp [TIM_MSSTAT_VALID])]
  rfl

theorem State.cycleShown_oor : (s.cycleShown i t0 x rms peak).get (TIM_MSSTAT_FREQ_OOR i) = 0 := by
  unfold State.cycleShown
  rw [State.get_set_same _ (by simp [TIM_MSSTAT_FREQ_OOR])]
  rfl

/-- The end of a cycle leaves every other register that holds no pending bit. -/
theorem State.closeCycle_reg {a : Nat} (hp : NotPending a) (ha : a ∉ cycleRegs i) :
    (s.closeCycle i t0 x rms peak).reg a = s.reg a := by
  simp only [cycleRegs, List.mem_cons, List.not_mem_nil, or_false, not_or] at ha
  obtain ⟨hfreq, hrms, hpeak, hstat⟩ := ha
  cases hok : s.cycleOk i t0 x with
  | true =>
    rw [State.closeCycle_valid hok, State.cycleShown]
    generalize tS * 65536 * 65536 / (x - t0) = freq
    rw [State.reg_set_other _ hstat, State.reg_set_other _ hstat, State.reg_set_other _ hpeak, State.reg_set_other _ hrms,
      State.reg_set_other _ hfreq]
  | false =>
    rw [State.closeCycle_invalid hok]
    split
    · exact State.reg_set_other _ hstat 0
    · rw [State.setOor_reg _ i hp hstat, State.reg_set_other (f := TIM_MSSTAT_VALID i) _ hstat]

end

/-- After an invalid cycle VALID is clear. -/
theorem State.closeCycle_invalid_valid {s : State} {i t0 x : Nat} (hi : i < 4) (h : s.cycleOk i t0 x = false)
    (rms peak : Nat) : (s.closeCycle i t0 x rms peak).get (TIM_MSSTAT_VALID i) = 0 := by
  have hclear : (s.set (TIM_MSSTAT_VALID i) 0).get (TIM_MSSTAT_VALID i) = 0 :=
    (State.get_set_same _ (by simp [TIM_MSSTAT_VALID]) 0).trans rfl
  rw [State.get, State.closeCycle_invalid h, ← State.get]
  split
  · exact hclear
  · refine Eq.trans ?_ hclear
    unfold State.setOor
    split
    · rfl
    · rw [State.get_fire_other _ (.inl (pendReg_ne (by omega) (MsReg.notPending _ (msReg_stat hi)))),
        State.get_set_bits _ (.inr (by simp [TIM_MSSTAT_VALID, TIM_MSSTAT_FREQ_OOR]))]

/-- The held registers of a cycle after an invalid one. -/
theorem State.closeCycle_invalid_held {s : State} {i t0 x : Nat} (h : s.cycleOk i t0 x = false) (rms peak : Nat) {a : Nat}
    (hp : NotPending a) (ha : a ≠ a_TIM_MSSTAT i) : (s.closeCycle i t0 x rms peak).reg a = s.reg a := by
  rw [State.closeCycle_invalid h]
  split
  · exact State.reg_set_other _ ha 0
  · rw [State.setOor_reg _ i hp ha, State.reg_set_other (f := TIM_MSSTAT_VALID i) _ ha]

end Sys2Proof.Machine

/-! SUPPORT. The crossings of a mains-sense input (R98 to R100), and what follows them in TB3 and the superframe (R197,
R367). -/

namespace Sys2Proof.Machine

/-! ## Crossings (R99, R100, R367) -/

/-- R98: the full cycle that ends at `x`, of an input whose crossing before was at `prev`, is valid. -/
def State.fullCycle (s : State) (i : Nat) (prev : Option Nat) (x : Nat) : Bool :=
  match prev with
  | some t0 => s.cycleOk i t0 x
  | none => false

/-- ENV of a valid full cycle. -/
def State.envShown (s : State) (i : Nat) (ok : Bool) (env : Nat) : State := if ok then s.set (TIM_MSENV_ENV i) env else s

/-- The time of a positive crossing is shown (R99). -/
def State.crossShown (s : State) (i x : Nat) (frac : BitVec 16) (ok : Bool) (env : Nat) : State :=
  ((s.envShown i ok env).set (TIM_MSZCT_TICK i) x).set (TIM_MSZCF_FRAC i) frac.toNat

/-- The cycle that began at the crossing before is closed (R100). -/
def State.cycleClosed (s : State) (i : Nat) (prev : Option Nat) (x rms peak : Nat) : State :=
  match prev with
  | some t0 => s.closeCycle i t0 x rms peak
  | none => s

/-- A crossing of the reference input drives TB3 and the superframe (R197, R367). -/
def State.crossUsed (s : State) (ref : Prop) [Decidable ref] (x : Nat) (ok : Bool) : State :=
  if ref then (s.tb3Crossing x ok).sfCrossing x ok else s

/-- A positive crossing of input `i`, up to the cycle that it closes. -/
def State.crossClosed (s : State) (i x : Nat) (frac : BitVec 16) (rms peak env : Nat) : State :=
  (s.crossShown i x frac (s.fullCycle i (s.ms i).lastPos (x * 65536 + frac.toNat)) env).cycleClosed i (s.ms i).lastPos
    (x * 65536 + frac.toNat) rms peak

/-- A positive crossing of input `i`, up to its event. -/
def State.crossedUp (s : State) (i x : Nat) (frac : BitVec 16) (rms peak env : Nat) : State :=
  let s3 := s.crossClosed i x frac rms peak env
  (s3.setMs i { s3.ms i with lastPos := some (x * 65536 + frac.toNat), decided := s.tick }).crossUsed
    (s.get TIM_MSCTL_REF = i) (x * 65536 + frac.toNat) (s.fullCycle i (s.ms i).lastPos (x * 65536 + frac.toNat))

theorem exec_zeroCrossing_positive {s : State} {i : Fin 4} (h : s.msOn i.val = true) (x : Nat) (frac : BitVec 16)
    (rms peak env : BitVec 24) : exec (.zeroCrossing i true x frac rms peak env) s =
      .next ((s.crossedUp i.val x frac rms.toNat peak.toNat env.toNat).fire (178 + i.val)
        ((s.crossedUp i.val x frac rms.toNat peak.toNat env.toNat).time.cyc % 65536)) :=
  congrArg Host.Outcome.next (if_pos h)

/-- A negative crossing of input `i` at `x`. -/
def State.crossedDown (s : State) (i x env : Nat) : State :=
  let s1 := s.envShown i (s.fullCycle i (s.ms i).lastNeg x) env
  s1.setMs i { s1.ms i with lastNeg := some x }

theorem exec_zeroCrossing_negative {s : State} {i : Fin 4} (h : s.msOn i.val = true) (x : Nat) (frac : BitVec 16)
    (rms peak env : BitVec 24) : exec (.zeroCrossing i false x frac rms peak env) s =
      .next (s.crossedDown i.val (x * 65536 + frac.toNat) env.toNat) :=
  congrArg Host.Outcome.next (if_pos h)

theorem State.envShown_reg (s : State) {i a : Nat} (h : a ≠ a_TIM_MSENV i) (ok : Bool) (env : Nat) :
    (s.envShown i ok env).reg a = s.reg a := by
  unfold State.envShown
  split
  · exact s.reg_set_other (f := TIM_MSENV_ENV i) h env
  · rfl

theorem State.envShown_onlyRegs (s : State) (i : Nat) (ok : Bool) (env : Nat) : onlyRegs s (s.envShown i ok env) := by
  unfold State.envShown
  split <;> rfl

/-- R99: a negative crossing shows the envelope and fires nothing. -/
theorem State.crossedDown_spec (s : State) (i x env : Nat) : (s.crossedDown i x env).sq = s.sq ∧
    sameRegs s (s.crossedDown i x env) [a_TIM_MSENV i] ∧
      s.crossedDown i x env = { s with regs := (s.crossedDown i x env).regs, fe.ms := (s.crossedDown i x env).fe.ms } := by
  have hreg : ∀ a, a ≠ a_TIM_MSENV i → (s.envShown i (s.fullCycle i (s.ms i).lastNeg x) env).reg a = s.reg a := fun a ha =>
    s.envShown_reg ha _ env
  have honly := s.envShown_onlyRegs i (s.fullCycle i (s.ms i).lastNeg x) env
  unfold State.crossedDown
  generalize s.envShown i (s.fullCycle i (s.ms i).lastNeg x) env = u at hreg honly
  refine ⟨?_, fun a ha => (u.reg_setMs i _ a).trans (hreg a (List.mem_singleton.not.1 ha)), ?_⟩
  · rw [honly]
    rfl
  · rw [honly]
    rfl

section
variable (s : State) {i : Nat} (x : Nat) (frac : BitVec 16) (ok : Bool) (env : Nat)

/-- The registers in which a crossing shows its time and the envelope are three. -/
theorem State.crossShown_reg {a : Nat} (hct : a ≠ a_TIM_MSZCT i) (hcf : a ≠ a_TIM_MSZCF i) (henv : a ≠ a_TIM_MSENV i) :
    (s.crossShown i x frac ok env).reg a = s.reg a := by
  rw [State.crossShown, State.reg_set_other (f := TIM_MSZCF_FRAC i) _ hcf, State.reg_set_other (f := TIM_MSZCT_TICK i) _ hct,
    State.envShown_reg s henv]

theorem State.crossShown_fe : (s.crossShown i x frac ok env).fe = s.fe := by
  rw [State.crossShown, State.set_fe, State.set_fe, s.envShown_onlyRegs i ok env]

theorem State.crossShown_tick : (s.crossShown i x frac ok env).get (TIM_MSZCT_TICK i) = x % 2 ^ 32 := by
  have hne : a_TIM_MSZCT i ≠ a_TIM_MSZCF i := by
    simp only [a_TIM_MSZCT, a_TIM_MSZCF]
    omega
  rw [State.crossShown, State.get_set_addr (f := TIM_MSZCF_FRAC i) (g := TIM_MSZCT_TICK i) _ hne,
    State.get_set_same _ (by simp [TIM_MSZCT_TICK])]
  rfl

theorem State.crossShown_frac : (s.crossShown i x frac ok env).get (TIM_MSZCF_FRAC i) = frac.toNat := by
  rw [State.crossShown, State.get_set_same _ (by simp [TIM_MSZCF_FRAC])]
  exact Nat.mod_eq_of_lt frac.isLt

/-- Whether the cycle is valid does not depend on what the crossing shows. -/
theorem State.crossShown_cycleOk (hi : i < 4) (t0 y : Nat) :
    (s.crossShown i x frac ok env).cycleOk i t0 y = s.cycleOk i t0 y := by
  refine State.cycleOk_congr (s.crossShown_reg x frac ok env ?_ ?_ ?_) (s.crossShown_reg x frac ok env ?_ ?_ ?_)
    (s.crossShown_fe x frac ok env) t0 y <;>
    simp only [a_TIM_MSCTL, a_TIM_MSCFG, a_TIM_MSZCT, a_TIM_MSZCF, a_TIM_MSENV] <;> omega

end

/-- A register of mains sensing, or the one that shows which domains are on. -/
abbrev MsKept (a : Nat) : Prop := MsReg a ∨ a = a_PWR_STAT

theorem MsKept.notPending (a : Nat) (h : MsKept a) : NotPending a := by
  rcases h with h | rfl
  · exact MsReg.notPending a h
  · decide

/-- TB3 and the superframe leave the registers of mains sensing. -/
theorem KeptRegs.tb3Crossing (s : State) (x : Nat) (ok : Bool) : KeptRegs MsKept s (s.tb3Crossing x ok) := by
  have hhold : ∀ t : State, KeptRegs MsKept t ((t.set TIM_TB3STAT_HOLD 0).fire 189 (2 * 3)) := fun t =>
    (set t (f := TIM_TB3STAT_HOLD) (by decide) 0).trans (fire _ MsKept.notPending (by omega) _)
  unfold State.tb3Crossing
  extract_lets p time ph
  split
  · exact other
  · split
    · extract_lets d s1
      have h1 : KeptRegs MsKept s s1 := other
      exact ite (h1.trans (hhold s1)) h1
    · exact refl s

theorem KeptRegs.sfCrossing (s : State) (x : Nat) (ok : Bool) : KeptRegs MsKept s (s.sfCrossing x ok) := by
  have h1 : KeptRegs MsKept s { s with mac.cross := s.mac.cross ++ [(s.tick, x, ok)] } := other
  exact ite (h1.trans (set _ (f := MAC_SFSTAT_FLY) (by decide) 0)) h1

theorem KeptRegs.crossUsed (s : State) (ref : Prop) [Decidable ref] (x : Nat) (ok : Bool) :
    KeptRegs MsKept s (s.crossUsed ref x ok) :=
  ite ((tb3Crossing s x ok).trans (sfCrossing _ x ok)) (refl s)

/-! ## A positive crossing -/

theorem State.cycleClosed_reg (s : State) {i a : Nat} (hp : NotPending a) (ha : a ∉ cycleRegs i) (prev : Option Nat)
    (x rms peak : Nat) : (s.cycleClosed i prev x rms peak).reg a = s.reg a := by
  unfold State.cycleClosed
  split
  · exact s.closeCycle_reg i _ x rms peak hp ha
  · rfl

/-- R367: what follows a crossing leaves the registers of mains sensing. -/
theorem State.crossedUp_kept (s : State) (i x : Nat) (frac : BitVec 16) (rms peak env : Nat) :
    KeptRegs MsKept (s.crossClosed i x frac rms peak env) (s.crossedUp i x frac rms peak env) := by
  unfold State.crossedUp
  refine KeptRegs.trans ?_ (KeptRegs.crossUsed _ _ _ _)
  exact .other

/-- The state after a positive crossing and its event. -/
def State.crossDone (s : State) (i x : Nat) (frac : BitVec 16) (rms peak env : Nat) : State :=
  (s.crossedUp i x frac rms peak env).fire (178 + i) ((s.crossedUp i x frac rms peak env).time.cyc % 65536)

section
variable {s : State} {i : Nat} (hi : i < 4) (x : Nat) (frac : BitVec 16) (rms peak env : Nat)
include hi

theorem State.crossDone_kept :
    KeptRegs MsKept (s.crossClosed i x frac rms peak env) (s.crossDone i x frac rms peak env) :=
  (s.crossedUp_kept i x frac rms peak env).trans (.fire _ MsKept.notPending (by omega) _)

/-- Neither the cycle nor the events write the time of the crossing. -/
theorem State.crossDone_time {f : Field} (hf : f.addr = a_TIM_MSZCT i ∨ f.addr = a_TIM_MSZCF i) :
    (s.crossDone i x frac rms peak env).get f =
      (s.crossShown i x frac (s.fullCycle i (s.ms i).lastPos (x * 65536 + frac.toNat)) env).get f := by
  have hms : MsReg f.addr := by
    simp only [MsReg, a_TIM_MSZCT, a_TIM_MSZCF] at hf ⊢
    omega
  have hcycle : f.addr ∉ cycleRegs i := by
    rw [mem_cycleRegs]
    simp only [a_TIM_MSZCT, a_TIM_MSZCF] at hf
    omega
  exact ((State.crossDone_kept hi x frac rms peak env).get (.inl hms)).trans
    (State.get_of_reg (State.cycleClosed_reg _ (MsReg.notPending _ hms) hcycle _ _ rms peak))

/-- ES178 + i fires. -/
theorem State.crossDone_fires (hon : s.domOn dMsn = true) :
    (s.crossDone i x frac rms peak env).flag (pendField (178 + i)) = true := by
  have hpwr : (s.crossedUp i x frac rms peak env).reg a_PWR_STAT = s.reg a_PWR_STAT := by
    rw [s.crossedUp_kept i x frac rms peak env _ (.inr rfl), State.crossClosed,
      State.cycleClosed_reg _ (by decide) (by
        simp only [mem_cycleRegs, a_PWR_STAT]
        omega)]
    refine s.crossShown_reg x frac _ env ?_ ?_ ?_ <;>
      simp only [a_PWR_STAT, a_TIM_MSZCT, a_TIM_MSZCF, a_TIM_MSENV] <;> omega
  have hdom : (s.crossedUp i x frac rms peak env).domOn dMsn = true :=
    (congrArg (bitN · dMsn) (State.get_of_reg (f := PWR_STAT_ON) hpwr)).trans hon
  exact (State.fired_fire _ (State.sourceOn_msn (by omega) hdom) _).1

/-- The registers of the measurements are those that the end of the cycle leaves. -/
theorem State.crossDone_cycle {t0 : Nat} (hprev : (s.ms i).lastPos = some t0) {a : Nat} (ha : a ∈ cycleRegs i) :
    (s.crossDone i x frac rms peak env).reg a =
      ((s.crossShown i x frac (s.fullCycle i (s.ms i).lastPos (x * 65536 + frac.toNat)) env).closeCycle i t0
        (x * 65536 + frac.toNat) rms peak).reg a := by
  rw [State.crossDone_kept hi x frac rms peak env a (.inl (msReg_cycle hi ha)), State.crossClosed, hprev]
  rfl

/-- R100: a valid cycle is measured. -/
theorem State.crossDone_valid {t0 : Nat} (hprev : (s.ms i).lastPos = some t0)
    (hok : s.cycleOk i t0 (x * 65536 + frac.toNat) = true) :
    (s.crossDone i x frac rms peak env).get (TIM_MSRMS_RMS i) = rms % 2 ^ 24 ∧
      (s.crossDone i x frac rms peak env).get (TIM_MSPEAK_PEAK i) = peak % 2 ^ 24 ∧
      (s.crossDone i x frac rms peak env).get (TIM_MSSTAT_VALID i) = 1 ∧
      (s.crossDone i x frac rms peak env).get (TIM_MSSTAT_FREQ_OOR i) = 0 ∧
      (s.crossDone i x frac rms peak env).get (TIM_MSFREQ_FREQ i) =
        125000000 * 65536 * 65536 / (x * 65536 + frac.toNat - t0) % 2 ^ 32 := by
  set u := s.crossShown i x frac (s.fullCycle i (s.ms i).lastPos (x * 65536 + frac.toNat)) env with hu
  have huok : u.cycleOk i t0 (x * 65536 + frac.toNat) = true := (s.crossShown_cycleOk x frac _ env hi _ _).trans hok
  have hget : ∀ f : Field, f.addr ∈ cycleRegs i → (s.crossDone i x frac rms peak env).get f =
      (u.cycleShown i t0 (x * 65536 + frac.toNat) rms peak).get f := fun f hf =>
    State.get_of_reg ((State.crossDone_cycle hi x frac rms peak env hprev hf).trans (State.closeCycle_valid huok _ _ _))
  rw [hget (TIM_MSRMS_RMS i) (by simp [cycleRegs, TIM_MSRMS_RMS]),
    hget (TIM_MSPEAK_PEAK i) (by simp [cycleRegs, TIM_MSPEAK_PEAK]),
    hget (TIM_MSSTAT_VALID i) (by simp [cycleRegs, TIM_MSSTAT_VALID]),
    hget (TIM_MSSTAT_FREQ_OOR i) (by simp [cycleRegs, TIM_MSSTAT_FREQ_OOR]),
    hget (TIM_MSFREQ_FREQ i) (by simp [cycleRegs, TIM_MSFREQ_FREQ])]
  exact ⟨u.cycleShown_rms _ _ _ _ _, u.cycleShown_peak _ _ _ _ _, u.cycleShown_valid _ _ _ _ _,
    u.cycleShown_oor _ _ _ _ _, u.cycleShown_freq _ _ _ _ _⟩

/-- R100: an invalid cycle clears VALID, and the measurements are held. -/
theorem State.crossDone_invalid {t0 : Nat} (hprev : (s.ms i).lastPos = some t0)
    (hok : s.cycleOk i t0 (x * 65536 + frac.toNat) = false) :
    (s.crossDone i x frac rms peak env).get (TIM_MSSTAT_VALID i) = 0 ∧
      ∀ a ∈ cycleRegs i, a ≠ a_TIM_MSSTAT i → (s.crossDone i x frac rms peak env).reg a = s.reg a := by
  set u := s.crossShown i x frac (s.fullCycle i (s.ms i).lastPos (x * 65536 + frac.toNat)) env with hu
  have huok : u.cycleOk i t0 (x * 65536 + frac.toNat) = false := (s.crossShown_cycleOk x frac _ env hi _ _).trans hok
  have hcycle := fun {a} => State.crossDone_cycle hi x frac rms peak env hprev (a := a)
  refine ⟨(State.get_of_reg (f := TIM_MSSTAT_VALID i) (hcycle (by simp [cycleRegs, TIM_MSSTAT_VALID]))).trans
    (State.closeCycle_invalid_valid hi huok rms peak), fun a ha hne => ?_⟩
  rw [hcycle ha, State.closeCycle_invalid_held huok rms peak (MsReg.notPending _ (msReg_cycle hi ha)) hne]
  rw [mem_cycleRegs] at ha
  refine s.crossShown_reg x frac _ env ?_ ?_ ?_ <;> simp only [a_TIM_MSZCT, a_TIM_MSZCF, a_TIM_MSENV] <;> omega

end

end Sys2Proof.Machine

/-! SUPPORT. Missing crossings, overloads and the harmonic average of a mains-sense input (R98, R101, R102). -/

namespace Sys2Proof.Machine

/-! ## A missing crossing (R101) -/

theorem exec_mainsCrossingTimeout {s : State} {i : Fin 4} {t0 : Nat} (hon : s.msOn i.val = true)
    (hprev : (s.ms i.val).lastPos = some t0)
    (hlate : 125000000 * 65536 ≤ (s.tick * 65536 - t0) * (if s.flag TIM_MSCTL_NOM then 55 else 45)) :
    exec (.mainsCrossingTimeout i) s = .next (s.setOor i.val) := by
  show execMainsCrossingTimeout i s = _
  unfold execMainsCrossingTimeout
  rw [hprev]
  exact congrArg Host.Outcome.next (if_pos (Bool.and_eq_true_iff.2 ⟨hon, decide_eq_true hlate⟩))

theorem State.setOor_flag (s : State) {i : Nat} (hi : i < 4) : (s.setOor i).flag (TIM_MSSTAT_FREQ_OOR i) = true := by
  cases h : s.flag (TIM_MSSTAT_FREQ_OOR i) with
  | true => rw [State.setOor_set h, h]
  | false =>
    rw [State.setOor_clear h, State.flag_of_reg (f := TIM_MSSTAT_FREQ_OOR i)
      (State.reg_fire_other _ (pendReg_ne (by omega) (MsReg.notPending _ (msReg_stat hi))) _)]
    exact State.flag_set_one _ (by simp [TIM_MSSTAT_FREQ_OOR]) rfl

/-- ES192 fires as FREQ_OOR rises. -/
theorem State.setOor_changes {s : State} {i : Nat} (hi : i < 4) (hon : s.domOn dMsn = true)
    (h : s.flag (TIM_MSSTAT_FREQ_OOR i) = false) : changesOnly s (s.setOor i) [(192, i)] [a_TIM_MSSTAT i] := by
  have hset := ((changesOnly.refl s).mono (List.nil_subset [a_TIM_MSSTAT i])).set (f := TIM_MSSTAT_FREQ_OOR i)
    (List.mem_singleton_self _) (MsReg.notPending _ (msReg_stat hi)) (by simp) 1
  have hpwr : a_PWR_STAT ∉ [a_TIM_MSSTAT i] := by
    simp only [List.mem_singleton, a_PWR_STAT, a_TIM_MSSTAT]
    omega
  rw [State.setOor_clear h]
  refine hset.fire (by omega) (by simp) (by simp) ?_ i
  exact (hset.sourceOn_eq hpwr (by simp) 192).trans (State.sourceOn_msn (by omega) hon)

/-! ## An overload of the modulator (R98) -/

/-- This cycle and the next are invalid. -/
def State.cyclesSpoilt (s : State) (i : Nat) : State := s.setMs i { s.ms i with ovl := 2 }

theorem exec_modulatorOverload {s : State} {i : Fin 4} (h : s.msOn i.val = true) :
    exec (.modulatorOverload i) s = .next ((s.cyclesSpoilt i.val).raiseFlag (TIM_MSSTAT_OVERLOAD i.val)) :=
  congrArg Host.Outcome.next (if_pos h)

/-- From the state with the cycles spoilt, only OVERLOAD is new. -/
theorem State.overload_changes (s : State) {i : Nat} (hi : i < 4) : changesOnly (s.cyclesSpoilt i)
    ((s.cyclesSpoilt i).raiseFlag (TIM_MSSTAT_OVERLOAD i)) [] [a_TIM_MSSTAT i] :=
  ((changesOnly.refl (s.cyclesSpoilt i)).mono (List.nil_subset _)).raiseFlag (f := TIM_MSSTAT_OVERLOAD i)
    (List.mem_singleton_self _) (MsReg.notPending _ (msReg_stat hi)) (by simp)

/-! ## Harmonics (R102) -/

/-- Bin `j` of input `i`: magnitude and phase. -/
def State.setBin (s : State) (i j : Nat) (v : BitVec 16 × BitVec 16) : State :=
  (s.set (TIM_MSHARM_MAG i j) v.1.toNat).set (TIM_MSHARM_PHASE i j) v.2.toNat

/-- Bin `j` holds a magnitude and a phase. -/
def State.BinIs (s : State) (i j : Nat) (v : BitVec 16 × BitVec 16) : Prop :=
  s.get (TIM_MSHARM_MAG i j) = v.1.toNat ∧ s.get (TIM_MSHARM_PHASE i j) = v.2.toNat

theorem State.setBin_same (s : State) (i j : Nat) (v : BitVec 16 × BitVec 16) : (s.setBin i j v).BinIs i j v := by
  constructor
  · rw [State.setBin, State.get_set_bits _ (.inr (by simp [TIM_MSHARM_MAG, TIM_MSHARM_PHASE])),
      State.get_set_same _ (by simp [TIM_MSHARM_MAG])]
    exact Nat.mod_eq_of_lt v.1.isLt
  · rw [State.setBin, State.get_set_same _ (by simp [TIM_MSHARM_PHASE])]
    exact Nat.mod_eq_of_lt v.2.isLt

theorem State.setBin_reg (s : State) {i j a : Nat} (h : a ≠ a_TIM_MSHARM i j) (v : BitVec 16 × BitVec 16) :
    (s.setBin i j v).reg a = s.reg a :=
  (State.reg_set_other (f := TIM_MSHARM_PHASE i j) _ h _).trans (s.reg_set_other (f := TIM_MSHARM_MAG i j) h _)

/-- A bin depends on its register. -/
theorem State.BinIs.congr {s t : State} {i j : Nat} {v : BitVec 16 × BitVec 16} (h : s.BinIs i j v)
    (hreg : t.reg (a_TIM_MSHARM i j) = s.reg (a_TIM_MSHARM i j)) : t.BinIs i j v :=
  ⟨(State.get_of_reg (f := TIM_MSHARM_MAG i j) hreg).trans h.1,
    (State.get_of_reg (f := TIM_MSHARM_PHASE i j) hreg).trans h.2⟩

/-- A bin of neither magnitude nor phase is a register of zero. -/
theorem State.BinIs.reg_eq_zero {s : State} {i j : Nat} (h : s.BinIs i j (0, 0)) : s.reg (a_TIM_MSHARM i j) = 0 := by
  obtain ⟨hmag, hphase⟩ := h
  have hmag : (s.reg (a_TIM_MSHARM i j)).toNat / 2 ^ 0 % 2 ^ 16 = 0 := hmag
  have hphase : (s.reg (a_TIM_MSHARM i j)).toNat / 2 ^ 16 % 2 ^ 16 = 0 := hphase
  have := (s.reg (a_TIM_MSHARM i j)).isLt
  refine BitVec.eq_of_toNat_eq ?_
  show (s.reg (a_TIM_MSHARM i j)).toNat = 0
  omega

/-- Bin `j` of an average: those at or above HCOUNT are zero. -/
def binOf (hc : Nat) (h : List (BitVec 16 × BitVec 16)) (j : Nat) : BitVec 16 × BitVec 16 :=
  if j < hc then h.getD j (0, 0) else (0, 0)

/-- The bins of an average. -/
def State.binsShown (s : State) (i hc : Nat) (h : List (BitVec 16 × BitVec 16)) : State :=
  forN 50 (fun j t => t.setBin i j (binOf hc h j)) s

theorem State.binsShown_bin (s : State) (i hc : Nat) (h : List (BitVec 16 × BitVec 16)) {j : Nat} (hj : j < 50) :
    (s.binsShown i hc h).BinIs i j (binOf hc h j) :=
  forN_reaches (Q := fun _ => True) (P := fun t : State => t.BinIs i j (binOf hc h j)) hj trivial (fun _ _ _ => trivial)
    (fun t _ => t.setBin_same i j _) fun k t _ hbin => by
      by_cases hk : k = j
      · exact hk ▸ t.setBin_same i k _
      · exact hbin.congr (t.setBin_reg (by simp only [a_TIM_MSHARM]; omega) _)

/-! ## Telemetry (R300) -/

theorem State.putPayload_fe (f r : Nat) (l : List Nat) (s : State) : (s.putPayload f r l).fe = s.fe := by
  induction l generalizing s with
  | nil => rfl
  | cons x rest ih => exact ih _

theorem State.requestVector_fe (s : State) (f v : Nat) : (s.requestVector f v).fe = s.fe := by
  obtain h | h | ⟨_, _, -, h⟩ := s.requestVector_cases f v <;> rw [h]
  rfl

/-- A record changes nothing of the front end. -/
theorem State.putRecord_fe (s : State) (kind r type data : Nat) (l : List Nat) :
    (s.putRecord kind r type data l).fe = s.fe := by
  unfold State.putRecord
  dsimp only
  split
  · rfl
  · split
    · split
      · exact (State.requestVector_fe _ _ _).trans (State.putPayload_fe 0 r l _)
      · exact State.putPayload_fe 0 r l _
    · rfl

theorem State.telemetry_fe (s : State) (type data port : Nat) (l : List Nat) : (s.telemetry type data port l).fe = s.fe := by
  unfold State.telemetry
  split
  · rw [State.fire_fe, State.putRecord_fe]
  · rfl

/-- A record writes no register of mains sensing. -/
theorem State.telemetry_kept (s : State) (type data port : Nat) (l : List Nat) :
    KeptRegs MsReg s (s.telemetry type data port l) := by
  have hring : s.get HIF_TELCFG_RING < 2 ^ 12 := s.get_lt _
  unfold State.telemetry
  refine .ite (KeptRegs.trans (fun a ha => ?_) (.fire _ MsReg.notPending (by omega) _)) (.refl s)
  refine s.putRecord_reg _ _ _ _ _ ?_ fun _ => ?_ <;> simp only [MsReg, a_MSIX_PBA, a_HIF_RPROD] at * <;> omega

/-! ## The end of an average (R102) -/

/-- The valid cycles of an average (0 means 64). -/
def State.avgCycles (s : State) : Nat := if s.get TIM_MSCTL_HAVG = 0 then 64 else s.get TIM_MSCTL_HAVG

/-- The bins, HCOUNT and the count of cycles after an average. -/
def State.averaged (s : State) (i : Nat) (h : List (BitVec 16 × BitVec 16)) : State :=
  let s2 := (s.binsShown i (s.hcount i) h).set (TIM_MSSTAT_HCOUNT i) (s.hcount i)
  s2.setMs i { s2.ms i with cycles := 0 }

/-- The payload of the telemetry record of an average. -/
def harmBytes (hc : Nat) (h : List (BitVec 16 × BitVec 16)) : List Byte :=
  (((List.range hc).map (fun j => h.getD j (0, 0))).map (fun v => leBytes 4 (v.1.toNat + v.2.toNat * 2 ^ 16))).flatten

theorem exec_harmonicAverageEnd {s : State} {i : Fin 4} (hon : s.msOn i.val = true)
    (hcycles : s.avgCycles ≤ (s.ms i.val).cycles) (h : List (BitVec 16 × BitVec 16)) :
    exec (.harmonicAverageEnd i h) s = .next ((s.averaged i.val h).telemetry 2 (i.val + 16 * s.hcount i.val) i.val
      (chunk12 (harmBytes (s.hcount i.val) h) (ceilDiv (4 * s.hcount i.val) 12))) := by
  show execHarmonicAverageEnd i h s = _
  unfold execHarmonicAverageEnd State.averaged
  generalize s.hcount i.val = hc
  exact congrArg Host.Outcome.next (if_pos (Bool.and_eq_true_iff.2 ⟨hon, decide_eq_true hcycles⟩))

theorem State.averaged_hcount (s : State) (i : Nat) (h : List (BitVec 16 × BitVec 16)) :
    (s.averaged i h).get (TIM_MSSTAT_HCOUNT i) = s.hcount i % 64 := by
  unfold State.averaged
  generalize s.hcount i = hc
  rw [State.get_setMs, State.get_set_same _ (by simp [TIM_MSSTAT_HCOUNT])]
  rfl

theorem State.averaged_cycles (s : State) (i : Nat) (h : List (BitVec 16 × BitVec 16)) :
    ((s.averaged i h).ms i).cycles = 0 := by
  rw [State.averaged, State.ms_setMs_same]

theorem State.averaged_bin (s : State) {i j : Nat} (hi : i < 4) (hj : j < 50) (h : List (BitVec 16 × BitVec 16)) :
    (s.averaged i h).BinIs i j (binOf (s.hcount i) h j) := by
  refine (s.binsShown_bin i (s.hcount i) h hj).congr ?_
  rw [State.averaged, State.reg_setMs]
  exact State.reg_set_other _ (by simp only [TIM_MSSTAT_HCOUNT, a_TIM_MSHARM, a_TIM_MSSTAT]; omega) _

theorem msReg_harm {i j : Nat} (hi : i < 4) (hj : j < 50) : MsReg (a_TIM_MSHARM i j) := by
  simp only [MsReg, a_TIM_MSHARM]
  omega

end Sys2Proof.Machine

/-! The mains-sense inputs report their crossings, cycles, overloads and harmonics (R98 to R102). -/

namespace Sys2Proof.Machine

/-- Settles O22: each command of a sensed input is its operation, whose registers are those that its lemmas name. -/
theorem mainsSensingReports : Obligations.MainsSensingReports := by
  refine ⟨fun s i positive x frac rms peak env hon hen => ?crossing, fun s i t0 hon hen hprev hlate => ?timeout,
    fun s i hon hen => ?overload, fun s i h hon hen hcycles => ?harmonics⟩
  case crossing =>
    have hms := (s.msOn_iff i.val).2 ⟨hon, hen⟩
    cases positive with
    | true =>
      refine ⟨_, exec_zeroCrossing_positive hms x frac rms peak env, fun _ => ⟨?_, ?_,
        State.crossDone_fires i.isLt x frac _ _ _ hon, fun t0 hprev hok => ?_, fun t0 hprev hok => ?_⟩, nofun⟩
      · exact (State.crossDone_time i.isLt x frac _ _ _ (.inl rfl)).trans (s.crossShown_tick x frac _ _)
      · exact (State.crossDone_time i.isLt x frac _ _ _ (.inr rfl)).trans (s.crossShown_frac x frac _ _)
      · obtain ⟨hrms, hpeak, hvalid, hoor, hfreq⟩ :=
          State.crossDone_valid i.isLt x frac rms.toNat peak.toNat env.toNat hprev hok
        exact ⟨hrms.trans (Nat.mod_eq_of_lt rms.isLt), hpeak.trans (Nat.mod_eq_of_lt peak.isLt), hvalid, hoor, hfreq⟩
      · obtain ⟨hvalid, hheld⟩ := State.crossDone_invalid i.isLt x frac rms.toNat peak.toNat env.toNat hprev hok
        obtain ⟨-, -, hfreq, -, hrms, hpeak⟩ := cycleRegs_ne i.val
        exact ⟨hvalid, hheld _ (by simp [cycleRegs]) hrms, hheld _ (by simp [cycleRegs]) hpeak,
          hheld _ (by simp [cycleRegs]) hfreq⟩
    | false =>
      exact ⟨_, exec_zeroCrossing_negative hms x frac rms peak env, nofun, fun _ => s.crossedDown_spec i.val _ _⟩
  case timeout =>
    have hms := (s.msOn_iff i.val).2 ⟨hon, hen⟩
    exact ⟨_, exec_mainsCrossingTimeout hms hprev hlate, s.setOor_flag i.isLt, fun h => State.setOor_set h,
      fun h => State.setOor_changes i.isLt hon h⟩
  case overload =>
    have hms := (s.msOn_iff i.val).2 ⟨hon, hen⟩
    have hchanges := s.overload_changes i.isLt
    refine ⟨_, exec_modulatorOverload hms, State.flag_raiseFlag _ (by simp [TIM_MSSTAT_OVERLOAD]) rfl, ?_, hchanges.1, ?_⟩
    · rw [State.ms_congr (State.raiseFlag_fe _ _), State.cyclesSpoilt, State.ms_setMs_same]
    · rw [hchanges.2]
      rfl
  case harmonics =>
    have hms := (s.msOn_iff i.val).2 ⟨hon, hen⟩
    have hkept := (s.averaged i.val h).telemetry_kept 2 (i.val + 16 * s.hcount i.val) i.val
      (chunk12 (harmBytes (s.hcount i.val) h) (ceilDiv (4 * s.hcount i.val) 12))
    refine ⟨_, exec_harmonicAverageEnd hms hcycles h, ?_, ?_, fun j hj => ?_⟩
    · exact (hkept.get (f := TIM_MSSTAT_HCOUNT i.val) (msReg_stat i.isLt)).trans (s.averaged_hcount i.val h)
    · rw [State.ms_congr (State.telemetry_fe _ _ _ _ _), State.averaged_cycles]
    · have hbin := (s.averaged_bin i.isLt hj h).congr (hkept _ (msReg_harm i.isLt hj))
      refine ⟨fun hle => ?_, fun hlt _ => ?_⟩
      · rw [binOf, if_neg (by omega)] at hbin
        exact hbin.reg_eq_zero
      · rwa [binOf, if_pos hlt] at hbin

end Sys2Proof.Machine

/-! Writes of GRP[g]_CFG and of the places of the tone-map and SNR stores (R116, R124, R426, Tables 05-6, 05-8, 05-9,
06-16). -/

namespace Sys2Proof.Machine

theorem State.standbyOk_iff (s : State) : s.standbyOk = true ↔ s.mode = mStandby ∧ s.busy = false := by
  simp [State.standbyOk]

/-! ## The groups (R116, Table 05-6) -/

/-- Table 05-6: when EN and PRECG of a write may apply. -/
theorem State.grpMay_iff (s : State) (g : Nat) {en : Nat} (hen : en < 2) (precg : Nat) : s.grpMay g en precg = true ↔
    s.mode = mStandby ∧ s.busy = false ∧ precg ≠ 3 ∧ (en = 1 → ∀ k, k < 4 → s.profile (4 * g + k) = pfBB) := by
  have hzero : en = 0 ↔ ¬ en = 1 := by omega
  simp only [State.grpMay, Bool.and_eq_true, Bool.or_eq_true, State.standbyOk_iff, bne_iff_ne, beq_iff_eq,
    List.all_eq_true, List.mem_range, hzero, ← imp_iff_not_or, and_assoc]

/-- The registers of a group: its configuration and the status of its four receivers. -/
def groupRegs (g : Nat) : List Nat :=
  [a_GRP_CFG g, a_PRT_RXSTAT (4 * g), a_PRT_RXSTAT (4 * g + 1), a_PRT_RXSTAT (4 * g + 2), a_PRT_RXSTAT (4 * g + 3)]

theorem grpCfg_mem (g : Nat) : a_GRP_CFG g ∈ groupRegs g := List.mem_cons_self

theorem rxstat_mem (g : Nat) {k : Nat} (hk : k < 4) : a_PRT_RXSTAT (4 * g + k) ∈ groupRegs g := by
  interval_cases k <;> simp [groupRegs]

theorem rxstat_ne_grpCfg (n g : Nat) : a_PRT_RXSTAT n ≠ a_GRP_CFG g := by
  simp only [a_PRT_RXSTAT, a_GRP_CFG]
  omega

theorem notPending_grpCfg {g : Nat} (hg : g < 4) : NotPending (a_GRP_CFG g) := by
  simp only [NotPending, a_GRP_CFG, f1]
  omega

theorem notPending_rxstat {n : Nat} (hn : n < 16) : NotPending (a_PRT_RXSTAT n) := by
  simp only [NotPending, a_PRT_RXSTAT, f1]
  omega

/-- What a write of GRP[g]_CFG stores before it is judged: REFUSED where the host clears it, and NSS_MAX. -/
def State.grpAsked (s : State) (g : Nat) (data : Word) : State :=
  (s.clearW1c (a_GRP_CFG g) 0x40 data).set (GRP_CFG_NSS_MAX g) (bits data 3 2)

theorem State.grpAsked_changes (s : State) {g : Nat} (hg : g < 4) (data : Word) :
    changesOnly s (s.grpAsked g data) [] (groupRegs g) :=
  (((changesOnly.refl s).mono (List.nil_subset (groupRegs g))).clearW1c (grpCfg_mem g) (notPending_grpCfg hg) (by simp)
    0x40 data).set (f := GRP_CFG_NSS_MAX g) (grpCfg_mem g) (notPending_grpCfg hg) (by simp) _

theorem State.grpAsked_nss (s : State) (g : Nat) (data : Word) :
    (s.grpAsked g data).get (GRP_CFG_NSS_MAX g) = bits data 3 2 :=
  (State.get_set_same _ (by simp [GRP_CFG_NSS_MAX]) _).trans (Nat.mod_mod _ _)

/-- EN, PRECG and ACT are as they were. -/
theorem State.grpAsked_kept (s : State) (g : Nat) (data : Word) {f : Field} (hf : f.lo + f.w ≤ 6)
    (hnss : f.lo + f.w ≤ 3 ∨ 5 ≤ f.lo) : (s.grpAsked g data).get f = s.get f := by
  have hmask : ∀ j, j < 6 → Nat.testBit 0x40 j = false := by decide
  rw [State.grpAsked, State.get_set_bits _ (f := GRP_CFG_NSS_MAX g) hnss.symm,
    State.get_clearW1c_other]
  exact fun i hi => hmask _ (by omega)

/-- R116: ACT is shown as JOINT on the ports of the group, and no other register follows it. -/
theorem State.setGrpAct_reg (s : State) (g act : Nat) {a : Nat} (ha : ∀ n, a ≠ a_PRT_RXSTAT n) :
    (s.setGrpAct g act).reg a = (s.set (GRP_CFG_ACT g) act).reg a :=
  forN_induct (P := fun t : State => t.reg a = (s.set (GRP_CFG_ACT g) act).reg a) rfl fun k _ t h =>
    (t.reg_set_other (f := PRT_RXSTAT_JOINT (4 * g + k)) (ha _) _).trans h

theorem State.setGrpAct_act (s : State) (g act : Nat) : (s.setGrpAct g act).get (GRP_CFG_ACT g) = act % 2 :=
  (State.get_of_reg (s.setGrpAct_reg g act fun n => (rxstat_ne_grpCfg n g).symm)).trans
    (s.get_set_same (by simp [GRP_CFG_ACT]) act)

/-- The other fields of GRP[g]_CFG are as they were. -/
theorem State.setGrpAct_kept (s : State) (g act : Nat) {f : Field} (hf : f.addr = a_GRP_CFG g) (hlo : f.lo + f.w ≤ 5) :
    (s.setGrpAct g act).get f = s.get f :=
  (State.get_of_reg (s.setGrpAct_reg g act fun n => hf ▸ (rxstat_ne_grpCfg n g).symm)).trans
    (s.get_set_bits (f := GRP_CFG_ACT g) (.inr hlo) act)

theorem State.setGrpAct_joint (s : State) (g act : Nat) {k : Nat} (hk : k < 4) :
    (s.setGrpAct g act).get (PRT_RXSTAT_JOINT (4 * g + k)) = act % 2 := by
  have hmake : ∀ t : State, t.get (GRP_CFG_ACT g) = act % 2 →
      (t.showJoint (4 * g + k)).get (PRT_RXSTAT_JOINT (4 * g + k)) = act % 2 := fun t h => by
    rw [State.showJoint, t.get_set_same (by simp [PRT_RXSTAT_JOINT]), show (4 * g + k) / 4 = g by omega, h]
    exact Nat.mod_mod _ _
  refine forN_reaches (Q := fun t : State => t.get (GRP_CFG_ACT g) = act % 2)
    (P := fun t : State => t.get (PRT_RXSTAT_JOINT (4 * g + k)) = act % 2) hk
    (s.get_set_same (by simp [GRP_CFG_ACT]) act)
    (fun j t h => (t.get_set_addr (rxstat_ne_grpCfg _ g).symm _).trans h) hmake fun j t h hjoint => ?_
  by_cases hj : j = k
  · exact hj ▸ hmake t h
  · refine (t.get_set_addr ?_ _).trans hjoint
    simp only [PRT_RXSTAT_JOINT, a_PRT_RXSTAT]
    omega

theorem changesOnly.setGrpAct {s t : State} {g : Nat} (hg : g < 4) (h : changesOnly s t [] (groupRegs g)) (act : Nat) :
    changesOnly s (t.setGrpAct g act) [] (groupRegs g) :=
  forN_induct (P := fun u => changesOnly s u [] (groupRegs g))
    (h.set (f := GRP_CFG_ACT g) (grpCfg_mem g) (notPending_grpCfg hg) (by simp) act) fun k hk u hu =>
      hu.set (f := PRT_RXSTAT_JOINT (4 * g + k)) (rxstat_mem g hk) (notPending_rxstat (by omega)) (by simp) _

/-- EN and PRECG apply (R116). -/
def State.grpApplied (s : State) (g en precg : Nat) : State :=
  ((s.set (GRP_CFG_EN g) en).set (GRP_CFG_PRECG g) precg).setGrpAct g en

theorem changesOnly.grpApplied {s t : State} {g : Nat} (hg : g < 4) (h : changesOnly s t [] (groupRegs g))
    (en precg : Nat) : changesOnly s (t.grpApplied g en precg) [] (groupRegs g) :=
  changesOnly.setGrpAct hg ((h.set (f := GRP_CFG_EN g) (grpCfg_mem g) (notPending_grpCfg hg) (by simp) en).set
    (f := GRP_CFG_PRECG g) (grpCfg_mem g) (notPending_grpCfg hg) (by simp) precg) en

theorem State.grpApplied_en (s : State) (g en precg : Nat) : (s.grpApplied g en precg).get (GRP_CFG_EN g) = en % 2 := by
  rw [State.grpApplied, State.setGrpAct_kept _ g en rfl (by simp [GRP_CFG_EN]),
    State.get_set_bits _ (.inr (by simp [GRP_CFG_EN, GRP_CFG_PRECG])), State.get_set_same _ (by simp [GRP_CFG_EN])]
  rfl

theorem State.grpApplied_precg (s : State) (g en precg : Nat) :
    (s.grpApplied g en precg).get (GRP_CFG_PRECG g) = precg % 4 := by
  rw [State.grpApplied, State.setGrpAct_kept _ g en rfl (by simp [GRP_CFG_PRECG]),
    State.get_set_same _ (by simp [GRP_CFG_PRECG])]
  rfl

theorem State.grpApplied_nss (s : State) (g en precg : Nat) :
    (s.grpApplied g en precg).get (GRP_CFG_NSS_MAX g) = s.get (GRP_CFG_NSS_MAX g) := by
  rw [State.grpApplied, State.setGrpAct_kept _ g en rfl (by simp [GRP_CFG_NSS_MAX]),
    State.get_set_bits _ (.inl (by simp [GRP_CFG_NSS_MAX, GRP_CFG_PRECG])),
    State.get_set_bits _ (.inl (by simp [GRP_CFG_NSS_MAX, GRP_CFG_EN]))]

section
variable {s : State} {g : Nat} {data : Word}

theorem State.grpWrite_same (h : bits data 0 1 = s.get (GRP_CFG_EN g) ∧ bits data 1 2 = s.get (GRP_CFG_PRECG g)) :
    s.grpWrite g data = s.grpAsked g data := by
  simp [State.grpWrite, h, State.grpAsked]

theorem State.grpWrite_changed
    (h : ¬ (bits data 0 1 = s.get (GRP_CFG_EN g) ∧ bits data 1 2 = s.get (GRP_CFG_PRECG g))) :
    s.grpWrite g data = if s.grpMay g (bits data 0 1) (bits data 1 2) = true then
      (s.grpAsked g data).grpApplied g (bits data 0 1) (bits data 1 2)
    else (s.grpAsked g data).raiseFlag (GRP_CFG_REFUSED g) := by
  have hne : (bits data 0 1 == s.get (GRP_CFG_EN g) && bits data 1 2 == s.get (GRP_CFG_PRECG g)) = false := by
    simpa [← Bool.not_eq_true] using h
  simp [State.grpWrite, hne, State.grpAsked, State.grpApplied]

end

theorem exec_groupCfgWrite {s : State} {g : Fin 4} (h : s.reaches 0 (a_GRP_CFG g.val)) (data : Word) :
    exec (.groupCfgWrite g data) s = .next (s.grpWrite g data) :=
  congrArg Host.Outcome.next (s.hostWrite_reaches h _)

/-! ## The places of the stores (R124, R426, Tables 05-8, 05-9, 06-16) -/

/-- The two registers of the tone-map store. -/
def storeRegs : List Nat := [a_MAC_TMSCFG, a_MAC_TMSBASE]

/-- R124: the link areas that a write may ask for. -/
theorem State.areasOk_iff (s : State) (data : Word) : s.areasOk data = true ↔
    if s.isT = true then bits data 0 17 = 4 ∧ bits data 17 11 = 0
    else bits data 0 17 ≤ 65536 ∧ bits data 17 11 ≤ 1024 := by
  unfold State.areasOk
  split <;> simp

/-- What a write of a register of the store changes before it is judged: REFUSED where the host clears it. -/
def State.tmsAsked (s : State) (cfg : Bool) (data : Word) : State :=
  if cfg then s.clearW1c a_MAC_TMSCFG 0x20000000 data else s

theorem State.tmsAsked_changes (s : State) (cfg : Bool) (data : Word) :
    changesOnly s (s.tmsAsked cfg data) [] storeRegs := by
  have hrefl : changesOnly s s [] storeRegs := (changesOnly.refl s).mono (List.nil_subset _)
  unfold State.tmsAsked
  split
  · exact hrefl.clearW1c (by simp [storeRegs]) (by decide) (by simp) _ _
  · exact hrefl

theorem State.tmsAsked_kept (s : State) (cfg : Bool) (data : Word) {f : Field} (hf : f.lo + f.w ≤ 29) :
    (s.tmsAsked cfg data).get f = s.get f := by
  have hmask : ∀ j, j < 29 → Nat.testBit 0x20000000 j = false := by decide
  unfold State.tmsAsked
  split
  · exact s.get_clearW1c_other (fun i hi => hmask _ (by omega)) _ _
  · rfl

section
variable {s : State} {cfg : Bool} {data : Word}

theorem State.tmsWrite_refused (h : ¬ (s.standbyOk = true ∧ (cfg = true → s.areasOk data = true))) :
    s.tmsWrite cfg data = (s.tmsAsked cfg data).raiseFlag MAC_TMSCFG_REFUSED := by
  refine if_pos ?_
  cases hs : s.standbyOk <;> simp_all

theorem State.tmsWrite_stored (h : s.standbyOk = true ∧ (cfg = true → s.areasOk data = true)) :
    s.tmsWrite cfg data = if cfg = true then
      ((s.tmsAsked cfg data).set MAC_TMSCFG_LINKS (bits data 0 17)).set MAC_TMSCFG_GLINKS (bits data 17 11)
    else (s.tmsAsked cfg data).set MAC_TMSBASE_BASE (bits data 0 19) := by
  refine if_neg ?_
  cases cfg <;> simp_all

end

/-- A stored write of MAC_TMSCFG sets LINKS and GLINKS. -/
theorem State.setAreas_spec (t : State) (links glinks : Nat) :
    let u := (t.set MAC_TMSCFG_LINKS links).set MAC_TMSCFG_GLINKS glinks
    u.get MAC_TMSCFG_LINKS = links % 2 ^ 17 ∧ u.get MAC_TMSCFG_GLINKS = glinks % 2 ^ 11 ∧
      u.get MAC_TMSCFG_ACT = t.get MAC_TMSCFG_ACT ∧ u.get MAC_TMSBASE_BASE = t.get MAC_TMSBASE_BASE := by
  refine ⟨?_, State.get_set_same _ (by decide) _, ?_, ?_⟩
  · exact (State.get_set_bits _ (.inr (by decide)) _).trans (t.get_set_same (by decide) _)
  · exact (State.get_set_bits _ (.inl (by decide)) _).trans (t.get_set_bits (.inl (by decide)) _)
  · exact (State.get_set_addr _ (by decide) _).trans (t.get_set_addr (by decide) _)

/-- A refused write raises REFUSED alone. -/
theorem State.refused_kept (t : State) {f : Field} (hf : f.addr ≠ a_MAC_TMSCFG ∨ f.lo + f.w ≤ 29) :
    (t.raiseFlag MAC_TMSCFG_REFUSED).get f = t.get f :=
  t.get_raiseFlag_other (hf.imp_right .inr)

theorem exec_toneMapStoreCfgWrite {s : State} {cfg : Bool}
    (h : s.reaches 0 (if cfg then a_MAC_TMSCFG else a_MAC_TMSBASE)) (data : Word) :
    exec (.toneMapStoreCfgWrite cfg data) s = .next (s.tmsWrite cfg data) :=
  congrArg Host.Outcome.next (s.hostWrite_reaches h _)

theorem exec_snrStoreBaseWrite {s : State} (h : s.reaches 0 a_MAC_SNRBASE) (data : Word) :
    exec (.snrStoreBaseWrite data) s = .next (s.snrBaseWrite data) :=
  congrArg Host.Outcome.next (s.hostWrite_reaches h _)

/-- A write of GRP[g]_CFG: what applies, and what is refused. -/
theorem State.grpWrite_spec {s : State} {g : Nat} (hg : g < 4) {data : Word} {ok : Prop}
    (hmay : s.grpMay g (bits data 0 1) (bits data 1 2) = true ↔ ok) :
    let en := bits data 0 1
    let precg := bits data 1 2
    let change := ¬ (en = s.get (GRP_CFG_EN g) ∧ precg = s.get (GRP_CFG_PRECG g))
    let t := s.grpWrite g data
    changesOnly s t [] (groupRegs g) ∧ t.get (GRP_CFG_NSS_MAX g) = bits data 3 2 ∧
      (change → ok → t.get (GRP_CFG_EN g) = en ∧ t.get (GRP_CFG_PRECG g) = precg ∧ t.get (GRP_CFG_ACT g) = en ∧
        ∀ k, k < 4 → t.get (PRT_RXSTAT_JOINT (4 * g + k)) = en) ∧
      (¬ (change ∧ ok) → t.get (GRP_CFG_EN g) = s.get (GRP_CFG_EN g) ∧
        t.get (GRP_CFG_PRECG g) = s.get (GRP_CFG_PRECG g) ∧ t.get (GRP_CFG_ACT g) = s.get (GRP_CFG_ACT g)) ∧
      (change → ¬ ok → t.flag (GRP_CFG_REFUSED g) = true) := by
  intro en precg change t
  have hasked := s.grpAsked_changes hg data
  have hnss := s.grpAsked_nss g data
  have hen := s.grpAsked_kept g data (f := GRP_CFG_EN g) (by simp [GRP_CFG_EN]) (by simp [GRP_CFG_EN])
  have hprecg := s.grpAsked_kept g data (f := GRP_CFG_PRECG g) (by simp [GRP_CFG_PRECG]) (by simp [GRP_CFG_PRECG])
  have hact := s.grpAsked_kept g data (f := GRP_CFG_ACT g) (by simp [GRP_CFG_ACT]) (by simp [GRP_CFG_ACT])
  by_cases hchange : change
  case neg =>
    have ht : t = s.grpAsked g data := State.grpWrite_same (not_not.1 hchange)
    rw [ht]
    exact ⟨hasked, hnss, fun h => absurd h hchange, fun _ => ⟨hen, hprecg, hact⟩, fun h => absurd h hchange⟩
  case pos =>
    by_cases hok : ok
    · have ht : t = (s.grpAsked g data).grpApplied g en precg :=
        (State.grpWrite_changed hchange).trans (if_pos (hmay.2 hok))
      rw [ht]
      have hone : en % 2 = en := Nat.mod_mod _ _
      refine ⟨hasked.grpApplied hg en precg, (State.grpApplied_nss _ g en precg).trans hnss,
        fun _ _ => ⟨?_, ?_, ?_, ?_⟩, fun h => absurd ⟨hchange, hok⟩ h, fun _ h => absurd hok h⟩
      · exact (State.grpApplied_en _ g en precg).trans hone
      · exact (State.grpApplied_precg _ g en precg).trans (Nat.mod_mod _ _)
      · exact (State.setGrpAct_act _ g en).trans hone
      · exact fun k hk => (State.setGrpAct_joint _ g en hk).trans hone
    · have ht : t = (s.grpAsked g data).raiseFlag (GRP_CFG_REFUSED g) :=
        (State.grpWrite_changed hchange).trans (if_neg (mt hmay.1 hok))
      rw [ht]
      have hkept : ∀ f : Field, f.lo + f.w ≤ 6 →
          ((s.grpAsked g data).raiseFlag (GRP_CFG_REFUSED g)).get f = (s.grpAsked g data).get f :=
        fun f hf => State.get_raiseFlag_other _ (.inr (.inr hf))
      refine ⟨hasked.raiseFlag (grpCfg_mem g) (notPending_grpCfg hg) (by simp), ?_, fun _ h => absurd h hok,
        fun _ => ⟨?_, ?_, ?_⟩, fun _ _ => State.flag_raiseFlag _ (by simp [GRP_CFG_REFUSED]) rfl⟩
      · exact (hkept _ (by simp [GRP_CFG_NSS_MAX])).trans hnss
      · exact (hkept _ (by simp [GRP_CFG_EN])).trans hen
      · exact (hkept _ (by simp [GRP_CFG_PRECG])).trans hprecg
      · exact (hkept _ (by simp [GRP_CFG_ACT])).trans hact

/-- A write of MAC_TMSCFG or MAC_TMSBASE: what is stored, and what is refused. -/
theorem State.tmsWrite_spec {s : State} {cfg : Bool} {data : Word} {ok : Prop}
    (hmay : s.standbyOk = true ∧ (cfg = true → s.areasOk data = true) ↔ ok) :
    let t := s.tmsWrite cfg data
    changesOnly s t [] storeRegs ∧ t.get MAC_TMSCFG_ACT = s.get MAC_TMSCFG_ACT ∧
      (ok → t.get MAC_TMSCFG_LINKS = (if cfg then bits data 0 17 else s.get MAC_TMSCFG_LINKS) ∧
        t.get MAC_TMSCFG_GLINKS = (if cfg then bits data 17 11 else s.get MAC_TMSCFG_GLINKS) ∧
        t.get MAC_TMSBASE_BASE = (if cfg then s.get MAC_TMSBASE_BASE else bits data 0 19)) ∧
      (¬ ok → t.get MAC_TMSCFG_LINKS = s.get MAC_TMSCFG_LINKS ∧ t.get MAC_TMSCFG_GLINKS = s.get MAC_TMSCFG_GLINKS ∧
        t.get MAC_TMSBASE_BASE = s.get MAC_TMSBASE_BASE ∧ t.flag MAC_TMSCFG_REFUSED = true) := by
  intro t
  have hasked := s.tmsAsked_changes cfg data
  have hkept : ∀ f : Field, f.lo + f.w ≤ 29 → (s.tmsAsked cfg data).get f = s.get f := fun f => s.tmsAsked_kept cfg data
  by_cases hok : ok
  case neg =>
    have ht : t = (s.tmsAsked cfg data).raiseFlag MAC_TMSCFG_REFUSED := State.tmsWrite_refused (mt hmay.1 hok)
    rw [ht]
    have hrefused : ∀ f : Field, f.lo + f.w ≤ 29 →
        ((s.tmsAsked cfg data).raiseFlag MAC_TMSCFG_REFUSED).get f = s.get f :=
      fun f hf => (State.refused_kept _ (.inr hf)).trans (hkept f hf)
    exact ⟨hasked.raiseFlag (by decide) (by decide) (by simp), hrefused _ (by decide), fun h => absurd h hok, fun _ =>
      ⟨hrefused _ (by decide), hrefused _ (by decide), hrefused _ (by decide), State.flag_raiseFlag _ (by decide) rfl⟩⟩
  case pos =>
    have ht := State.tmsWrite_stored (hmay.2 hok)
    cases cfg with
    | true =>
      have ht : t = _ := ht.trans (if_pos rfl)
      obtain ⟨hlinks, hglinks, hact, hbase⟩ := (s.tmsAsked true data).setAreas_spec (bits data 0 17) (bits data 17 11)
      rw [← ht] at hlinks hglinks hact hbase
      refine ⟨?_, hact.trans (hkept _ (by decide)), fun _ => ⟨?_, ?_, hbase.trans (hkept _ (by decide))⟩,
        fun h => absurd hok h⟩
      · rw [ht]
        exact (hasked.set (by decide) (by decide) (by simp) _).set (by decide) (by decide) (by simp) _
      · exact hlinks.trans (Nat.mod_mod _ _)
      · exact hglinks.trans (Nat.mod_mod _ _)
    | false =>
      have ht : t = _ := ht.trans (if_neg nofun)
      have hother : ∀ f : Field, f.addr = a_MAC_TMSCFG → t.get f = s.get f := fun f hf => by
        rw [ht]
        exact State.get_set_addr _ (by rw [hf]; decide) _
      refine ⟨?_, hother _ rfl, fun _ => ⟨hother _ rfl, hother _ rfl, ?_⟩, fun h => absurd hok h⟩
      · rw [ht]
        exact hasked.set (by decide) (by decide) (by simp) _
      · rw [ht]
        exact (State.get_set_same _ (by decide) _).trans (Nat.mod_mod _ _)

/-- Settles O23: each of the three writes is its operation, and each operation stores or refuses. -/
theorem groupAndStoreWritesNeedStandby : Obligations.GroupAndStoreWritesNeedStandby := by
  refine ⟨fun s g w hreach => ?group, fun s cfg w hreach => ?toneMaps, fun s w hreach => ?snr⟩
  case group =>
    exact ⟨_, exec_groupCfgWrite hreach w, State.grpWrite_spec g.isLt (s.grpMay_iff g.val (Nat.mod_lt _ (by decide)) _)⟩
  case toneMaps =>
    refine ⟨_, exec_toneMapStoreCfgWrite hreach w, State.tmsWrite_spec ?_⟩
    rw [s.areasOk_iff, s.standbyOk_iff, and_assoc]
  case snr =>
    have hrefl : changesOnly s s [] [a_MAC_SNRBASE, a_MAC_TMSCFG] := (changesOnly.refl s).mono (List.nil_subset _)
    refine ⟨_, exec_snrStoreBaseWrite hreach w, ?_⟩
    simp only [← s.standbyOk_iff, State.snrBaseWrite]
    split
    · exact ⟨hrefl.set (by decide) (by decide) (by simp) _, (s.get_set_same (by decide) _).trans (Nat.mod_mod _ _),
        s.get_set_addr (by decide) _⟩
    · exact ⟨hrefl.raiseFlag (by decide) (by decide) (by simp), s.refused_kept (.inl (by decide)),
        s.refused_kept (.inr (by decide))⟩

end Sys2Proof.Machine

/-! Noise telemetry, and receive records that stop being valid (R121, R143, R300). -/

namespace Sys2Proof.Machine

/-! ## What a telemetry record changes (R300) -/

/-- From `s` to `t` at most registers, the Square, the host interface and what is sent out have changed. -/
def RecordOnly (s t : State) : Prop := t = { s with regs := t.regs, sq := t.sq, hif := t.hif, posted := t.posted }

theorem RecordOnly.trans {s t u : State} (h : RecordOnly s t) (k : RecordOnly t u) : RecordOnly s u := by
  unfold RecordOnly at *
  rw [k, h]

theorem State.requestVector_recordOnly (s : State) (f v : Nat) : RecordOnly s (s.requestVector f v) := by
  unfold RecordOnly
  obtain h | h | ⟨_, _, -, h⟩ := s.requestVector_cases f v
  · rw [h]
  · rw [h]
    rfl
  · rw [h]

theorem State.putPayload_recordOnly (f r : Nat) (l : List Nat) (s : State) : RecordOnly s (s.putPayload f r l) := by
  induction l generalizing s with
  | nil => rfl
  | cons x rest ih => exact RecordOnly.trans (t := s.putEvent f r _ _ _ _) rfl (ih _)

theorem State.putRecord_recordOnly (s : State) (kind r type data : Nat) (l : List Nat) :
    RecordOnly s (s.putRecord kind r type data l) := by
  unfold State.putRecord
  extract_lets lost s1 s2
  have hentries : RecordOnly s s2 :=
    (RecordOnly.trans (t := s.putEvent 0 r _ _ _ _) rfl (State.putPayload_recordOnly 0 r l _)).trans rfl
  clear_value s2
  split
  · rfl
  · split
    · split
      · exact hentries.trans (s2.requestVector_recordOnly 0 _)
      · exact hentries
    · rfl

theorem State.telemetry_rx (s : State) (type data port : Nat) (l : List Nat) :
    (s.telemetry type data port l).rx = s.rx := by
  unfold State.telemetry
  split
  · rw [State.fire_rx, s.putRecord_recordOnly]
  · rfl

/-- With telemetry disabled a record changes nothing. -/
theorem State.telemetry_off {s : State} (h : s.flag HIF_TELCFG_EN = false) (type data port : Nat) (l : List Nat) :
    s.telemetry type data port l = s := by
  simp [State.telemetry, h]

/-- A record leaves the registers below those of the rings. -/
theorem State.putRecord_reg_low (s : State) {a : Nat} (ha : a < 0x40000) (kind r type data : Nat) (l : List Nat) :
    (s.putRecord kind r type data l).reg a = s.reg a :=
  s.putRecord_reg kind r type data l (by simp only [a_MSIX_PBA]; omega) fun _ => by simp only [a_HIF_RPROD]; omega

/-- With telemetry enabled ES486 fires. -/
theorem State.telemetry_pending {s : State} (hen : s.flag HIF_TELCFG_EN = true) (hon : s.domOn dAon = true)
    (type data port : Nat) (l : List Nat) : (s.telemetry type data port l).flag (pendField 486) = true := by
  have hsource := State.sourceOn_congr
    (s.putRecord_reg_low (a := a_PWR_STAT) (by decide) 2 (s.get HIF_TELCFG_RING) type data l)
    (by rw [s.putRecord_recordOnly]) 486
  rw [State.telemetry, if_pos hen]
  exact (State.fired_fire _ (hsource.trans (State.sourceOn_aon (by decide) (by decide) hon)) port).1

/-- No record clears the pending bit of ES486. -/
theorem State.telemetry_keeps_pending {s : State} (h : s.flag (pendField 486) = true) (type data port : Nat)
    (l : List Nat) : (s.telemetry type data port l).flag (pendField 486) = true := by
  unfold State.telemetry
  split
  · refine (Calm.fire _ (by decide) port).pend 486 (by decide) ((State.flag_of_reg ?_).trans h)
    exact s.putRecord_reg_low (by decide) _ _ _ _ _
  · exact h

/-! ## Noise telemetry (R143) -/

/-- The records of the six slots. -/
def State.noiseRecords (s : State) (n : Nat) (spectra : List (List Byte)) : State :=
  forEach [0, 1, 2, 3, 4, 5] (fun k t => t.noiseSlot n k (spectra.getD k [])) s

theorem State.noiseRecords_rx (s : State) (n : Nat) (spectra : List (List Byte)) :
    (s.noiseRecords n spectra).rx = s.rx :=
  forEach_induct (P := fun t : State => t.rx = s.rx) rfl fun _ _ t h => (t.telemetry_rx _ _ _ _).trans h

theorem State.noiseRecords_off {s : State} (h : s.flag HIF_TELCFG_EN = false) (n : Nat) (spectra : List (List Byte)) :
    s.noiseRecords n spectra = s :=
  forEach_induct (P := fun t => t = s) rfl fun _ _ _ ht => ht ▸ State.telemetry_off h _ _ _ _

/-- The first of the records fires ES486, and the others leave its pending bit set. -/
theorem State.noiseRecords_pending {s : State} (hen : s.flag HIF_TELCFG_EN = true) (hon : s.domOn dAon = true) (n : Nat)
    (spectra : List (List Byte)) : (s.noiseRecords n spectra).flag (pendField 486) = true := by
  have hfirst : (s.noiseSlot n 0 (spectra.getD 0 [])).flag (pendField 486) = true :=
    State.telemetry_pending hen hon _ _ _ _
  rw [State.noiseRecords, forEach]
  exact forEach_induct (P := fun t : State => t.flag (pendField 486) = true) hfirst fun _ _ _ h =>
    State.telemetry_keeps_pending h _ _ _ _

/-- The superframe of the last record of port `n` is the present one. -/
def State.noiseTaken (s : State) (n : Nat) : State :=
  { s with rx.lastNoise := put n (s.get MAC_SFN_SFN) s.rx.lastNoise }

theorem exec_noiseTelemetry {s : State} {n : Fin 16} (hrx : s.rxOn n.val = true)
    (hevery : s.get (PRT_NOISECFG_NOISE_AVG n.val) ≠ 0) (hdue : s.get (PRT_NOISECFG_NOISE_AVG n.val) ≤
      (s.get MAC_SFN_SFN + 2 ^ 32 - look 0 s.rx.lastNoise n.val) % 2 ^ 32) (spectra : List (List Byte)) :
    exec (.noiseTelemetry n spectra) s = .next ((s.noiseTaken n.val).noiseRecords n.val spectra) := by
  show execNoiseTelemetry n spectra s = _
  unfold execNoiseTelemetry
  exact congrArg Host.Outcome.next (if_pos (by rw [hrx, bne_iff_ne.2 hevery, decide_eq_true hdue]; rfl))

/-! ## Receive records (R121) -/

theorem recGen_lt (r : List Byte) : recGen r < 16 := Nat.div_lt_of_lt_mul (r.getD 0 0).isLt

/-- Of two valid records the one of the next generation is in force, whichever is read first. -/
theorem newerRec_of_next {old new : List Byte} (hold : old ≠ []) (hnew : new ≠ []) (hvold : recValid old = true)
    (hvnew : recValid new = true) (hnext : recGen new = (recGen old + 1) % 16) :
    newerRec old new = new ∧ newerRec new old = new := by
  have hback : recGen old ≠ (recGen new + 1) % 16 := by
    have := recGen_lt old
    omega
  have hboth : ∀ a b : List Byte, a ≠ [] → b ≠ [] → recValid a = true → recValid b = true →
      newerRec a b = if recGen b = (recGen a + 1) % 16 then b else a := fun a b ha hb hva hvb => by
    simp [newerRec, ha, hb, hva, hvb]
  exact ⟨(hboth _ _ hold hnew hvold hvnew).trans (if_pos hnext), (hboth _ _ hnew hold hvnew hvold).trans (if_neg hback)⟩

/-- R121: the record of the generation before is written back with VALID clear. -/
theorem State.retireRec_former {s : State} {k slot gen p : Nat} {b : Byte} {old : List Byte} (hp : (gen + 1) % 2 = p)
    (hread : s.readRec k (6 + 2 * slot + p) = (b :: old, s)) (hvalid : recValid (b :: old) = true)
    (hgen : gen = (recGen (b :: old) + 1) % 16) :
    s.retireRec k slot gen = s.writeRec k (6 + 2 * slot + p) ((b &&& 0xFE) :: old) := by
  simp only [State.retireRec, hp, hread, hvalid, ← hgen, beq_self_eq_true, Bool.and_self, if_true]

/-- The session of a link. -/
abbrev State.sesOfLink (s : State) (grouped : Bool) (link : Nat) : Option Nat :=
  s.findSes (fun v => sub v sGROUPED == b2n grouped && sub v sLINK == link)

section
variable {s : State} {grouped : Bool} {link : Nat} {slot : Fin 6}

/-- Without a session, or without an area, there is nothing to retire. -/
theorem exec_receiveRecordRetire_none
    (h : s.sesOfLink grouped link = none ∨ ∃ k, s.sesOfLink grouped link = some k ∧ s.hasArea k = false) :
    exec (.receiveRecordRetire grouped link slot) s = .next s := by
  show execReceiveRecordRetire grouped link slot s = _
  unfold execReceiveRecordRetire
  unfold State.sesOfLink at h
  obtain h | ⟨k, h, harea⟩ := h
  · rw [h]
  · rw [h]
    exact congrArg Host.Outcome.next (if_neg (by simp [harea]))

/-- The record in force, 16 superframes old, retires the former one. -/
theorem exec_receiveRecordRetire_due {k : Nat} {snr ra rb : List Byte}
    (hses : s.sesOfLink grouped link = some k) (harea : s.hasArea k = true) (hsnr : s.readSnr k slot.val 0 = (snr, s))
    (hra : s.readRec k (6 + 2 * slot.val) = (ra, s)) (hrb : s.readRec k (7 + 2 * slot.val) = (rb, s))
    (hage : 16 ≤ (s.get MAC_SFN_SFN + 2 ^ 32 - snrLast snr) % 2 ^ 32) (hr : newerRec ra rb ≠ []) :
    exec (.receiveRecordRetire grouped link slot) s = .next (s.retireRec k slot.val (recGen (newerRec ra rb))) := by
  have hgo : ((newerRec ra rb).isEmpty ||
      decide ((s.get MAC_SFN_SFN + 2 ^ 32 - snrLast snr) % 2 ^ 32 < 16)) = false := by
    rw [decide_eq_false (Nat.not_lt.2 hage), List.isEmpty_eq_false_iff.2 hr, Bool.or_self]
  show execReceiveRecordRetire grouped link slot s = _
  unfold execReceiveRecordRetire
  unfold State.sesOfLink at hses
  rw [hses]
  simp only [harea, if_true, hsnr, hra, hrb, hgo, Bool.false_eq_true, if_false]

end

/-- Settles O27: the records of the six slots leave the receivers, and with telemetry enabled the first fires ES486; of
two receive records the next generation is in force, and its parity names the former one. -/
theorem noiseAndReceiveRecordsAge : Obligations.NoiseAndReceiveRecordsAge := by
  refine ⟨fun s n sp hrx hevery hdue hon => ?noise, fun s grouped link slot h => exec_receiveRecordRetire_none h,
    fun s grouped link slot k snr old new b p hses harea hp hsnr hold hnew hage hne hvnew hvold hnext
      hparity => ?retire⟩
  case noise =>
    refine ⟨_, exec_noiseTelemetry hrx hevery hdue sp, ?_, fun hoff => ?_, fun hen => ?_⟩
    · rw [State.noiseRecords_rx]
      exact look_put_same _ _ _ _
    · rw [State.noiseRecords_off (s := s.noiseTaken n.val) hoff]
      rfl
    · exact State.noiseRecords_pending (s := s.noiseTaken n.val) hen hon n.val sp
  case retire =>
    obtain ⟨hfirst, hsecond⟩ := newerRec_of_next (List.cons_ne_nil b old) hne hvold hvnew hnext
    have hretire := State.retireRec_former (gen := recGen new) (by omega) hold hvold hnext
    refine ⟨_, ?_, hretire⟩
    obtain rfl | rfl : p = 0 ∨ p = 1 := by omega
    · refine (exec_receiveRecordRetire_due hses harea hsnr hold ?_ hage (hfirst ▸ hne)).trans (by rw [hfirst])
      rwa [show 7 + 2 * slot.val = 6 + 2 * slot.val + (1 - 0) by omega]
    · refine (exec_receiveRecordRetire_due hses harea hsnr hnew ?_ hage (hsecond ▸ hne)).trans (by rw [hsecond])
      rwa [show 7 + 2 * slot.val = 6 + 2 * slot.val + 1 by omega]

end Sys2Proof.Machine

/-! The frame check while the writer of the port's receive FIFO holds (R21, R137, R141, R273). -/

namespace Sys2Proof.Machine

/-! ## A held writer (R270, R272, R273) -/

/-- R273: with no room in the filling bank and the other bank not released, no packet opens. -/
theorem State.arcOpen_held {s : State} {i : Nat} (hflush : s.flag (ARC_CFG_FLUSH i) = false)
    (hroom : s.arcRoom i = false) (hopened : (s.arcOf i).opened = none) (hbank : (s.arcOf i).isHanded = true) :
    s.arcOpen i = s.setArc i { s.arcOf i with holding := true } := by
  have hstay : s.arcHandOver i = s := by simp [State.arcHandOver, ArcSt.mayHandOver, hbank]
  simp [State.arcOpen, hflush, hroom, hstay, hopened]

/-- R141, R273: the oldest frame, complete, waits for its frame check while its packet cannot open. -/
theorem State.rxProgress_held {s : State} {n : Nat} {a : Acq} {r : List Acq} {h : PhyHeader} {er : Nat}
    (hframes : (s.rxPort n).frames = a :: r) (hhdr : a.hdr = some h) (hended : a.ended = some er)
    (hflush : s.flag (ARC_CFG_FLUSH (2 * n)) = false) (hroom : s.arcRoom (2 * n) = false)
    (hopened : (s.arcOf (2 * n)).opened = none) (hbank : (s.arcOf (2 * n)).isHanded = true) (fuel : Nat) :
    (s.rxProgress n fuel).rxPort n = s.rxPort n := by
  have hopen := State.arcOpen_held hflush hroom hopened hbank
  have hshut : s.arcIsOpen (2 * n) = false := by rw [State.arcIsOpen, hopened]; rfl
  have hheld : (s.arcOpen (2 * n)).arcIsOpen (2 * n) = false := by
    rw [hopen, State.arcIsOpen, State.arcOf, State.setArc, look_store_same, hopened]
    rfl
  cases fuel with
  | zero => rfl
  | succ k =>
    unfold State.rxProgress
    simp only [hframes, hhdr, hended, hshut, hheld, Bool.false_eq_true, if_false]
    split
    · rfl
    · rw [hopen]
      rfl

/-- The state once decoder `d` has given the bytes of block `b` to its frame `a`. -/
def State.blockGiven (s : State) (d : Nat) (b : CodeBlock) (a : Acq) (data : List Byte) : State :=
  (s.freeDecoder d).setAcq b.port { a with parts := put b.idx data a.parts }

theorem exec_blockDecodeComplete {s : State} {d : Fin 8} {b : CodeBlock} {a : Acq}
    (hb : find s.rx.decoders d.val = some b) (hheader : b.header = false) (ha : s.acqOf b.port b.frame = some a)
    (data : List Byte) :
    exec (.blockDecodeComplete d true data) s = .next ((s.blockGiven d.val b a data).rxProgress b.port 64) := by
  have ha' : (s.freeDecoder d.val).acqOf b.port b.frame = some a := ha
  show execBlockDecodeComplete d true data s = _
  unfold execBlockDecodeComplete
  simp only [hb, hheader, ha', Bool.false_eq_true, if_false, if_true]
  rfl

/-! ## A port whose receive FIFO is full -/

/-- The header of a frame of one payload of 4 B on the default map. -/
def shortHeader : PhyHeader :=
  { cls := 0, mode := 0, rate := 0, blk := false, gi := 0, tmap := 6, nss := 0, gen := 0, len := 4,
    nsym := 1, macFc := 0 }

/-- A frame whose samples have ended, of one block. -/
def lastBlockFrame : Acq :=
  { id := 7, tdet := 900, snr := 20, slot := 1, sweepK := 0, g3 := false, hdr := some shortHeader, blocks := 1,
    ended := some 990 }

/-- Its block, in a decoder. -/
def lastBlock : CodeBlock := { port := 15, frame := 7, idx := 0, header := false, arrival := 950 }

/-- That frame with its block decoded. -/
def lastBlockDecoded : Acq := { lastBlockFrame with parts := [(0, [1, 0, 0, 0])] }

/-- A bank filled by one packet. -/
def fullBank : List Packet := [⟨512, .rx (rxFrameOf 15 lastBlockFrame shortHeader 800 {} [])⟩]

/-- Port 15 on BB in REPEATER with that frame, one bank of its receive FIFO filled and the other not yet read. -/
def fullFifo : State :=
  let s := { State.reset with tick := 1000, boot := { step := 13 }, rx.decoders := [(7, lastBlock)] }
  let s1 := (s.setReg a_SYS_MODESTAT (BitVec.ofNat 32 (mRepeater + 16 * mRepeater + 512))).set (PRT_PROFILE_ACT 15) pfBB
  (s1.setRxPort 15 { tails := [lastBlockFrame] }).setArc 30
    { filling := fullBank, isHanded := true, handed := fullBank, unread := 512 }

/-- The hypotheses of the frame check hold, with a block whose frame check fails. -/
theorem fullFifo_meets : find fullFifo.rx.decoders 7 = some lastBlock ∧ 15 < fullFifo.ports ∧
    fullFifo.domOn (dPair 15) = true ∧ (fullFifo.rxPort 15).tails = [lastBlockFrame] ∧
    (fullFifo.rxPort 15).cur = none ∧ fullFifo.profile 15 = pfBB ∧ checkOk [1, 0, 0, 0] = false := by
  decide +kernel

/-- The frame after the block, in a state whose writer is held. -/
theorem fullFifo_holds : let s := fullFifo.blockGiven 7 lastBlock lastBlockFrame [1, 0, 0, 0]
    (s.rxPort 15).frames = [lastBlockDecoded] ∧ s.flag (ARC_CFG_FLUSH 30) = false ∧
      s.arcRoom 30 = false ∧ (s.arcOf 30).opened = none ∧ (s.arcOf 30).isHanded = true := by
  decide +kernel

/-- After the last block the frame is still in reception. -/
theorem fullFifo_waits : ∃ t : State, exec (.blockDecodeComplete 7 true [1, 0, 0, 0]) fullFifo = .next t ∧
    (t.rxPort 15).frames = [lastBlockDecoded] := by
  obtain ⟨hframes, hflush, hroom, hopened, hbank⟩ := fullFifo_holds
  refine ⟨_, exec_blockDecodeComplete (d := 7) (b := lastBlock) (a := lastBlockFrame) fullFifo_meets.1 rfl
    (by decide +kernel) _, ?_⟩
  have hkept := State.rxProgress_held (n := 15) hframes rfl rfl hflush hroom hopened hbank 64
  exact (congrArg RxPort.frames hkept).trans hframes

/-- Refutes O26: the last clause lets a bad frame check fail the frame at once, also where its packet is not open. While
the port's receive FIFO has no room and its other bank is not released (R273), the last block of a complete frame leaves
the frame waiting in reception: it has not failed. -/
theorem not_blocksAreDecodedInOrder : ¬ Obligations.BlocksAreDecodedInOrder := by
  intro hall
  obtain ⟨-, -, -, -, hlast⟩ := hall
  obtain ⟨hb, hport, hon, htails, hcur, hprofile, hbad⟩ := fullFifo_meets
  obtain ⟨t, hexec, hfailed, -⟩ := hlast fullFifo 7 [1, 0, 0, 0] lastBlock lastBlockFrame shortHeader 990 hb rfl hport
    hon htails hcur rfl rfl rfl rfl rfl hprofile (by decide) (by decide)
  obtain ⟨u, hexec', hframes⟩ := fullFifo_waits
  obtain rfl : t = u := by injection hexec.symm.trans hexec'
  obtain ⟨-, -, hgone⟩ := hfailed hbad
  exact hgone lastBlockDecoded (hframes ▸ List.mem_singleton_self _) rfl

end Sys2Proof.Machine

/-! Gain, preambles and BLANK (R127 to R140). -/

namespace Sys2Proof.Machine

/-- A receiver depends on the table of them. -/
theorem State.rxPort_congr {s t : State} (h : t.rx = s.rx) (n : Nat) : t.rxPort n = s.rxPort n := by
  simp only [State.rxPort, h]

theorem onlyRegsSq.rx {s t : State} (h : onlyRegsSq s t) : t.rx = s.rx := by rw [h]

/-- Port 15 in BLANKED, nothing on its line, BLANK over, and PRT_RXCFG not the one of its last entry into SEARCH. -/
theorem listening_blanked : (listening 15 rBLANKED).rxOn 15 = true ∧
    (((listening 15 rBLANKED).setRxState 15 rSEARCH).rxPort 15).cfg ≠ ((listening 15 rBLANKED).rxPort 15).cfg := by
  decide +kernel

theorem exec_blankEnd {s : State} {n : Fin 16} (hstate : s.rxState n.val = rBLANKED) (hair : s.airOf n.val = none)
    (hburst : s.bursting n.val = false) (hblank : (s.rxPort n.val).blank ≤ s.tick) :
    exec (.blankEnd n) s = .next (s.setRxState n.val (if s.rxOn n.val then rSEARCH else rIDLE)) :=
  congrArg Host.Outcome.next (if_pos (by simp [hstate, hair, hburst, hblank]))

/-- Refutes O24: its last clause lets BLANK_END change nothing but PRT_RXSTAT. The port that returns to SEARCH also takes
up PRT_RXCFG as it then stands (Table 06-10), which is a part of the receiver and no register: on a port whose
PRT_RXCFG is not the one it last applied, the receiver has changed. -/
theorem not_preamblesAreAcquiredOrIgnored : ¬ Obligations.PreamblesAreAcquiredOrIgnored := by
  intro hall
  obtain ⟨-, -, -, -, hblank⟩ := hall
  obtain ⟨hstate, hair, hburst, hover⟩ := witness_PreamblesAreAcquiredOrIgnored_blank
  obtain ⟨hon, hcfg⟩ := listening_blanked
  obtain ⟨t, hexec, hchanges, -⟩ := hblank (listening 15 rBLANKED) 15 hstate hair hburst hover
  have hexec' := exec_blankEnd (n := 15) hstate hair hburst hover
  rw [show (listening 15 rBLANKED).rxOn (15 : Fin 16).val = true from hon, if_pos rfl] at hexec'
  obtain rfl : t = (listening 15 rBLANKED).setRxState 15 rSEARCH := by injection hexec.symm.trans hexec'
  exact hcfg (congrArg RxPort.cfg (State.rxPort_congr hchanges.2.rx 15))

end Sys2Proof.Machine

/-! The last sample of a frame of a slot that no superframe has (R133, R134). -/

namespace Sys2Proof.Machine

/-- The header of a frame of one payload of 4 B from neighbour 9, on generation 1 of a tone map. -/
def strayHeader : PhyHeader := { shortHeader with tmap := 0, gen := 1, macFc := 9 * 2 ^ 11 }

/-- That frame with all of it decoded and its samples still to end. Its slot is none of the six of a superframe: the
record of its tone map would stand in rank 11,802,560 of DRAM. -/
def strayFrame : Acq :=
  { anAcq with slot := 11802560 * 2 ^ 22, hdr := some strayHeader, blocks := 1, parts := [(0, [0, 0, 0, 0])] }

/-- The first line of that record. -/
def strayLine : Nat := 96 + 11802560 * 2 ^ 27

/-- Port 15 with the frame in reception, link 0 towards neighbour 9 as session 3, and two wrong symbols in the line. -/
def strayRecord : State :=
  let s := { receiving 15 strayFrame with mem.dram := [(80 * strayLine, 1), (80 * strayLine + 2, 1)] }
  (s.setSes 3 (withSub (withSub 0 sVALID 1) sNEIGH 9)).set MAC_TMSCFG_LINKS 1

/-- The measurements of its last samples, of no carrier. -/
def strayMeas : RxMeas := ⟨0, [], 0, []⟩

/-- The receiver of the port ends in CHEST. -/
theorem strayRecord_samplesEnd : (strayRecord.rxPort 15).cur = some strayFrame ∧
    (strayRecord.samplesEnd 15 strayFrame strayMeas).rxState 15 = rCHEST := by
  decide +kernel

theorem exec_receiveSamplesEnd {s : State} {n : Fin 16} {a : Acq} (h : (s.rxPort n.val).cur = some a) (m : RxMeas) :
    exec (.receiveSamplesEnd n m) s = .next (s.samplesEnd n.val a m) := by
  show execReceiveSamplesEnd n m s = _
  unfold execReceiveSamplesEnd
  rw [h]

/-- Refutes O25: the second clause takes the receiver to SEARCH for a frame in reception of any slot. Once the samples of
a good frame have ended, the former record of its slot is retired (R121). The record of a slot that no superframe has stands
in a rank that the device does not have; where a line of it cannot be read, the source of that rank fires, and its pending
bit falls on PRT_RXSTAT.STATE, which then shows CHEST. -/
theorem not_trackingAndTheEndOfSamples : ¬ Obligations.TrackingAndTheEndOfSamples := by
  intro hall
  obtain ⟨-, hend⟩ := hall
  obtain ⟨hcur, hchest⟩ := strayRecord_samplesEnd
  obtain ⟨t, hexec, -, hsearch, -⟩ := hend strayRecord 15 strayMeas strayFrame hcur
  have ht := Host.Outcome.next.inj (hexec.symm.trans (exec_receiveSamplesEnd (n := 15) hcur strayMeas))
  rw [ht] at hsearch
  exact absurd (hchest.symm.trans hsearch) (by decide)

end Sys2Proof.Machine

/-! SUPPORT. What the line leaves as it ends frames, transmits and keeps its books: the relation `Leaves`, its closure
lemmas, and the lemmas of the operations of the receivers, of their FIFOs and of the line driver. -/

namespace Sys2Proof.Machine

/-- A register that is no pending bit, no count of a FIFO or of dropped cells, and none of the memories, of the host's rings
and of the pool of blocks. -/
abbrev Spared (a : Nat) : Prop :=
  NotPending a ∧ (a < 0x40000 ∨ (0x90000 ≤ a ∧ a < 0x180000 ∧ a ≠ a_MAC_CTCNT ∧ a ≠ a_MAC_NOACKCNT) ∨ f1 0 ≤ a)

/-- A source of a port's line or of its bursts (Table 03-4). -/
abbrev PortSource (k : Nat) : Prop := (64 ≤ k ∧ k < 80) ∨ (208 ≤ k ∧ k < 336)

/-- From `s` to `t`, of the spared registers only those that `T` names may have changed, and of the sources of the ports only
those that `F` names may have fired; no pending bit is lost. -/
structure Leaves (T F : Nat → Prop) (s t : State) : Prop where
  tick : t.tick = s.tick
  otp : t.otp = s.otp
  regs : ∀ a, Spared a → ¬ T a → t.reg a = s.reg a
  staged : ∀ k, PortSource k → ¬ F k → find t.sq.staged k = find s.sq.staged k
  pend : PendKept s t

namespace Leaves

section
variable {T F : Nat → Prop} {s t u : State}

theorem refl (s : State) : Leaves T F s s := ⟨rfl, rfl, fun _ _ _ => rfl, fun _ _ _ => rfl, .refl s⟩

theorem trans (h : Leaves T F s t) (k : Leaves T F t u) : Leaves T F s u where
  tick := k.tick.trans h.tick
  otp := k.otp.trans h.otp
  regs a ha ht := (k.regs a ha ht).trans (h.regs a ha ht)
  staged j hj hf := (k.staged j hj hf).trans (h.staged j hj hf)
  pend := h.pend.trans k.pend

/-- An update of other parts of the state. -/
theorem other (h : t.regs = s.regs := by rfl) (hsq : t.sq.staged = s.sq.staged := by rfl)
    (htick : t.tick = s.tick := by rfl) (hotp : t.otp = s.otp := by rfl) : Leaves T F s t :=
  ⟨htick, hotp, fun a _ _ => State.reg_congr h a, fun k _ _ => by rw [hsq],
    fun _ _ hs => (State.flag_of_reg (State.reg_congr h _)).trans hs⟩

theorem ite {a b : State} {c : Prop} [Decidable c] (h : Leaves T F s a) (k : Leaves T F s b) :
    Leaves T F s (if c then a else b) := by
  split <;> assumption

theorem forN {n : Nat} {f : Nat → State → State} (hf : ∀ k, k < n → ∀ t, Leaves T F t (f k t)) (s : State) :
    Leaves T F s (forN n f s) :=
  forN_induct (P := Leaves T F s) (refl s) fun k hk t h => h.trans (hf k hk t)

theorem forEach {α : Type} {l : List α} {f : α → State → State} (hf : ∀ a ∈ l, ∀ t, Leaves T F t (f a t)) (s : State) :
    Leaves T F s (forEach l f s) :=
  forEach_induct (P := Leaves T F s) (refl s) fun a ha t h => h.trans (hf a ha t)

theorem setReg (s : State) {a : Nat} (hp : NotPending a) (h : Spared a → T a) (v : Word) :
    Leaves T F s (s.setReg a v) where
  tick := rfl
  otp := rfl
  regs b hb ht := s.reg_setReg_other (by rintro rfl; exact ht (h hb)) v
  staged _ _ _ := rfl
  pend k hk hs := (State.flag_of_reg (s.reg_setReg_other (pendReg_ne hk hp).symm v)).trans hs

theorem set (s : State) {f : Field} (hp : NotPending f.addr) (h : Spared f.addr → T f.addr) (v : Nat) :
    Leaves T F s (s.set f v) := setReg s hp h _

theorem fire (s : State) {src : Nat} (hsrc : src < 512) (h : PortSource src → F src) (data : Nat) :
    Leaves T F s (s.fire src data) where
  tick := s.fire_tick src data
  otp := s.fire_otp src data
  regs a ha _ := s.reg_fire_other (pendReg_ne hsrc ha.1) data
  staged k hk hf := s.staged_fire_other (by rintro rfl; exact hf (h hk)) data
  pend := (Calm.fire s hsrc data).pend

/-- A step that may write that register alone. -/
theorem set_only (s : State) {f : Field} (hp : NotPending f.addr) (v : Nat) :
    Leaves (fun a => a = f.addr) F s (s.set f v) := set s (T := fun a => a = f.addr) hp (fun _ => rfl) v

/-- A step that may fire that source alone. -/
theorem fire_only (s : State) {src : Nat} (hsrc : src < 512) (data : Nat) :
    Leaves T (fun k => k = src) s (s.fire src data) := fire s (F := fun k => k = src) hsrc (fun _ => rfl) data

theorem get (h : Leaves T F s t) {f : Field} (ha : Spared f.addr) (ht : ¬ T f.addr) : t.get f = s.get f :=
  State.get_of_reg (h.regs _ ha ht)

theorem flag (h : Leaves T F s t) {f : Field} (ha : Spared f.addr) (ht : ¬ T f.addr) : t.flag f = s.flag f :=
  State.flag_of_reg (h.regs _ ha ht)

theorem ports (h : Leaves T F s t) : t.ports = s.ports := by simp only [State.ports, h.otp]

theorem mode (h : Leaves T F s t) (ht : ¬ T a_SYS_MODESTAT) : t.mode = s.mode :=
  h.get (f := SYS_MODESTAT_MODE) (by decide) ht

theorem domOn (h : Leaves T F s t) (ht : ¬ T a_PWR_STAT) (d : Nat) : t.domOn d = s.domOn d :=
  congrArg (bitN · d) (h.get (f := PWR_STAT_ON) (by decide) ht)

theorem sourceOn (h : Leaves T F s t) (ht : ¬ T a_PWR_STAT) (src : Nat) : t.sourceOn src = s.sourceOn src :=
  State.sourceOn_congr (h.regs _ (by decide) ht) h.otp src

theorem profile (h : Leaves T F s t) {n : Nat} (hn : n < 16) (ht : ¬ T (a_PRT_PROFILE n)) : t.profile n = s.profile n :=
  h.get (f := PRT_PROFILE_ACT n) (by
    simp only [Spared, NotPending, PRT_PROFILE_ACT, a_PRT_PROFILE, a_MAC_CTCNT, a_MAC_NOACKCNT, f1]; omega) ht

/-- What has fired stays so. -/
theorem fired {data src : Nat} (h : Leaves T F t u) (k : fired s t src data) (hsrc : src < 512) (hp : PortSource src)
    (hf : ¬ F src) : Machine.fired s u src data :=
  ⟨h.pend src hsrc k.1, (h.staged src hp hf).trans k.2⟩

/-- A source of a port fires after what has left it. -/
theorem fired_fire (h : Leaves T F s t) {src : Nat} (hp : PortSource src) (hf : ¬ F src) (ht : ¬ T a_PWR_STAT)
    (hon : s.sourceOn src = true) (data : Nat) : Machine.fired s (t.fire src data) src data :=
  State.fired_fire_of ((h.sourceOn ht src).trans hon) h.tick (h.staged src hp hf) data

end
end Leaves

/-- The source of event `k` of a port is one of a port, and it can fire where the port is present and on (R67). -/
theorem portSource_esPort {n k : Nat} (hn : n < 16) (hk : k < 8) : PortSource (esPort n k) := by
  unfold esPort
  omega

theorem esPort_lt {n k : Nat} (hn : n < 16) (hk : k < 8) : esPort n k < 512 := by
  unfold esPort
  omega

theorem esPort_inj {m n j k : Nat} (hj : j < 8) (hk : k < 8) : esPort m j = esPort n k ↔ m = n ∧ j = k := by
  unfold esPort
  omega

theorem State.sourceOn_esPort {s : State} {n k : Nat} (hn : n < s.ports) (hk : k < 7) (hon : s.domOn (dPair n) = true) :
    s.sourceOn (esPort n k) = true := by
  have h16 : n < 16 := Nat.lt_of_lt_of_le hn s.ports_le
  have hdom : sourceDomain (esPort n k) = dPair n := by
    unfold sourceDomain esPort
    rw [if_neg (by omega), if_neg (by omega), if_neg (by omega), if_neg (by omega), if_neg (by omega), if_neg (by omega),
      if_pos (by omega), if_neg (by omega)]
    congr 1
    omega
  have hport : sourcePort (esPort n k) = some n := by
    unfold sourcePort esPort
    rw [if_neg (by omega), if_neg (by omega), if_pos (by omega)]
    congr 1
    omega
  simp [State.sourceOn, hdom, hport, hon, hn]

end Sys2Proof.Machine

/-! SUPPORT. What the end of a reception leaves (R141), over `Leaves`. -/

namespace Sys2Proof.Machine

/-- A register of port `n` that the end of a reception writes: PRT_RXSTAT, PRT_RXOFS, PRT_RXSOFS and PRT_RXFAIL. -/
abbrev RxReg (n a : Nat) : Prop :=
  a = a_PRT_RXSTAT n ∨ a = a_PRT_RXOFS n ∨ a = a_PRT_RXSOFS n ∨ ∃ j, j < 16 ∧ a = a_PRT_RXFAIL n j

/-- From `s` to `t` receptions have ended: over `Leaves`, the frames of the queues are as they were but for the mark of a
relay cut short, and so are the transmit FIFOs, the bounds of the dwell accounting and RELAYED. -/
structure Received (T F : Nat → Prop) (s t : State) : Prop extends Leaves T F s t where
  frames : ∀ q id g, s.frameOf q id = some g → ∃ p, t.frameOf q id = some { g with poison := p }
  arc : ∀ i, i % 2 = 1 → t.arcOf i = s.arcOf i
  dwell : t.mac.dwell = s.mac.dwell
  relayed : t.get MAC_CTCNT_RELAYED = s.get MAC_CTCNT_RELAYED

theorem State.frameOf_congr {s t : State} (h : t.blv.frames = s.blv.frames) (q id : Nat) :
    t.frameOf q id = s.frameOf q id := by
  simp only [State.frameOf, State.framesOf, h]

theorem State.arcOf_congr {s t : State} (h : t.arc = s.arc) (i : Nat) : t.arcOf i = s.arcOf i := by
  simp only [State.arcOf, h]

theorem State.arcOf_setArc_other (s : State) {i j : Nat} (h : j ≠ i) (a : ArcSt) : (s.setArc i a).arcOf j = s.arcOf j :=
  look_store_other _ _ h _ _

namespace Received

section
variable {T F : Nat → Prop} {s t u : State}

/-- A step that keeps the frames, the FIFOs and the MAC. -/
theorem of_leaves (h : Leaves T F s t) (hframes : t.blv.frames = s.blv.frames := by rfl) (harc : t.arc = s.arc := by rfl)
    (hdwell : t.mac.dwell = s.mac.dwell := by rfl)
    (hrelayed : t.get MAC_CTCNT_RELAYED = s.get MAC_CTCNT_RELAYED := by rfl) : Received T F s t :=
  ⟨h, fun q id g hg => ⟨g.poison, (State.frameOf_congr hframes q id).trans hg⟩, fun i _ => State.arcOf_congr harc i,
    hdwell, hrelayed⟩

theorem refl (s : State) : Received T F s s := of_leaves (.refl s)

theorem trans (h : Received T F s t) (k : Received T F t u) : Received T F s u where
  toLeaves := h.toLeaves.trans k.toLeaves
  frames q id g hg := by
    obtain ⟨p, hp⟩ := h.frames q id g hg
    obtain ⟨p', hp'⟩ := k.frames q id _ hp
    exact ⟨p', hp'⟩
  arc i hi := (k.arc i hi).trans (h.arc i hi)
  dwell := k.dwell.trans h.dwell
  relayed := k.relayed.trans h.relayed

/-- What every such step keeps, whatever it may write. -/
theorem any (h : Received T F s t) : Received (fun _ => True) (fun _ => True) s t :=
  ⟨⟨h.tick, h.otp, fun _ _ hf => absurd trivial hf, fun _ _ hf => absurd trivial hf, h.pend⟩, h.frames, h.arc, h.dwell,
    h.relayed⟩

theorem ite {a b : State} {c : Prop} [Decidable c] (h : Received T F s a) (k : Received T F s b) :
    Received T F s (if c then a else b) := by
  split <;> assumption

theorem set (s : State) {f : Field} (hp : NotPending f.addr) (h : Spared f.addr → T f.addr) (hne : f.addr ≠ a_MAC_CTCNT)
    (v : Nat) : Received T F s (s.set f v) :=
  of_leaves (.set s hp h v) (hrelayed := s.get_set_addr (g := MAC_CTCNT_RELAYED) hne.symm v)

theorem fire (s : State) {src : Nat} (hsrc : src < 512) (h : PortSource src → F src) (data : Nat) :
    Received T F s (s.fire src data) := by
  have hrest := s.onlyRegsSq_fire src data
  exact of_leaves (.fire s hsrc h data) (by rw [hrest]) (by rw [hrest]) (by rw [hrest])
    (s.get_fire_other (g := MAC_CTCNT_RELAYED) (.inl (pendReg_ne hsrc (by decide))) data)

/-! ## The receive FIFO (R268 to R275) -/

theorem setArc (s : State) {i : Nat} (hi : i % 2 = 0) (a : ArcSt) : Received T F s (s.setArc i a) where
  toLeaves := .other
  frames q id g hg := ⟨g.poison, hg⟩
  arc j hj := s.arcOf_setArc_other (by omega) a
  dwell := rfl
  relayed := rfl

theorem arcFire (s : State) {i : Nat} (hi : i < 40) (bit : Nat) : Received T F s (s.arcFire i bit) := by
  have hsrc : ¬ PortSource (336 + i) := by omega
  have hfire : Received T F s (s.fire (336 + i) bit) := fire s (by omega) (absurd · hsrc) bit
  have hput : ∀ r, Leaves T F s { s with sq.staged := put (336 + i) r s.sq.staged } := fun r =>
    ⟨rfl, rfl, fun _ _ _ => rfl, fun k hk _ => by
      show find (put (336 + i) r s.sq.staged) k = _
      rw [find_put, if_neg (by rintro rfl; exact hsrc hk)], .refl s⟩
  unfold State.arcFire
  split
  · exact ite (of_leaves (hput _)) hfire
  · exact hfire

theorem arcHandOver (s : State) {i : Nat} (hi : i < 40) (heven : i % 2 = 0) : Received T F s (s.arcHandOver i) := by
  unfold State.arcHandOver
  exact ite (ite ((setArc s heven _).trans (arcFire _ hi 1)) (setArc s heven _)) (refl s)

theorem arcOpen (s : State) {i : Nat} (hi : i < 40) (heven : i % 2 = 0) : Received T F s (s.arcOpen i) := by
  have hroom : Received T F s (if s.arcRoom i then s else s.arcHandOver i) := ite (refl s) (arcHandOver s hi heven)
  unfold State.arcOpen
  exact ite (setArc s heven _) (ite (hroom.trans (setArc _ heven _)) (ite hroom (hroom.trans (setArc _ heven _))))

/-- A count of a FIFO is none of the spared registers. -/
theorem bumpArcCount (s : State) {f : Field} (h : 0x70000 ≤ f.addr ∧ f.addr < 0x80000) (k : Nat) :
    Received T F s (s.bump f k) := by
  have hnot : ¬ Spared f.addr := by simp only [Spared, f1]; omega
  exact set s (by simp only [NotPending, f1]; omega) (absurd · hnot) (by simp only [a_MAC_CTCNT]; omega) _

theorem arcRewind (s : State) {i : Nat} (hi : i < 40) (heven : i % 2 = 0) : Received T F s (s.arcRewind i) := by
  unfold State.arcRewind
  refine ite ((setArc s heven _).trans (bumpArcCount _ (f := ARC_CNT_REWIND i) ?_ 1)) (setArc s heven _)
  simp only [ARC_CNT_REWIND, a_ARC_CNT]
  omega

/-! ## The end of a frame (R141) -/

theorem rxOpenNext (s : State) {n : Nat} (hn : n < 16) : Received T F s (s.rxOpenNext n) :=
  ite (refl s) (arcOpen s (by omega) (by omega))

end
end Received

/-- A frame as the end of the reception that it relays marks it. -/
def markPoison (id : Nat) (f : TxFrame) : TxFrame := if f.relayOf = some id then { f with poison := true } else f

theorem markPoison_eq (id : Nat) (f : TxFrame) : ∃ p, markPoison id f = { f with poison := p } := by
  unfold markPoison
  split
  · exact ⟨true, rfl⟩
  · exact ⟨f.poison, rfl⟩

theorem find_map_snd {α β : Type} (g : α → β) (t : Tab α) (k : Nat) :
    find (t.map (fun e => (e.1, g e.2))) k = (find t k).map g := by
  induction t with
  | nil => rfl
  | cons e r ih => simp only [List.map_cons, find]; split <;> [rfl; exact ih]

/-- The queues of a table whose frames are all marked. -/
theorem look_map_frames (mark : TxFrame → TxFrame) (t : Tab (List TxFrame)) (q : Nat) :
    look [] (t.map (fun e => (e.1, e.2.map mark))) q = (look [] t q).map mark := by
  unfold look
  rw [find_map_snd (fun l : List TxFrame => l.map mark)]
  cases find t q <;> rfl

theorem find?_map_markPoison (id k : Nat) (l : List TxFrame) :
    (l.map (markPoison id)).find? (fun f => f.id == k) = (l.find? (fun f => f.id == k)).map (markPoison id) := by
  have hid : ((fun f : TxFrame => f.id == k) ∘ markPoison id) = fun f => f.id == k := by
    funext f
    obtain ⟨p, hp⟩ := markPoison_eq id f
    simp only [Function.comp_apply, hp]
  rw [List.find?_map, hid]

namespace Received

section
variable {T F : Nat → Prop}

theorem poisonFrames (s : State) (id : Nat) : Received T F s
    { s with blv.frames := s.blv.frames.map (fun (e : Nat × List TxFrame) => (e.1, e.2.map (markPoison id))) } where
  toLeaves := .other
  frames q k g hg := by
    obtain ⟨p, hp⟩ := markPoison_eq id g
    refine ⟨p, ?_⟩
    unfold State.frameOf State.framesOf
    rw [look_map_frames, find?_map_markPoison]
    exact (congrArg (Option.map (markPoison id)) hg).trans (congrArg some hp)
  arc _ _ := rfl
  dwell := rfl
  relayed := rfl

/-- The count of relays cut short stands beside RELAYED. -/
theorem bumpPoisoned (s : State) : Received T F s (s.bump MAC_CTCNT_POISONED) :=
  of_leaves (.set s (f := MAC_CTCNT_POISONED) (by decide) (absurd · (by decide)) _)
    (hrelayed := s.get_set_bits (f := MAC_CTCNT_POISONED) (g := MAC_CTCNT_RELAYED) (.inr (by decide)) _)

theorem poisonRelay (s : State) (id : Nat) : Received T F s (s.poisonRelay id) := by
  unfold State.poisonRelay
  exact ite ((poisonFrames s id).trans (bumpPoisoned _)) (refl s)

theorem latchOffsets (s : State) {n : Nat} (hn : n < 16) (hT : ∀ a, RxReg n a → T a) (a : Acq) :
    Received T F s (s.latchOffsets n a) := by
  refine (set s (f := PRT_RXOFS_FOFS n) ?_ (fun _ => hT _ (.inr (.inl rfl))) ?_ _).trans
    (set _ (f := PRT_RXSOFS_SOFS n) ?_ (fun _ => hT _ (.inr (.inr (.inl rfl)))) ?_ _) <;>
    simp only [PRT_RXOFS_FOFS, PRT_RXSOFS_SOFS, a_PRT_RXOFS, a_PRT_RXSOFS, NotPending, a_MAC_CTCNT, f1] <;> omega

theorem dropBlocks (s : State) (n id : Nat) : Received T F s (s.dropBlocks n id) :=
  ((of_leaves .other).trans (set _ (f := GRP_DECSTAT_WAIT) (by decide) (absurd · (by decide)) (by decide) _)).trans
    (set _ (f := GRP_DECSTAT_PEAK) (by decide) (absurd · (by decide)) (by decide) _)

theorem dropAcq (s : State) (n id : Nat) : Received T F s (s.dropAcq n id) := of_leaves .other

theorem busyNow (s : State) (n : Nat) : Received T F s (s.busyNow n) := of_leaves .other

theorem setRxState (s : State) {n : Nat} (hn : n < 16) (hT : T (a_PRT_RXSTAT n)) (v : Nat) :
    Received T F s (s.setRxState n v) := by
  refine trans ?_ (set _ (f := PRT_RXSTAT_STATE n) ?_ (fun _ => hT) ?_ v)
  · exact ite (of_leaves .other) (refl s)
  · simp only [PRT_RXSTAT_STATE, a_PRT_RXSTAT, NotPending, f1]; omega
  · simp only [PRT_RXSTAT_STATE, a_PRT_RXSTAT, a_MAC_CTCNT]; omega

theorem rxEnd (s : State) {n reason : Nat} (hn : n < 16) (hr : reason < 16) (hT : ∀ a, RxReg n a → T a) (a : Acq) :
    Received T F s (s.rxEnd n a reason) := by
  unfold State.rxEnd
  extract_lets p current owner s1 s2 s3
  have h1 : Received T F s s1 := ((ite (latchOffsets s hn hT a) (refl s)).trans (dropBlocks _ n a.id)).trans (dropAcq _ n a.id)
  have h2 : Received T F s s2 := ite ((h1.trans (arcRewind s1 (by omega) (by omega))).trans (rxOpenNext _ hn)) h1
  have hfail : Received T F s2 (s2.bump (PRT_RXFAIL_COUNT n reason)) := by
    refine set s2 (f := PRT_RXFAIL_COUNT n reason) ?_ (fun _ => hT _ (.inr (.inr (.inr ⟨reason, hr, rfl⟩)))) ?_ _ <;>
      simp only [PRT_RXFAIL_COUNT, a_PRT_RXFAIL, NotPending, a_MAC_CTCNT, f1] <;> omega
  have h3 : Received T F s s3 := (h2.trans hfail).trans (poisonRelay _ a.id)
  exact ite ((h3.trans (setRxState s3 hn (hT _ (.inl rfl)) _)).trans (busyNow _ n)) h3

theorem rxFail (s : State) {n reason : Nat} (hn : n < 16) (hr : reason < 16) (hT : ∀ a, RxReg n a → T a)
    (hF : F (esPort n 2)) (a : Acq) : Received T F s (s.rxFail n a reason) :=
  (rxEnd s hn hr hT a).trans (fire _ (esPort_lt hn (by decide)) (fun _ => hF) reason)

theorem rxAbandonCur (s : State) {n reason : Nat} (hn : n < 16) (hr : reason < 16) (hT : ∀ a, RxReg n a → T a)
    (hF : F (esPort n 2)) : Received T F s (s.rxAbandonCur n reason) := by
  unfold State.rxAbandonCur
  split
  · exact rxFail s hn hr hT hF _
  · exact refl s

/-- R136: BLANKED. -/
theorem rxBlank (s : State) {n reason : Nat} (hn : n < 16) (hr : reason < 16) (hT : ∀ m, m < 16 → ∀ a, RxReg m a → T a)
    (hF : ∀ m, m < 16 → F (esPort m 2)) : Received T F s (s.rxBlank n reason) := by
  have hhome : s.rxHome n < 16 := by
    unfold State.rxHome
    split <;> omega
  exact ite ((rxAbandonCur s hhome hr (hT _ hhome) (hF _ hhome)).trans (setRxState _ hn (hT n hn _ (.inl rfl)) _)) (refl s)

end
end Received
end Sys2Proof.Machine

/-! SUPPORT. The line driver and the start of a frame on the line (R136, R156, R168), over `Received`. -/

namespace Sys2Proof.Machine

/-! ## What the driver's book-keeping leaves -/

/-- From `s` to `t` only registers and the transmitters have changed, and on every line the same frame. -/
structure Driven (T F : Nat → Prop) (s t : State) : Prop extends Received T F s t where
  rest : t = { s with regs := t.regs, tx := t.tx }
  air : ∀ m, (t.txPort m).air = (s.txPort m).air

theorem State.txPort_setTxPort_other (s : State) {n m : Nat} (h : m ≠ n) (p : TxPort) :
    (s.setTxPort n p).txPort m = s.txPort m := look_store_other _ _ h _ _

theorem State.air_setTxPort (s : State) {n : Nat} {p : TxPort} (h : p.air = (s.txPort n).air) (m : Nat) :
    ((s.setTxPort n p).txPort m).air = (s.txPort m).air := by
  by_cases hm : m = n
  · rw [hm, s.txPort_setTxPort, h]
  · rw [s.txPort_setTxPort_other hm]

theorem notPending_LDCTL {n : Nat} (hn : n < 16) : NotPending (a_PRT_LDCTL n) := by
  simp only [NotPending, a_PRT_LDCTL, f1]
  omega

/-! ## What a line carries as a frame leaves its queue -/

theorem State.txPort_congr {s t : State} (h : t.tx = s.tx) (n : Nat) : t.txPort n = s.txPort n := by
  simp only [State.txPort, h]

theorem State.forget_air (s : State) (q id m : Nat) : ((s.forget q id).txPort m).air = (s.txPort m).air := by
  unfold State.forget
  refine forN_induct (P := fun t : State => (t.txPort m).air = (s.txPort m).air) rfl fun k _ t h => ?_
  refine (State.air_setTxPort t ?_ m).trans h
  rfl

theorem State.unlinkCounts_tx (s : State) (q : Nat) (f : TxFrame) : (s.unlinkCounts q f).tx = s.tx := by
  obtain ⟨v, k, h⟩ := s.unlinkCounts_only q f
  rw [h]

theorem State.returnTx_tx (s : State) (retained : Bool) (k : Nat) (c : Option Compl) (flush : Bool) :
    (s.returnTx retained k c flush).tx = s.tx := by
  unfold State.returnTx
  cases retained <;> rfl

theorem State.completeTx_air (s : State) (q : Nat) (f : TxFrame) (status m : Nat) :
    ((s.completeTx q f status).txPort m).air = (s.txPort m).air := by
  unfold State.completeTx
  extract_lets s1 s2
  have hcounts : (s1.unlinkCounts q f).tx = s.tx := s1.unlinkCounts_tx q f
  rw [State.txPort_congr (s2.returnTx_tx _ _ _ _), State.forget_air, State.txPort_congr hcounts]

namespace Driven

section
variable {T F : Nat → Prop} {s t u : State}

theorem refl (s : State) : Driven T F s s := ⟨.refl s, rfl, fun _ => rfl⟩

theorem trans (h : Driven T F s t) (k : Driven T F t u) : Driven T F s u :=
  ⟨h.toReceived.trans k.toReceived, by rw [k.rest, h.rest], fun m => (k.air m).trans (h.air m)⟩

theorem ite {a b : State} {c : Prop} [Decidable c] (h : Driven T F s a) (k : Driven T F s b) :
    Driven T F s (if c then a else b) := by
  split <;> assumption

theorem forN {n : Nat} {f : Nat → State → State} (hf : ∀ k, k < n → ∀ t, Driven T F t (f k t)) (s : State) :
    Driven T F s (forN n f s) :=
  forN_induct (P := Driven T F s) (refl s) fun k hk t h => h.trans (hf k hk t)

/-- A field of PRT_LDCTL. -/
theorem setLdctl (s : State) {n : Nat} (hn : n < 16) (hT : T (a_PRT_LDCTL n)) {f : Field} (hf : f.addr = a_PRT_LDCTL n)
    (v : Nat) : Driven T F s (s.set f v) :=
  ⟨.set s (hf ▸ notPending_LDCTL hn) (fun _ => hf ▸ hT) (by rw [hf]; simp only [a_PRT_LDCTL, a_MAC_CTCNT]; omega) v, rfl,
    fun _ => rfl⟩

theorem setTxPort (s : State) {n : Nat} {p : TxPort} (h : p.air = (s.txPort n).air) : Driven T F s (s.setTxPort n p) :=
  ⟨.of_leaves .other, rfl, s.air_setTxPort h⟩

theorem addOn (s : State) (n k a b : Nat) : Driven T F s (s.addOn n k a b) := setTxPort s rfl

theorem addOnTime (s : State) (n lo hi a b : Nat) : Driven T F s (s.addOnTime n lo hi a b) :=
  forN (f := fun k t => if s.touches k lo hi then t.addOn n k a b else t) (fun k _ t => ite (addOn t n k a b) (refl t)) s

theorem trimOn (s : State) (n k a b e : Nat) : Driven T F s (s.trimOn n k a b e) := by
  unfold State.trimOn
  extract_lets p l runs
  exact ite (setTxPort s rfl) (refl s)

theorem trimOnTime (s : State) (n a b e : Nat) : Driven T F s (s.trimOnTime n a b e) :=
  forN (fun k _ t => trimOn t n k a b e) s

theorem refreshLd (s : State) {n : Nat} (hn : n < 16) (hT : T (a_PRT_LDCTL n)) : Driven T F s (s.refreshLd n) := by
  unfold State.refreshLd
  extract_lets want s1
  have hhold : Driven T F s s1 := setLdctl s hn hT (f := PRT_LDCTL_BURHOLD n) rfl _
  exact ite hhold ((hhold.trans (setLdctl s1 hn hT (f := PRT_LDCTL_LDEN n) rfl _)).trans (setTxPort _ rfl))

end
end Driven

/-! ## The driver is ready or is asserted -/

theorem State.flag_set_b2n (s : State) {f : Field} (h : f.lo + f.w ≤ 32) (hw : f.w = 1) (b : Bool) :
    (s.set f (b2n b)).flag f = b := by
  cases b
  · exact s.flag_set_zero h
  · exact s.flag_set_one h hw

/-- BURHOLD stands beside LDEN. -/
theorem State.flag_lden_burhold (s : State) (n v : Nat) :
    (s.set (PRT_LDCTL_BURHOLD n) v).flag (PRT_LDCTL_LDEN n) = s.flag (PRT_LDCTL_LDEN n) := by
  unfold State.flag
  rw [s.get_set_bits (f := PRT_LDCTL_BURHOLD n) (g := PRT_LDCTL_LDEN n) (.inr (by show 23 + 1 ≤ 25; omega)) v]

theorem State.flag_lden_set (s : State) (n : Nat) (want : Bool) (p : TxPort) :
    ((s.set (PRT_LDCTL_LDEN n) (b2n want)).setTxPort n p).flag (PRT_LDCTL_LDEN n) = want :=
  (State.flag_of_reg (State.reg_congr (s := s.set (PRT_LDCTL_LDEN n) (b2n want)) rfl _)).trans
    (s.flag_set_b2n (f := PRT_LDCTL_LDEN n) (by show 23 + 1 ≤ 32; omega) rfl want)

/-- LDEN is as the state of the port wants it. -/
theorem State.flag_refreshLd_lden (s : State) (n : Nat) : (s.refreshLd n).flag (PRT_LDCTL_LDEN n) = s.ldWant n := by
  unfold State.refreshLd
  extract_lets want s1
  by_cases h : want = s.flag (PRT_LDCTL_LDEN n)
  · rw [if_pos h, State.flag_lden_burhold, h.symm]
  · rw [if_neg h, State.flag_lden_set]

/-! ## The start of a frame on the line -/

/-- A register of a port that the start of a frame on a line writes beside PRT_TXCNT. -/
abbrev LaunchReg (a : Nat) : Prop := ∃ m, m < 16 ∧ (RxReg m a ∨ a = a_PRT_LDCTL m)

/-- The source of a failed reception of a port. -/
abbrev FailSource (k : Nat) : Prop := ∃ m, m < 16 ∧ k = esPort m 2

theorem launchReg_lt {a : Nat} (h : LaunchReg a) : 0x100000 ≤ a ∧ a < 0x180000 ∧ 0x404 ≤ a % 0x8000 ∧
    a % 0x8000 < 0x720 := by
  simp only [LaunchReg, RxReg, a_PRT_RXSTAT, a_PRT_RXOFS, a_PRT_RXSOFS, a_PRT_RXFAIL, a_PRT_LDCTL] at h
  obtain ⟨m, hm, (h | h | h | ⟨j, hj, h⟩) | h⟩ := h <;> omega

/-- Every register of a port is spared. -/
theorem spared_port {b : Nat} (h : 0x100000 ≤ b ∧ b < 0x180000) : Spared b := by
  simp only [Spared, NotPending, a_MAC_CTCNT, a_MAC_NOACKCNT, f1]
  omega

theorem State.rxState_setRxState (s : State) (n : Nat) {v : Nat} (hv : v < 8) : (s.setRxState n v).rxState n = v :=
  (State.get_set_same _ (f := PRT_RXSTAT_STATE n) (by show 0 + 3 ≤ 32; omega) v).trans (Nat.mod_eq_of_lt hv)

theorem State.rxState_rxBlank {s : State} {n : Nat} (h : s.rxOn n = true) (reason : Nat) :
    (s.rxBlank n reason).rxState n = rBLANKED := by
  unfold State.rxBlank
  rw [if_pos h]
  exact State.rxState_setRxState _ n (by decide)

/-- What the present truncation leaves of a frame on the line. -/
structure SameFrame (a b : Air) : Prop where
  kind : b.kind = a.kind
  start : b.start = a.start
  full : b.full = a.full
  mode : b.mode = a.mode
  aw : b.aw = a.aw
  grouped : b.grouped = a.grouped

theorem SameFrame.refl (a : Air) : SameFrame a a := ⟨rfl, rfl, rfl, rfl, rfl, rfl⟩

/-- R158: the truncation in force may end the frame earlier; it writes nothing else. -/
theorem State.retrunc_cases {s : State} {n : Nat} {a : Air} (h : (s.txPort n).air = some a) :
    s.retrunc n = s ∨ ∃ b, SameFrame a b ∧ s.retrunc n = s.setTxPort n { s.txPort n with air := some b } := by
  unfold State.retrunc
  rw [h]
  refine (ite_eq_or_eq _ _ _).imp id fun hb => ⟨_, ?_, hb⟩
  split <;> exact ⟨rfl, rfl, rfl, rfl, rfl, rfl⟩

/-- From `s` to `t` port `n` has put frame `a` on its line, and source 4 of the port has fired with `data`. -/
structure Launched (s t : State) (n : Nat) (a : Air) (data : Nat) : Prop where
  air : ∃ b, (t.txPort n).air = some b ∧ SameFrame a b ∧ (s.dwFresh = false → b.stop = a.stop ∧ b.outcome = a.outcome)
  count : t.get (PRT_TXCNT_COUNT n) = satAdd 32 (s.get (PRT_TXCNT_COUNT n)) 1
  event : fired s t (esPort n 4) data
  state : s.rxOn n = true → t.rxState n = rBLANKED
  frames : ∀ q id g, s.frameOf q id = some g → ∃ p, t.frameOf q id = some { g with poison := p }
  arc : ∀ i, i % 2 = 1 → t.arcOf i = s.arcOf i
  relayed : t.get MAC_CTCNT_RELAYED = s.get MAC_CTCNT_RELAYED

theorem State.rxHome_lt {s : State} {n : Nat} (hn : n < 16) : s.rxHome n < 16 := by
  unfold State.rxHome
  split <;> omega

theorem RxEnded.setRxState (s : State) (n v : Nat) : RxEnded s (s.setRxState n v) := by
  refine trans ?_ (set _ (f := PRT_RXSTAT_STATE n) (by simp only [RxSpared, PRT_RXSTAT_STATE, a_PRT_RXSTAT]; omega) _)
  exact ite other (refl s)

/-- R136: BLANKED leaves transmitters and bursts as they are. -/
theorem RxEnded.rxBlank (s : State) {n reason : Nat} (hn : n < 16) (hr : reason < 16) : RxEnded s (s.rxBlank n reason) :=
  ite ((rxAbandonCur s (State.rxHome_lt hn) hr).trans (setRxState _ n rBLANKED)) (refl s)

theorem State.dwFresh_congr {s t : State} (hdwell : t.mac.dwell = s.mac.dwell) (htick : t.tick = s.tick) :
    t.dwFresh = s.dwFresh := by
  simp only [State.dwFresh, hdwell, htick]

theorem Leaves.rxOn {T F : Nat → Prop} {s t : State} (h : Leaves T F s t) {n : Nat} (hn : n < 16)
    (hmode : ¬ T a_SYS_MODESTAT) (hstat : ¬ T a_PWR_STAT) (hprofile : ¬ T (a_PRT_PROFILE n)) : t.rxOn n = s.rxOn n := by
  simp only [State.rxOn, h.ports, h.domOn hstat, h.mode hmode, h.profile hn hprofile]

/-- Neither a launch nor a tail of the driver is planned any more. -/
def State.unplan (s : State) (n : Nat) : State :=
  s.setTxPort n { s.txPort n with ldPlan := false, ldTail := none }

/-- R136, R156, R168: the port of a frame that starts: BLANKED, its on-time counted, its driver held. -/
def State.lineTaken (s : State) (n : Nat) (a : Air) : State :=
  (((s.rxBlank n fRESET).addOnTime n a.lo a.hi a.start a.stop).unplan n).refreshLd n

/-- The state in which source 4 fires for the frame. -/
def State.onAir (s : State) (n : Nat) (a : Air) : State :=
  (s.setTxPort n { s.txPort n with air := some a }).bump (PRT_TXCNT_COUNT n)

theorem forEach_single {α σ : Type} (a : α) (f : α → σ → σ) (s : σ) : forEach [a] f s = f a s := by
  rw [forEach, forEach]

theorem framePorts_single (n : Nat) : framePorts n false = [n] := rfl

theorem State.airBegin_single (s : State) {n : Nat} {a : Air} (h : a.grouped = false) (data : Nat) :
    s.airBegin n a data =
      let t := ((s.onAir n a).fire (esPort n 4) data).lineTaken n a
      if t.dwFresh then t.retrunc n else t := by
  have hports : framePorts n a.grouped = [n] := by rw [h, framePorts_single]
  unfold State.airBegin
  rw [hports]
  simp only [forEach_single]
  rfl

section
variable {T F : Nat → Prop}

theorem Driven.unplan (s : State) (n : Nat) : Driven T F s (s.unplan n) := setTxPort s rfl

/-- What follows BLANKED is book-keeping of the driver. -/
theorem Driven.lineTaken (s : State) {n : Nat} (hn : n < 16) (hT : T (a_PRT_LDCTL n)) (a : Air) :
    Driven T F (s.rxBlank n fRESET) (s.lineTaken n a) := by
  unfold State.lineTaken
  exact ((addOnTime _ n _ _ _ _).trans (unplan _ n)).trans (refreshLd _ hn hT)

theorem Received.lineTaken (s : State) {n : Nat} (hn : n < 16) (hT : ∀ b, LaunchReg b → T b) (hF : ∀ k, FailSource k → F k)
    (a : Air) : Received T F s (s.lineTaken n a) :=
  (rxBlank s hn (by decide) (fun m hm b hb => hT b ⟨m, hm, .inl hb⟩) fun m hm => hF _ ⟨m, hm, rfl⟩).trans
    (Driven.lineTaken s hn (hT _ ⟨n, hn, .inr rfl⟩) a).toReceived

theorem Received.retrunc {s : State} {n : Nat} {a : Air} (h : (s.txPort n).air = some a) :
    Received T F s (s.retrunc n) := by
  rcases State.retrunc_cases h with hsame | ⟨b, -, hb⟩
  · rw [hsame]
    exact refl s
  · rw [hb]
    exact of_leaves .other

theorem Received.onAir (s : State) {n : Nat} (hn : n < 16) (hT : T (a_PRT_TXCNT n)) (a : Air) :
    Received T F s (s.onAir n a) := by
  refine (of_leaves .other).trans (set _ (f := PRT_TXCNT_COUNT n) ?_ (fun _ => hT) ?_ _) <;>
    simp only [PRT_TXCNT_COUNT, a_PRT_TXCNT, NotPending, a_MAC_CTCNT, f1] <;> omega

end

theorem State.lineTaken_air (s : State) {n : Nat} (hn : n < 16) (a : Air) (m : Nat) :
    ((s.lineTaken n a).txPort m).air = (s.txPort m).air := by
  have hdriven : Driven (fun _ => True) (fun _ => True) (s.rxBlank n fRESET) (s.lineTaken n a) := .lineTaken s hn trivial a
  have htx : (s.rxBlank n fRESET).tx = s.tx := by rw [(RxEnded.rxBlank s hn (reason := fRESET) (by decide)).rest]
  exact (hdriven.air m).trans (congrArg TxPort.air (State.txPort_congr htx m))

/-- R136: the receiver of the port. -/
theorem State.lineTaken_rxState {s : State} {n : Nat} (hn : n < 16) (hon : s.rxOn n = true) (a : Air) :
    (s.lineTaken n a).rxState n = rBLANKED := by
  have hdriven : Driven (fun b => b = a_PRT_LDCTL n) (fun _ => False) (s.rxBlank n fRESET) (s.lineTaken n a) :=
    .lineTaken s hn (T := fun b => b = a_PRT_LDCTL n) rfl a
  refine Eq.trans (hdriven.get (f := PRT_RXSTAT_STATE n) (spared_port ?_) ?_) (State.rxState_rxBlank hon fRESET) <;>
    simp only [PRT_RXSTAT_STATE, a_PRT_RXSTAT, a_PRT_LDCTL] <;> omega

theorem launchReg_not {b : Nat} (h : b < 0x100000 ∨ b % 0x8000 < 0x404 ∨ 0x720 ≤ b % 0x8000) : ¬ LaunchReg b := fun hb => by
  have := launchReg_lt hb
  omega

/-- The state after source 4 has fired, with the frame on the line. -/
theorem State.onAir_fire_air (s : State) (n : Nat) (a : Air) (src data : Nat) :
    (((s.onAir n a).fire src data).txPort n).air = some a := by
  have hfire : ((s.onAir n a).fire src data).tx = (s.onAir n a).tx := by rw [State.onlyRegsSq_fire (s.onAir n a) src data]
  simp only [State.txPort, hfire]
  exact congrArg TxPort.air (s.txPort_setTxPort n _)

/-- R158: the frame on the line once the truncation is looked for where dwell is counted in this tick. -/
theorem State.retrunc_frame {s : State} {n : Nat} {a : Air} (h : (s.txPort n).air = some a) :
    ∃ b, ((if s.dwFresh then s.retrunc n else s).txPort n).air = some b ∧ SameFrame a b ∧
      (s.dwFresh = false → b.stop = a.stop ∧ b.outcome = a.outcome) := by
  cases hfresh : s.dwFresh
  · exact ⟨a, h, .refl a, fun _ => ⟨rfl, rfl⟩⟩
  · rw [if_pos rfl]
    rcases State.retrunc_cases h with hsame | ⟨b, hb, hair⟩
    · exact ⟨a, by rw [hsame, h], .refl a, nofun⟩
    · exact ⟨b, by rw [hair, State.txPort_setTxPort], hb, nofun⟩

/-- R158: the start of a frame of one port puts it on the line, beside what the end of a reception may write. -/
theorem State.airBegin_received (s : State) {n : Nat} (hn : n < 16) {a : Air} (hsingle : a.grouped = false) (data : Nat) :
    Received (fun _ => True) (fun _ => True) s (s.airBegin n a data) ∧ ∃ b, ((s.airBegin n a data).txPort n).air = some b ∧
      SameFrame a b ∧ (s.dwFresh = false → b.stop = a.stop ∧ b.outcome = a.outcome) := by
  rw [s.airBegin_single hsingle]
  have hair : ((((s.onAir n a).fire (esPort n 4) data).lineTaken n a).txPort n).air = some a :=
    (State.lineTaken_air _ hn a n).trans (s.onAir_fire_air n a _ data)
  have htaken : Received (fun _ => True) (fun _ => True) s (((s.onAir n a).fire (esPort n 4) data).lineTaken n a) :=
    ((Received.onAir s hn trivial a).trans (.fire _ (esPort_lt hn (by decide)) (fun _ => trivial) data)).trans
      (.lineTaken _ hn (fun _ _ => trivial) (fun _ _ => trivial) a)
  rw [← State.dwFresh_congr htaken.dwell htaken.tick]
  exact ⟨htaken.trans (.ite (.retrunc hair) (.refl _)), State.retrunc_frame hair⟩

/-- R156, R158: what the start of a frame of one port does. -/
theorem State.airBegin_launched {s : State} {n : Nat} (hn : n < s.ports) (hon : s.domOn (dPair n) = true) {a : Air}
    (hsingle : a.grouped = false) (data : Nat) : Launched s (s.airBegin n a data) n a data := by
  have h16 : n < 16 := Nat.lt_of_lt_of_le hn s.ports_le
  let s1 := s.onAir n a
  let s2 := s1.fire (esPort n 4) data
  let t := s2.lineTaken n a
  have h1 : Received (fun b => b = a_PRT_TXCNT n) (fun _ => False) s s1 :=
    .onAir s h16 (T := fun b => b = a_PRT_TXCNT n) rfl a
  have h2 : Received (fun _ => False) (fun k => k = esPort n 4) s1 s2 :=
    .fire s1 (esPort_lt h16 (k := 4) (by decide)) (F := fun k => k = esPort n 4) (fun _ => rfl) data
  have h3 : Received LaunchReg FailSource s2 t := .lineTaken s2 h16 (fun _ => id) (fun _ => id) a
  have h4 : Received (fun _ => False) (fun _ => False) t (if t.dwFresh then t.retrunc n else t) :=
    .ite (.retrunc ((s2.lineTaken_air h16 a n).trans (s.onAir_fire_air n a _ data))) (.refl t)
  have hon2 : s2.rxOn n = s.rxOn n :=
    (h2.rxOn h16 id id id).trans (h1.rxOn h16 (by simp [a_PRT_TXCNT, a_SYS_MODESTAT]; omega) (by simp [a_PRT_TXCNT, a_PWR_STAT]; omega)
      (by simp [a_PRT_TXCNT, a_PRT_PROFILE]))
  have hcount : (if t.dwFresh then t.retrunc n else t).get (PRT_TXCNT_COUNT n) = satAdd 32 (s.get (PRT_TXCNT_COUNT n)) 1 := by
    have hsp : Spared (PRT_TXCNT_COUNT n).addr := spared_port (by simp only [PRT_TXCNT_COUNT, a_PRT_TXCNT]; omega)
    have hnot : ¬ LaunchReg (PRT_TXCNT_COUNT n).addr := launchReg_not (by simp only [PRT_TXCNT_COUNT, a_PRT_TXCNT]; omega)
    rw [h4.get hsp id, h3.get hsp hnot, h2.get hsp id]
    exact State.get_bump_same _ (f := PRT_TXCNT_COUNT n) (Nat.le_refl 32)
  have hevent : fired s (if t.dwFresh then t.retrunc n else t) (esPort n 4) data := by
    have hp : PortSource (esPort n 4) := portSource_esPort h16 (by decide)
    have hs2 : fired s s2 (esPort n 4) data := h1.fired_fire hp id (by simp only [a_PRT_TXCNT, a_PWR_STAT]; omega)
      (State.sourceOn_esPort hn (by decide) hon) data
    have hnot : ¬ FailSource (esPort n 4) := fun ⟨m, _, hm⟩ => by
      have := ((esPort_inj (by decide) (by decide)).1 hm).2
      omega
    exact h4.fired (h3.fired hs2 (esPort_lt h16 (by decide)) hp hnot) (esPort_lt h16 (by decide)) hp id
  obtain ⟨hall, hair⟩ := s.airBegin_received h16 hsingle data
  rw [s.airBegin_single hsingle] at hall hair ⊢
  exact {
    air := hair
    count := hcount
    event := hevent
    state := fun hrx => (h4.get (f := PRT_RXSTAT_STATE n) (spared_port (by simp only [PRT_RXSTAT_STATE, a_PRT_RXSTAT]; omega)) id).trans
      (State.lineTaken_rxState h16 (hon2.trans hrx) a)
    frames := hall.frames
    arc := hall.arc
    relayed := hall.relayed }

end Sys2Proof.Machine

/-! The launch of a frame (R136, R156 to R168). -/

namespace Sys2Proof.Machine

/-! ## The front packet -/

section
variable {s : State} {n : Fin 16} {q id words : Nat} {f : TxFrame}

theorem exec_frameLaunch_none (h : s.arcFront (2 * n.val + 1) = none) : exec (.frameLaunch n) s = .next s := by
  show execFrameLaunch n s = _
  unfold execFrameLaunch
  rw [h]

theorem exec_frameLaunch_ready (hfront : s.arcFront (2 * n.val + 1) = some ⟨words, .tx q id⟩)
    (hf : s.frameOf q id = some f) (hready : f.ready = true) :
    exec (.frameLaunch n) s = .next (s.txConsider n.val q f) := by
  show execFrameLaunch n s = _
  unfold execFrameLaunch
  rw [hfront]
  simp only [hf, hready, if_true]

end

/-- The frame found is the one asked for. -/
theorem State.frameOf_id {s : State} {q id : Nat} {f : TxFrame} (h : s.frameOf q id = some f) : f.id = id :=
  beq_iff_eq.1 (List.find?_some (p := fun g : TxFrame => g.id == id) h)

theorem State.frameOf_mem {s : State} {q id : Nat} {f : TxFrame} (h : s.frameOf q id = some f) : f ∈ s.framesOf q :=
  List.mem_of_find?_eq_some h

/-! ## What is looked at before (R156, R160, R161) -/

section
variable {s : State} {n q : Nat} {f : TxFrame}

/-- R161: a frame whose request is not past LATE_MAX is not too late. -/
theorem State.tooLate_false (h : f.timed = true → ∀ r, f.treq = some r →
    r ≤ s.tick ∧ s.tick ≤ r + s.get (PRT_TXCFG_LATE_MAX n) * tUs) : s.tooLate n f s.tick = false := by
  unfold State.tooLate
  cases hreq : f.treq with
  | none => rfl
  | some r =>
    cases htimed : f.timed with
    | false => rfl
    | true => simpa using (h htimed r hreq).2

/-- A frame that may not go, or is to come, stays. -/
theorem State.txConsider_stays (hjoint : s.joint n = false) (h : s.mayLaunch f = false ∨ s.txFree n = false ∨
    (f.timed = true ∧ ∃ r, f.treq = some r ∧ s.tick < r)) : s.txConsider n q f = s := by
  unfold State.txConsider
  simp only [hjoint, Bool.false_and, framePorts_single, List.all_cons, List.all_nil, Bool.and_true]
  rcases h with h | h | ⟨htimed, r, hreq, hr⟩
  · simp [h]
  · simp [h]
  · simp [htimed, hreq, hr]

/-- A frame that is due is tried on its map. -/
theorem State.txConsider_try {m x : PhyMap} (hjoint : s.joint n = false) (hmay : s.mayLaunch f = true)
    (hfree : s.txFree n = true) (hstale : s.staleAnswer f = false)
    (htime : f.timed = true → ∀ r, f.treq = some r → r ≤ s.tick ∧ s.tick ≤ r + s.get (PRT_TXCFG_LATE_MAX n) * tUs)
    (hmap : s.mapOf n q f false = (m, false, s)) (hfit : s.fitMap n false (s.lenOn n f m) m = some x) :
    s.txConsider n q f = s.txTry n q f x false := by
  unfold State.txConsider
  simp only [hjoint, Bool.false_and, framePorts_single, List.all_cons, List.all_nil, Bool.and_true, hmay, hfree, hstale,
    State.tooLate_false htime, hmap, Bool.not_true, Bool.or_self, Bool.false_eq_true, if_false, hfit]
  refine if_neg fun hwait => ?_
  obtain ⟨htimed, hearly⟩ := (Bool.and_eq_true _ _).mp hwait
  cases hreq : f.treq with
  | none => simp [hreq] at hearly
  | some r =>
    have hlate := (htime htimed r hreq).1
    simp only [hreq, decide_eq_true_eq] at hearly
    omega

/-! ## The packet leaves the FIFO -/

theorem State.arcRead_rest (s : State) (i : Nat) : s.arcRead i = { s with arc := (s.arcRead i).arc } := by
  unfold State.arcRead
  extract_lets a
  cases a.handed <;> rfl

theorem State.dropFront_rest (s : State) (n q id : Nat) :
    s.dropFront n q id = { s with arc := (s.arcRead (2 * n + 1)).arc, tx := (s.dropFront n q id).tx } := by
  have hread := s.arcRead_rest (2 * n + 1)
  unfold State.dropFront
  generalize s.arcRead (2 * n + 1) = u at hread ⊢
  rw [hread]
  rfl

theorem State.dropFront_arc (s : State) (n q id i : Nat) :
    (s.dropFront n q id).arcOf i = (s.arcRead (2 * n + 1)).arcOf i :=
  State.arcOf_congr (by rw [s.dropFront_rest]) i

theorem State.dropFront_air (s : State) (n q id m : Nat) : ((s.dropFront n q id).txPort m).air = (s.txPort m).air := by
  have htx : (s.arcRead (2 * n + 1)).tx = s.tx := by rw [s.arcRead_rest]
  refine (State.air_setTxPort (s.arcRead (2 * n + 1)) ?_ m).trans ?_
  · rfl
  · simp only [State.txPort, htx]

end

/-! ## The outcomes of the dwell checks (R158, R160) -/

section
variable {s : State} {n q : Nat} {f : TxFrame}

/-- R158, R160: what the answer of the dwell checks makes of a frame of one port. -/
def State.dwellAnswer (s : State) (n q : Nat) (f : TxFrame) (x : PhyMap) (d : DwellRes × Nat) : State :=
  match d with
  | (.refuse, band) => (s.fire (esPort n 6) (dwData band 0 2)).txRefuse n q f 4
  | (.defer t rule, band) => s.txDefer n q f t band rule
  | (.pass, _) =>
    if s.ldReady n then s.txLaunch n q f x false (s.durOf n false (s.lenOn n f x) x) else s.ldPlanLaunch n

theorem State.txTry_placed {x : PhyMap} (h : s.placed n f.cls s.tick (s.tick + s.durOf n false (s.lenOn n f x) x) = true) :
    s.txTry n q f x false = s.dwellAnswer n q f x (s.dwellAll [n] (s.rangeOf n false x).1 (s.rangeOf n false x).2 s.tick
      (s.durOf n false (s.lenOn n f x) x)) := by
  unfold State.txTry
  simp only [framePorts_single, h, Bool.not_true, Bool.false_eq_true, if_false, List.all_cons, List.all_nil,
    Bool.and_true, forEach_single]
  rfl

/-! ### A frame that leaves its FIFO without having been sent -/

theorem State.frameOf_completeTx {s : State} {q : Nat} (f : TxFrame) (status : Nat) (flush : Bool) :
    (s.completeTx q f status flush).frameOf q f.id = none := by
  unfold State.frameOf
  rw [s.completeTx_framesOf_same]
  refine List.find?_eq_none.2 fun g hg => ?_
  simpa using (List.mem_filter.1 hg).2

/-- A completed frame leaves registers and events alone. -/
theorem State.completeTx_regs (s : State) (q : Nat) (f : TxFrame) (status : Nat) :
    (s.completeTx q f status).regs = s.regs ∧ (s.completeTx q f status).sq = s.sq ∧
      (s.completeTx q f status).arc = s.arc := by
  obtain ⟨v, k, x, l, h⟩ := s.completeTx_only q f status false
  rw [h]
  exact ⟨rfl, rfl, rfl⟩

/-- The front packet depends on the FIFO alone. -/
theorem State.arcRead_arcOf_congr {s t : State} (h : t.arc = s.arc) (i j : Nat) :
    (t.arcRead i).arcOf j = (s.arcRead i).arcOf j := by
  unfold State.arcRead
  rw [State.arcOf_congr h]
  extract_lets a
  cases a.handed with
  | nil => exact State.arcOf_congr h j
  | cons p r => exact State.arcOf_congr (congrArg (store _ _ _) h) j

theorem State.txRefuse_regs (s : State) (n q : Nat) (f : TxFrame) (status : Nat) :
    (s.txRefuse n q f status).regs = s.regs ∧ (s.txRefuse n q f status).sq = s.sq := by
  obtain ⟨hregs, hsq, -⟩ := (s.dropFront n q f.id).completeTx_regs q f status
  exact ⟨hregs.trans (by rw [s.dropFront_rest]), hsq.trans (by rw [s.dropFront_rest])⟩

theorem State.txRefuse_frameOf (s : State) (n q : Nat) (f : TxFrame) (status : Nat) :
    (s.txRefuse n q f status).frameOf q f.id = none := State.frameOf_completeTx f status false

theorem State.txRefuse_air (s : State) (n q : Nat) (f : TxFrame) (status m : Nat) :
    ((s.txRefuse n q f status).txPort m).air = (s.txPort m).air :=
  (State.completeTx_air _ q f status m).trans (s.dropFront_air n q f.id m)

theorem State.txRefuse_arcOf (s : State) (n q : Nat) (f : TxFrame) (status i : Nat) :
    (s.txRefuse n q f status).arcOf i = (s.arcRead (2 * n + 1)).arcOf i := by
  obtain ⟨-, -, harc⟩ := (s.dropFront n q f.id).completeTx_regs q f status
  exact (State.arcOf_congr harc i).trans (s.dropFront_arc n q f.id i)

/-- R160: refused by a band. -/
theorem State.txRefuse_fired {n : Nat} (hn : n < s.ports) (hon : s.domOn (dPair n) = true) (q : Nat) (f : TxFrame)
    (data status : Nat) : fired s ((s.fire (esPort n 6) data).txRefuse n q f status) (esPort n 6) data := by
  obtain ⟨hregs, hsq⟩ := (s.fire (esPort n 6) data).txRefuse_regs n q f status
  exact (s.fired_fire (State.sourceOn_esPort hn (by decide) hon) data).congr (State.reg_congr hregs _)
    (by rw [hsq])

/-- The state in which a deferral has been told of, the first time. -/
def State.deferTold (s : State) (n : Nat) (f : TxFrame) (band rule : Nat) : State :=
  if f.reported then s else (s.fire (esPort n 6) (dwData band 0 rule)).bump (PRT_DWDEF_COUNT n)

/-- The frame as it is kept for tick `u`. -/
def TxFrame.deferredTo (f : TxFrame) (u : Nat) : TxFrame :=
  { f with deferred := true, reported := true, notBefore := u, ready := false }

theorem State.txDefer_eq (s : State) (n q : Nat) (f : TxFrame) (u band rule : Nat) :
    s.txDefer n q f u band rule = if s.tooLate n f u then (s.deferTold n f band rule).txLate n q f
      else ((s.deferTold n f band rule).dropFront n q f.id).setFrame q (f.deferredTo u) := rfl

theorem State.deferTold_onlyRegsSq (s : State) (n : Nat) (f : TxFrame) (band rule : Nat) :
    onlyRegsSq s (s.deferTold n f band rule) := by
  unfold State.deferTold
  cases f.reported with
  | true => exact rfl
  | false =>
    have hfire := s.onlyRegsSq_fire (esPort n 6) (dwData band 0 rule)
    unfold onlyRegsSq at hfire ⊢
    show State.bump _ _ = _
    rw [hfire]
    rfl

theorem State.deferTold_late (s : State) {n : Nat} (hn : n < 16) (f : TxFrame) (band rule : Nat) :
    (s.deferTold n f band rule).get (PRT_TXLATE_COUNT n) = s.get (PRT_TXLATE_COUNT n) := by
  have hpend : NotPending (a_PRT_TXLATE n) := (spared_port (by simp only [a_PRT_TXLATE]; omega)).1
  unfold State.deferTold
  cases f.reported with
  | true => rfl
  | false =>
    refine (State.get_set_addr (g := PRT_TXLATE_COUNT n) _ ?_ _).trans
      (s.get_fire_other (g := PRT_TXLATE_COUNT n) (.inl (pendReg_ne (esPort_lt hn (by decide)) hpend)) _)
    simp only [PRT_TXLATE_COUNT, PRT_DWDEF_COUNT, a_PRT_TXLATE, a_PRT_DWDEF]
    omega

/-- R158: the first deferral is reported and counted. -/
theorem State.deferTold_first {n : Nat} (hn : n < s.ports) (hon : s.domOn (dPair n) = true) (hf : f.reported = false)
    (band rule : Nat) : fired s (s.deferTold n f band rule) (esPort n 6) (dwData band 0 rule) ∧
      (s.deferTold n f band rule).get (PRT_DWDEF_COUNT n) = satAdd 32 (s.get (PRT_DWDEF_COUNT n)) 1 := by
  have h16 : n < 16 := Nat.lt_of_lt_of_le hn s.ports_le
  have hpend : NotPending (a_PRT_DWDEF n) := (spared_port (by simp only [a_PRT_DWDEF]; omega)).1
  have hlt : esPort n 6 < 512 := esPort_lt h16 (by decide)
  unfold State.deferTold
  rw [hf]
  refine ⟨(s.fired_fire (State.sourceOn_esPort hn (by decide) hon) _).set hlt hpend _, ?_⟩
  refine (State.get_bump_same _ (f := PRT_DWDEF_COUNT n) (Nat.le_refl 32)).trans ?_
  rw [s.get_fire_other (g := PRT_DWDEF_COUNT n) (.inl (pendReg_ne hlt hpend))]
  rfl

/-- A later one is not. -/
theorem State.deferTold_again {n : Nat} (hf : f.reported = true) (band rule : Nat) :
    (s.deferTold n f band rule).sq = s.sq := by
  unfold State.deferTold
  rw [if_pos hf]

theorem pendReg_ne_txLate (n : Fin 16) : pendReg (esPort n.val 6) ≠ a_PRT_TXLATE n.val :=
  (pendReg_ne (esPort_lt n.isLt (by decide)) (spared_port (by simp only [a_PRT_TXLATE]; omega)).1).symm

theorem dwdef_ne_txLate (n : Nat) : (PRT_DWDEF_COUNT n).addr ≠ a_PRT_TXLATE n := by
  simp only [PRT_DWDEF_COUNT, a_PRT_DWDEF, a_PRT_TXLATE]
  omega

/-- What a deferral makes of the frame and of its FIFO, over the state in which it is told. -/
theorem State.txDefer_spec {id : Nat} (hn : n < 16) (hf : s.frameOf q id = some f) (u band rule : Nat) :
    let t := s.txDefer n q f u band rule
    t.arcOf (2 * n + 1) = (s.arcRead (2 * n + 1)).arcOf (2 * n + 1) ∧ (t.txPort n).air = (s.txPort n).air ∧
      t.sq = (s.deferTold n f band rule).sq ∧
      (∀ a, a ≠ a_PRT_TXLATE n → t.reg a = (s.deferTold n f band rule).reg a) ∧
      (if s.tooLate n f u = true then t.frameOf q id = none ∧
        t.get (PRT_TXLATE_COUNT n) = satAdd 32 (s.get (PRT_TXLATE_COUNT n)) 1
      else ∃ g : TxFrame, t.frameOf q id = some g ∧ g.deferred = true ∧ g.notBefore = u ∧ g.ready = false) := by
  have hid := State.frameOf_id hf
  have htold := s.deferTold_onlyRegsSq n f band rule
  have hlate := s.deferTold_late hn f band rule
  rw [s.txDefer_eq]
  generalize s.deferTold n f band rule = v at htold hlate ⊢
  have harc : (v.arcRead (2 * n + 1)).arcOf (2 * n + 1) = (s.arcRead (2 * n + 1)).arcOf (2 * n + 1) :=
    State.arcRead_arcOf_congr (by rw [htold]) _ _
  have htx : v.txPort n = s.txPort n := State.txPort_congr (by rw [htold]) n
  cases s.tooLate n f u with
  | true =>
    obtain ⟨hregs, hsq⟩ := v.txRefuse_regs n q f 3
    refine ⟨(v.txRefuse_arcOf n q f 3 _).trans harc, (v.txRefuse_air n q f 3 n).trans (congrArg TxPort.air htx), hsq,
      fun a ha => (State.reg_bump_other _ ha 1).trans (State.reg_congr hregs a), hid ▸ v.txRefuse_frameOf n q f 3, ?_⟩
    refine (State.get_bump_same _ (f := PRT_TXLATE_COUNT n) (Nat.le_refl 32)).trans ?_
    rw [State.get_of_reg (State.reg_congr hregs _), hlate]
    rfl
  | false =>
    have hdrop := v.dropFront_rest n q f.id
    have hsq : (v.dropFront n q f.id).sq = v.sq := by rw [hdrop]
    have hregs : (v.dropFront n q f.id).regs = v.regs := by rw [hdrop]
    have hframes : (v.dropFront n q f.id).framesOf q = s.framesOf q := State.framesOf_congr (by rw [hdrop, htold]) q
    refine ⟨(v.dropFront_arc n q f.id _).trans harc, (v.dropFront_air n q f.id n).trans (congrArg TxPort.air htx),
      hsq, fun a _ => State.reg_congr hregs a, f.deferredTo u, ?_, rfl, rfl, rfl⟩
    rw [← hid]
    exact State.frameOf_setFrame _ (f := f.deferredTo u) ⟨f, hframes ▸ State.frameOf_mem hf, rfl⟩

end

/-! ### A frame that launches (R156) -/

section
variable {s : State} {n q : Nat} {f : TxFrame}

/-- The frame as its launch from port `n` on map `x` leaves it. -/
def State.launchedFrame (s : State) (n : Nat) (f : TxFrame) (x : PhyMap) : TxFrame :=
  { s.fillLaunch f with
    ready := false, awaiting := true, arriving := false, deferred := false, port := n, retry := s.retryAt n f,
    lastTl := s.tick, ts := s.stampNow (s.get (PRT_TXCFG_LTB n)) 12, mode := x.mode, bo := none }

/-- The state in which the frame goes to the line: its packet is read, and `g` stands in its queue. -/
def State.launching (s : State) (n q : Nat) (f g : TxFrame) : State :=
  let t := ((s.dropFront n q f.id).noteRange f).setFrame q g
  let u := { t with mac.sentTo := put f.lfc.dst s.tick t.mac.sentTo }
  u.setCsma n { u.csmaOf n with grant := none }

/-- The frame on the line. -/
def State.airOfLaunch (s : State) (n q : Nat) (f : TxFrame) (x : PhyMap) (aw dur : Nat) : Air :=
  { kind := .data q f.id, start := s.tick, stop := s.tick + dur, mode := x.mode, aw := aw, grouped := false,
    lo := (s.rangeOf n false x).1, hi := (s.rangeOf n false x).2, full := s.tick + dur }

theorem State.txLaunch_eq {x : PhyMap} {aw : Nat} (h : s.windowOf n q f x = (aw, s)) (dur : Nat) :
    s.txLaunch n q f x false dur = (s.launching n q f (s.launchedFrame n f x)).airBegin n (s.airOfLaunch n q f x aw dur)
      (launchData f x false) := by
  unfold State.txLaunch
  rw [h]
  rfl

theorem State.noteRange_rest (s : State) (f : TxFrame) : s.noteRange f = { s with time := (s.noteRange f).time } := by
  unfold State.noteRange
  split <;> rfl

/-- Before the line is taken no register is written and nothing fires. -/
theorem State.launching_rest (s : State) (n q : Nat) (f g : TxFrame) :
    ∃ x a m b y, s.launching n q f g = { s with tx := x, arc := a, time := m, blv := b, mac := y } ∧
      y.dwell = s.mac.dwell := by
  unfold State.launching
  rw [State.noteRange_rest, s.dropFront_rest]
  exact ⟨_, _, _, _, _, rfl, rfl⟩

theorem State.launching_frameOf (hf : f ∈ s.framesOf q) {g : TxFrame} (hg : g.id = f.id) :
    (s.launching n q f g).frameOf q f.id = some g := by
  have hframes : ((s.dropFront n q f.id).noteRange f).framesOf q = s.framesOf q :=
    State.framesOf_congr (by rw [State.noteRange_rest, s.dropFront_rest]) q
  have hset : (s.launching n q f g).blv.frames = (((s.dropFront n q f.id).noteRange f).setFrame q g).blv.frames := rfl
  have hfound := State.frameOf_setFrame ((s.dropFront n q f.id).noteRange f) ⟨f, hframes ▸ hf, hg.symm⟩
  rw [hg] at hfound
  exact (State.frameOf_congr hset q f.id).trans hfound

theorem State.launching_arcOf (s : State) (n q : Nat) (f g : TxFrame) (i : Nat) :
    (s.launching n q f g).arcOf i = (s.arcRead (2 * n + 1)).arcOf i := by
  refine Eq.trans (State.arcOf_congr ?_ i) (s.dropFront_arc n q f.id i)
  show ((s.dropFront n q f.id).noteRange f).arc = _
  rw [State.noteRange_rest]

theorem State.fillLaunch_id (s : State) (f : TxFrame) : (s.fillLaunch f).id = f.id := by
  unfold State.fillLaunch
  dsimp only
  rw [apply_ite TxFrame.id]
  dsimp only
  rw [ite_self, apply_ite TxFrame.id, ite_self]

/-- R226: the retries of a frame of no G.9903 MAC, by its class. -/
theorem State.retryAt_plain (n : Nat) (h : f.g3 = false) :
    s.retryAt n f = if f.cls ≤ 3 then s.get MAC_ACKCFG_RETRY_HI else s.get MAC_ACKCFG_RETRY_LO := by
  unfold State.retryAt
  rw [h]
  rfl

/-- R156: what a launch does, from the state before its packet is read. -/
theorem State.txLaunch_spec {x : PhyMap} {aw : Nat} (hn : n < s.ports) (hon : s.domOn (dPair n) = true)
    (h : s.windowOf n q f x = (aw, s)) (hf : f ∈ s.framesOf q) (dur : Nat) :
    let t := s.txLaunch n q f x false dur
    (∃ b, (t.txPort n).air = some b ∧ SameFrame (s.airOfLaunch n q f x aw dur) b ∧
      (s.dwFresh = false → b.stop = s.tick + dur ∧ b.outcome = 0)) ∧
    (∃ p, t.frameOf q f.id = some { s.launchedFrame n f x with poison := p }) ∧
    t.arcOf (2 * n + 1) = (s.arcRead (2 * n + 1)).arcOf (2 * n + 1) ∧
    t.get (PRT_TXCNT_COUNT n) = satAdd 32 (s.get (PRT_TXCNT_COUNT n)) 1 ∧
    fired s t (esPort n 4) (launchData f x false) ∧ (s.rxOn n = true → t.rxState n = rBLANKED) := by
  have harc := s.launching_arcOf n q f (s.launchedFrame n f x) (2 * n + 1)
  have hframe := State.launching_frameOf (n := n) hf (g := s.launchedFrame n f x) (s.fillLaunch_id f)
  obtain ⟨tx, arc, time, blv, mac, hrest, hdwell⟩ := s.launching_rest n q f (s.launchedFrame n f x)
  rw [State.txLaunch_eq h]
  generalize s.launching n q f (s.launchedFrame n f x) = u at harc hframe hrest ⊢
  have hregs : u.regs = s.regs := by rw [hrest]
  have hotp : u.otp = s.otp := by rw [hrest]
  have htick : u.tick = s.tick := by rw [hrest]
  have hleaves : Leaves (fun _ => False) (fun _ => False) s u := .other hregs (by rw [hrest]) htick hotp
  have hlaunched := State.airBegin_launched (hleaves.ports.symm ▸ hn) ((hleaves.domOn id _).trans hon)
    (a := s.airOfLaunch n q f x aw dur) rfl (launchData f x false)
  have hfresh : u.dwFresh = s.dwFresh := State.dwFresh_congr (by rw [hrest]; exact hdwell) htick
  have hevent : fired s (u.airBegin n (s.airOfLaunch n q f x aw dur) (launchData f x false)) (esPort n 4)
      (launchData f x false) := by
    have hu := hlaunched.event
    rwa [fired, show u.sq = s.sq by rw [hrest], htick] at hu
  refine ⟨?_, hlaunched.frames _ _ _ hframe, (hlaunched.arc _ (by omega)).trans harc, ?_, hevent, fun hrx => ?_⟩
  · rw [← hfresh]
    exact hlaunched.air
  · rw [hlaunched.count, State.get_of_reg (State.reg_congr hregs _)]
  · exact hlaunched.state ((hleaves.rxOn (Nat.lt_of_lt_of_le hn s.ports_le) id id id).trans hrx)

/-! ### A driver that is not ready (R168) -/

theorem State.reg_setTxPort (s : State) (n : Nat) (p : TxPort) (a : Nat) : (s.setTxPort n p).reg a = s.reg a := rfl

theorem State.refreshLd_reg_other (s : State) (n : Nat) {a : Nat} (ha : a ≠ a_PRT_LDCTL n) :
    (s.refreshLd n).reg a = s.reg a := by
  unfold State.refreshLd
  extract_lets want s1
  have h1 : s1.reg a = s.reg a := s.reg_set_other (f := PRT_LDCTL_BURHOLD n) ha _
  split
  · exact h1
  · rw [State.reg_setTxPort, s1.reg_set_other (f := PRT_LDCTL_LDEN n) ha, h1]

/-- A port that is free has no driver fault. -/
theorem State.fault_of_txFree (h : s.txFree n = true) : s.flag (PRT_LDCTL_FAULT n) = false := by
  unfold State.txFree State.faultFree at h
  simp only [Bool.and_eq_true, Bool.not_eq_true'] at h
  exact h.1.2.1

/-- A launch that is planned wants LDEN in TX mode. -/
theorem State.ldWant_plan (hfault : s.flag (PRT_LDCTL_FAULT n) = false) (hmode : s.get (PRT_LDCTL_LDMODE n) = 1)
    (hplan : (s.txPort n).ldPlan = true) : s.ldWant n = true := by
  unfold State.ldWant
  simp [hfault, hmode, hplan]

/-- R168: the launch is planned, and LDEN with it where the port is in TX mode. -/
theorem State.ldPlanLaunch_spec (hn : n < 16) (hfree : s.txFree n = true) :
    (s.get (PRT_LDCTL_LDMODE n) = 1 → (s.ldPlanLaunch n).flag (PRT_LDCTL_LDEN n) = true) ∧
      sameRegs s (s.ldPlanLaunch n) [a_PRT_LDCTL n] ∧
      s.ldPlanLaunch n = { s with regs := (s.ldPlanLaunch n).regs, tx := (s.ldPlanLaunch n).tx } := by
  have hfault := State.fault_of_txFree hfree
  refine ⟨fun hmode => ?_, fun a ha => ?_, ?_⟩
  · refine (State.flag_refreshLd_lden _ n).trans (State.ldWant_plan hfault hmode ?_)
    exact congrArg TxPort.ldPlan (s.txPort_setTxPort n _)
  · exact State.refreshLd_reg_other _ n (fun h => ha (List.mem_singleton.2 h))
  · have hdriven : Driven (fun _ => True) (fun _ => True) (s.setTxPort n { s.txPort n with ldPlan := true }) (s.ldPlanLaunch n) :=
      .refreshLd _ hn trivial
    exact hdriven.rest

end

/-- Settles O28, by what `FRAME_LAUNCH` makes of a due frame under each answer of the dwell checks. -/
theorem framesLaunchUnderTheRules : Obligations.FramesLaunchUnderTheRules := by
  unfold Obligations.FramesLaunchUnderTheRules
  refine ⟨fun s n => exec_frameLaunch_none, fun s n q id words f hfront hf hready hjoint hstay => ?_, ?_⟩
  · rw [exec_frameLaunch_ready hfront hf hready, State.txConsider_stays hjoint hstay]
  · intro s n q id words aw f m x hfront hf hready hjoint hn hon hmay hfree hstale htime hmap hfit hwin dur r hplaced
    have hid : f.id = id := State.frameOf_id hf
    have hmem : f ∈ s.framesOf q := State.frameOf_mem hf
    refine ⟨_, (exec_frameLaunch_ready hfront hf hready).trans (congrArg Host.Outcome.next
      ((State.txConsider_try hjoint hmay hfree hstale htime hmap hfit).trans (State.txTry_placed hplaced))), ?_⟩
    rcases s.dwellAll [n.val] r.1 r.2 s.tick dur with ⟨answer, band⟩
    cases answer with
    | pass =>
      cases hready' : s.ldReady n.val with
      | true =>
        rw [if_pos rfl]
        simp only [State.dwellAnswer, hready', if_true]
        obtain ⟨⟨b, hair, hsame, hstop⟩, ⟨p, hframe⟩, harc, hcount, hevent, hstate⟩ :=
          State.txLaunch_spec hn hon hwin hmem dur
        refine ⟨⟨b, hair, hid ▸ hsame.kind, hsame.start, hsame.full, hsame.mode, hsame.aw, hstop, hsame.grouped⟩,
          ⟨_, hid ▸ hframe, rfl, rfl, rfl, rfl, rfl, rfl, fun hg3 => ?_⟩, harc, hcount, hevent, hstate⟩
        exact State.retryAt_plain n hg3
      | false =>
        rw [if_neg Bool.false_ne_true]
        simp only [State.dwellAnswer, hready', Bool.false_eq_true, if_false]
        exact State.ldPlanLaunch_spec n.isLt hfree
    | defer u rule =>
      obtain ⟨harc, hair, hsq, hregs, hkept⟩ := State.txDefer_spec n.isLt hf u band rule
      refine ⟨harc, hair, hkept, fun hfirst => ?_, fun htold => hsq.trans (State.deferTold_again htold band rule)⟩
      obtain ⟨hfired, hcount⟩ := State.deferTold_first hn hon hfirst band rule
      exact ⟨hfired.congr (hregs _ (pendReg_ne_txLate n)) (congrArg (·.staged) hsq),
        (State.get_of_reg (hregs _ (dwdef_ne_txLate n))).trans hcount⟩
    | refuse =>
      refine ⟨State.txRefuse_fired hn hon q f _ 4, hid ▸ State.txRefuse_frameOf _ n q f 4,
        (State.txRefuse_air _ n q f 4 n).trans (congrArg TxPort.air (State.txPort_congr ?_ n))⟩
      rw [State.onlyRegsSq_fire s (esPort n.val 6) (dwData band 0 2)]

end Sys2Proof.Machine

/-! SUPPORT. What a burst leaves of the line: a frame that is sent again, and a frame that is cut (R180, R226). -/

namespace Sys2Proof.Machine

/-- From `s` to `t` frames have been given back to their queues: only the transmitters, the queues and the free choices of
the model have changed, and on every line the same frame. -/
structure Requeued (s t : State) : Prop where
  rest : t = { s with tx := t.tx, blv := t.blv, free := t.free }
  air : ∀ m, (t.txPort m).air = (s.txPort m).air

namespace Requeued

theorem refl (s : State) : Requeued s s := ⟨rfl, fun _ => rfl⟩

theorem trans {s t u : State} (h : Requeued s t) (k : Requeued t u) : Requeued s u :=
  ⟨by rw [k.rest, h.rest], fun m => (k.air m).trans (h.air m)⟩

theorem ite {s a b : State} {c : Prop} [Decidable c] (h : Requeued s a) (k : Requeued s b) :
    Requeued s (if c then a else b) := by
  split <;> assumption

theorem queues {s t : State} (h : t = { s with blv := t.blv, free := t.free }) : Requeued s t :=
  ⟨by rw [h], fun m => congrArg TxPort.air (State.txPort_congr (by rw [h]) m)⟩

theorem forget (s : State) (q id : Nat) : Requeued s (s.forget q id) := by
  refine ⟨?_, s.forget_air q id⟩
  obtain ⟨x, h⟩ := s.forget_only q id
  rw [h]

theorem setTxPort (s : State) {n : Nat} {p : TxPort} (h : p.air = (s.txPort n).air) : Requeued s (s.setTxPort n p) :=
  ⟨rfl, s.air_setTxPort h⟩

theorem unlinkCounts (s : State) (q : Nat) (f : TxFrame) : Requeued s (s.unlinkCounts q f) := by
  obtain ⟨v, k, h⟩ := s.unlinkCounts_only q f
  rw [h]
  exact queues rfl

theorem completeTx (s : State) (q : Nat) (f : TxFrame) (status : Nat) : Requeued s (s.completeTx q f status) := by
  refine ⟨?_, s.completeTx_air q f status⟩
  obtain ⟨v, k, x, l, h⟩ := s.completeTx_only q f status false
  rw [h]

theorem setFrames (s : State) (q : Nat) (l : List TxFrame) : Requeued s (s.setFrames q l) := queues rfl

theorem returnRx (s : State) (k : Nat) (c : Option Compl) : Requeued s (s.returnRx k c) := queues rfl

theorem dropRelay (s : State) (q : Nat) (f : TxFrame) : Requeued s (s.dropRelay q f) := by
  unfold State.dropRelay
  exact (((setFrames s q _).trans (unlinkCounts _ q _)).trans (forget _ q f.id)).trans (returnRx _ _ _)

theorem sendAgain (s : State) (n q id outcome : Nat) : Requeued s (s.sendAgain n q id outcome) := by
  unfold State.sendAgain
  cases s.frameOf q id with
  | none => exact refl s
  | some f =>
    refine ite (dropRelay s q f) (ite (completeTx s q f 0) ?_)
    extract_lets s1 p l
    have h1 : Requeued s s1 := setFrames s q _
    exact h1.trans (setTxPort s1 rfl)

theorem resend (s : State) (n : Nat) (l : List Packet) : Requeued s (s.resend n l) := by
  unfold State.resend
  refine forEach_induct (P := Requeued s) (refl s) fun p _ t h => h.trans ?_
  cases p.load with
  | tx q id => exact sendAgain t n q id 4
  | rx _ => exact refl t

theorem leaves {T F : Nat → Prop} {s t : State} (h : Requeued s t) : Leaves T F s t :=
  .other (by rw [h.rest]) (by rw [h.rest]) (by rw [h.rest]) (by rw [h.rest])

end Requeued
/-- From `s` to `t`, over `Leaves`, the bursts are as they were, and on every line the same frame. -/
structure LineKept (T F : Nat → Prop) (s t : State) : Prop extends Leaves T F s t where
  bur : t.bur = s.bur
  air : ∀ m, (t.txPort m).air = (s.txPort m).air

namespace LineKept

section
variable {T F : Nat → Prop} {s t u : State}

theorem refl (s : State) : LineKept T F s s := ⟨.refl s, rfl, fun _ => rfl⟩

theorem trans (h : LineKept T F s t) (k : LineKept T F t u) : LineKept T F s u :=
  ⟨h.toLeaves.trans k.toLeaves, k.bur.trans h.bur, fun m => (k.air m).trans (h.air m)⟩

theorem ite {a b : State} {c : Prop} [Decidable c] (h : LineKept T F s a) (k : LineKept T F s b) :
    LineKept T F s (if c then a else b) := by
  split <;> assumption

theorem forN {n : Nat} {f : Nat → State → State} (hf : ∀ k, k < n → ∀ t, LineKept T F t (f k t)) (s : State) :
    LineKept T F s (forN n f s) :=
  forN_induct (P := LineKept T F s) (refl s) fun k hk t h => h.trans (hf k hk t)

theorem forEach {α : Type} {l : List α} {f : α → State → State} (hf : ∀ a ∈ l, ∀ t, LineKept T F t (f a t)) (s : State) :
    LineKept T F s (forEach l f s) :=
  forEach_induct (P := LineKept T F s) (refl s) fun a ha t h => h.trans (hf a ha t)

/-- A step that keeps transmitters and bursts. -/
theorem of_leaves (h : Leaves T F s t) (htx : t.tx = s.tx := by rfl) (hbur : t.bur = s.bur := by rfl) : LineKept T F s t :=
  ⟨h, hbur, fun m => congrArg TxPort.air (State.txPort_congr htx m)⟩

theorem requeued (h : Requeued s t) : LineKept T F s t := ⟨h.leaves, by rw [h.rest], h.air⟩

theorem driven (h : Driven T F s t) : LineKept T F s t := ⟨h.toLeaves, by rw [h.rest], h.air⟩

theorem set (s : State) {f : Field} (hp : NotPending f.addr) (h : Spared f.addr → T f.addr) (v : Nat) :
    LineKept T F s (s.set f v) := of_leaves (.set s hp h v)

theorem fire (s : State) {src : Nat} (hsrc : src < 512) (h : PortSource src → F src) (data : Nat) :
    LineKept T F s (s.fire src data) := by
  have hrest := s.onlyRegsSq_fire src data
  exact of_leaves (.fire s hsrc h data) (by rw [hrest]) (by rw [hrest])

/-! ## The transmit FIFO of a port whose frame is cut (R180) -/

theorem setArcField (s : State) {f : Field} (h : 0x70000 ≤ f.addr ∧ f.addr < 0x80000) (v : Nat) :
    LineKept T F s (s.set f v) :=
  set s (by simp only [NotPending, f1]; omega) (fun hsp => by simp only [Spared, f1] at hsp; omega) v

theorem arcFire (s : State) {i : Nat} (hi : i < 40) (bit : Nat) : LineKept T F s (s.arcFire i bit) := by
  have hrest := (RxEnded.arcFire s hi bit).rest
  exact of_leaves (Received.arcFire s hi bit).toLeaves (by rw [hrest]) (by rw [hrest])

theorem setArc (s : State) (i : Nat) (a : ArcSt) : LineKept T F s (s.setArc i a) := of_leaves .other

theorem arcEmpty (s : State) {i : Nat} (hi : i < 40) : LineKept T F s (s.arcEmpty i) := by
  unfold State.arcEmpty
  refine (setArc s i _).trans (setArcField _ (f := ARC_ERR_LOST i) ?_ _)
  simp only [ARC_ERR_LOST, a_ARC_ERR]
  omega

theorem flushTx (s : State) {n : Nat} (hn : n < 16) : LineKept T F s (s.flushTx n) :=
  (arcEmpty s (by omega)).trans (requeued (.resend _ n _))

theorem flushDone (s : State) {i : Nat} (hi : i < 40) : LineKept T F s (s.flushDone i) := by
  refine (setArcField s (f := ARC_CFG_FLUSH i) ?_ 0).trans (arcFire _ hi 4)
  simp only [ARC_CFG_FLUSH, a_ARC_CFG]
  omega

/-! ## The line after a frame (R165, R168) -/

theorem rxBlankUntil (s : State) (n : Nat) : LineKept T F s (s.rxBlankUntil n) := of_leaves .other

theorem setTail (s : State) (n : Nat) (e : Option Nat) :
    LineKept T F s (s.setTxPort n { s.txPort n with ldTail := e }) := driven (.setTxPort s rfl)

theorem setCsma (s : State) (n : Nat) (c : Csma) : LineKept T F s (s.setCsma n c) := of_leaves .other

/-- R136: BLANKED. -/
theorem rxBlank (s : State) {n reason : Nat} (hn : n < 16) (hr : reason < 16) (hT : ∀ m, m < 16 → ∀ a, RxReg m a → T a)
    (hF : ∀ m, m < 16 → F (esPort m 2)) : LineKept T F s (s.rxBlank n reason) := by
  have hrest := (RxEnded.rxBlank s hn hr).rest
  exact of_leaves (Received.rxBlank s hn hr hT hF).toLeaves (by rw [hrest]) (by rw [hrest])

end
end LineKept

/-! ## The end of a frame on the line (R165) -/

/-- What the end of a frame makes of a port of it. -/
def State.portReleased (s : State) (p start full e tail : Nat) : State :=
  let t := ((if e < full then s.trimOnTime p start full e else s)).rxBlankUntil p
  (t.setTxPort p { t.txPort p with ldTail := some (tail + t.get (PRT_LDCTL_TAIL p) * tUs) }).refreshLd p

/-- The state in which source 5 fires for the frame. -/
def State.lineFreed (s : State) (n : Nat) (a : Air) (outcome e : Nat) : State :=
  let c := s.csmaOf n
  (s.setTxPort n { s.txPort n with air := none }).setCsma n { c with
    busyUntil := max c.busyUntil (e + (if outcome = 0 then a.aw else 0)) }

theorem State.airEnd_eq (s : State) (n : Nat) (a : Air) (outcome e : Nat) :
    s.airEnd n a outcome e = forEach (framePorts n a.grouped)
      (fun p t => t.portReleased p a.start a.full e s.tick) ((s.lineFreed n a outcome e).fire (esPort n 5) outcome) := rfl

theorem LineKept.portReleased {T F : Nat → Prop} (s : State) {p : Nat} (hp : p < 16) (hT : T (a_PRT_LDCTL p))
    (start full e tail : Nat) : LineKept T F s (s.portReleased p start full e tail) := by
  unfold State.portReleased
  exact (((LineKept.ite (driven (.trimOnTime s p start full e)) (refl s)).trans (rxBlankUntil _ p)).trans
    (setTail _ p _)).trans (driven (.refreshLd _ hp hT))

/-- From `s` to `t` the frame of port `n` has left the line with an outcome. -/
structure LineFreed (s t : State) (n outcome : Nat) : Prop extends Leaves LaunchReg (fun k => k = esPort n 5) s t where
  bur : t.bur = s.bur
  air : (t.txPort n).air = none
  event : n < s.ports → s.domOn (dPair n) = true → fired s t (esPort n 5) outcome

namespace LineFreed

/-- What keeps the line keeps it free. -/
theorem trans {s t u : State} {n outcome : Nat} (hn : n < 16) (h : LineFreed s t n outcome)
    (k : LineKept LaunchReg (fun _ => False) t u) : LineFreed s u n outcome where
  toLeaves := h.toLeaves.trans ⟨k.tick, k.otp, k.regs, fun j hj _ => k.staged j hj id, k.pend⟩
  bur := k.bur.trans h.bur
  air := (k.air n).trans h.air
  event hp hon := k.fired (h.event hp hon) (esPort_lt hn (by decide)) (portSource_esPort hn (by decide)) id

/-- What keeps the line comes before it is free. -/
theorem of_kept {s t u : State} {n outcome : Nat} (k : LineKept LaunchReg (fun _ => False) s t) (h : LineFreed t u n outcome)
    (hn : n < 16) : LineFreed s u n outcome where
  toLeaves := Leaves.trans ⟨k.tick, k.otp, k.regs, fun j hj _ => k.staged j hj id, k.pend⟩ h.toLeaves
  bur := h.bur.trans k.bur
  air := h.air
  event hp hon := by
    have hev := h.event (k.ports.symm ▸ hp) ((k.domOn (launchReg_not (by decide)) _).trans hon)
    rwa [fired, k.tick, k.staged _ (portSource_esPort hn (by decide)) id] at hev

/-- The line is free in the tick in which source 5 fires. -/
theorem lineFreed (s : State) {n : Nat} (hn : n < 16) (a : Air) (outcome e : Nat) :
    LineFreed s ((s.lineFreed n a outcome e).fire (esPort n 5) outcome) n outcome := by
  have hrest := (s.lineFreed n a outcome e).onlyRegsSq_fire (esPort n 5) outcome
  have hfreed {T F : Nat → Prop} : Leaves T F s (s.lineFreed n a outcome e) := .other
  refine ⟨hfreed.trans (.fire_only _ (esPort_lt hn (by decide)) outcome), ?_, ?_, fun hp hon => ?_⟩
  · rw [hrest]
    rfl
  · rw [State.txPort_congr (t := (s.lineFreed n a outcome e).fire (esPort n 5) outcome) (by rw [hrest])]
    exact congrArg TxPort.air (s.txPort_setTxPort n _)
  · exact Leaves.fired_fire (T := fun _ => False) (F := fun _ => False) hfreed (portSource_esPort hn (by decide)) id id
      (State.sourceOn_esPort hp (by decide) hon) outcome

theorem airEnd (s : State) {n : Nat} (hn : n < 16) (a : Air) (outcome e : Nat) :
    LineFreed s (s.airEnd n a outcome e) n outcome := by
  rw [s.airEnd_eq]
  exact (lineFreed s hn a outcome e).trans hn (.forEach (fun p hp t => .portReleased t (framePorts_lt hn hp)
    ⟨p, framePorts_lt hn hp, .inr rfl⟩ _ _ _ _) _)

theorem cutAir (s : State) {n : Nat} (hn : n < 16) (a : Air) (outcome : Nat) :
    LineFreed s (s.cutAir n a outcome) n outcome := by
  have hend := airEnd s hn a outcome s.tick
  unfold State.cutAir
  cases a.kind with
  | data q id => exact hend.trans hn (.requeued (.sendAgain _ n q id outcome))
  | _ => exact hend

end LineFreed

/-- R180: the frame on the line of a port is cut. -/
theorem State.burCut_frees {s : State} {n m : Nat} {a : Air} (hm : m < 16) (h : s.airOf n = some (m, a)) :
    LineFreed s (s.burCut n) m 2 := by
  unfold State.burCut
  rw [h]
  exact .of_kept ((LineKept.flushTx s hm).trans (.flushDone _ (by omega))) (.cutAir _ hm a 2) hm

/-- The port that carries the frame of a port's line. -/
theorem State.airOf_lt {s : State} {n m : Nat} {a : Air} (hn : n < 16) (h : s.airOf n = some (m, a)) : m < 16 := by
  unfold State.airOf at h
  cases hown : (s.txPort n).air with
  | some b =>
    simp only [hown, Option.some.injEq, Prod.mk.injEq] at h
    omega
  | none =>
    cases hgroup : (s.txPort (n / 4 * 4)).air with
    | none => simp [hown, hgroup] at h
    | some b =>
      simp only [hown, hgroup, Option.ite_none_right_eq_some, Option.some.injEq, Prod.mk.injEq] at h
      omega

end Sys2Proof.Machine

/-! The first and the last tick of a Burin burst (R175 to R180, R193). -/

namespace Sys2Proof.Machine

/-! ## The start (R175, R180) -/

section
variable {s : State} {n : Nat} {b : Burst}

/-- The burst as it is in progress. -/
def State.begun (s : State) (b : Burst) : Burst := { b with start := s.tick, stop := s.tick + burstTicks b.wide }

/-- The port with burst `b` in progress. -/
def State.burPortBegun (s : State) (n : Nat) (b : Burst) : BurPort :=
  let p := s.burPort n
  { p with
    cur := some (s.begun b), ended := false, chosen := none, fresh := del b.cmd p.fresh, regen := del b.cmd p.regen,
    again := del b.cmd p.again }

/-- The burst is in progress and counted. -/
def State.burStarted (s : State) (n : Nat) (b : Burst) : State :=
  ((s.setBurPort n (s.burPortBegun n b)).burMark n b.cmd).bump (BUR_TXCNT_COUNT n)

/-- Source 64 + `n` has fired. -/
def State.burReported (s : State) (n : Nat) (b : Burst) : State :=
  (s.burStarted n b).fire (64 + n) (b.cmd + 16 * b2n b.regen + 32 * b.source)

/-- The line of the port is the burst's. -/
def State.burLine (s : State) (n : Nat) (b : Burst) : State := if b.preempt then s.burCut n else s

/-- What follows of a burst in progress on a line that is its own. -/
def State.burTaken (s : State) (n : Nat) : State := (s.rxBlank n fBURIN).refreshLd n

/-- The burst is on its line. -/
def State.burOnLine (s : State) (n : Nat) (b : Burst) : State :=
  let r := burRange b.wide (pcBASE (s.burPort n).txCfg)
  ((((s.burReported n b).burLine n b).burTaken n).addBurst n r.1 r.2 (s.begun b).start (s.begun b).stop)

theorem State.burBegin_eq (s : State) (n : Nat) (b : Burst) : s.burBegin n b = (s.burOnLine n b).burGain n := rfl

theorem State.burPort_setBurPort (s : State) (n : Nat) (p : BurPort) : (s.setBurPort n p).burPort n = p :=
  look_store_same _ _ _ _

theorem State.burPort_congr {s t : State} (h : t.bur = s.bur) (n : Nat) : t.burPort n = s.burPort n := by
  simp only [State.burPort, h]

theorem State.burMark_burPort (s : State) (n c : Nat) :
    ∃ l, (s.burMark n c).burPort n = { s.burPort n with marks := l } := ⟨_, State.burPort_setBurPort s n _⟩

theorem State.burStarted_burPort (s : State) (n : Nat) (b : Burst) :
    ∃ l, (s.burStarted n b).burPort n = { s.burPortBegun n b with marks := l } := by
  obtain ⟨l, hl⟩ := (s.setBurPort n (s.burPortBegun n b)).burMark_burPort n b.cmd
  rw [State.burPort_setBurPort] at hl
  exact ⟨l, hl⟩

/-- R178: beside the port of the burst only its count has changed. -/
theorem Leaves.burStarted {F : Nat → Prop} (s : State) {n : Nat} (hn : n < 16) (b : Burst) :
    Leaves (fun a => a = a_BUR_TXCNT n) F s (s.burStarted n b) := by
  have hport : Leaves (fun a => a = a_BUR_TXCNT n) F s ((s.setBurPort n (s.burPortBegun n b)).burMark n b.cmd) := .other
  refine hport.trans (.set_only _ (f := BUR_TXCNT_COUNT n) ?_ _)
  simp only [BUR_TXCNT_COUNT, a_BUR_TXCNT, NotPending, f1]
  omega

theorem State.burStarted_count (s : State) (n : Nat) (b : Burst) :
    (s.burStarted n b).get (BUR_TXCNT_COUNT n) = satAdd 32 (s.get (BUR_TXCNT_COUNT n)) 1 :=
  State.get_bump_same _ (f := BUR_TXCNT_COUNT n) (Nat.le_refl 32)

/-- R180: what the burst makes of the line leaves. -/
theorem State.burLine_leaves (s : State) {n : Nat} (hn : n < 16) (b : Burst) :
    Leaves LaunchReg (fun k => 208 ≤ k) s (s.burLine n b) ∧ (s.burLine n b).bur = s.bur := by
  unfold State.burLine
  cases b.preempt with
  | false => exact ⟨.refl s, rfl⟩
  | true =>
    rw [if_pos rfl]
    cases hair : s.airOf n with
    | none =>
      have hnone : s.burCut n = s := by
        unfold State.burCut
        rw [hair]
      rw [hnone]
      exact ⟨.refl s, rfl⟩
    | some x =>
      have hfreed := State.burCut_frees (State.airOf_lt hn hair) hair
      refine ⟨⟨hfreed.tick, hfreed.otp, hfreed.regs, fun k hk h => hfreed.staged k hk ?_, hfreed.pend⟩, hfreed.bur⟩
      unfold esPort
      omega

/-- A source that fires while a burst takes its line, other than the end of a frame. -/
abbrev ClaimSource (k : Nat) : Prop := 208 ≤ k ∧ k % 8 ≠ 5

theorem LineKept.burTaken (s : State) {n : Nat} (hn : n < 16) : LineKept LaunchReg ClaimSource s (s.burTaken n) :=
  (rxBlank s hn (by decide) (fun m hm _ ha => ⟨m, hm, .inl ha⟩) fun m hm => by unfold esPort; omega).trans
    (driven (.refreshLd _ hn ⟨n, hn, .inr rfl⟩))

theorem State.burTaken_rxState {s : State} {n : Nat} (hon : s.rxOn n = true) :
    (s.burTaken n).rxState n = rBLANKED := by
  refine Eq.trans (State.get_of_reg (State.refreshLd_reg_other _ n ?_)) (State.rxState_rxBlank hon fBURIN)
  simp only [PRT_RXSTAT_STATE, a_PRT_RXSTAT, a_PRT_LDCTL]
  omega

/-- R163: the on-time of the burst, with a report for each band that it overruns. -/
theorem LineKept.addBurst {T : Nat → Prop} (s : State) {n : Nat} (hn : n < 16) (lo hi a b : Nat) :
    LineKept T ClaimSource s (s.addBurst n lo hi a b) := by
  unfold State.addBurst
  refine (driven (.addOnTime s n lo hi a b)).trans (.forN (fun j _ t => .ite ?_ (.refl t)) _)
  exact .fire t (esPort_lt hn (by decide)) (fun _ => by unfold esPort; omega) _

/-- R178: TXGAIN. -/
theorem Leaves.burGain {F : Nat → Prop} (s : State) {n : Nat} (hn : n < 16) :
    Leaves (fun a => a = a_PRT_AFE n) F s (s.burGain n) := by
  have hpend : NotPending (a_PRT_AFE n) := (spared_port (by simp only [a_PRT_AFE]; omega)).1
  exact .ite (Leaves.trans .other (.set_only _ (f := PRT_AFE_ACT_GAIN n) hpend _)) (.refl s)

theorem State.burGain_rest (s : State) (n : Nat) :
    (s.burGain n).tx = s.tx ∧ ∃ g, (s.burGain n).burPort n = { s.burPort n with gain := g } := by
  unfold State.burGain
  by_cases h : (s.burPort n).txLvl.getLsbD 21 = true
  · rw [if_pos h]
    exact ⟨rfl, _, State.burPort_setBurPort s n _⟩
  · rw [if_neg h]
    exact ⟨rfl, (s.burPort n).gain, rfl⟩

theorem State.burGain_gain {s : State} {n : Nat} (h : bits (s.burPort n).txLvl 21 1 = 1) :
    (s.burGain n).get (PRT_AFE_ACT_GAIN n) = bits (s.burPort n).txLvl 14 7 := by
  have hbit : (s.burPort n).txLvl.getLsbD 21 = true := by
    rw [BitVec.getLsbD, Nat.testBit_eq_decide_div_mod_eq]
    exact decide_eq_true h
  unfold State.burGain
  rw [if_pos hbit]
  refine (State.get_set_same _ (f := PRT_AFE_ACT_GAIN n) (by show 8 + 7 ≤ 32; omega) _).trans ?_
  exact Nat.mod_mod _ _

theorem State.airOf_congr {s t : State} (h : t.tx = s.tx) (n : Nat) : t.airOf n = s.airOf n := by
  simp only [State.airOf, State.txPort_congr h]

/-- The source of the bursts of a port can fire where the port is present and PD_PROT is on (R67). -/
theorem State.sourceOn_burst (hn : n < s.ports) (hon : s.domOn dProt = true) : s.sourceOn (64 + n) = true := by
  have h16 : n < 16 := Nat.lt_of_lt_of_le hn s.ports_le
  have hdom : sourceDomain (64 + n) = dProt := if_pos (by omega)
  have hport : sourcePort (64 + n) = some n := by
    unfold sourcePort
    rw [if_neg (by omega), if_pos (by omega), Nat.add_sub_cancel_left]
  simp [State.sourceOn, hdom, hport, hon, hn]

theorem spared_burTxcnt (hn : n < 16) : Spared (a_BUR_TXCNT n) := by
  simp only [Spared, NotPending, a_BUR_TXCNT, a_MAC_CTCNT, a_MAC_NOACKCNT, f1]
  omega

/-- R178: until the burst takes its line, its count has changed and its source has fired. -/
theorem Leaves.burReported (s : State) {n : Nat} (hn : n < 16) (b : Burst) :
    Leaves (fun a => a = a_BUR_TXCNT n) (fun k => k = 64 + n) s (s.burReported n b) :=
  (burStarted s hn b).trans (fire_only _ (by omega) _)

theorem State.burReported_rest (s : State) (n : Nat) (b : Burst) :
    onlyRegsSq (s.burStarted n b) (s.burReported n b) := State.onlyRegsSq_fire _ _ _

theorem LineKept.burOnTime {T : Nat → Prop} (s : State) {n : Nat} (hn : n < 16) (b : Burst) :
    LineKept T ClaimSource (((s.burReported n b).burLine n b).burTaken n) (s.burOnLine n b) := by
  unfold State.burOnLine
  exact .addBurst _ hn _ _ _ _

/-- Once the line is the burst's no frame ends on it. -/
theorem LineKept.burOnLine (s : State) {n : Nat} (hn : n < 16) (b : Burst) :
    LineKept LaunchReg ClaimSource ((s.burReported n b).burLine n b) (s.burOnLine n b) :=
  (burTaken _ hn).trans (burOnTime s hn b)

theorem State.burOnLine_burPort (s : State) {n : Nat} (hn : n < 16) (b : Burst) :
    ∃ l, (s.burOnLine n b).burPort n = { s.burPortBegun n b with marks := l } := by
  obtain ⟨l, hport⟩ := s.burStarted_burPort n b
  obtain ⟨-, hline⟩ := (s.burReported n b).burLine_leaves hn b
  have hreported : (s.burReported n b).bur = (s.burStarted n b).bur := by rw [s.burReported_rest]
  exact ⟨l, (State.burPort_congr ((LineKept.burOnLine s hn b).bur.trans (hline.trans hreported)) n).trans hport⟩

/-- After source 64 + `n` has fired only the line is written. -/
theorem Leaves.burOnLine (s : State) {n : Nat} (hn : n < 16) (b : Burst) :
    Leaves LaunchReg (fun k => 208 ≤ k) (s.burReported n b) (s.burOnLine n b) := by
  obtain ⟨hline, -⟩ := (s.burReported n b).burLine_leaves hn b
  have hclaim := LineKept.burOnLine s hn b
  exact hline.trans ⟨hclaim.tick, hclaim.otp, hclaim.regs, fun k hk h => hclaim.staged k hk fun h' => h h'.1, hclaim.pend⟩

theorem State.burOnLine_count (s : State) {n : Nat} (hn : n < 16) (b : Burst) :
    (s.burOnLine n b).get (BUR_TXCNT_COUNT n) = satAdd 32 (s.get (BUR_TXCNT_COUNT n)) 1 := by
  have hsp : Spared (BUR_TXCNT_COUNT n).addr := spared_burTxcnt hn
  have hline : ¬ LaunchReg (BUR_TXCNT_COUNT n).addr :=
    launchReg_not (by simp only [BUR_TXCNT_COUNT, a_BUR_TXCNT, f1]; omega)
  have hreported : Leaves (fun _ => False) (fun k => k = 64 + n) (s.burStarted n b) (s.burReported n b) :=
    .fire_only _ (by omega) _
  rw [(Leaves.burOnLine s hn b).get hsp hline, hreported.get hsp id, s.burStarted_count]

theorem State.burOnLine_fired (hn : n < s.ports) (hon : s.domOn dProt = true) :
    fired s (s.burOnLine n b) (64 + n) (b.cmd + 16 * b2n b.regen + 32 * b.source) := by
  have h16 : n < 16 := Nat.lt_of_lt_of_le hn s.ports_le
  have hsource : PortSource (64 + n) := by omega
  have hstarted : Leaves (fun a => a = a_BUR_TXCNT n) (fun _ => False) s (s.burStarted n b) := .burStarted s h16 b
  have hreported := hstarted.fired_fire hsource id (by simp only [a_BUR_TXCNT, a_PWR_STAT, f1]; omega)
    (State.sourceOn_burst hn hon) (b.cmd + 16 * b2n b.regen + 32 * b.source)
  exact (Leaves.burOnLine s h16 b).fired hreported (by omega) hsource (by omega)

/-- Whether the port can receive depends on no register of its line. -/
theorem State.burReported_rxOn (s : State) {n : Nat} (hn : n < 16) (b : Burst) :
    (s.burReported n b).rxOn n = s.rxOn n := by
  refine (Leaves.burReported s hn b).rxOn hn ?_ ?_ ?_ <;>
    simp only [a_BUR_TXCNT, a_SYS_MODESTAT, a_PWR_STAT, a_PRT_PROFILE, f1] <;> omega

theorem State.burOnLine_rxState (hn : n < 16) (hon : s.rxOn n = true) : (s.burOnLine n b).rxState n = rBLANKED := by
  obtain ⟨hline, -⟩ := (s.burReported n b).burLine_leaves hn b
  have hrx : ((s.burReported n b).burLine n b).rxOn n = true :=
    ((hline.rxOn hn (launchReg_not (by decide)) (launchReg_not (by decide))
      (launchReg_not (by simp only [a_PRT_PROFILE]; omega))).trans (s.burReported_rxOn hn b)).trans hon
  have hburst : LineKept (fun _ => False) ClaimSource _ (s.burOnLine n b) := .burOnTime s hn b
  refine (hburst.get (f := PRT_RXSTAT_STATE n) (spared_port ?_) id).trans (State.burTaken_rxState hrx)
  simp only [PRT_RXSTAT_STATE, a_PRT_RXSTAT]
  omega

theorem State.burReported_tx (s : State) (n : Nat) (b : Burst) : (s.burReported n b).tx = s.tx := by
  rw [s.burReported_rest]
  rfl

/-- R180: under PREEMPT the frame on the line is cut. -/
theorem State.burOnLine_cut (hn : n < 16) {m : Nat} {a : Air} (hair : s.airOf n = some (m, a)) (hpre : b.preempt = true)
    (hm : m < s.ports) (hon : s.domOn (dPair m) = true) :
    ((s.burOnLine n b).txPort m).air = none ∧ fired s (s.burOnLine n b) (esPort m 5) 2 := by
  have hm16 : m < 16 := State.airOf_lt hn hair
  have hsource : PortSource (esPort m 5) := portSource_esPort hm16 (by decide)
  have hclaim := LineKept.burOnLine s hn b
  have hreported := Leaves.burReported s hn b
  have hfreed := State.burCut_frees hm16 ((State.airOf_congr (s.burReported_tx n b) n).trans hair)
  have hline : (s.burReported n b).burLine n b = (s.burReported n b).burCut n := if_pos hpre
  have hevent : fired s ((s.burReported n b).burCut n) (esPort m 5) 2 := by
    have hcut := hfreed.event (hreported.ports.symm ▸ hm)
      ((hreported.domOn (by simp only [a_BUR_TXCNT, a_PWR_STAT, f1]; omega) _).trans hon)
    rwa [fired, hreported.tick, hreported.staged _ hsource (by unfold esPort; omega)] at hcut
  rw [hline] at hclaim
  exact ⟨(hclaim.air m).trans hfreed.air, hclaim.fired hevent (esPort_lt hm16 (by decide)) hsource (by unfold esPort; omega)⟩

/-- R180: otherwise it stays. -/
theorem State.burOnLine_air (hn : n < 16) (hpre : b.preempt = false) :
    ((s.burOnLine n b).txPort n).air = (s.txPort n).air := by
  have hline : (s.burReported n b).burLine n b = s.burReported n b := by
    unfold State.burLine
    rw [hpre]
    rfl
  rw [(LineKept.burOnLine s hn b).air n, hline, State.txPort_congr (s.burReported_tx n b)]

/-- R175 to R180: the start of a chosen burst. -/
theorem State.burBegin_spec (hn : n < s.ports) (hon : s.domOn dProt = true) :
    let t := s.burBegin n b
    (∃ l g, t.burPort n = { s.burPortBegun n b with marks := l, gain := g }) ∧
    t.get (BUR_TXCNT_COUNT n) = satAdd 32 (s.get (BUR_TXCNT_COUNT n)) 1 ∧
    fired s t (64 + n) (b.cmd + 16 * b2n b.regen + 32 * b.source) ∧
    (s.rxOn n = true → t.rxState n = rBLANKED) ∧
    (bits (s.burPort n).txLvl 21 1 = 1 → t.get (PRT_AFE_ACT_GAIN n) = bits (s.burPort n).txLvl 14 7) ∧
    (∀ (m : Nat) (a : Air), s.airOf n = some (m, a) → b.preempt = true → m < s.ports → s.domOn (dPair m) = true →
      (t.txPort m).air = none ∧ fired s t (esPort m 5) 2) ∧
    (b.preempt = false → (t.txPort n).air = (s.txPort n).air) := by
  have h16 : n < 16 := Nat.lt_of_lt_of_le hn s.ports_le
  have hgain : Leaves (fun a => a = a_PRT_AFE n) (fun _ => False) (s.burOnLine n b) ((s.burOnLine n b).burGain n) :=
    .burGain _ h16
  obtain ⟨htx, g, hgainPort⟩ := (s.burOnLine n b).burGain_rest n
  obtain ⟨l, hport⟩ := s.burOnLine_burPort h16 b
  have hair (m : Nat) := congrArg TxPort.air (State.txPort_congr htx m)
  rw [s.burBegin_eq]
  refine ⟨⟨l, g, hgainPort.trans (by rw [hport])⟩, ?_, ?_, fun hrx => ?_, fun hbit => ?_, fun m a hline hpre hm hmon => ?_,
    fun hpre => (hair n).trans (State.burOnLine_air h16 hpre)⟩
  · refine (hgain.get (f := BUR_TXCNT_COUNT n) (spared_burTxcnt h16) ?_).trans (s.burOnLine_count h16 b)
    simp only [BUR_TXCNT_COUNT, a_BUR_TXCNT, a_PRT_AFE, f1]
    omega
  · exact hgain.fired (State.burOnLine_fired hn hon) (by omega) (by omega) id
  · refine (hgain.get (f := PRT_RXSTAT_STATE n) (spared_port ?_) ?_).trans (State.burOnLine_rxState h16 hrx) <;>
      simp only [PRT_RXSTAT_STATE, a_PRT_RXSTAT, a_PRT_AFE] <;> omega
  · have hlvl : ((s.burOnLine n b).burPort n).txLvl = (s.burPort n).txLvl := by
      rw [hport]
      rfl
    rw [← hlvl] at hbit ⊢
    exact State.burGain_gain hbit
  · have hm16 : m < 16 := State.airOf_lt h16 hline
    obtain ⟨hnone, hevent⟩ := State.burOnLine_cut h16 hline hpre hm hmon
    exact ⟨(hair m).trans hnone, hgain.fired hevent (esPort_lt hm16 (by decide)) (portSource_esPort hm16 (by decide)) id⟩

theorem exec_burinBurstStart {n : Fin 16} (h : (s.burPort n.val).chosen = some b) :
    exec (.burinBurstStart n) s = .next (if b.start ≤ s.tick then s.burBegin n.val b else s) := by
  show execBurinBurstStart n s = _
  unfold execBurinBurstStart
  rw [h]

end

/-! ## The end (R177, R193) -/

section
variable {s : State} {n : Nat}

/-- The port after its burst, with the transmit values that the profile in force, or the one to come, gives it. -/
def State.burPortEnded (s : State) (n : Nat) : BurPort :=
  { s.burPort n with
    ended := true, gain := none, txCfg := s.burGoal.getD (wPort n) 0, txLvl := s.burGoal.getD (wLvl n) 0 }

/-- The former code of the PGA is back. -/
def State.gainBack (s : State) (n : Nat) : State :=
  match (s.burPort n).gain with
  | some g => s.set (PRT_AFE_ACT_GAIN n) g
  | none => s

/-- The burst of a port that was `p` has ended, and the receiver is BLANKED for a while longer. -/
def State.burOver (s : State) (n : Nat) (p : BurPort) (stop : Nat) : State :=
  let t := s.setBurPort n { p with ended := true, gain := none }
  t.setRxPort n { t.rxPort n with blank := max (t.rxPort n).blank (stop + t.blankTicks n) }

/-- The state in which the next burst is chosen. -/
def State.burEnded (s : State) (n stop : Nat) : State :=
  (((s.gainBack n).burOver n (s.burPort n) stop).burApplyTx n).showPending

theorem State.burFinish_eq (s : State) (n : Nat) (b : Burst) :
    s.burFinish n b = ((s.burEnded n b.stop).burRepeat n b.cmd).burChoose n := rfl

theorem State.gainBack_rest (s : State) (n : Nat) : s.gainBack n = { s with regs := (s.gainBack n).regs } := by
  unfold State.gainBack
  cases (s.burPort n).gain <;> rfl

theorem State.burOver_gainBack_burPort (s : State) (n stop : Nat) :
    ((s.gainBack n).burOver n (s.burPort n) stop).burPort n = { s.burPort n with ended := true, gain := none } :=
  State.burPort_setBurPort (s.gainBack n) n _

/-- The goal of the transmit values is none of the ports'. -/
theorem State.burOver_gainBack_goal (s : State) (n stop : Nat) :
    ((s.gainBack n).burOver n (s.burPort n) stop).burGoal = s.burGoal := by
  rw [s.gainBack_rest]
  rfl

theorem State.burApplyTx_burPort (s : State) (n : Nat) : (s.burApplyTx n).burPort n =
    { s.burPort n with txCfg := s.burGoal.getD (wPort n) 0, txLvl := s.burGoal.getD (wLvl n) 0 } :=
  (State.burPort_congr (State.refreshLd_bur _ n) n).trans (State.burPort_setBurPort s n _)

theorem State.burEnded_burPort (s : State) (n stop : Nat) : (s.burEnded n stop).burPort n = s.burPortEnded n := by
  refine (State.burApplyTx_burPort _ n).trans ?_
  rw [s.burOver_gainBack_burPort, s.burOver_gainBack_goal]
  rfl

/-- R193: the values come into force by the driver's register and by those that show them. -/
theorem State.burApplyTx_driven {T F : Nat → Prop} (s : State) {n : Nat} (hn : n < 16) (hT : T (a_PRT_LDCTL n)) :
    ∃ p, Driven T F (s.setBurPort n p) (s.burApplyTx n) := ⟨_, .refreshLd _ hn hT⟩

/-- Nothing but registers, the receivers, the transmitters and the ports of Burin has changed. -/
theorem State.burEnded_rest (s : State) {n : Nat} (hn : n < 16) (stop : Nat) :
    ∃ g r x p, s.burEnded n stop = { s with regs := g, rx := r, tx := x, bur.port := p } := by
  obtain ⟨p, hdriven⟩ := ((s.gainBack n).burOver n (s.burPort n) stop).burApplyTx_driven (T := fun _ => True)
    (F := fun _ => True) hn trivial
  unfold State.burEnded State.showPending
  rw [hdriven.rest]
  unfold State.burOver
  rw [s.gainBack_rest]
  exact ⟨_, _, _, _, rfl⟩

/-- Of the registers PRT_AFE, PRT_LDCTL and BUR_CTL. -/
theorem State.burEnded_reg (s : State) {n : Nat} (stop : Nat) {a : Nat} (hafe : a ≠ a_PRT_AFE n)
    (hld : a ≠ a_PRT_LDCTL n) (hctl : a ≠ a_BUR_CTL) : (s.burEnded n stop).reg a = s.reg a := by
  have hback : (s.gainBack n).reg a = s.reg a := by
    unfold State.gainBack
    cases (s.burPort n).gain with
    | none => rfl
    | some g => exact s.reg_set_other (f := PRT_AFE_ACT_GAIN n) hafe g
  refine (State.reg_set_other _ (f := BUR_CTL_PENDING) hctl _).trans ?_
  exact (State.refreshLd_reg_other _ n hld).trans hback

theorem State.burEnded_gain {s : State} {n g : Nat} (stop : Nat) (h : (s.burPort n).gain = some g) :
    (s.burEnded n stop).get (PRT_AFE_ACT_GAIN n) = g % 128 := by
  have hback : (s.gainBack n).get (PRT_AFE_ACT_GAIN n) = g % 128 := by
    unfold State.gainBack
    rw [h]
    exact s.get_set_same (f := PRT_AFE_ACT_GAIN n) (by show 8 + 7 ≤ 32; omega) g
  refine (State.get_set_addr (f := BUR_CTL_PENDING) (g := PRT_AFE_ACT_GAIN n) _ ?_ _).trans
    ((State.get_of_reg (State.refreshLd_reg_other _ n ?_)).trans hback) <;>
    simp only [PRT_AFE_ACT_GAIN, BUR_CTL_PENDING, a_PRT_AFE, a_PRT_LDCTL, a_BUR_CTL, f1] <;> omega

theorem State.burEnded_sustains (s : State) {n : Nat} (hn : n < 16) (stop i c : Nat) :
    (s.burEnded n stop).sustains i n c = s.sustains i n c := by
  obtain ⟨g, r, x, p, hrest⟩ := s.burEnded_rest hn stop
  have hstuck : (s.burEnded n stop).stuck i = s.stuck i := congrArg (bitN · i) (State.get_of_reg (s.burEnded_reg stop
    (a := BUR_STAT_STUCK.addr) (by simp only [BUR_STAT_STUCK, a_BUR_STAT, a_PRT_AFE, f1]; omega)
    (by simp only [BUR_STAT_STUCK, a_BUR_STAT, a_PRT_LDCTL, f1]; omega) (by decide)))
  have hwords : (s.burEnded n stop).bur.words = s.bur.words := by rw [hrest]
  have hins : (s.burEnded n stop).bur.ins = s.bur.ins := by rw [hrest]
  simp only [State.sustains, State.tEn, State.tCmd, State.tPorts, State.trip, State.burWord, hstuck, hwords, hins]

/-! ### The burst after it (R177) -/

/-- The first input that sustains command `c` on the port. -/
def State.sustainer (s : State) (n c : Nat) : Option Nat := (List.range 8).find? (fun i => s.sustains i n c)

theorem State.sustainer_some {c i : Nat} (h : s.sustainer n c = some i) : i < 8 ∧ s.sustains i n c = true :=
  ⟨List.mem_range.1 (List.mem_of_find?_eq_some h), List.find?_some (p := fun i => s.sustains i n c) h⟩

theorem State.sustainer_none {c : Nat} (h : s.sustainer n c = none) (i : Nat) (hi : i < 8) : s.sustains i n c = false :=
  Bool.eq_false_iff.2 (List.find?_eq_none.1 h i (List.mem_range.2 hi))

/-- The repeats of a port on which command `c` has ended. -/
def State.repeats (s : State) (n c : Nat) (l : Tab Nat) : Tab Nat :=
  match s.sustainer n c with
  | some i => put c i l
  | none => l

/-- A repeat is pending where it was, and that of the command where an input sustains it. -/
theorem State.find_repeats (s : State) (n c k : Nat) (l : Tab Nat) : find (s.repeats n c l) k ≠ none ↔
    find l k ≠ none ∨ (k = c ∧ ∃ i, i < 8 ∧ s.sustains i n k = true) := by
  unfold State.repeats
  cases h : s.sustainer n c with
  | none =>
    refine ⟨.inl, fun hk => hk.resolve_right ?_⟩
    rintro ⟨rfl, i, hi, hs⟩
    exact absurd hs (Bool.eq_false_iff.1 (State.sustainer_none h i hi))
  | some i =>
    rw [find_put]
    by_cases hk : k = c
    · rw [if_pos hk]
      subst hk
      exact iff_of_true (Option.some_ne_none i) (.inr ⟨rfl, i, State.sustainer_some h⟩)
    · rw [if_neg hk]
      exact ⟨.inl, fun h' => h'.resolve_right fun h'' => hk h''.1⟩

/-- R177: without transmission nothing is to be repeated. -/
theorem State.burRepeat_off (h : s.burMay n = false) (c : Nat) : s.burRepeat n c = s := by
  unfold State.burRepeat
  cases (List.range 8).find? (fun i => s.sustains i n c) with
  | none => rfl
  | some i => exact if_neg (Bool.eq_false_iff.1 h)

theorem State.burRepeat_on (h : s.burMay n = true) (c : Nat) :
    (s.burRepeat n c).burPort n = { s.burPort n with again := s.repeats n c (s.burPort n).again } := by
  unfold State.burRepeat State.repeats State.sustainer
  cases (List.range 8).find? (fun i => s.sustains i n c) with
  | none => rfl
  | some i => exact (congrArg (State.burPort · n) (if_pos h)).trans (State.burPort_setBurPort s n _)

theorem State.burRepeat_rest (s : State) (n c : Nat) :
    (s.burRepeat n c).tick = s.tick ∧ (s.burRepeat n c).sq = s.sq ∧ (s.burRepeat n c).regs = s.regs := by
  unfold State.burRepeat
  cases (List.range 8).find? (fun i => s.sustains i n c) with
  | none => exact ⟨rfl, rfl, rfl⟩
  | some i => cases h : s.burMay n <;> exact ⟨rfl, rfl, rfl⟩

/-- The burst that a port chooses for the next tick. -/
def State.nextBurst (s : State) (p : BurPort) (c i : Nat) (r : Bool) : Burst :=
  { cmd := c, start := s.tick + 1, stop := s.tick + 1 + burstTicks (pcPROF p.txCfg), regen := r, source := i,
    preempt := !pcPRIO p.txCfg, wide := pcPROF p.txCfg }

/-- R177, R193: what a port whose burst has ended, with none chosen, becomes. -/
def State.burNext (s : State) (p : BurPort) : BurPort :=
  if pcTXEN p.txCfg then
    { p with chosen := p.pick.map (fun x => s.nextBurst p x.1 x.2.1 x.2.2) }
  else { p with fresh := [], regen := [], again := [] }

theorem BurPort.chosen_none {p : BurPort} (h : p.chosen = none) : { p with chosen := none } = p := by
  rw [← h]

theorem State.burChoose_burPort (hended : (s.burPort n).ended = true) (hchosen : (s.burPort n).chosen = none) :
    (s.burChoose n).burPort n = s.burNext (s.burPort n) := by
  unfold State.burChoose State.burNext
  refine (congrArg (State.burPort · n) (if_neg (by simp [State.burFree, hended, hchosen]))).trans ?_
  cases htx : pcTXEN (s.burPort n).txCfg with
  | false => exact State.burPort_setBurPort s n _
  | true =>
    cases hpick : (s.burPort n).pick with
    | none => exact (BurPort.chosen_none hchosen).symm
    | some x => exact State.burPort_setBurPort s n _

theorem State.burChoose_rest (s : State) (n : Nat) : (s.burChoose n).sq = s.sq ∧ (s.burChoose n).regs = s.regs := by
  unfold State.burChoose
  extract_lets p open_
  split
  · exact ⟨rfl, rfl⟩
  · split
    · exact ⟨rfl, rfl⟩
    · cases p.pick <;> exact ⟨rfl, rfl⟩

/-- R177, R193: the last tick of a burst. -/
theorem State.burFinish_spec {b : Burst} (hn : n < s.ports) (hchosen : (s.burPort n).chosen = none) :
    let t := s.burFinish n b
    let cfg := s.burGoal.getD (wPort n) 0
    t.sq = s.sq ∧ (∀ g, (s.burPort n).gain = some g → t.get (PRT_AFE_ACT_GAIN n) = g % 128) ∧
      ∃ u : State, u.tick = s.tick ∧ t.burPort n = u.burNext (if pcTXEN cfg then
        { s.burPortEnded n with again := s.repeats n b.cmd (s.burPort n).again } else s.burPortEnded n) := by
  have h16 : n < 16 := Nat.lt_of_lt_of_le hn s.ports_le
  obtain ⟨g, r, x, p, hrest⟩ := s.burEnded_rest h16 b.stop
  have hports : (s.burEnded n b.stop).ports = s.ports := by
    rw [hrest]
    rfl
  have hport := s.burEnded_burPort n b.stop
  have hmay : (s.burEnded n b.stop).burMay n = pcTXEN (s.burGoal.getD (wPort n) 0) := by
    unfold State.burMay
    rw [hports, decide_eq_true hn, hport]
    rfl
  obtain ⟨htick, hsq, hregs⟩ := (s.burEnded n b.stop).burRepeat_rest n b.cmd
  obtain ⟨hsq', hregs'⟩ := ((s.burEnded n b.stop).burRepeat n b.cmd).burChoose_rest n
  have hsustained : (s.burEnded n b.stop).repeats n b.cmd = s.repeats n b.cmd := by
    funext l
    simp only [State.repeats, State.sustainer, s.burEnded_sustains h16]
  have hrepeat : ((s.burEnded n b.stop).burRepeat n b.cmd).burPort n = (if pcTXEN (s.burGoal.getD (wPort n) 0) then
      { s.burPortEnded n with again := s.repeats n b.cmd (s.burPort n).again } else s.burPortEnded n) := by
    cases htx : pcTXEN (s.burGoal.getD (wPort n) 0) with
    | true =>
      rw [State.burRepeat_on (hmay.trans htx), hport, hsustained, if_pos rfl]
      rfl
    | false => rw [State.burRepeat_off (hmay.trans htx), hport, if_neg Bool.false_ne_true]
  rw [s.burFinish_eq]
  refine ⟨hsq'.trans (hsq.trans (by rw [hrest])), fun g hg => ?_, (s.burEnded n b.stop).burRepeat n b.cmd,
    htick.trans (by rw [hrest]), ?_⟩
  · exact (State.get_of_reg (State.reg_congr (hregs'.trans hregs) _)).trans (State.burEnded_gain b.stop hg)
  · rw [← hrepeat]
    refine State.burChoose_burPort ?_ ?_ <;> rw [hrepeat]
    · split <;> rfl
    · split <;> exact hchosen

theorem exec_burinBurstEnd {n : Fin 16} {b : Burst} (h : (s.burPort n.val).cur = some b)
    (hended : (s.burPort n.val).ended = false) :
    exec (.burinBurstEnd n) s = .next (if b.stop ≤ s.tick + 1 then s.burFinish n.val b else s) := by
  show execBurinBurstEnd n s = _
  unfold execBurinBurstEnd
  simp only [h, hended, Bool.not_false, Bool.true_and, decide_eq_true_eq]

/-! ### The order of the requests (R177) -/

theorem BurPort.pick_fresh {p : BurPort} {c i : Nat} {l : Tab Nat} (h : p.fresh = (c, i) :: l) :
    p.pick = some (c, i, false) := by
  simp [BurPort.pick, h]

theorem BurPort.pick_regen {p : BurPort} {c i : Nat} {l : Tab Nat} (hfresh : p.fresh = []) (h : p.regen = (c, i) :: l) :
    p.pick = some (c, i, true) := by
  simp [BurPort.pick, hfresh, h]

theorem BurPort.pick_again {p : BurPort} (hfresh : p.fresh = []) (hregen : p.regen = []) :
    p.pick = p.again.head?.map (fun e => (e.1, e.2, false)) := by
  cases h : p.again <;> simp [BurPort.pick, hfresh, hregen, h]

/-- The port of a burst that has ended, with its repeats. -/
def State.burPortRepeating (s : State) (n c : Nat) : BurPort :=
  { s.burPortEnded n with again := s.repeats n c (s.burPort n).again }

/-- A pick is chosen for the next tick. -/
theorem State.burNext_chosen {u : State} {p : BurPort} (htx : pcTXEN p.txCfg = true) {c i : Nat} {r : Bool}
    (hpick : p.pick = some (c, i, r)) :
    ∃ x, (u.burNext p).chosen = some x ∧ x.cmd = c ∧ x.source = i ∧ x.regen = r ∧ x.start = u.tick + 1 := by
  refine ⟨u.nextBurst p c i r, ?_, rfl, rfl, rfl, rfl⟩
  unfold State.burNext
  rw [if_pos htx, hpick]
  rfl

/-- Without a pick none is. -/
theorem State.burNext_none {u : State} {p : BurPort} (htx : pcTXEN p.txCfg = true) (hpick : p.pick = none) :
    (u.burNext p).chosen = none := by
  unfold State.burNext
  rw [if_pos htx, hpick]
  rfl

theorem State.burNext_kept (u : State) (p : BurPort) :
    (u.burNext p).ended = p.ended ∧ (u.burNext p).txCfg = p.txCfg := by
  unfold State.burNext
  split <;> exact ⟨rfl, rfl⟩

theorem State.burNext_again {u : State} {p : BurPort} (htx : pcTXEN p.txCfg = true) : (u.burNext p).again = p.again := by
  unfold State.burNext
  rw [if_pos htx]

/-- With one command to repeat, or none, where nothing else is pending. -/
theorem State.burNext_repeats {u : State} {c : Nat} (htx : pcTXEN (s.burGoal.getD (wPort n) 0) = true)
    (hfresh : (s.burPort n).fresh = []) (hregen : (s.burPort n).regen = []) (hagain : (s.burPort n).again = []) :
    ((∃ i, i < 8 ∧ s.sustains i n c = true) → ∃ x, (u.burNext (s.burPortRepeating n c)).chosen = some x ∧ x.cmd = c ∧
      x.regen = false ∧ x.start = u.tick + 1) ∧
    ((∀ i, i < 8 → s.sustains i n c = false) → (u.burNext (s.burPortRepeating n c)).chosen = none) := by
  have hpick : (s.burPortRepeating n c).pick = (s.repeats n c []).head?.map (fun e => (e.1, e.2, false)) := by
    refine (BurPort.pick_again (p := s.burPortRepeating n c) hfresh hregen).trans ?_
    rw [← hagain]
    rfl
  unfold State.repeats at hpick
  cases h : s.sustainer n c with
  | some i =>
    rw [h] at hpick
    obtain ⟨hi, hs⟩ := State.sustainer_some h
    refine ⟨fun _ => ?_, fun hnone => absurd hs (Bool.eq_false_iff.1 (hnone i hi))⟩
    obtain ⟨x, hx, hcmd, -, hregen', hstart⟩ := State.burNext_chosen (u := u) htx hpick
    exact ⟨x, hx, hcmd, hregen', hstart⟩
  | none =>
    rw [h] at hpick
    refine ⟨fun ⟨i, hi, hs⟩ => absurd hs (Bool.eq_false_iff.1 (State.sustainer_none h i hi)), fun _ => ?_⟩
    exact State.burNext_none htx hpick

end

/-- Settles O32: what `BURIN_BURST_START` and `BURIN_BURST_END` make of the port, of its line and of its requests. -/
theorem burstsAreSentAndFollowed : Obligations.BurstsAreSentAndFollowed := by
  unfold Obligations.BurstsAreSentAndFollowed
  refine ⟨fun s n b hchosen => ⟨fun hearly => ?_, fun hdue hn hon => ?_⟩,
    fun s n b hcur hended hchosen hn => ⟨fun hearly => ?_, fun hdue => ?_⟩⟩
  · rw [exec_burinBurstStart hchosen, if_neg (Nat.not_le.2 hearly)]
  · obtain ⟨⟨l, g, hport⟩, hcount, hevent, hstate, hgain, hcut, hkept⟩ := State.burBegin_spec (b := b) hn hon
    refine ⟨_, (exec_burinBurstStart hchosen).trans (congrArg Host.Outcome.next (if_pos hdue)), ?_, ?_, ?_, ?_, ?_, ?_,
      hcount, hevent, fun hrx _ => hstate hrx, hgain, hcut, hkept⟩
    all_goals rw [hport]
    · rfl
    · rfl
    · rfl
    all_goals exact (find_del _ _ _).trans (if_pos rfl)
  · rw [exec_burinBurstEnd hcur hended, if_neg (by omega)]
  · obtain ⟨hsq, hgain, u, htick, hport⟩ := State.burFinish_spec (b := b) hn hchosen
    intro cfg
    refine ⟨_, (exec_burinBurstEnd hcur hended).trans (congrArg Host.Outcome.next (if_pos hdue)), ?_⟩
    cases htx : pcTXEN cfg with
    | false =>
      have hquiet : (s.burFinish n.val b).burPort n.val = { s.burPortEnded n.val with fresh := [], regen := [], again := [] } := by
        rw [hport, if_neg (Bool.eq_false_iff.1 htx)]
        exact if_neg (Bool.eq_false_iff.1 htx)
      rw [hquiet]
      exact ⟨rfl, rfl, hsq, hgain, fun _ => ⟨hchosen, rfl, rfl, rfl⟩, nofun⟩
    | true =>
      have hnext : (s.burFinish n.val b).burPort n.val = u.burNext (s.burPortRepeating n.val b.cmd) := by
        rw [hport, if_pos htx]
        rfl
      have htx' : pcTXEN (s.burPortRepeating n.val b.cmd).txCfg = true := htx
      obtain ⟨hover, hcfg⟩ := u.burNext_kept (s.burPortRepeating n.val b.cmd)
      rw [hnext, ← htick]
      refine ⟨hover, hcfg, hsq, hgain, nofun, fun _ => ⟨fun c i l hfresh => ?_, fun c i l hfresh hregen => ?_,
        fun hfresh hregen hagain => State.burNext_repeats htx hfresh hregen hagain, fun c => ?_⟩⟩
      · exact State.burNext_chosen htx' (BurPort.pick_fresh hfresh)
      · exact State.burNext_chosen htx' (BurPort.pick_regen hfresh hregen)
      · rw [State.burNext_again htx']
        exact s.find_repeats n.val b.cmd c _

end Sys2Proof.Machine

/-! Sounding frames and ranging (R130, R364). -/

namespace Sys2Proof.Machine

/-! ## What a telemetry record leaves (R300) -/

theorem State.requestVector_deliveries (s : State) (f v : Nat) :
    (s.requestVector f v).hif.deliveries = s.hif.deliveries := by
  obtain h | h | ⟨_, _, -, h⟩ := s.requestVector_cases f v <;> rw [h]
  rfl

theorem State.putPayload_deliveries (f r : Nat) (l : List Nat) (s : State) :
    (s.putPayload f r l).hif.deliveries = s.hif.deliveries := by
  induction l generalizing s with
  | nil => rfl
  | cons x rest ih => exact ih _

theorem State.putRecord_deliveries (s : State) (kind r type data : Nat) (l : List Nat) :
    (s.putRecord kind r type data l).hif.deliveries = s.hif.deliveries := by
  unfold State.putRecord
  extract_lets lost s1 s2
  have hentries : s2.hif.deliveries = s.hif.deliveries := s1.putPayload_deliveries 0 r l
  clear_value s2
  split
  · rfl
  · split
    · split
      · exact (s2.requestVector_deliveries 0 _).trans hentries
      · exact hentries
    · rfl

/-- A register that neither a telemetry record nor an event writes. -/
abbrev NoRecordReg (a : Nat) : Prop := NotPending a ∧ a < 0x1C1000 ∧ (a < 0x40000 ∨ 0x60000 ≤ a)

/-- From `s` to `t` records have been written and free choices made. -/
structure Recorded (s t : State) : Prop where
  rest : t = { s with regs := t.regs, sq := t.sq, hif := t.hif, posted := t.posted, free := t.free }
  deliveries : t.hif.deliveries = s.hif.deliveries
  regs : ∀ a, NoRecordReg a → t.reg a = s.reg a

theorem State.telemetry_recorded (s : State) (type data port : Nat) (l : List Nat) :
    Recorded s (s.telemetry type data port l) := by
  cases hen : s.flag HIF_TELCFG_EN with
  | false =>
    rw [State.telemetry_off hen]
    exact ⟨rfl, rfl, fun _ _ => rfl⟩
  | true =>
    have hrecord := s.putRecord_recordOnly 2 (s.get HIF_TELCFG_RING) type data l
    have hfire := (s.putRecord 2 (s.get HIF_TELCFG_RING) type data l).onlyRegsSq_fire 486 port
    have hring : s.get HIF_TELCFG_RING < 2 ^ 12 := s.get_lt _
    unfold State.telemetry
    rw [if_pos hen]
    refine ⟨?_, ?_, fun a ha => ?_⟩
    · rw [hfire, hrecord]
    · rw [hfire]
      exact s.putRecord_deliveries 2 _ type data l
    · refine (State.reg_fire_other _ (pendReg_ne (by decide) ha.1) port).trans (s.putRecord_reg 2 _ type data l ?_ fun _ => ?_)
      · simp only [a_MSIX_PBA]; omega
      · simp only [a_HIF_RPROD]; omega

/-! ## The exchange of a sounding frame -/

/-- From `s` to `t` a sounding frame of a port has been taken: beside records, the first receive FIFO's packet is read, the
sender's directory entry may be written, and delays may be noted. -/
structure SoundKept (s t : State) : Prop where
  rest : t = { s with regs := t.regs, sq := t.sq, hif := t.hif, posted := t.posted, free := t.free, arc := t.arc, mac := t.mac,
                      blv.dir := t.blv.dir }
  deliveries : t.hif.deliveries = s.hif.deliveries
  regs : ∀ a, NoRecordReg a → t.reg a = s.reg a
  own : t.ownAddr = s.ownAddr

namespace SoundKept

section
variable {s t u : State}

theorem refl (s : State) : SoundKept s s := ⟨rfl, rfl, fun _ _ => rfl, rfl⟩

theorem trans (h : SoundKept s t) (k : SoundKept t u) : SoundKept s u :=
  ⟨by rw [k.rest, h.rest], k.deliveries.trans h.deliveries, fun a ha => (k.regs a ha).trans (h.regs a ha), k.own.trans h.own⟩

theorem get (h : SoundKept s t) {f : Field} (hf : NoRecordReg f.addr) : t.get f = s.get f := State.get_of_reg (h.regs _ hf)

theorem profile (h : SoundKept s t) {n : Nat} (hn : n < 16) : t.profile n = s.profile n :=
  h.get (f := PRT_PROFILE_ACT n) (by simp only [NoRecordReg, NotPending, PRT_PROFILE_ACT, a_PRT_PROFILE, f1]; omega)

/-- R256: the cells of class 0. -/
theorem admitsCells (h : SoundKept s t) (k : Nat) : t.admitsCells 0 k = s.admitsCells 0 k := by
  have hblv : t.blv = { s.blv with dir := t.blv.dir } := by
    conv_lhs => rw [h.rest]
  have hfloor : t.floor 0 = s.floor 0 := h.get (f := BLV_FLOOR_FLOOR 0) (by decide)
  simp only [State.admitsCells, hfloor]
  rw [hblv]

theorem framesOf (h : SoundKept s t) (q : Nat) : t.framesOf q = s.framesOf q := State.framesOf_congr (by rw [h.rest]) q

theorem of_recorded (h : Recorded s t) : SoundKept s t where
  rest := by rw [h.rest]
  deliveries := h.deliveries
  regs := h.regs
  own := State.ownAddr_congr (State.get_of_reg (f := SYS_MODESTAT_MODE) (h.regs _ (by decide))) (by rw [h.rest])
    (by rw [h.rest])

theorem other (hmode : t.regs = s.regs) (hdir : t.blv.dir = s.blv.dir) (hrest : t = { s with arc := t.arc, mac := t.mac }) :
    SoundKept s t where
  rest := by rw [hrest]
  deliveries := by rw [hrest]
  regs a _ := State.reg_congr hmode a
  own := State.ownAddr_congr (State.get_of_reg (State.reg_congr hmode _)) (by rw [hrest]) hdir

end
end SoundKept

section
variable {s : State}

theorem State.dirEnt_setDirEnt_same (s : State) (i : Nat) (v : BitVec 512) : (s.setDirEnt i v).dirEnt i = v :=
  look_store_same _ _ _ _

theorem State.dirEnt_setDirEnt_other (s : State) {i j : Nat} (h : j ≠ i) (v : BitVec 512) :
    (s.setDirEnt i v).dirEnt j = s.dirEnt j := look_store_other _ _ h _ _

/-- R213: an entry whose address stays leaves the device's own address. -/
theorem State.ownAddr_setDirEnt {i : Nat} {v : BitVec 512} (h : sub v dADDR2 = sub (s.dirEnt i) dADDR2) :
    (s.setDirEnt i v).ownAddr = s.ownAddr := by
  have hentry : sub ((s.setDirEnt i v).dirEnt 0) dADDR2 = sub (s.dirEnt 0) dADDR2 := by
    by_cases hi : 0 = i
    · rw [← hi, State.dirEnt_setDirEnt_same, h, ← hi]
    · rw [s.dirEnt_setDirEnt_other hi]
  unfold State.ownAddr
  rw [hentry]
  rfl

/-- Table 11-6: LASTRX shares no bit with another field. -/
theorem sub_lastrx_other (v : BitVec 512) (x : Nat) {f : Sub} (h : f.lo + f.w ≤ 224 ∨ 256 ≤ f.lo) :
    sub (withSub v dLASTRX x) f = sub v f := sub_withSub_other v (f := dLASTRX) h.symm x

/-- R234: what marking a sender heard leaves. -/
theorem SoundKept.heard (s : State) (addr : Nat) : SoundKept s (s.heard addr) := by
  unfold State.heard
  extract_lets v
  split
  · exact .refl s
  · exact ⟨rfl, rfl, fun _ _ => rfl, State.ownAddr_setDirEnt (sub_lastrx_other _ _ (.inr (Nat.le_refl 256)))⟩

theorem State.heard_eq {addr : Nat} (hstate : sub (s.dirOf addr) dSTATE ≠ 0) (husable : s.dirUsable addr = true) :
    s.heard addr = s.setDirEnt (s.dirIndex addr) (withSub (s.dirOf addr) dLASTRX (s.mac.period % 2 ^ 32)) := by
  unfold State.heard
  exact if_neg (by simp [hstate, husable])

/-- R234: LASTRX of the sender. -/
theorem State.heard_lastrx {addr : Nat} (hstate : sub (s.dirOf addr) dSTATE ≠ 0) (husable : s.dirUsable addr = true) :
    sub ((s.heard addr).dirOf addr) dLASTRX = s.mac.period % 2 ^ 32 := by
  have hown : (s.heard addr).dirIndex addr = s.dirIndex addr := congrArg (Nat.xor addr) (SoundKept.heard s addr).own
  rw [State.dirOf, hown, State.heard_eq hstate husable, State.dirEnt_setDirEnt_same, sub_withSub_same _ (by decide)]
  exact Nat.mod_mod _ _

theorem State.heard_dirOf (s : State) (addr : Nat) {f : Sub} (h : f.lo + f.w ≤ 224 ∨ 256 ≤ f.lo) :
    sub ((s.heard addr).dirOf addr) f = sub (s.dirOf addr) f := by
  have hown : (s.heard addr).dirIndex addr = s.dirIndex addr := congrArg (Nat.xor addr) (SoundKept.heard s addr).own
  rw [State.dirOf, hown]
  unfold State.heard
  extract_lets v
  split
  · rfl
  · exact (congrArg (sub · f) (s.dirEnt_setDirEnt_same _ _)).trans (sub_lastrx_other _ _ h)

theorem State.sesFrom_congr {s t : State} {src : Nat} (hsession : sub (t.dirOf src) dSESSION = sub (s.dirOf src) dSESSION)
    (hses : t.blv.sessions = s.blv.sessions) : t.sesFrom src = s.sesFrom src := by
  simp only [State.sesFrom, State.ses, State.findSes, hsession, hses]

theorem State.heard_sesFrom (s : State) (addr : Nat) : (s.heard addr).sesFrom addr = s.sesFrom addr := by
  refine State.sesFrom_congr (s.heard_dirOf addr (.inl (by decide))) ?_
  rw [(SoundKept.heard s addr).rest]

theorem SoundKept.dirIndex {s t : State} (h : SoundKept s t) (addr : Nat) : t.dirIndex addr = s.dirIndex addr :=
  congrArg (Nat.xor addr) h.own

theorem SoundKept.dirUsable {s t : State} (h : SoundKept s t) (addr : Nat) : t.dirUsable addr = s.dirUsable addr := by
  have hquar : t.blv.quarP = s.blv.quarP := by rw [h.rest]
  have hcount : t.dirCount = s.dirCount := by
    rw [h.rest]
    rfl
  simp only [State.dirUsable, State.pQuar, h.dirIndex, hquar, hcount]

/-! ## What a sounding frame measures (R130) -/

theorem SoundKept.noteDelay (s : State) (n : Nat) (f : RxFrame) : SoundKept s (s.noteDelay n f) := by
  unfold State.noteDelay
  split
  · exact .other rfl rfl rfl
  · exact .refl s

theorem State.noteDelay_pending {n k d : Nat} {f : RxFrame} (hk : s.sesFrom f.lfc.src = some k)
    (hd : s.soundDelay n f = some d) : find (s.noteDelay n f).mac.pendingDelay k = some d := by
  unfold State.noteDelay
  rw [hk, hd]
  exact (find_put _ _ _ _).trans (if_pos rfl)

/-- A free choice before a record. -/
theorem Recorded.after_choice {s t u : State} (h : Recorded t u) (hchoice : t = { s with free := t.free }) : Recorded s u where
  rest := by
    have hrest := h.rest
    rw [hchoice] at hrest
    exact hrest
  deliveries := h.deliveries.trans (by rw [hchoice])
  regs a ha := (h.regs a ha).trans (State.reg_congr (by rw [hchoice]) a)

theorem State.impedance_recorded (s : State) (n : Nat) (f : RxFrame) : Recorded s (s.impedance n f) := by
  unfold State.impedance
  split
  · exact (State.telemetry_recorded _ _ _ _ _).after_choice rfl
  · exact ⟨rfl, rfl, fun _ _ => rfl⟩

/-- The state in which a sounding frame of a port is acted on. -/
def State.soundTaken (s : State) (n : Nat) (f : RxFrame) : State := ((s.arcRead (2 * n)).heard f.lfc.src).sounded n f

theorem SoundKept.arcRead (s : State) (i : Nat) : SoundKept s (s.arcRead i) := by
  rw [s.arcRead_rest]
  exact .other rfl rfl rfl

theorem SoundKept.sounded (s : State) (n : Nat) (f : RxFrame) : SoundKept s (s.sounded n f) :=
  (noteDelay s n f).trans (of_recorded (State.impedance_recorded _ n f))

theorem SoundKept.soundTaken (s : State) (n : Nat) (f : RxFrame) : SoundKept s (s.soundTaken n f) :=
  ((arcRead s _).trans (heard _ _)).trans (sounded _ n f)

/-- A sounding frame for this device, from a usable address, is acted on. -/
theorem State.takeRx_sound {n type : Nat} {f : RxFrame} (hfront : s.rxFront n = some f) (hphy : f.phy = 3)
    (htype : leNat (f.payload.take 1) = type) (hdst : f.lfc.dst = s.ownAddr) (husable : s.dirUsable f.lfc.src = true)
    {p : Nat → Bool} (hp : p type = true) (act : State → State) (actOf : RxFrame → State → State) (hact : actOf f = act) :
    s.takeRx n (isSounding p) (fun g t => t.soundIn n g (actOf g)) = act (s.soundTaken n f) := by
  have hheard : SoundKept s ((s.arcRead (2 * n)).heard f.lfc.src) := (SoundKept.arcRead s _).trans (.heard _ _)
  have hwant : isSounding p f = true := by simp [isSounding, hphy, htype, hp]
  unfold State.takeRx State.soundIn
  simp only [hfront, hwant, if_true, hheard.own, hheard.dirUsable, husable, hdst, hact]
  simp
  rfl

/-! ## What a sounding frame leaves noted -/

theorem SoundKept.dirOf {s t : State} (h : SoundKept s t) (hdir : t.blv.dir = s.blv.dir) (addr : Nat) :
    t.dirOf addr = s.dirOf addr := by
  have hotp : t.otp = s.otp := by rw [h.rest]
  simp only [State.dirOf, State.dirEnt, State.dirFresh, h.dirIndex, hdir, hotp]

theorem State.noteDelay_blv (s : State) (n : Nat) (f : RxFrame) : (s.noteDelay n f).blv = s.blv := by
  unfold State.noteDelay
  split <;> rfl

theorem State.sounded_blv (s : State) (n : Nat) (f : RxFrame) : (s.sounded n f).blv = s.blv := by
  rw [State.sounded, (State.impedance_recorded _ n f).rest]
  exact s.noteDelay_blv n f

theorem State.sounded_dirOf (s : State) (n : Nat) (f : RxFrame) (addr : Nat) : (s.sounded n f).dirOf addr = s.dirOf addr :=
  (SoundKept.sounded s n f).dirOf (by rw [s.sounded_blv]) addr

theorem State.arcRead_dirOf (s : State) (i addr : Nat) : (s.arcRead i).dirOf addr = s.dirOf addr :=
  (SoundKept.arcRead s i).dirOf (by rw [s.arcRead_rest]) addr

theorem State.soundTaken_lastrx {n : Nat} {f : RxFrame} (hstate : sub (s.dirOf f.lfc.src) dSTATE ≠ 0)
    (husable : s.dirUsable f.lfc.src = true) :
    sub ((s.soundTaken n f).dirOf f.lfc.src) dLASTRX = s.mac.period % 2 ^ 32 := by
  have hmac : (s.arcRead (2 * n)).mac = s.mac := by rw [s.arcRead_rest]
  have hread : sub ((s.arcRead (2 * n)).dirOf f.lfc.src) dSTATE ≠ 0 := by rwa [s.arcRead_dirOf]
  have hheard := State.heard_lastrx hread (((SoundKept.arcRead s (2 * n)).dirUsable _).trans husable)
  rw [hmac] at hheard
  exact (congrArg (sub · dLASTRX) (State.sounded_dirOf _ n f _)).trans hheard

theorem SoundKept.soundDelay {s t : State} (h : SoundKept s t) {n : Nat} (hn : n < 16) (f : RxFrame) :
    t.soundDelay n f = s.soundDelay n f := by
  unfold State.soundDelay
  rw [h.profile hn]

theorem State.soundTaken_pending {n : Nat} (hn : n < 16) {f : RxFrame} {k d : Nat} (hk : s.sesFrom f.lfc.src = some k)
    (hd : s.soundDelay n f = some d) : find (s.soundTaken n f).mac.pendingDelay k = some d := by
  have hread : (s.arcRead (2 * n)).sesFrom f.lfc.src = s.sesFrom f.lfc.src :=
    State.sesFrom_congr (by rw [s.arcRead_dirOf]) (by rw [s.arcRead_rest])
  have hheard : SoundKept s ((s.arcRead (2 * n)).heard f.lfc.src) := (SoundKept.arcRead s _).trans (.heard _ _)
  rw [State.soundTaken, State.sounded, (State.impedance_recorded _ n f).rest]
  exact State.noteDelay_pending ((State.heard_sesFrom _ _).trans (hread.trans hk)) ((hheard.soundDelay hn f).trans hd)

end
end Sys2Proof.Machine

/-! SUPPORT. Frames of the device's own MAC in sounding frames, and ranging (R130, R364). -/

namespace Sys2Proof.Machine

/-! ## The sounding frames that the device sends -/

/-- A sounding frame of the control queue with its destination, type, RSEQ and turn-around time. -/
structure SoundFrame (g : TxFrame) (dest type rseq turn : Nat) : Prop where
  phy : g.phy = 3
  dst : g.lfc.dst = dest
  ackreq : g.lfc.ackreq = false
  type : g.body.take 1 = [BitVec.ofNat 8 type]
  length : g.body.length = 28
  rseq : leNat ((g.body.drop 1).take 1) = rseq % 256
  turn : leNat ((g.body.drop 20).take 8) = turn % 2 ^ 64

/-- Table 06-9. -/
def soundBody (type rseq turn : Nat) : List Byte :=
  [BitVec.ofNat 8 type, BitVec.ofNat 8 rseq, 0, 0] ++ List.replicate 16 0 ++ leBytes 8 turn

theorem soundBody_length (type rseq turn : Nat) : (soundBody type rseq turn).length = 28 := by
  simp [soundBody, leBytes_length]

theorem soundBody_rseq (type rseq turn : Nat) : leNat (((soundBody type rseq turn).drop 1).take 1) = rseq % 256 := by
  have htake : ((soundBody type rseq turn).drop 1).take 1 = [BitVec.ofNat 8 rseq] := rfl
  rw [htake]
  simp [leNat]

theorem soundBody_turn (type rseq turn : Nat) : leNat (((soundBody type rseq turn).drop 20).take 8) = turn % 2 ^ 64 := by
  have hdrop : (soundBody type rseq turn).drop 20 = leBytes 8 turn := rfl
  rw [hdrop, List.take_of_length_le (by rw [leBytes_length]), leNat_leBytes]
  norm_num

/-- A frame of the control queue of a port. -/
theorem State.sendMac_framesOf {s : State} (n phy : Nat) (l : Lfc) (body : List Byte)
    (h : s.admitsCells 0 (cellsOf body.length) = true) : ∃ i e, (s.sendMac n phy l body).framesOf (ctrlQueue n) =
      s.framesOf (ctrlQueue n) ++ [{ id := i, body := body, phy := phy, lfc := l, enq := s.tick, expire := e }] := by
  unfold State.sendMac
  rw [if_pos h]
  obtain ⟨-, -, -, hlinked⟩ := (s.takeCells (cellsOf body.length)).linkFrame_spec (ctrlQueue n)
    { id := 0, body := body, phy := phy, lfc := l }
  exact hlinked

theorem State.sendSounding_framesOf {s : State} (n dest type rseq turn : Nat) (h : s.admitsCells 0 1 = true) :
    ∃ g, (s.sendSounding n dest type rseq turn).framesOf (ctrlQueue n) = s.framesOf (ctrlQueue n) ++ [g] ∧
      SoundFrame g dest type rseq turn := by
  have hcells : s.admitsCells 0 (cellsOf (soundBody type rseq turn).length) = true := by
    rw [soundBody_length]
    exact h
  obtain ⟨i, e, hframes⟩ := State.sendMac_framesOf n 3
    { src := s.ownAddr, dst := dest, esrc := s.ownAddr, edst := dest } _ hcells
  exact ⟨_, hframes, rfl, rfl, rfl, rfl, soundBody_length type rseq turn, soundBody_rseq type rseq turn,
    soundBody_turn type rseq turn⟩

/-- The MAC's book-keeping leaves the ranging. -/
theorem State.linkFrame_time (s : State) (q : Nat) (f : TxFrame) : (s.linkFrame q f).time = s.time := by
  unfold State.linkFrame
  dsimp only
  split <;> rfl

theorem State.countNoCell_time (s : State) (rx : Bool) : (s.countNoCell rx).time = s.time := by
  unfold State.countNoCell
  split
  · rfl
  · split <;> rfl

theorem State.sendMac_time (s : State) (n phy : Nat) (l : Lfc) (body : List Byte) : (s.sendMac n phy l body).time = s.time := by
  unfold State.sendMac
  dsimp only
  split
  · exact State.linkFrame_time _ _ _
  · exact s.countNoCell_time false

/-! ## The delay of the hop (R364) -/

theorem State.noteHop_valid (s : State) (d : Nat) : (s.noteHop d).flag TIM_HOP_VALID = true :=
  State.flag_set_one _ (by decide) rfl

theorem State.noteHop_hopdly (s : State) (d : Nat) : (s.noteHop d).get TIM_HOP_HOPDLY =
    (s.noteHop d).time.hops.sum / (s.noteHop d).time.hops.length / 4096 % 2 ^ 31 := by
  unfold State.noteHop
  dsimp only
  rw [State.get_set_bits _ (f := TIM_HOP_VALID) (g := TIM_HOP_HOPDLY) (.inr (by decide)), State.get_set_same _ (by decide)]
  rfl

/-- What RANGE_RSP_RECEIVED does with the delay `d` of an answer, which is `mine` where it belongs to the exchange in
progress. -/
structure RangeAnswered (s t : State) (mine : Prop) (d : Int) : Prop where
  taken : mine → 0 ≤ d → d ≤ 131072000000 →
    let hops := (d.toNat :: s.time.hops).take (2 ^ s.get TIM_TB1CFG_RNG_AVG)
    t.time.rangeReq = none ∧ t.time.hops = hops ∧ t.flag TIM_HOP_VALID = true ∧
      t.get TIM_HOP_HOPDLY = hops.sum / hops.length / 4096 % 2 ^ 31
  outside : mine → d < 0 ∨ 131072000000 < d → t.time.rangeReq = none ∧ t.time.hops = s.time.hops ∧
    t.reg a_TIM_HOP = s.reg a_TIM_HOP
  other : ¬ mine → t.time = s.time ∧ t.reg a_TIM_HOP = s.reg a_TIM_HOP

theorem State.rangeAnswer_answered {s : State} {n : Nat} {f : RxFrame} {r t1 : Nat} (h : s.time.rangeReq = some (r, t1)) :
    RangeAnswered s (s.rangeAnswer n f) (f.lfc.src = s.parent ∧ r = leNat ((f.payload.drop 1).take 1))
      (((s.arrival n f : Int) - t1 - leNat ((f.payload.drop 20).take 8)) / 2) := by
  unfold State.rangeAnswer
  simp only [h]
  generalize ((s.arrival n f : Int) - t1 - leNat ((f.payload.drop 20).take 8)) / 2 = d
  constructor
  · intro hmine hlow hhigh
    rw [if_pos hmine, if_pos ⟨hlow, hhigh⟩]
    exact ⟨rfl, rfl, State.noteHop_valid _ _, State.noteHop_hopdly _ _⟩
  · intro hmine hout
    rw [if_pos hmine, if_neg (by omega)]
    exact ⟨rfl, rfl, rfl⟩
  · intro hmine
    rw [if_neg hmine]
    exact ⟨rfl, rfl⟩

end Sys2Proof.Machine

/-! SUPPORT. The clauses of ranging and of sounding frames. -/

namespace Sys2Proof.Machine

section
variable {s : State} {n : Fin 16} {f : RxFrame}

/-- A sounding frame for this device, from a usable address, is the oldest frame of the port. -/
structure SoundFront (s : State) (n : Fin 16) (f : RxFrame) : Prop where
  front : s.rxFront n.val = some f
  phy : f.phy = 3
  dst : f.lfc.dst = s.ownAddr
  usable : s.dirUsable f.lfc.src = true

theorem exec_soundingFrameReceived (h : SoundFront s n f) (h1 : leNat (f.payload.take 1) ≠ 1)
    (h2 : leNat (f.payload.take 1) ≠ 2) :
    Machine.exec (.soundingFrameReceived n) s = .next (s.soundTaken n.val f) :=
  congrArg Host.Outcome.next (State.takeRx_sound h.front h.phy rfl h.dst h.usable
    (p := fun t => t != 1 && t != 2) (by simp [h1, h2]) id (fun _ => id) rfl)

/-- R130: the answer to RANGE_REQ. -/
def State.rangeReply (s : State) (n : Nat) (f : RxFrame) : State :=
  if f.lfc.dst = s.ownAddr then
    s.sendSounding n f.lfc.src 2 (leNat ((f.payload.drop 1).take 1)) (s.arrival n f)
  else s

theorem exec_rangeReqReceived (h : SoundFront s n f) (htype : leNat (f.payload.take 1) = 1) :
    Machine.exec (.rangeReqReceived n) s = .next ((s.soundTaken n.val f).rangeReply n.val f) :=
  congrArg Host.Outcome.next (State.takeRx_sound h.front h.phy htype h.dst h.usable (p := fun t => t == 1) rfl
    (fun u => u.rangeReply n.val f)
    (fun g u => u.rangeReply n.val g) rfl)

theorem exec_rangeRspReceived (h : SoundFront s n f) (htype : leNat (f.payload.take 1) = 2) :
    Machine.exec (.rangeRspReceived n) s = .next ((s.soundTaken n.val f).rangeAnswer n.val f) :=
  congrArg Host.Outcome.next (State.takeRx_sound h.front h.phy htype h.dst h.usable (p := fun t => t == 2) rfl
    (fun u => u.rangeAnswer n.val f)
    (fun g u => u.rangeAnswer n.val g) rfl)

theorem SoundKept.arrival {s t : State} (h : SoundKept s t) {n : Nat} (hn : n < 16) (f : RxFrame) :
    t.arrival n f = s.arrival n f := by
  unfold State.arrival
  rw [h.profile hn]

theorem State.arrival_eq (s : State) (n : Nat) (f : RxFrame) :
    s.arrival n f = 524288 * (f.tdet - lambdaTicks (s.profile n) f.swk) + f.det.sub := by
  unfold State.arrival
  omega

/-- R130: the answer goes to the sender on the same port, with the RSEQ and the arrival of its request. -/
theorem State.rangeReply_framesOf (h : SoundFront s n f) (hcells : s.admitsCells 0 1 = true) :
    ∃ g, ((s.soundTaken n.val f).rangeReply n.val f).framesOf (ctrlQueue n.val) = s.framesOf (ctrlQueue n.val) ++ [g] ∧
      SoundFrame g f.lfc.src 2 (leNat ((f.payload.drop 1).take 1)) (s.arrival n.val f) := by
  have hkept : SoundKept s (s.soundTaken n.val f) := .soundTaken s n.val f
  have hcell : (s.soundTaken n.val f).admitsCells 0 1 = true := (hkept.admitsCells 1).trans hcells
  obtain ⟨g, hframes, hg⟩ := State.sendSounding_framesOf n.val f.lfc.src 2 (leNat ((f.payload.drop 1).take 1))
    ((s.soundTaken n.val f).arrival n.val f) hcell
  refine ⟨g, ?_, hkept.arrival n.isLt f ▸ hg⟩
  unfold State.rangeReply
  rw [if_pos (h.dst.trans hkept.own.symm), hframes, hkept.framesOf]

/-- R364: the exchange in progress, of the state before the frame has been taken. -/
theorem State.rangeRsp_answered {r t1 : Nat} (h : s.time.rangeReq = some (r, t1)) :
    RangeAnswered s ((s.soundTaken n.val f).rangeAnswer n.val f)
      (f.lfc.src = s.parent ∧ r = leNat ((f.payload.drop 1).take 1))
      (((s.arrival n.val f : Int) - t1 - leNat ((f.payload.drop 20).take 8)) / 2) := by
  have hkept : SoundKept s (s.soundTaken n.val f) := .soundTaken s n.val f
  have htime : (s.soundTaken n.val f).time = s.time := by rw [hkept.rest]
  have hparent : (s.soundTaken n.val f).parent = s.parent := hkept.get (f := MAC_PARENT_ADDR) (by decide)
  have havg : (s.soundTaken n.val f).get TIM_TB1CFG_RNG_AVG = s.get TIM_TB1CFG_RNG_AVG := hkept.get (by decide)
  have hhop : (s.soundTaken n.val f).reg a_TIM_HOP = s.reg a_TIM_HOP := hkept.regs _ (by decide)
  obtain ⟨htaken, houtside, hother⟩ := State.rangeAnswer_answered (n := n.val) (f := f) ((congrArg _ htime).trans h)
  rw [htime, havg, hparent, hkept.arrival n.isLt] at htaken
  rw [htime, hhop, hparent, hkept.arrival n.isLt] at houtside
  rw [htime, hhop, hparent] at hother
  exact ⟨htaken, houtside, hother⟩

end

/-! ## RANGING_DUE -/

/-- The state that sends a RANGE_REQ. -/
def State.rangeSent (s : State) : State :=
  { s with time.rangeAt := s.mac.period + 1, time.rseq := (s.time.rseq + 1) % 256 }

theorem exec_rangingDue_due {s : State} (h : s.rangeDue = true) : Machine.exec .rangingDue s =
    .next (s.rangeSent.sendSounding (s.get MAC_SFSTAT_PPORT) s.parent 1 ((s.time.rseq + 1) % 256) 0) :=
  congrArg Host.Outcome.next (if_pos h)

theorem exec_rangingDue_notDue {s : State} (h : s.rangeDue ≠ true) : Machine.exec .rangingDue s = .next s :=
  congrArg Host.Outcome.next (if_neg h)

theorem State.rangeDue_iff (s : State) : s.rangeDue = true ↔ s.isChild = true ∧ s.sfState = sfATTACHED ∧
    s.get TIM_TB1CFG_RNG_INT ≠ 0 ∧
      (s.time.rangeAt = 0 ∨ s.time.rangeAt + s.get TIM_TB1CFG_RNG_INT ≤ s.mac.period + 1) := by
  simp [State.rangeDue, and_assoc]

end Sys2Proof.Machine

/-! SUPPORT. Frames of the G.9903 MAC (R240, R323). -/

namespace Sys2Proof.Machine

/-! ## The FIFO that a frame is committed to -/

/-- A register that the FIFOs' own book-keeping leaves. -/
abbrev FifoSpared (a : Nat) : Prop := NotPending a ∧ (a < 0x70000 ∨ 0x80000 ≤ a)

namespace KeptRegs

theorem arcFire (s : State) {i : Nat} (hi : i < 40) (bit : Nat) : KeptRegs FifoSpared s (s.arcFire i bit) := by
  have hfire : KeptRegs FifoSpared s (s.fire (336 + i) bit) := fire s (fun _ ha => ha.1) (by omega) bit
  unfold State.arcFire
  split
  · exact ite other hfire
  · exact hfire

theorem arcHandOver (s : State) {i : Nat} (hi : i < 40) : KeptRegs FifoSpared s (s.arcHandOver i) := by
  unfold State.arcHandOver
  exact ite (ite (trans other (arcFire _ hi 1)) other) (refl s)

theorem arcOpen (s : State) {i : Nat} (hi : i < 40) : KeptRegs FifoSpared s (s.arcOpen i) := by
  have hroom : KeptRegs FifoSpared s (if s.arcRoom i then s else s.arcHandOver i) := ite (refl s) (arcHandOver s hi)
  unfold State.arcOpen
  exact ite other (ite (hroom.trans other) (ite hroom (hroom.trans other)))

theorem rxOpenNext (s : State) {n : Nat} (hn : n < 16) : KeptRegs FifoSpared s (s.rxOpenNext n) :=
  ite (refl s) (arcOpen s (by omega))

end KeptRegs

theorem ArcStep.rxOpenNext (s : State) (n : Nat) : ArcStep s (s.rxOpenNext n) := by
  unfold State.rxOpenNext
  split
  · exact .refl s
  · exact .arcOpen s _

/-- The FIFO takes the frame where one of its packets is open. -/
def State.g3Commit (s : State) (i : Nat) : State :=
  if s.arcIsOpen i then (s.setArc i { s.arcOf i with opened := none }).bump (ARC_CNT_COMMIT i) else s.arcPass i

/-- The frame is counted good. -/
def State.g3Count (s : State) (n : Nat) : State := (s.g3Commit (2 * n)).bump (PRT_RXGOOD_COUNT n)

/-- The frame has left the receiver. -/
def State.g3Gone (s : State) (n id : Nat) : State := (s.dropAcq n id).rxOpenNext n

theorem State.g3Good_eq (s : State) (n : Nat) (a : Acq) (f : G3Frame) :
    s.g3Good n a f = ((s.g3Count n).fire (esPort n 1) (f.msdu.length + a.slot * 2 ^ 14 + 6 * 2 ^ 17)).g3Gone n a.id := rfl

section
variable {T F : Nat → Prop}

theorem arcCnt_range {i : Nat} (hi : i < 40) : 0x70000 ≤ a_ARC_CNT i ∧ a_ARC_CNT i < 0x80000 := by
  unfold a_ARC_CNT
  omega

theorem Received.g3Commit (s : State) {i : Nat} (hi : i < 40) (heven : i % 2 = 0) : Received T F s (s.g3Commit i) := by
  have hbump : ∀ t : State, Received T F t (t.bump (ARC_CNT_COMMIT i)) := fun t => .bumpArcCount t (arcCnt_range hi) 1
  exact .ite ((Received.setArc s heven _).trans (hbump _)) (hbump s)

theorem KeptRegs.g3Commit (s : State) {i : Nat} (hi : i < 40) : KeptRegs FifoSpared s (s.g3Commit i) := by
  have hnot : ¬ FifoSpared (ARC_CNT_COMMIT i).addr := fun h => by
    have hrange := arcCnt_range hi
    have := h.2
    simp only [ARC_CNT_COMMIT] at this
    omega
  have hbump : ∀ t : State, KeptRegs FifoSpared t (t.bump (ARC_CNT_COMMIT i)) := fun t => .set t hnot _
  exact .ite (KeptRegs.trans (t := s.setArc i _) .other (hbump _)) (hbump s)

theorem ArcStep.g3Commit (s : State) (i : Nat) : ArcStep s (s.g3Commit i) := by
  unfold State.g3Commit
  split <;> rfl

theorem Received.g3Gone (s : State) {n : Nat} (hn : n < 16) (id : Nat) : Received T F s (s.g3Gone n id) :=
  (dropAcq s n id).trans (rxOpenNext _ hn)

theorem KeptRegs.g3Gone (s : State) {n : Nat} (hn : n < 16) (id : Nat) : KeptRegs FifoSpared s (s.g3Gone n id) :=
  KeptRegs.trans (t := s.dropAcq n id) .other (rxOpenNext _ hn)

end

theorem State.g3Gone_rest (s : State) (n id : Nat) : s.g3Gone n id = { s with
    regs := (s.g3Gone n id).regs, sq := (s.g3Gone n id).sq, arc := (s.g3Gone n id).arc, rx := (s.dropAcq n id).rx } := by
  have h : ArcStep (s.dropAcq n id) (s.g3Gone n id) := .rxOpenNext _ n
  unfold ArcStep at h
  exact h

theorem State.g3Good_rest (s : State) (n : Nat) (a : Acq) (f : G3Frame) : ∃ r q c x,
    s.g3Good n a f = { s with regs := r, sq := q, arc := c, rx := x } := by
  have hcount : ArcStep s (s.g3Count n) := (ArcStep.g3Commit s _).trans (.bump _ _)
  unfold ArcStep at hcount
  rw [State.g3Good_eq, State.g3Gone_rest, State.onlyRegsSq_fire, hcount]
  exact ⟨_, _, _, _, rfl⟩

/-- Counting the frame writes PRT_RXGOOD beside the FIFO's registers. -/
theorem State.g3Good_regs (s : State) {n : Nat} (hn : n < 16) (a : Acq) (f : G3Frame) {b : Nat} (hb : FifoSpared b)
    (hne : b ≠ a_PRT_RXGOOD n) : (s.g3Good n a f).reg b = s.reg b := by
  rw [State.g3Good_eq]
  calc _ = ((s.g3Count n).fire (esPort n 1) _).reg b := KeptRegs.g3Gone _ hn a.id b hb
    _ = (s.g3Count n).reg b := State.reg_fire_other _ (pendReg_ne (esPort_lt hn (by decide)) hb.1) _
    _ = (s.g3Commit (2 * n)).reg b := State.reg_bump_other _ (f := PRT_RXGOOD_COUNT n) hne _
    _ = s.reg b := KeptRegs.g3Commit s (by omega) b hb

theorem rxGood_fifoSpared {n : Nat} (hn : n < 16) : FifoSpared (a_PRT_RXGOOD n) := by
  simp only [FifoSpared, NotPending, a_PRT_RXGOOD, f1]
  omega

theorem State.g3Good_count (s : State) {n : Nat} (hn : n < 16) (a : Acq) (f : G3Frame) :
    (s.g3Good n a f).get (PRT_RXGOOD_COUNT n) = satAdd 32 (s.get (PRT_RXGOOD_COUNT n)) 1 := by
  have hgood := rxGood_fifoSpared hn
  have hcommit : (s.g3Commit (2 * n)).get (PRT_RXGOOD_COUNT n) = s.get (PRT_RXGOOD_COUNT n) :=
    (KeptRegs.g3Commit s (by omega)).get hgood
  rw [State.g3Good_eq, (KeptRegs.g3Gone _ hn a.id).get (f := PRT_RXGOOD_COUNT n) hgood,
    State.get_fire_other (g := PRT_RXGOOD_COUNT n) _ (.inl (pendReg_ne (esPort_lt hn (by decide)) hgood.1)), State.g3Count,
    State.get_bump_same _ (f := PRT_RXGOOD_COUNT n) (Nat.le_refl 32), hcommit]
  rfl

theorem State.g3Good_event {s : State} {n : Nat} (hn : n < s.ports) (hon : s.domOn (dPair n) = true) (a : Acq)
    (f : G3Frame) : fired s (s.g3Good n a f) (esPort n 1) (f.msdu.length + a.slot * 2 ^ 14 + 6 * 2 ^ 17) := by
  have h16 : n < 16 := Nat.lt_of_lt_of_le hn s.ports_le
  have hp : PortSource (esPort n 1) := portSource_esPort h16 (by decide)
  have hcount : Received (fun b => b = a_PRT_RXGOOD n) (fun _ => False) s (s.g3Count n) :=
    (Received.g3Commit s (by omega) (by omega)).trans (.set _ (f := PRT_RXGOOD_COUNT n) (rxGood_fifoSpared h16).1
      (T := fun b => b = a_PRT_RXGOOD n) (fun _ => rfl) (by simp only [PRT_RXGOOD_COUNT, a_PRT_RXGOOD, a_MAC_CTCNT]; omega) _)
  have hgone : ∀ u : State, Received (fun _ => False) (fun _ => False) u (u.g3Gone n a.id) := fun u => .g3Gone u h16 a.id
  rw [State.g3Good_eq]
  exact (hgone _).fired (hcount.fired_fire hp id (by simp only [a_PRT_RXGOOD, a_PWR_STAT]; omega)
    (State.sourceOn_esPort hn (by decide) hon) _) (esPort_lt h16 (by decide)) hp id

/-! ## What the frame is judged by (R323) -/

/-- From `s` to `t` nothing has changed that a frame of the G.9903 MAC is judged by. -/
structure G3Kept (s t : State) (n : Nat) : Prop where
  cfg : t.reg (a_PRT_G3CFG n) = s.reg (a_PRT_G3CFG n)
  key : ∀ i, i ≤ 3 → t.reg (a_PRT_G3KEY n i) = s.reg (a_PRT_G3KEY n i)
  slot : ∀ k, k < 256 → t.reg (a_KEY_SLOT k) = s.reg (a_KEY_SLOT k)
  dir : t.dirEnt 0 = s.dirEnt 0
  mac : t.mac = s.mac

namespace G3Kept

section
variable {s t : State} {n : Nat}

theorem mine (h : G3Kept s t n) (f : G3Frame) : t.g3Mine n f = s.g3Mine n f := by
  have hpan : t.get (PRT_G3CFG_PANID n) = s.get (PRT_G3CFG_PANID n) := State.get_of_reg h.cfg
  have haddr : t.get (PRT_G3CFG_SADDR n) = s.get (PRT_G3CFG_SADDR n) := State.get_of_reg h.cfg
  simp only [State.g3Mine, hpan, haddr, h.dir]

theorem g3Key (h : G3Kept s t n) (i : Nat) : t.g3Key n i = s.g3Key n i := by
  unfold State.g3Key
  by_cases hi : i ≤ 3
  · have hslot : t.get (PRT_G3KEY_SLOT n i) = s.get (PRT_G3KEY_SLOT n i) := State.get_of_reg (h.key i hi)
    have hen : t.flag (PRT_G3KEY_EN n i) = s.flag (PRT_G3KEY_EN n i) := State.flag_of_reg (h.key i hi)
    have hreg : t.reg (a_KEY_SLOT (s.get (PRT_G3KEY_SLOT n i))) = s.reg (a_KEY_SLOT (s.get (PRT_G3KEY_SLOT n i))) :=
      h.slot _ (s.get_lt (PRT_G3KEY_SLOT n i))
    have hfield : ∀ lo w, t.get ⟨a_KEY_SLOT (s.get (PRT_G3KEY_SLOT n i)), lo, w⟩ = s.get ⟨_, lo, w⟩ := fun _ _ =>
      State.get_of_reg hreg
    simp only [hslot, hen, KEY_SLOT_USAGE, KEY_SLOT_SIZE, KEY_SLOT_STATE, hfield]
  · simp [hi]

theorem judge (h : G3Kept s t n) (f : G3Frame) : t.g3Judge n f = s.g3Judge n f := by
  simp only [State.g3Judge, h.g3Key, h.mac]

end
end G3Kept

/-- R323: the frame is secured rightly or not at all. -/
def State.g3Secured (s : State) (n : Nat) (f : G3Frame) : Prop :=
  f.seclvl = 0 ∨ (s.g3Key n f.keyidx = true ∧ f.mic = true)

/-- R323: the counter of the frame is one that its sender has used. -/
def State.g3Replayed (s : State) (n : Nat) (f : G3Frame) : Prop :=
  f.seclvl ≠ 0 ∧ f.fcnt + 1 ≤ look 0 s.mac.g3fc (g3Src n f.src)

section
variable {s : State} {n : Nat} {f : G3Frame}

theorem State.g3Judge_unsecured (h : ¬ s.g3Secured n f) : s.g3Judge n f = 1 := by
  obtain ⟨hlvl, hkey⟩ := not_or.1 h
  unfold State.g3Judge
  rw [if_neg hlvl, if_pos]
  simp only [Bool.or_eq_true, Bool.not_eq_true', ← Bool.not_eq_true]
  exact not_and_or.1 hkey

theorem State.g3Judge_replayed (h : s.g3Secured n f) (hr : s.g3Replayed n f) : s.g3Judge n f = 2 := by
  obtain ⟨hlvl, hcount⟩ := hr
  obtain ⟨hkey, hmic⟩ := h.resolve_left hlvl
  simp [State.g3Judge, hlvl, hkey, hmic, hcount]

theorem State.g3Judge_new (h : s.g3Secured n f) (hr : ¬ s.g3Replayed n f) : s.g3Judge n f = 0 := by
  unfold State.g3Judge
  split
  · rfl
  · next hlvl =>
    obtain ⟨hkey, hmic⟩ := h.resolve_left hlvl
    rw [if_neg (by simp [hkey, hmic]), if_neg fun hcount => hr ⟨hlvl, hcount⟩]

end

end Sys2Proof.Machine

/-! SUPPORT. What a frame of the G.9903 MAC does once it is counted (R240, R323). -/

namespace Sys2Proof.Machine

/-! ## The frame is noted and goes to the host -/

/-- R323: the last sequence number and, where the frame is secured, the next counter of its sender. -/
def State.g3Noted (s : State) (n : Nat) (f : G3Frame) : State :=
  if f.seclvl = 0 then { s with mac.g3last := put (g3Src n f.src) (f.seq, 1) s.mac.g3last }
  else { s with mac.g3last := put (g3Src n f.src) (f.seq, 1) s.mac.g3last,
                mac.g3fc := put (g3Src n f.src) (f.fcnt + 1) s.mac.g3fc }

theorem State.g3Accept_eq (s : State) (n : Nat) (f : G3Frame) (r : RxFrame) :
    s.g3Accept n f r = if f.kind = 3 then s.g3Noted n f else (s.g3Noted n f).tunnel r 0 := rfl

section
variable (s : State) (n : Nat) (f : G3Frame)

theorem State.g3Noted_rest : s.g3Noted n f = { s with mac := (s.g3Noted n f).mac } := by
  unfold State.g3Noted
  split <;> rfl

theorem State.g3Noted_last : find (s.g3Noted n f).mac.g3last (g3Src n f.src) = some (f.seq, 1) := by
  unfold State.g3Noted
  split <;> exact (find_put _ _ _ _).trans (if_pos rfl)

theorem State.g3Noted_fc (h : f.seclvl ≠ 0) : find (s.g3Noted n f).mac.g3fc (g3Src n f.src) = some (f.fcnt + 1) := by
  unfold State.g3Noted
  rw [if_neg h]
  exact (find_put _ _ _ _).trans (if_pos rfl)

end

/-- A frame that finds cells of class 0 is tunnelled to the host. -/
theorem State.tunnel_delivers {s : State} {r : RxFrame} (h : s.admitsCells 0 (cellsOf r.payload.length) = true) :
    s.tunnel r 0 = (s.takeCells (cellsOf r.payload.length)).toHost r r.payload 0 0 false := by
  unfold State.tunnel State.admitRx
  simp only [h, if_true]

/-- What the judgement of the frame does. -/
def State.g3Judged (s : State) (n : Nat) (f : G3Frame) (r : RxFrame) : State :=
  if s.g3Judge n f = 0 then
    if find s.mac.g3last (g3Src n f.src) = some (f.seq, 1) then s else s.g3Accept n f r
  else if s.g3Judge n f = 1 then s.bump CPH_CNT0_AUTHFAIL
  else s

theorem State.g3Judged_eq (s : State) (n : Nat) (f : G3Frame) (r : RxFrame) : (match s.g3Judge n f with
    | 0 => if find s.mac.g3last (g3Src n f.src) = some (f.seq, 1) then s else s.g3Accept n f r
    | 1 => s.bump CPH_CNT0_AUTHFAIL
    | _ => s) = s.g3Judged n f r := by
  unfold State.g3Judged
  split
  · next h => rw [if_pos h]
  · next h => rw [if_neg (by omega), if_pos h]
  · next h0 h1 => rw [if_neg h0, if_neg h1]

section
variable {s : State} {n : Nat} {f : G3Frame} {r : RxFrame}

theorem State.g3In_other (hkind : f.kind ≠ 2) (hmine : s.g3Mine n f = false) : s.g3In n f r = s := by
  simp [State.g3In, hkind, hmine]

/-- The port owes the acknowledgement that the frame asks for. -/
def State.g3Acked (s : State) (n : Nat) (f : G3Frame) (r : RxFrame) : State :=
  if f.ackreq then s.setTxPort n { s.txPort n with
    ack := some ⟨{ ftype := 1, src := f.dst, dst := f.src, seq := f.seq, esrc := f.dst, edst := f.src }, r.endTick, 0,
      false⟩ }
  else s

theorem State.g3Acked_rest (s : State) (n : Nat) (f : G3Frame) (r : RxFrame) :
    s.g3Acked n f r = { s with tx := (s.g3Acked n f r).tx } := by
  unfold State.g3Acked
  split <;> rfl

theorem State.g3In_mine (hkind : f.kind ≠ 2) (hmine : s.g3Mine n f = true) :
    s.g3In n f r = (s.g3Acked n f r).g3Judged n f r := by
  unfold State.g3In
  rw [if_neg hkind, if_neg (by simp [hmine])]
  exact State.g3Judged_eq (s.g3Acked n f r) n f r

end

/-! ## What it leaves -/

/-- From `s` to `t` a counted frame has been judged: events are as they were, and of the spared registers all but the count
of failed security. -/
abbrev G3Judged (s t : State) : Prop := Leaves (fun a => a = a_CPH_CNT0) (fun _ => False) s t

theorem Leaves.tunnel {T F : Nat → Prop} (s : State) (r : RxFrame) (c : Nat) : Leaves T F s (s.tunnel r c) := by
  have hcount : Leaves T F s (s.countNoCell true) :=
    ite (refl s) (set s (f := BLV_NOCELL_RX) (by decide) (absurd · (by decide)) _)
  unfold State.tunnel State.admitRx
  by_cases h : s.admitsCells c (cellsOf r.payload.length) = true
  · simp only [h, if_true]
    exact .other
  · simp only [h, if_false, Bool.false_eq_true]
    exact hcount

theorem Leaves.g3Accept {T F : Nat → Prop} (s : State) (n : Nat) (f : G3Frame) (r : RxFrame) :
    Leaves T F s (s.g3Accept n f r) := by
  have hnoted : Leaves T F s (s.g3Noted n f) := by
    rw [s.g3Noted_rest]
    exact .other
  rw [State.g3Accept_eq]
  exact ite hnoted (hnoted.trans (tunnel _ r 0))

theorem G3Judged.judged (s : State) (n : Nat) (f : G3Frame) (r : RxFrame) : G3Judged s (s.g3Judged n f r) :=
  .ite (.ite (.refl s) (.g3Accept s n f r)) (.ite (.set_only s (f := CPH_CNT0_AUTHFAIL) (by decide) _) (.refl s))

theorem G3Judged.g3Ack (s : State) (n t : Nat) (f : G3Frame) : G3Judged s (s.g3Ack n t f) := by
  unfold State.g3Ack
  split
  · next w _ =>
    split
    · next g _ =>
      obtain ⟨v, k, x, l, h⟩ := s.completeTx_only w.queue g 0 false
      refine .ite ?_ (.refl s)
      rw [h]
      exact .other
    · exact .refl s
  · exact .refl s

theorem G3Judged.g3In (s : State) (n : Nat) (f : G3Frame) (r : RxFrame) : G3Judged s (s.g3In n f r) := by
  by_cases hkind : f.kind = 2
  · unfold State.g3In
    rw [if_pos hkind]
    exact g3Ack s n _ f
  · by_cases hmine : s.g3Mine n f = true
    · have hacked : Leaves (fun a => a = a_CPH_CNT0) (fun _ => False) s (s.g3Acked n f r) := by
        rw [s.g3Acked_rest]
        exact .other
      rw [State.g3In_mine hkind hmine]
      exact hacked.trans (judged _ n f r)
    · rw [State.g3In_other hkind (by simpa using hmine)]
      exact .refl s

/-! ## G9903_FRAME_RECEIVED -/

theorem exec_g9903FrameReceived {s : State} {n : Fin 16} {a : Acq} (htails : (s.rxPort n.val).tails = [a])
    (ha : a.g3 = true) (f : G3Frame) : Machine.exec (.g9903FrameReceived n f) s =
      .next ((s.g3Good n.val a f).g3In n.val f (g3Rx n.val a (a.ended.getD s.tick) f)) := by
  have hlist : (s.rxPort n.val).tails.filter (fun b => b.g3) = [a] := by simp [htails, ha]
  show execG9903FrameReceived n f s = _
  unfold execG9903FrameReceived
  rw [hlist]
  rfl

theorem G3Kept.g3Acked (s : State) (n : Nat) (f : G3Frame) (r : RxFrame) : G3Kept s (s.g3Acked n f r) n := by
  rw [s.g3Acked_rest]
  exact ⟨rfl, fun _ _ => rfl, fun _ _ => rfl, rfl, rfl⟩

theorem State.g3Good_kept (s : State) {n : Nat} (hn : n < 16) (a : Acq) (f : G3Frame) : G3Kept s (s.g3Good n a f) n := by
  have hkept : ∀ b, FifoSpared b → b ≠ a_PRT_RXGOOD n → (s.g3Good n a f).reg b = s.reg b := fun _ =>
    s.g3Good_regs hn a f
  have hcfg : FifoSpared (a_PRT_G3CFG n) ∧ a_PRT_G3CFG n ≠ a_PRT_RXGOOD n := by
    simp only [FifoSpared, NotPending, a_PRT_G3CFG, a_PRT_RXGOOD, f1]; omega
  have hkey : ∀ i, i ≤ 3 → FifoSpared (a_PRT_G3KEY n i) ∧ a_PRT_G3KEY n i ≠ a_PRT_RXGOOD n := fun i hi => by
    simp only [FifoSpared, NotPending, a_PRT_G3KEY, a_PRT_RXGOOD, f1]; omega
  have hslot : ∀ k, k < 256 → FifoSpared (a_KEY_SLOT k) ∧ a_KEY_SLOT k ≠ a_PRT_RXGOOD n := fun k hk => by
    simp only [FifoSpared, NotPending, a_KEY_SLOT, a_PRT_RXGOOD, f1]; omega
  obtain ⟨g, q, c, x, hrest⟩ := s.g3Good_rest n a f
  refine ⟨hkept _ hcfg.1 hcfg.2, fun i hi => hkept _ (hkey i hi).1 (hkey i hi).2,
    fun k hk => hkept _ (hslot k hk).1 (hslot k hk).2, ?_, ?_⟩ <;>
    rw [hrest]
  rfl

end Sys2Proof.Machine

/-! SUPPORT. G9903_FRAME_RECEIVED: whether the frame goes to the host (R240, R323). -/

namespace Sys2Proof.Machine

theorem G3Kept.trans {s t u : State} {n : Nat} (h : G3Kept s t n) (k : G3Kept t u n) : G3Kept s u n :=
  ⟨k.cfg.trans h.cfg, fun i hi => (k.key i hi).trans (h.key i hi), fun j hj => (k.slot j hj).trans (h.slot j hj),
    k.dir.trans h.dir, k.mac.trans h.mac⟩

section
variable {s : State} {n : Nat} {f : G3Frame} {r : RxFrame}

/-- A frame that is not judged new, or that repeats the last one, does not go to the host. -/
theorem State.g3Judged_deliveries (h : s.g3Judge n f ≠ 0 ∨ find s.mac.g3last (g3Src n f.src) = some (f.seq, 1)) :
    (s.g3Judged n f r).hif.deliveries = s.hif.deliveries := by
  unfold State.g3Judged
  by_cases h0 : s.g3Judge n f = 0
  · rw [if_pos h0, if_pos (h.resolve_left (absurd h0))]
  · rw [if_neg h0]
    split <;> rfl

theorem State.g3Judged_failed (h : s.g3Judge n f = 1) : s.g3Judged n f r = s.bump CPH_CNT0_AUTHFAIL := by
  unfold State.g3Judged
  rw [if_neg (by omega), if_pos h]

/-- R323: a new frame, not of kind 3, that finds cells of class 0. -/
theorem State.g3Judged_new (h : s.g3Judge n f = 0) (hnew : find s.mac.g3last (g3Src n f.src) ≠ some (f.seq, 1))
    (hkind : f.kind ≠ 3) (hcells : s.admitsCells 0 (cellsOf r.payload.length) = true) :
    s.g3Judged n f r = ((s.g3Noted n f).takeCells (cellsOf r.payload.length)).toHost r r.payload 0 0 false := by
  have hnoted : (s.g3Noted n f).admitsCells 0 (cellsOf r.payload.length) = true := by
    rw [s.g3Noted_rest]
    exact hcells
  unfold State.g3Judged
  rw [if_pos h, if_neg hnew, State.g3Accept_eq, if_neg hkind, State.tunnel_delivers hnoted]

end

/-! ## The frame after it has been counted -/

/-- The state in which the counted frame is judged. -/
def State.g3Before (s : State) (n : Nat) (a : Acq) (f : G3Frame) (r : RxFrame) : State := (s.g3Good n a f).g3Acked n f r

section
variable {s : State} {n : Nat} (hn : n < 16) (a : Acq) (f : G3Frame) (r : RxFrame)
include hn

theorem State.g3Before_kept : G3Kept s (s.g3Before n a f r) n := (s.g3Good_kept hn a f).trans (.g3Acked _ n f r)

theorem State.g3Before_reg {b : Nat} (hb : FifoSpared b) (hne : b ≠ a_PRT_RXGOOD n) :
    (s.g3Before n a f r).reg b = s.reg b := by
  rw [State.g3Before, State.g3Acked_rest]
  exact s.g3Good_regs hn a f hb hne

omit hn in
theorem State.g3Before_rest : ∃ g q c x y, s.g3Before n a f r = { s with regs := g, sq := q, arc := c, rx := x, tx := y } := by
  obtain ⟨g, q, c, x, h⟩ := s.g3Good_rest n a f
  rw [State.g3Before, State.g3Acked_rest, h]
  exact ⟨_, _, _, _, _, rfl⟩

theorem State.g3Before_admitsCells (k : Nat) : (s.g3Before n a f r).admitsCells 0 k = s.admitsCells 0 k := by
  have hfloor : (s.g3Before n a f r).floor 0 = s.floor 0 := State.get_of_reg (f := BLV_FLOOR_FLOOR 0)
    (s.g3Before_reg hn a f r (by decide) (by simp only [BLV_FLOOR_FLOOR, a_BLV_FLOOR, a_PRT_RXGOOD]; omega))
  obtain ⟨g, q, c, x, y, h⟩ := s.g3Before_rest (n := n) a f r
  simp only [State.admitsCells, hfloor]
  rw [h]

omit hn in
theorem State.g3Before_deliveries : (s.g3Before n a f r).hif.deliveries = s.hif.deliveries := by
  obtain ⟨g, q, c, x, y, h⟩ := s.g3Before_rest (n := n) a f r
  rw [h]

/-- A frame for this port is judged as of the state before it was counted. -/
theorem State.g3Good_g3In_mine (hkind : f.kind ≠ 2) (hmine : s.g3Mine n f = true) :
    (s.g3Good n a f).g3In n f r = (s.g3Before n a f r).g3Judged n f r :=
  State.g3In_mine hkind (((s.g3Good_kept hn a f).mine f).trans hmine)

/-- R323: a frame for another port, one whose security fails, one replayed and one repeated do not go to the host. -/
theorem State.g3In_kept_from_host (hkind : f.kind ≠ 2) (h : s.g3Mine n f ≠ true ∨ ¬ s.g3Secured n f ∨ s.g3Replayed n f ∨
    find s.mac.g3last (g3Src n f.src) = some (f.seq, 1)) :
    ((s.g3Good n a f).g3In n f r).hif.deliveries = s.hif.deliveries := by
  have hbefore := s.g3Before_kept hn a f r
  by_cases hmine : s.g3Mine n f = true
  · have hrefused : s.g3Judge n f ≠ 0 ∨ find s.mac.g3last (g3Src n f.src) = some (f.seq, 1) := by
      by_cases hsec : s.g3Secured n f
      · refine ((h.resolve_left (not_not_intro hmine)).resolve_left (not_not_intro hsec)).imp_left fun hr => ?_
        rw [State.g3Judge_replayed hsec hr]
        decide
      · exact .inl (by rw [State.g3Judge_unsecured hsec]; decide)
    rw [State.g3Good_g3In_mine hn a f r hkind hmine, State.g3Judged_deliveries (by rwa [hbefore.judge, hbefore.mac]),
      State.g3Before_deliveries]
  · obtain ⟨g, q, c, x, hrest⟩ := s.g3Good_rest n a f
    rw [State.g3In_other hkind (by rw [(s.g3Good_kept hn a f).mine]; simpa using hmine), hrest]

/-- R323: security that fails is counted. -/
theorem State.g3In_authfail (hkind : f.kind ≠ 2) (hmine : s.g3Mine n f = true) (hsec : ¬ s.g3Secured n f) :
    ((s.g3Good n a f).g3In n f r).get CPH_CNT0_AUTHFAIL = satAdd 16 (s.get CPH_CNT0_AUTHFAIL) 1 := by
  have hjudge : (s.g3Before n a f r).g3Judge n f = 1 :=
    ((s.g3Before_kept hn a f r).judge f).trans (State.g3Judge_unsecured hsec)
  have hcount : (s.g3Before n a f r).get CPH_CNT0_AUTHFAIL = s.get CPH_CNT0_AUTHFAIL :=
    State.get_of_reg (s.g3Before_reg hn a f r (by decide) (by simp only [CPH_CNT0_AUTHFAIL, a_CPH_CNT0, a_PRT_RXGOOD]; omega))
  rw [State.g3Good_g3In_mine hn a f r hkind hmine, State.g3Judged_failed hjudge, State.get_bump_same _ (by decide), hcount]
  rfl

/-- R323: a new frame is tunnelled to the host, and its sender's numbers are noted. -/
theorem State.g3In_new (hkind : f.kind < 2) (hmine : s.g3Mine n f = true) (hsec : s.g3Secured n f)
    (hreplay : ¬ s.g3Replayed n f) (hnew : find s.mac.g3last (g3Src n f.src) ≠ some (f.seq, 1))
    (hcells : s.admitsCells 0 (cellsOf r.payload.length) = true) :
    (s.g3Good n a f).g3In n f r = (((s.g3Before n a f r).g3Noted n f).takeCells (cellsOf r.payload.length)).toHost r
      r.payload 0 0 false := by
  have hkept := s.g3Before_kept hn a f r
  rw [State.g3Good_g3In_mine hn a f r (by omega) hmine]
  exact State.g3Judged_new ((hkept.judge f).trans (State.g3Judge_new hsec hreplay)) (by rwa [hkept.mac]) (by omega)
    ((s.g3Before_admitsCells hn a f r _).trans hcells)

end

theorem State.g3Mine_iff (s : State) (n : Nat) (f : G3Frame) : s.g3Mine n f = true ↔
    (f.pan = s.get (PRT_G3CFG_PANID n) ∨ f.pan = 0xFFFF) ∧
      (if f.dmode = 3 then f.dst = sub (s.dirEnt 0) dEUI else f.dst = s.get (PRT_G3CFG_SADDR n) ∨ f.dst = 0xFFFF) := by
  unfold State.g3Mine
  split <;> simp

end Sys2Proof.Machine

/-! SUPPORT. What a read of DRAM leaves (R115 to R119, R123): a relay that looks up a map reads records. -/

namespace Sys2Proof.Machine

/-- A register that the memory controllers do not write. -/
abbrev MemSpared (a : Nat) : Prop := NotPending a ∧ (a < 0x80000 ∨ 0x81000 ≤ a)

/-- From `s` to `t` DRAM has been read: its content may be corrected, and errors counted and logged. -/
structure DramRead (s t : State) : Prop where
  rest : t = { s with regs := t.regs, sq := t.sq, mem := t.mem }
  regs : KeptRegs MemSpared s t

namespace DramRead

section
variable {s t u : State}

theorem refl (s : State) : DramRead s s := ⟨rfl, .refl s⟩

theorem trans (h : DramRead s t) (k : DramRead t u) : DramRead s u := ⟨by rw [k.rest, h.rest], h.regs.trans k.regs⟩

theorem tick (h : DramRead s t) : t.tick = s.tick := by rw [h.rest]

theorem mac (h : DramRead s t) : t.mac = s.mac := by rw [h.rest]

theorem blv (h : DramRead s t) : t.blv = s.blv := by rw [h.rest]

theorem ite {a b : State} {c : Prop} [Decidable c] (h : DramRead s a) (k : DramRead s b) :
    DramRead s (if c then a else b) := by
  split <;> assumption

theorem mem (s : State) (m : MemSt) : DramRead s { s with mem := m } := ⟨rfl, .other⟩

theorem setReg (s : State) {a : Nat} (h : 0x80000 ≤ a ∧ a < 0x81000) (v : Word) : DramRead s (s.setReg a v) :=
  ⟨rfl, fun b hb => s.reg_setReg_other (by rintro rfl; have := hb.2; omega) v⟩

theorem set (s : State) {f : Field} (h : 0x80000 ≤ f.addr ∧ f.addr < 0x81000) (v : Nat) : DramRead s (s.set f v) :=
  setReg s h _

theorem fire (s : State) {src : Nat} (hsrc : src < 512) (data : Nat) : DramRead s (s.fire src data) :=
  ⟨by rw [s.onlyRegsSq_fire src data], .fire s (fun _ ha => ha.1) hsrc data⟩

/-! ## One line -/

theorem setSymbol (s : State) (l w j v : Nat) : DramRead s (s.setSymbol l w j v) := mem s _

theorem fixLine (s : State) (l j : Nat) : DramRead s (s.fixLine l j) := by
  unfold State.fixLine
  exact forN_induct (P := DramRead s) (refl s) fun w _ t h => h.trans (setSymbol t _ _ _ _)

theorem bucketAdd (s : State) {cnt tot : Field} (hc : 0x80000 ≤ cnt.addr ∧ cnt.addr < 0x81000)
    (ht : 0x80000 ≤ tot.addr ∧ tot.addr < 0x81000) (th : Nat) {src : Nat} (hsrc : src < 512) (data : Nat) :
    DramRead s (s.bucketAdd cnt tot th src data) :=
  have htotal : DramRead s (s.bump tot) := set s ht _
  ite ((htotal.trans (set _ hc 0)).trans (fire _ hsrc data)) (htotal.trans (set _ hc _))

theorem repairCandidate (s : State) (r i dev : Nat) : DramRead s (s.repairCandidate r i dev) := by
  unfold State.repairCandidate
  extract_lets bg bank row same
  split
  · exact refl s
  · split
    · exact refl s
    · next k hk =>
      have hk8 : k < 8 := List.mem_range.1 (List.mem_of_find?_eq_some hk)
      exact (setReg s (by unfold a_MEM_REPLOG0; omega) _).trans (setReg _ (by unfold a_MEM_REPLOG1; omega) _)

theorem setMark (s : State) {r : Nat} (hr : r < 54) (sub dev : Nat) : DramRead s (s.setMark r sub dev) := by
  have hmark : 0x80000 ≤ a_MEM_MARK r ∧ a_MEM_MARK r < 0x81000 := by unfold a_MEM_MARK; omega
  unfold State.setMark
  exact ite ((set s (f := MEM_MARK_CHIP0 r) hmark _).trans (set _ (f := MEM_MARK_MV0 r) hmark _))
    ((set s (f := MEM_MARK_CHIP1 r) hmark _).trans (set _ (f := MEM_MARK_MV1 r) hmark _))

theorem logUe (s : State) (whr req kind : Nat) : DramRead s (s.logUe whr req kind) := by
  have hnext : s.get MEM_UESTAT_NEXT < 16 := s.get_lt _
  have h0 : 0x80000 ≤ a_MEM_UELOG0 (s.get MEM_UESTAT_NEXT) ∧ a_MEM_UELOG0 (s.get MEM_UESTAT_NEXT) < 0x81000 := by
    unfold a_MEM_UELOG0; omega
  have h1 : 0x80000 ≤ a_MEM_UELOG1 (s.get MEM_UESTAT_NEXT) ∧ a_MEM_UELOG1 (s.get MEM_UESTAT_NEXT) < 0x81000 := by
    unfold a_MEM_UELOG1; omega
  unfold State.logUe
  refine ite (refl s) ?_
  exact (((((set s (f := MEM_UELOG0_WHERE _) h0 _).trans (set _ (f := MEM_UELOG1_REQ _) h1 _)).trans
    (set _ (f := MEM_UELOG1_KIND _) h1 _)).trans (set _ (f := MEM_UELOG1_VALID _) h1 _)).trans
    (set _ (f := MEM_UESTAT_NEXT) (by decide) _)).trans (set _ (f := MEM_UESTAT_COUNT) (by decide) _)

/-- The rank of a line of the address range. -/
theorem rankOf_lt (s : State) {l : Nat} (h : l < 2 ^ 31) : (s.rankOf l).1 < 54 := by
  have hch : (if s.get MEM_CFG_CH == 3 then l % 2 else if s.get MEM_CFG_CH = 2 then 1 else 0) ≤ 1 := by
    split
    · omega
    · split <;> omega
  have hm : (if s.get MEM_CFG_CH == 3 then l / 2 else l) ≤ l := by
    split <;> omega
  unfold State.rankOf
  dsimp only
  omega

theorem countCorrection (s : State) {l : Nat} (h : l < 2 ^ 31) (dev : Nat) : DramRead s (s.countCorrection l dev) := by
  have hr := rankOf_lt s h
  unfold State.countCorrection
  generalize s.rankOf l = p at hr
  obtain ⟨r, i⟩ := p
  dsimp only at hr ⊢
  split
  · exact set s (f := MEM_MARK_MARKHITS r) (by unfold MEM_MARK_MARKHITS a_MEM_MARK; dsimp only; omega) _
  · have hbucket : 0x80000 ≤ a_MEM_DBKT r ∧ a_MEM_DBKT r < 0x81000 := by unfold a_MEM_DBKT; omega
    have hbucketed := bucketAdd s (cnt := MEM_DBKT_COUNT r) (tot := MEM_DBKT_TOTAL r) hbucket hbucket
      (s.get MEM_BKTCFG_TH) (src := 458 + r) (by omega) 0
    have hrepair : ∀ (t : State) (c : Prop) [Decidable c], DramRead t (if c then t.repairCandidate r i dev else t) :=
      fun t _ _ => ite (repairCandidate t r i dev) (refl t)
    have hmark : ∀ (t : State) (c : Prop) [Decidable c], DramRead t (if c then t.setMark r (i % 2) dev else t) :=
      fun t _ _ => ite (setMark t hr _ dev) (refl t)
    exact ((hbucketed.trans (mem _ _)).trans (hrepair _ _)).trans (hmark _ _)

theorem reportUe (s : State) {l : Nat} (h : l < 2 ^ 31) (req kind : Nat) : DramRead s (s.reportUe l req kind) := by
  have hr := rankOf_lt s h
  have hsrc : 96 + (s.rankOf l).1 < 512 := by omega
  exact ((fire s hsrc _).trans (logUe _ l req kind)).trans (repairCandidate _ _ _ 15)

theorem readLine (s : State) {l : Nat} (h : l < 2 ^ 31) (req : Nat) : DramRead s (s.readLine l req).2 := by
  unfold State.readLine
  split
  · exact refl s
  · next j _ =>
    dsimp only
    split
    · exact countCorrection s h j
    · exact (fixLine s l j).trans (countCorrection _ h j)
  · exact reportUe s h req 0

theorem readLines (n : Nat) (s : State) {l : Nat} (h : l + n ≤ 2 ^ 31) (req : Nat) : DramRead s (s.readLines l n req).2 := by
  induction n generalizing s l with
  | zero => exact refl s
  | succ k ih =>
    have hline : l < 2 ^ 31 := by omega
    have hall := (readLine s hline req).trans (ih (s.readLine l req).2 (l := l + 1) (by omega))
    rw [State.readLines]
    dsimp only
    split <;> exact hall

/-! ## The record of a slot -/

theorem recAddr_lt (s : State) (grouped : Bool) {link x : Nat} (hlink : link < 2 ^ 16) (hx : x < 16) :
    s.recAddr grouped link x / 64 + 256 ≤ 2 ^ 31 := by
  have hbase : s.get MAC_TMSBASE_BASE < 2 ^ 19 := s.get_lt _
  have hlinks : s.get MAC_TMSCFG_LINKS < 2 ^ 17 := s.get_lt _
  have hround : round64k (18432 * s.get MAC_TMSCFG_LINKS) ≤ 18432 * s.get MAC_TMSCFG_LINKS + 65536 := by
    unfold round64k ceilDiv
    omega
  unfold State.recAddr
  dsimp only
  split <;> omega

theorem readRec (s : State) (k : Nat) {x : Nat} (hx : x < 16) : DramRead s (s.readRec k x).2 := by
  unfold State.readRec
  split
  · have hlink : sub (s.ses k) sLINK < 2 ^ 16 := Nat.mod_lt _ (by decide)
    have hlines := recAddr_lt s (sub (s.ses k) sGROUPED == 1) hlink hx
    refine readLines _ s (Nat.le_trans (Nat.add_le_add_left ?_ _) hlines) 6
    split <;> omega
  · exact refl s

theorem slotAt_lt (s : State) (t : Nat) : (s.slotAt t).1 < 16 := by
  unfold State.slotAt
  split
  · exact Nat.zero_lt_succ _
  · exact Nat.lt_trans (Nat.mod_lt _ (by decide)) (by decide)

theorem delayOf (s : State) (n k t swk : Nat) : DramRead s (s.delayOf n k t swk).2 := by
  unfold State.delayOf
  dsimp only
  split <;> exact readRec s k (slotAt_lt s t)

theorem windowOf (s : State) (n q : Nat) (f : TxFrame) (m : PhyMap) : DramRead s (s.windowOf n q f m).2 := by
  unfold State.windowOf
  split
  · exact refl s
  · split
    · exact delayOf s n _ _ _
    · exact refl s

theorem chooseMap (s : State) (n k tl : Nat) (grouped : Bool) : DramRead s (s.chooseMap n k tl grouped).2.2 := by
  have h1 := delayOf s n k tl 0
  unfold State.chooseMap
  split
  · exact refl s
  · dsimp only
    split
    · have h2 := h1.trans (readRec (s.delayOf n k tl 0).2 k (slotAt_lt s (tl + tPre (s.profile n) + (s.delayOf n k tl 0).1)))
      split
      · exact h2
      · split
        · split <;> exact h2
        · exact h2
    · exact h1

theorem mapOf (s : State) (n q : Nat) (f : TxFrame) (grouped : Bool) : DramRead s (s.mapOf n q f grouped).2.2 := by
  unfold State.mapOf
  split
  · exact refl s
  · exact chooseMap s n _ _ _

end
end DramRead
end Sys2Proof.Machine

/-! SUPPORT. A cut-through relay (R240): the outgoing frame as it launches. -/

namespace Sys2Proof.Machine

/-! ## The steps of the launch -/

/-- The outgoing frame, with counter `c` of its session. -/
def State.cutFrame (s : State) (out : Nat) (a : Acq) (f : TxFrame) (m : PhyMap) (c : Nat) : TxFrame :=
  { f with
    id := s.blv.nextId
    lfc := { f.lfc with fcnt := c, seq := c % 65536 }
    retained := true
    arriving := true
    awaiting := true
    relayOf := some a.id
    port := out
    retry := s.retryAt out f
    enq := s.tick
    lastTl := s.tick
    mode := m.mode
    ts := s.stampNow (s.get (PRT_TXCFG_LTB out)) 12 }

/-- The frame takes its cells and becomes its queue's only one. -/
def State.cutLinked (s : State) (q : Nat) (g : TxFrame) : State :=
  { (s.takeCells g.cells).setFrames q [g] with blv.nextId := g.id + 1 }

/-- Its queue and RELAYED count it. -/
def State.cutCounted (s : State) (q : Nat) : State :=
  (s.setQueue q (withSub (s.queue q) qFRAMES (sub (s.queue q) qFRAMES + 1))).bump MAC_CTCNT_RELAYED

/-- What is kept of the frame's destination and of the port's grant. -/
def State.cutSent (s : State) (out dst tick : Nat) : State :=
  State.setCsma { s with mac.sentTo := put dst tick s.mac.sentTo } out { s.csmaOf out with grant := none }

/-- The frame on the line. -/
def State.relayAir (s : State) (out q id : Nat) (m : PhyMap) (dur aw : Nat) : Air :=
  { kind := .data q id, start := s.tick, stop := s.tick + dur, mode := m.mode, aw := aw,
    lo := (s.rangeOf out false m).1, hi := (s.rangeOf out false m).2, full := s.tick + dur }

/-- The state in which the frame is put on the line. -/
def State.cutReady (s : State) (out q : Nat) (g : TxFrame) (m : PhyMap) : State :=
  (((s.cutLinked q g).cutCounted q).windowOf out q g m).2.cutSent out g.lfc.dst s.tick

section
variable {s t : State} {n out o q c dur : Nat} {a : Acq} {f : TxFrame} {m : PhyMap}

theorem State.cutLaunch_eq (h : s.takeCounter o = (some c, t)) : ∃ aw, s.cutLaunch n out o q a f m dur =
    ((t.cutReady out q (t.cutFrame out a f m c) m).airBegin out (t.relayAir out q t.blv.nextId m dur aw)
      (launchData (t.cutFrame out a f m c) m false)).busyNow n := by
  refine ⟨(((t.cutLinked q (t.cutFrame out a f m c)).cutCounted q).windowOf out q (t.cutFrame out a f m c) m).1, ?_⟩
  unfold State.cutLaunch
  rw [h]
  rfl

/-! ## What the steps before the launch leave -/

theorem Received.takeCounter {T F : Nat → Prop} (s : State) (k : Nat) : Received T F s (s.takeCounter k).2 := by
  have hfire : ∀ (t : State) (src : Nat), src = 144 ∨ src = 145 → Received T F t (t.fire src k) := fun t src hsrc =>
    fire t (by omega) (by rintro hp; omega) k
  have hexhaust : ∀ (t : State) (w : BitVec 2048) (x : Nat), Received T F t
      (({ t.setSes k (withSub w sEXH 1) with blv.exh := put k x t.blv.exh } : State).fire 144 k) := fun t w x =>
    (of_leaves (t := { t.setSes k (withSub w sEXH 1) with blv.exh := put k x t.blv.exh }) .other).trans
      (hfire _ 144 (.inl rfl))
  have hset : ∀ w, Received T F s (s.setSes k w) := fun w => of_leaves .other
  unfold State.takeCounter
  extract_lets v exhaust c w warn w1 s1
  split
  · exact hexhaust s v s.tick
  · have h1 : Received T F s s1 := ite ((hset w1).trans (hfire _ 145 (.inr rfl))) (hset w1)
    exact ite (h1.trans (hexhaust s1 w1 s.tick)) h1

end

/-! ## The frame in its queue -/

/-- From `s` to `t` the frame `g` has been put into queue `q`, and RELAYED counts it. -/
structure CutStaged (s t : State) (q : Nat) (g : TxFrame) : Prop where
  tick : t.tick = s.tick
  dwell : t.mac.dwell = s.mac.dwell
  relayed : t.get MAC_CTCNT_RELAYED = satAdd 16 (s.get MAC_CTCNT_RELAYED) 1
  frames : t.framesOf q = [g]

theorem State.cutLinked_framesOf (s : State) (q : Nat) (g : TxFrame) : (s.cutLinked q g).framesOf q = [g] :=
  State.framesOf_setFrames_same (s.takeCells g.cells) q [g]

theorem State.cutCounted_rest (s : State) (q : Nat) : ∃ r v, s.cutCounted q = { s with regs := r, blv.queues := v } :=
  ⟨_, _, rfl⟩

theorem State.cutCounted_relayed (s : State) (q : Nat) :
    (s.cutCounted q).get MAC_CTCNT_RELAYED = satAdd 16 (s.get MAC_CTCNT_RELAYED) 1 :=
  State.get_bump_same (s.setQueue q _) (f := MAC_CTCNT_RELAYED) (by decide)

theorem State.cutSent_rest (s : State) (out dst tick : Nat) :
    ∃ v w, s.cutSent out dst tick = { s with mac.sentTo := v, mac.csma := w } :=
  ⟨_, _, rfl⟩

theorem CutStaged.linked (s : State) (q : Nat) (g : TxFrame) : CutStaged s ((s.cutLinked q g).cutCounted q) q g := by
  have hlinked := s.cutLinked_framesOf q g
  have hrelayed := (s.cutLinked q g).cutCounted_relayed q
  have hget : (s.cutLinked q g).get MAC_CTCNT_RELAYED = s.get MAC_CTCNT_RELAYED := rfl
  have htick : (s.cutLinked q g).tick = s.tick := rfl
  have hmac : (s.cutLinked q g).mac = s.mac := rfl
  obtain ⟨r, v, hrest⟩ := (s.cutLinked q g).cutCounted_rest q
  generalize s.cutLinked q g = u at *
  refine ⟨?_, ?_, hrelayed.trans (by rw [hget]), ?_⟩
  · rw [hrest, ← htick]
  · rw [hrest, ← hmac]
  · rw [hrest, ← hlinked]
    rfl

/-- A read of DRAM and what is kept for the sender do not count. -/
theorem CutStaged.sent {s t u : State} {q : Nat} {g : TxFrame} (h : CutStaged s t q g) (hread : DramRead t u)
    (out dst tick : Nat) : CutStaged s (u.cutSent out dst tick) q g := by
  have hget : u.get MAC_CTCNT_RELAYED = t.get MAC_CTCNT_RELAYED := hread.regs.get (by decide)
  obtain ⟨v, w, hrest⟩ := u.cutSent_rest out dst tick
  refine ⟨?_, ?_, ?_, ?_⟩
  · rw [hrest, ← h.tick, ← hread.tick]
  · rw [hrest, ← h.dwell, ← hread.mac]
  · rw [hrest, ← h.relayed, ← hget]
    rfl
  · rw [hrest, ← h.frames]
    exact State.framesOf_congr (congrArg (fun b => b.frames) hread.blv) q

theorem State.cutReady_staged (s : State) (out q : Nat) (g : TxFrame) (m : PhyMap) :
    CutStaged s (s.cutReady out q g m) q g :=
  (CutStaged.linked s q g).sent (DramRead.windowOf _ out q g m) out g.lfc.dst s.tick

/-! ## The launch of the frame (R240) -/

/-- From `s` to `t` the frame of a cut-through relay has launched on port `out`, in queue `q`. -/
structure CutLaunched (s t : State) (out q : Nat) (g : TxFrame) (dur : Nat) : Prop where
  relayed : t.get MAC_CTCNT_RELAYED = satAdd 16 (s.get MAC_CTCNT_RELAYED) 1
  air : ∃ b, (t.txPort out).air = some b ∧ b.kind = .data q g.id ∧ b.start = s.tick ∧ b.full = s.tick + dur ∧
    (s.dwFresh = false → b.stop = s.tick + dur)
  frame : ∃ p, t.frameOf q g.id = some { g with poison := p }

/-- The start of a staged frame on the line. -/
theorem CutStaged.launched {s t : State} {n out q dur : Nat} {g : TxFrame} (h : CutStaged s t q g) (hout : out < 16)
    {b : Air} (hkind : b.kind = .data q g.id) (hstart : b.start = s.tick) (hstop : b.stop = s.tick + dur)
    (hfull : b.full = s.tick + dur) (hsingle : b.grouped = false) (data : Nat) :
    CutLaunched s ((t.airBegin out b data).busyNow n) out q g dur := by
  obtain ⟨hkept, b', hair, hsame, hfresh⟩ := t.airBegin_received hout hsingle data
  have hbusy : Received (fun _ => True) (fun _ => True) t ((t.airBegin out b data).busyNow n) := hkept.trans (.busyNow _ n)
  have hstaged : t.frameOf q g.id = some g := by
    unfold State.frameOf
    rw [h.frames]
    simp
  refine ⟨hbusy.relayed.trans h.relayed, ⟨b', hair, hsame.kind.trans hkind, hsame.start.trans hstart,
    hsame.full.trans hfull, fun hf => ?_⟩, hbusy.frames q g.id g hstaged⟩
  exact (hfresh ((State.dwFresh_congr h.dwell h.tick).trans hf)).1.trans hstop

theorem State.cutLaunch_launched {s : State} {n out o q dur : Nat} {a : Acq} {f : TxFrame} {m : PhyMap} (hout : out < 16)
    (hcount : sub (s.ses o) sTXFC < 0xFFFFFFFF) : ∃ t : State, CutLaunched s (s.cutLaunch n out o q a f m dur) out q
      (t.cutFrame out a f m (sub (s.ses o) sTXFC + 1)) dur := by
  obtain ⟨w, t, htake, -, -, -⟩ := s.takeCounter_next (k := o) (by omega)
  have hkept : Received (fun _ => True) (fun _ => True) s t := by
    have h := Received.takeCounter (T := fun _ => True) (F := fun _ => True) s o
    rwa [htake] at h
  have hstaged := t.cutReady_staged out q (t.cutFrame out a f m (sub (s.ses o) sTXFC + 1)) m
  obtain ⟨aw, hlaunch⟩ := State.cutLaunch_eq (n := n) (out := out) (q := q) (dur := dur) (a := a) (f := f) (m := m) htake
  refine ⟨t, hlaunch ▸ CutStaged.launched
    ⟨hstaged.tick.trans hkept.tick, hstaged.dwell.trans hkept.dwell, ?_, hstaged.frames⟩ hout rfl hkept.tick ?_ ?_ rfl _⟩
  · rw [hstaged.relayed, hkept.relayed]
  · exact congrArg (· + dur) hkept.tick
  · exact congrArg (· + dur) hkept.tick

/-! ## CUT_THROUGH_RELAY_START -/

/-- The frame that comes in, as far as its header tells. -/
def cutIncoming (n : Nat) (a : Acq) (h : PhyHeader) (l : Lfc) : RxFrame :=
  { id := a.id, port := n, tdet := a.tdet, endTick := 0, slot := a.slot, tmap := h.tmap, mode := h.mode, sweep := false,
    phy := h.cls, len := h.len, lfc := l, payload := [], snr := a.snr, psnr := 0, gain := a.gain, fofs := a.fofs,
    sofs := a.sofs, det := a.det }

/-- The frame that goes out in its place. -/
def State.cutOutgoing (s : State) (n : Nat) (a : Acq) (h : PhyHeader) (l : Lfc) (o q : Nat) : TxFrame :=
  s.relayFrame q o (cutIncoming n a h l) (List.replicate (h.len - 4 - 16 * b2n l.sec) 0)

/-- The ports are distinct BB ports of one group that does not act jointly. -/
def State.cutPair (s : State) (n out : Fin 16) : Prop :=
  n ≠ out ∧ n.val / 4 = out.val / 4 ∧ s.joint n.val = false ∧ s.profile n.val = pfBB ∧ s.profile out.val = pfBB

/-- R240: what the outgoing frame `f` with map `m`, of `dur` ticks in the frequencies `r`, has to meet to launch in this
tick. -/
structure CutDue (s : State) (n out : Nat) (a : Acq) (h : PhyHeader) (l : Lfc) (k : Nat) (f : TxFrame) (m : PhyMap)
    (dur : Nat) (r : Nat × Nat) : Prop where
  swk : m.swk = 0
  rate : (mapRate (s.openCarriers n false).length (s.inMap k a h n)).1 * (mapRate (s.openCarriers out false).length m).2 ≤
    (mapRate (s.openCarriers out false).length m).1 * (mapRate (s.openCarriers n false).length (s.inMap k a h n)).2
  early : s.predictEnd n a h + s.get MAC_RELAY_CT_MARGIN * 125 + (mapRate (s.openCarriers out false).length m).2 - dur ≤
    s.tick
  late : s.tick < s.predictEnd n a h
  mode : s.txMode = true
  free : s.txFree out = true
  placed : s.placed out f.cls s.tick (s.tick + dur) = true
  dwell : (s.dwellCheck out r.1 r.2 s.tick dur).1 = .pass
  driver : s.ldReady out = true
  cells : s.admitsCells l.tclass f.cells = true

section
variable {s : State} {n out : Fin 16} {a : Acq} {h : PhyHeader} {l : Lfc} {k o q : Nat}

theorem exec_cutThroughRelayStart (hpair : s.cutPair n out) (hcur : (s.rxPort n.val).cur = some a) (hhdr : a.hdr = some h)
    (hparts : a.parts ≠ []) : Machine.exec (.cutThroughRelayStart n out) s = .next (s.cutStart n.val out.val a h) := by
  obtain ⟨hne, hgroup, hjoint, hprofile, hprofile'⟩ := hpair
  show execCutThroughRelayStart n out s = _
  unfold execCutThroughRelayStart
  simp [hcur, hhdr, hparts, hne, hgroup, hjoint, hprofile, hprofile']

theorem State.cutStart_off (hoff : s.flag MAC_RELAY_CT_EN = false) (n out : Nat) : s.cutStart n out a h = s := by
  have hnone : s.cutCandidate n out a h = none := by
    simp [State.cutCandidate, hoff]
  unfold State.cutStart
  rw [hnone]

theorem exec_cutThroughRelayStart_nothing (hnot : ¬ s.cutPair n out ∨ s.flag MAC_RELAY_CT_EN = false) :
    Machine.exec (.cutThroughRelayStart n out) s = .next s := by
  show execCutThroughRelayStart n out s = _
  unfold execCutThroughRelayStart
  congr 1
  dsimp only
  split
  · split
    · split
      · next a _ h _ hpair =>
        refine State.cutStart_off (hnot.resolve_left (not_not_intro ?_)) _ _
        simpa [State.cutPair, and_assoc] using (Bool.and_eq_true_iff.1 hpair).1
      · rfl
    · rfl
  · rfl

/-- R240: a due frame launches. -/
theorem State.cutStart_due (hcand : s.cutCandidate n.val out.val a h = some (l, k, o, q)) {m0 m : PhyMap} {rej : Bool}
    {u : State} (hmap : s.mapOf out.val q (s.cutOutgoing n.val a h l o q) false = (m0, rej, u))
    (hfit : u.fitMap out.val false (u.lenOn out.val (s.cutOutgoing n.val a h l o q) m0) m0 = some m)
    (hdue : CutDue s n.val out.val a h l k (s.cutOutgoing n.val a h l o q) m
      (u.durOf out.val false (u.lenOn out.val (s.cutOutgoing n.val a h l o q) m) m) (u.rangeOf out.val false m)) :
    s.cutStart n.val out.val a h = u.cutLaunch n.val out.val o q a (s.cutOutgoing n.val a h l o q) m
      (u.durOf out.val false (u.lenOn out.val (s.cutOutgoing n.val a h l o q) m) m) := by
  obtain ⟨hswk, hrate, hearly, hlate, hmode, hfree, hplaced, hdwell, hdriver, hcells⟩ := hdue
  unfold State.cutStart
  rw [hcand]
  unfold State.cutOutgoing cutIncoming at hmap
  dsimp only
  rw [hmap]
  unfold State.cutOutgoing cutIncoming at hfit
  dsimp only
  rw [hfit]
  refine if_pos ?_
  simp only [Bool.and_eq_true, decide_eq_true_eq, beq_iff_eq]
  exact ⟨⟨⟨⟨⟨⟨⟨⟨⟨hswk, hrate⟩, hearly⟩, hlate⟩, hmode⟩, hfree⟩, hplaced⟩, hdwell⟩, hdriver⟩, hcells⟩

end

end Sys2Proof.Machine

/-! Relays, sounding frames, ranging, and frames of the G.9903 MAC (R130, R234, R240, R323, R364). -/

namespace Sys2Proof.Machine

theorem leNat_take_one_lt (l : List Byte) : leNat (l.take 1) < 256 := by
  cases l with
  | nil => decide
  | cons b rest => simpa [leNat] using b.isLt

theorem State.toHost_delivers (s : State) (r : RxFrame) (body : List Byte) (cls ses : Nat) (failed : Bool) :
    ∃ d : Delivery, (s.toHost r body cls ses failed).hif.deliveries = s.hif.deliveries ++ [d] ∧ d.body = body ∧
      d.session = ses ∧ d.frame.g3 = r.g3 :=
  ⟨_, rfl, rfl, rfl, rfl⟩

/-- R323: what G9903_FRAME_RECEIVED does with the port's only frame that it takes. -/
theorem State.g3In_goes_to_host {s : State} {n : Nat} (hn : n < 16) {a : Acq} {f : G3Frame} {er : Nat} (hkind : f.kind < 2)
    (hmine : s.g3Mine n f = true) (hsec : s.g3Secured n f) (hreplay : ¬ s.g3Replayed n f)
    (hnew : find s.mac.g3last (g3Src n f.src) ≠ some (f.seq, 1))
    (hcells : s.admitsCells 0 (cellsOf f.msdu.length) = true) :
    let t := (s.g3Good n a f).g3In n f (g3Rx n a er f)
    (∃ d : Delivery, t.hif.deliveries = s.hif.deliveries ++ [d] ∧ d.body = f.msdu ∧ d.session = 0 ∧
        d.frame.g3 = true) ∧
      find t.mac.g3last (g3Src n f.src) = some (f.seq, 1) ∧
      (f.seclvl ≠ 0 → find t.mac.g3fc (g3Src n f.src) = some (f.fcnt + 1)) := by
  intro t
  have ht : t = _ := State.g3In_new hn a f (g3Rx n a er f) hkind hmine hsec hreplay hnew hcells
  have hmac : t.mac = ((s.g3Before n a f (g3Rx n a er f)).g3Noted n f).mac := by
    rw [ht]
    rfl
  have hhif : ((s.g3Before n a f (g3Rx n a er f)).g3Noted n f).hif.deliveries = s.hif.deliveries := by
    rw [State.g3Noted_rest]
    exact s.g3Before_deliveries a f _
  obtain ⟨d, hd, hbody, hses, hg3⟩ := State.toHost_delivers
    (((s.g3Before n a f (g3Rx n a er f)).g3Noted n f).takeCells (cellsOf f.msdu.length)) (g3Rx n a er f) f.msdu 0 0 false
  refine ⟨⟨d, ?_, hbody, hses, hg3⟩, ?_, fun hlvl => ?_⟩
  · rw [← hhif]
    exact (congrArg (fun u : State => u.hif.deliveries) ht).trans hd
  · rw [hmac, State.g3Noted_last]
  · rw [hmac, State.g3Noted_fc _ _ _ hlvl]

/-- Settles O42: the launch of a relay is `CutLaunched`, a sounding frame is `State.soundTaken`, and a counted frame of the
G.9903 MAC is judged as of the state before it. -/
theorem relaysRangingAndG9903FramesAct : Obligations.RelaysRangingAndG9903FramesAct := by
  unfold Obligations.RelaysRangingAndG9903FramesAct
  refine ⟨fun s n out => ⟨exec_cutThroughRelayStart_nothing, ?relay⟩, fun s n f type hfront hphy htype hdst husable => ?sound,
    fun s => ?ranging, fun s n f a htails ha hon hn => ?g9903⟩
  case relay =>
    intro a h l k o q hpair hcur hhdr hparts hcand inc f m0 m rej u hmap hfit dur r i x tin hswk hrate hearly hlate hmode hfree
      hplaced hdwell hdriver hcells hcount
    have hstart := State.cutStart_due hcand hmap hfit
      ⟨hswk, hrate, hearly, hlate, hmode, hfree, hplaced, hdwell, hdriver, hcells⟩
    obtain ⟨t, hlaunched⟩ := State.cutLaunch_launched (s := u) (n := n.val) (q := q) (dur := dur) (a := a) (f := f)
      (m := m) out.isLt hcount
    have hread : DramRead s u := by
      have hall := DramRead.mapOf s out.val q f false
      rwa [hmap] at hall
    obtain ⟨b, hair, hkind, hbegin, hfull, hstop⟩ := hlaunched.air
    obtain ⟨p, hframe⟩ := hlaunched.frame
    have hfresh : u.dwFresh = s.dwFresh := State.dwFresh_congr (congrArg (fun c => c.dwell) hread.mac) hread.tick
    rw [hread.tick] at hbegin hfull hstop
    exact ⟨_, (exec_cutThroughRelayStart hpair hcur hhdr hparts).trans (congrArg Host.Outcome.next hstart), hlaunched.relayed,
      b, _, _, hair, hkind, hbegin, hfull, fun hf => hstop (hfresh.trans hf), hframe, rfl, rfl, rfl, rfl⟩
  case sound =>
    subst htype
    have h : SoundFront s n f := ⟨hfront, hphy, hdst, husable⟩
    have hkept : SoundKept s (s.soundTaken n.val f) := .soundTaken s n.val f
    refine ⟨fun h1 h2 => ?_, fun h1 hcells => ?_, fun h2 => ?_⟩
    · exact ⟨_, exec_soundingFrameReceived h h1 h2, by rw [hkept.rest], hkept.deliveries,
        fun hstate => State.soundTaken_lastrx hstate husable, fun k d => State.soundTaken_pending n.isLt⟩
    · obtain ⟨g, hframes, hphy', hdst', hack, hbody, hlength, hrseq, hturn⟩ := State.rangeReply_framesOf h hcells
      refine ⟨_, g, exec_rangeReqReceived h h1, hframes, hphy', hdst', hack, hbody, hlength,
        hrseq.trans (Nat.mod_eq_of_lt (leNat_take_one_lt _)), hturn.trans ?_⟩
      rw [s.arrival_eq]
    · refine ⟨_, exec_rangeRspReceived h h2, fun r t1 hreq => ?_⟩
      obtain ⟨htaken, houtside, hother⟩ := State.rangeRsp_answered (n := n) (f := f) hreq
      rw [s.arrival_eq] at htaken houtside
      exact ⟨htaken, houtside, hother⟩
  case ranging =>
    refine ⟨fun hnot => exec_rangingDue_notDue fun hdue => hnot (s.rangeDue_iff.1 hdue), fun hdue => ?_⟩
    have htime := s.rangeSent.sendMac_time (s.get MAC_SFSTAT_PPORT) 3
    refine ⟨_, exec_rangingDue_due (s.rangeDue_iff.2 hdue), ?_, ?_, fun hcells => ?_⟩
    · exact congrArg (fun c => c.rangeAt) (htime _ _)
    · exact congrArg (fun c => c.rseq) (htime _ _)
    · obtain ⟨g, hframes, hphy, hdst, hack, hbody, -, hrseq, -⟩ := State.sendSounding_framesOf (s := s.rangeSent)
        (s.get MAC_SFSTAT_PPORT) s.parent 1 ((s.time.rseq + 1) % 256) 0 hcells
      exact ⟨g, hframes, hphy, hdst, hack, hbody, hrseq.trans (Nat.mod_mod _ _)⟩
  case g9903 =>
    intro mine secured replayed repeated
    have h16 : n.val < 16 := n.isLt
    have hjudged := G3Judged.g3In (s.g3Good n.val a f) n.val f (g3Rx n.val a (a.ended.getD s.tick) f)
    have hmine : mine ↔ s.g3Mine n.val f = true := (s.g3Mine_iff n.val f).symm
    refine ⟨_, exec_g9903FrameReceived htails ha f, ?_, ?_, fun hkind h => ?_, fun hkind hm hsec => ?_,
      fun hkind hm hsec hreplay hnew hcells => ?_⟩
    · refine (hjudged.get (f := PRT_RXGOOD_COUNT n.val) (spared_port ?_) ?_).trans (s.g3Good_count h16 a f)
      · simp only [PRT_RXGOOD_COUNT, a_PRT_RXGOOD]
        omega
      · simp only [PRT_RXGOOD_COUNT, a_PRT_RXGOOD, a_CPH_CNT0]
        omega
    · exact hjudged.fired (State.g3Good_event hn hon a f) (esPort_lt h16 (by decide)) (portSource_esPort h16 (by decide)) id
    · exact State.g3In_kept_from_host h16 a f _ hkind (h.imp_left fun hm hg => hm (hmine.2 hg))
    · exact State.g3In_authfail h16 a f _ hkind (hmine.1 hm) hsec
    · exact State.g3In_goes_to_host h16 hkind (hmine.1 hm) hsec hreplay hnew hcells

end Sys2Proof.Machine

/-! SUPPORT. The end of a frame on the line (R165, R168): what it leaves of registers and queues, its event, and the tail of
LDEN. -/

namespace Sys2Proof.Machine

/-! ## The driver's book-keeping (R165 to R167) -/

/-- The tick of LDEN apart, every port is as it was. -/
theorem State.refreshLd_txPort (s : State) (n m : Nat) :
    ∃ x, (s.refreshLd n).txPort m = { s.txPort m with ldSince := x } := by
  unfold State.refreshLd
  extract_lets want s1
  split
  · exact ⟨(s.txPort m).ldSince, rfl⟩
  · by_cases hm : m = n
    · subst hm
      exact ⟨if want then some s.tick else none, State.txPort_setTxPort _ m _⟩
    · rw [State.txPort_setTxPort_other _ hm]
      exact ⟨(s.txPort m).ldSince, rfl⟩

theorem State.refreshLd_ldTail (s : State) (n m : Nat) :
    ((s.refreshLd n).txPort m).ldTail = (s.txPort m).ldTail := by
  obtain ⟨x, hx⟩ := s.refreshLd_txPort n m
  rw [hx]

/-- LDEN and BURHOLD apart, the fields of PRT_LDCTL are as they were, and so is every other register. -/
theorem State.get_refreshLd (s : State) {n : Nat} {f : Field}
    (h : f.addr = a_PRT_LDCTL n → f.lo + f.w ≤ 23 ∨ (f.lo = 24 ∧ f.w = 1)) :
    (s.refreshLd n).get f = s.get f := by
  by_cases ha : f.addr = a_PRT_LDCTL n
  · have hbits := h ha
    have hhold (t : State) (v : Nat) : (t.set (PRT_LDCTL_BURHOLD n) v).get f = t.get f :=
      t.get_set_bits (by simp only [PRT_LDCTL_BURHOLD]; omega) v
    have hlden (t : State) (v : Nat) : (t.set (PRT_LDCTL_LDEN n) v).get f = t.get f :=
      t.get_set_bits (by simp only [PRT_LDCTL_LDEN]; omega) v
    unfold State.refreshLd
    extract_lets want s1
    split
    · exact hhold s _
    · exact (State.get_of_reg (State.reg_setTxPort _ n _ _)).trans ((hlden _ _).trans (hhold s _))
  · exact State.get_of_reg (s.refreshLd_reg_other n ha)

/-! ## What the end of a frame leaves -/

/-- The fields that the end of a frame on a line writes beside pending bits: PRT_DWTRUNC, and LDEN and BURHOLD of
PRT_LDCTL. -/
abbrev EndField (f : Field) : Prop :=
  ∃ m, f.addr = a_PRT_DWTRUNC m ∨ (f.addr = a_PRT_LDCTL m ∧ 23 < f.lo + f.w ∧ ¬ (f.lo = 24 ∧ f.w = 1))

/-- A field of PRT_LDCTL below LDEN, such as TAIL, and FAULT are none of them. -/
theorem not_endField_ldctl {n : Nat} {f : Field} (ha : f.addr = a_PRT_LDCTL n)
    (hf : f.lo + f.w ≤ 23 ∨ (f.lo = 24 ∧ f.w = 1)) : ¬ EndField f := by
  rintro ⟨m, h | ⟨-, hlo, hw⟩⟩
  · simp only [ha, a_PRT_LDCTL, a_PRT_DWTRUNC] at h
    omega
  · omega

/-- A register outside the ports has none of them. -/
theorem not_endField_of_lt {f : Field} (h : f.addr < 0x100000) : ¬ EndField f := by
  rintro ⟨m, hm | ⟨hm, -⟩⟩ <;> simp only [a_PRT_DWTRUNC, a_PRT_LDCTL] at hm <;> omega

/-- From `s` to `t` frames have ended on their lines: of the registers only those fields and pending bits have changed,
and the queues are as they were. -/
structure AirEnded (s t : State) : Prop where
  tick : t.tick = s.tick
  blv : t.blv = s.blv
  get : ∀ f : Field, NotPending f.addr → ¬ EndField f → t.get f = s.get f

namespace AirEnded

theorem trans {s t u : State} (h : AirEnded s t) (k : AirEnded t u) : AirEnded s u :=
  ⟨k.tick.trans h.tick, k.blv.trans h.blv, fun f hp hf => (k.get f hp hf).trans (h.get f hp hf)⟩

/-- A step that writes no register. -/
theorem other {s t : State} (hregs : t.regs = s.regs := by rfl) (htick : t.tick = s.tick := by rfl)
    (hblv : t.blv = s.blv := by rfl) : AirEnded s t :=
  ⟨htick, hblv, fun _ _ _ => State.get_of_reg (State.reg_congr hregs _)⟩

theorem refl (s : State) : AirEnded s s := other

theorem forEach {α : Type} {l : List α} {f : α → State → State} (hf : ∀ a ∈ l, ∀ t, AirEnded t (f a t)) (s : State) :
    AirEnded s (forEach l f s) :=
  forEach_induct (P := AirEnded s) (refl s) fun a ha t h => h.trans (hf a ha t)

theorem fire (s : State) {src : Nat} (hsrc : src < 512) (data : Nat) : AirEnded s (s.fire src data) :=
  ⟨s.fire_tick src data, s.fire_blv src data, fun _ hp _ => s.get_fire_other (.inl (pendReg_ne hsrc hp)) data⟩

theorem trimOnTime (s : State) (n a b e : Nat) : AirEnded s (s.trimOnTime n a b e) := by
  refine forN_induct (P := AirEnded s) (refl s) fun k _ t h => h.trans ?_
  unfold State.trimOn
  extract_lets p l runs
  split
  · exact other
  · exact refl t

theorem refreshLd (s : State) {n : Nat} (hn : n < 16) : AirEnded s (s.refreshLd n) := by
  have hrest := (Driven.refreshLd (T := fun _ => True) (F := fun _ => True) s hn trivial).rest
  refine ⟨by rw [hrest], by rw [hrest], fun f _ hf => s.get_refreshLd fun ha => ?_⟩
  by_contra hbits
  exact hf ⟨n, .inr ⟨ha, by omega, by omega⟩⟩

theorem portReleased (s : State) {p : Nat} (hp : p < 16) (start full e tail : Nat) :
    AirEnded s (s.portReleased p start full e tail) := by
  have htrim : AirEnded s (if e < full then s.trimOnTime p start full e else s) := by
    split
    · exact trimOnTime s p start full e
    · exact refl s
  unfold State.portReleased
  exact (htrim.trans other).trans (refreshLd _ hp)

theorem airEnd (s : State) {n : Nat} (hn : n < 16) (a : Air) (outcome e : Nat) :
    AirEnded s (s.airEnd n a outcome e) := by
  have hfreed : AirEnded s (s.lineFreed n a outcome e) := other
  rw [s.airEnd_eq]
  exact (hfreed.trans (fire _ (esPort_lt hn (by decide)) outcome)).trans
    (forEach (fun p hp t => portReleased t (framePorts_lt hn hp) _ _ _ _) _)

/-- R162: the event of a truncation takes the tick of the truncation. -/
theorem reportTrunc (s : State) {n : Nat} (hn : n < 16) (a : Air) : AirEnded s (s.reportTrunc n a) := by
  unfold State.reportTrunc
  cases a.trunc with
  | none => exact refl s
  | some x =>
    obtain ⟨k, band⟩ := x
    have hfire := fire { s with tick := k } (esPort_lt hn (k := 6) (by decide)) (dwData band 1 0)
    refine ⟨rfl, hfire.blv, fun f hp hf => ?_⟩
    refine (State.get_set_addr _ (f := PRT_DWTRUNC_COUNT n) (fun ha => hf ⟨n, .inl ha⟩) _).trans ?_
    exact (State.get_of_reg (State.reg_congr rfl _)).trans
      ((hfire.get f hp hf).trans (State.get_of_reg (State.reg_congr rfl _)))

end AirEnded

/-! ## The event of the end, and the tail of LDEN (R165, R168) -/

/-- An event after a step that keeps its source is one from the state before. -/
theorem Leaves.fired_after {T F : Nat → Prop} {s t u : State} (h : Leaves T F s t) {src data : Nat}
    (k : Machine.fired t u src data) (hp : PortSource src) (hf : ¬ F src) : Machine.fired s u src data := by
  rwa [Machine.fired, h.tick, h.staged _ hp hf] at k

theorem Leaves.reportTrunc (s : State) {n : Nat} (hn : n < 16) (a : Air) :
    Leaves (fun r => r = a_PRT_DWTRUNC n) (fun k => k = esPort n 6) s (s.reportTrunc n a) := by
  unfold State.reportTrunc
  cases a.trunc with
  | none => exact refl s
  | some x =>
    obtain ⟨k, band⟩ := x
    have hfire : Leaves (fun _ => False) (fun k => k = esPort n 6) { s with tick := k }
        (State.fire { s with tick := k } (esPort n 6) (dwData band 1 0)) :=
      .fire_only _ (esPort_lt hn (by decide)) _
    have hnp : NotPending (a_PRT_DWTRUNC n) := (spared_port (by simp only [a_PRT_DWTRUNC]; omega)).1
    have hback : Leaves (fun r => r = a_PRT_DWTRUNC n) (fun k => k = esPort n 6) s
        { State.fire { s with tick := k } (esPort n 6) (dwData band 1 0) with tick := s.tick } :=
      ⟨rfl, hfire.otp, fun b hb _ => hfire.regs b hb id, hfire.staged, hfire.pend⟩
    exact hback.trans (.set_only _ (f := PRT_DWTRUNC_COUNT n) hnp _)

theorem State.portReleased_ldTail (s : State) {p : Nat} (hp : p < 16) (start full e tail : Nat) :
    ((s.portReleased p start full e tail).txPort p).ldTail = some (tail + s.get (PRT_LDCTL_TAIL p) * tUs) := by
  have htrim : Driven (fun _ => False) (fun _ => False) s (if e < full then s.trimOnTime p start full e else s) :=
    .ite (.trimOnTime s p start full e) (.refl s)
  have htail := htrim.get (f := PRT_LDCTL_TAIL p)
    (spared_port (by simp only [PRT_LDCTL_TAIL, a_PRT_LDCTL]; omega)) id
  unfold State.portReleased
  rw [State.refreshLd_ldTail, State.txPort_setTxPort, ← htail]
  rfl

theorem State.airEnd_ldTail (s : State) {n : Nat} (hn : n < 16) {a : Air} (h : a.grouped = false) (outcome e : Nat) :
    ((s.airEnd n a outcome e).txPort n).ldTail = some (s.tick + s.get (PRT_LDCTL_TAIL n) * tUs) := by
  have hfreed : AirEnded s (s.lineFreed n a outcome e) := .other
  have hfire := hfreed.trans (.fire _ (esPort_lt hn (k := 5) (by decide)) outcome)
  have htail := hfire.get (PRT_LDCTL_TAIL n) (notPending_LDCTL hn) (not_endField_ldctl rfl (.inl (by decide : 8 + 6 ≤ 23)))
  rw [s.airEnd_eq, h, framePorts_single, forEach_single, State.portReleased_ldTail _ hn, htail]

end Sys2Proof.Machine

/-! SUPPORT. What becomes of a data frame when its time on the line is over (R168, R224, R226, Table 10-5). -/

namespace Sys2Proof.Machine

/-! ## The lists of the ports -/

theorem State.ldTail_setTxPort (s : State) {n : Nat} {p : TxPort} (h : p.ldTail = (s.txPort n).ldTail) (m : Nat) :
    ((s.setTxPort n p).txPort m).ldTail = (s.txPort m).ldTail := by
  by_cases hm : m = n
  · rw [hm, s.txPort_setTxPort, h]
  · rw [s.txPort_setTxPort_other hm]

theorem State.forget_ldTail (s : State) (q id m : Nat) :
    ((s.forget q id).txPort m).ldTail = (s.txPort m).ldTail := by
  unfold State.forget
  refine forN_induct (P := fun t : State => (t.txPort m).ldTail = (s.txPort m).ldTail) rfl fun k _ t h => ?_
  refine (State.ldTail_setTxPort t ?_ m).trans h
  rfl

theorem State.completeTx_ldTail (s : State) (q : Nat) (f : TxFrame) (status m : Nat) :
    ((s.completeTx q f status).txPort m).ldTail = (s.txPort m).ldTail := by
  unfold State.completeTx
  extract_lets s1 s2
  have hcounts : (s1.unlinkCounts q f).tx = s.tx := s1.unlinkCounts_tx q f
  rw [State.txPort_congr (s2.returnTx_tx _ _ _ _), State.forget_ldTail, State.txPort_congr hcounts]

theorem State.setFrames_tx (s : State) (q : Nat) (l : List TxFrame) : (s.setFrames q l).tx = s.tx := rfl

theorem State.returnRx_tx (s : State) (k : Nat) (c : Option Compl) : (s.returnRx k c).tx = s.tx := rfl

theorem State.dropRelay_ldTail (s : State) (q : Nat) (f : TxFrame) (m : Nat) :
    ((s.dropRelay q f).txPort m).ldTail = (s.txPort m).ldTail := by
  unfold State.dropRelay
  rw [State.txPort_congr (State.returnRx_tx _ _ _), State.forget_ldTail,
    State.txPort_congr ((State.unlinkCounts_tx _ q _).trans (s.setFrames_tx q _))]

/-! ## The end of an attempt (R224, R226) -/

/-- The frame after one more attempt, which ended with an outcome. -/
def TxFrame.tried (f : TxFrame) (outcome : Nat) : TxFrame :=
  { f with attempts := f.attempts + 1, outcome := outcome, ready := false, awaiting := false }

/-- The frame after an attempt that carried it whole. -/
def TxFrame.sentOnce (f : TxFrame) : TxFrame := { f with attempts := f.attempts + 1, outcome := 0 }

/-- R224: the acknowledgement window of the frame `a` of port `n`. -/
def State.withWindow (s : State) (n q id : Nat) (a : Air) : State :=
  s.setTxPort n { s.txPort n with win := some ⟨q, id, a.stop, a.stop + a.aw⟩ }

theorem State.sentWhole_some {s : State} {q id : Nat} {f : TxFrame} (hf : s.frameOf q id = some f) (n : Nat) (a : Air) :
    s.sentWhole n q id a =
      if f.poison then s.dropRelay q f
      else if f.relayOf.isSome then (s.dropRelay q f).bump MAC_CTCNT_POISONED
      else if a.aw = 0 then (s.setFrame q f.sentOnce).completeTx q f.sentOnce 0
      else (s.setFrame q f.sentOnce).withWindow n q id a := by
  unfold State.sentWhole
  rw [hf]
  rfl

/-- The frame as it waits for its next attempt. -/
def State.waiting (s : State) (f : TxFrame) : TxFrame :=
  { f with awaiting := false, ready := false, bo := none, cw := some (s.raiseCw f) }

/-- From `s` to `t` a frame's attempt has ended: on every line the same frame, the tail of LDEN as it was, and of the
registers none but MAC_NOACKCNT and MAC_CTCNT written. -/
structure Attempted (s t : State) : Prop where
  tx : ∀ m, (t.txPort m).air = (s.txPort m).air ∧ (t.txPort m).ldTail = (s.txPort m).ldTail
  bur : t.bur = s.bur
  leaves : ∀ T F, Leaves T F s t
  regs : ∀ a, a ≠ a_MAC_NOACKCNT → a ≠ a_MAC_CTCNT → t.reg a = s.reg a

namespace Attempted

theorem refl (s : State) : Attempted s s := ⟨fun _ => ⟨rfl, rfl⟩, rfl, fun _ _ => .refl s, fun _ _ _ => rfl⟩

theorem trans {s t u : State} (h : Attempted s t) (k : Attempted t u) : Attempted s u where
  tx m := ⟨(k.tx m).1.trans (h.tx m).1, (k.tx m).2.trans (h.tx m).2⟩
  bur := k.bur.trans h.bur
  leaves T F := (h.leaves T F).trans (k.leaves T F)
  regs a hn hc := (k.regs a hn hc).trans (h.regs a hn hc)

theorem ite {s a b : State} {c : Prop} [Decidable c] (h : Attempted s a) (k : Attempted s b) :
    Attempted s (if c then a else b) := by
  split <;> assumption

theorem lineKept {T F : Nat → Prop} {s t : State} (h : Attempted s t) : LineKept T F s t :=
  ⟨h.leaves T F, h.bur, fun m => (h.tx m).1⟩

theorem requeued {s t : State} (h : Requeued s t) (htail : ∀ m, (t.txPort m).ldTail = (s.txPort m).ldTail) :
    Attempted s t :=
  ⟨fun m => ⟨h.air m, htail m⟩, by rw [h.rest], fun _ _ => h.leaves, fun _ _ _ => State.reg_congr (by rw [h.rest]) _⟩

theorem completeTx (s : State) (q : Nat) (f : TxFrame) (status : Nat) : Attempted s (s.completeTx q f status) :=
  requeued (.completeTx s q f status) (s.completeTx_ldTail q f status)

theorem dropRelay (s : State) (q : Nat) (f : TxFrame) : Attempted s (s.dropRelay q f) :=
  requeued (.dropRelay s q f) (s.dropRelay_ldTail q f)

theorem setFrame (s : State) (q : Nat) (f : TxFrame) : Attempted s (s.setFrame q f) :=
  requeued (.setFrames s q _) fun _ => rfl

/-- The counts of lost acknowledgements and of relays. -/
theorem bump (s : State) {f : Field} (h : f.addr = a_MAC_NOACKCNT ∨ f.addr = a_MAC_CTCNT) : Attempted s (s.bump f) where
  tx _ := ⟨rfl, rfl⟩
  bur := rfl
  leaves T F := by
    refine .set s ?_ (absurd · ?_) _ <;> rcases h with h | h <;> rw [h] <;> decide
  regs a hn hc := s.reg_bump_other (by rcases h with h | h <;> rw [h] <;> assumption) 1

theorem withWindow (s : State) (n q id : Nat) (a : Air) : Attempted s (s.withWindow n q id a) :=
  ⟨fun m => ⟨s.air_setTxPort (by rfl) m, s.ldTail_setTxPort (by rfl) m⟩, rfl, fun _ _ => .other, fun _ _ _ => rfl⟩

theorem failAttempt (s : State) (q : Nat) (f : TxFrame) : Attempted s (s.failAttempt q f) :=
  ite ((completeTx s q f 1).trans (bump _ (.inl rfl))) (setFrame s q _)

theorem attemptEnd (s : State) (q id outcome : Nat) : Attempted s (s.attemptEnd q id outcome) := by
  unfold State.attemptEnd
  cases s.frameOf q id with
  | none => exact refl s
  | some f => exact ite (dropRelay s q f) ((setFrame s q (f.tried outcome)).trans (failAttempt _ q _))

theorem sentWhole (s : State) (n q id : Nat) (a : Air) : Attempted s (s.sentWhole n q id a) := by
  cases hf : s.frameOf q id with
  | none =>
    unfold State.sentWhole
    rw [hf]
    exact refl s
  | some f =>
    have hset := setFrame s q f.sentOnce
    rw [State.sentWhole_some hf]
    exact ite (dropRelay s q f) (ite ((dropRelay s q f).trans (bump _ (.inr rfl)))
      (ite (hset.trans (completeTx _ q f.sentOnce 0)) (hset.trans (withWindow _ n q id a))))

end Attempted

section
variable {s : State} {q id : Nat} {f : TxFrame}

theorem State.frameOf_setFrame_of (hf : s.frameOf q id = some f) {g : TxFrame} (hg : g.id = f.id) :
    (s.setFrame q g).frameOf q id = some g := by
  rw [← State.frameOf_id hf, ← hg]
  exact s.frameOf_setFrame ⟨f, State.frameOf_mem hf, hg.symm⟩

/-- R224: a frame that was sent whole and is of no relay. -/
theorem State.sentWhole_eq (hf : s.frameOf q id = some f) (hp : unproven f = false) (n : Nat) (a : Air) :
    s.sentWhole n q id a = if a.aw = 0 then (s.setFrame q f.sentOnce).completeTx q f.sentOnce 0
      else (s.setFrame q f.sentOnce).withWindow n q id a := by
  obtain ⟨hpoison, hrelay⟩ := Bool.or_eq_false_iff.1 hp
  rw [State.sentWhole_some hf, if_neg (by simp [hpoison]), if_neg (by simp [hrelay])]

/-- R224: its window opens, where it asks for an acknowledgement. -/
theorem State.sentWhole_window (hf : s.frameOf q id = some f) (hp : unproven f = false) (n : Nat) {a : Air}
    (ha : a.aw ≠ 0) :
    ((s.sentWhole n q id a).txPort n).win = some ⟨q, id, a.stop, a.stop + a.aw⟩ ∧
      (s.sentWhole n q id a).frameOf q id = some f.sentOnce := by
  rw [State.sentWhole_eq hf hp, if_neg ha]
  exact ⟨congrArg TxPort.win (State.txPort_setTxPort _ n _), State.frameOf_setFrame_of hf (g := f.sentOnce) rfl⟩

/-- R224: a frame that asks for none completes. -/
theorem State.sentWhole_completes (hf : s.frameOf q id = some f) (hp : unproven f = false) (n : Nat) {a : Air}
    (ha : a.aw = 0) :
    (s.sentWhole n q id a).frameOf q id = none := by
  rw [State.sentWhole_eq hf hp, if_pos ha, ← State.frameOf_id hf]
  exact State.frameOf_completeTx f.sentOnce 0 false

theorem State.attemptEnd_eq (hf : s.frameOf q id = some f) (hp : unproven f = false) (outcome : Nat) :
    s.attemptEnd q id outcome = (s.setFrame q (f.tried outcome)).failAttempt q (f.tried outcome) := by
  unfold State.attemptEnd
  simp only [hf, hp, Bool.false_eq_true, if_false]
  rfl

/-- R226: the retries are used up. -/
theorem State.attemptEnd_last (hf : s.frameOf q id = some f) (hp : unproven f = false) (outcome : Nat)
    (hlast : f.retry < f.attempts + 1) :
    (s.attemptEnd q id outcome).frameOf q id = none ∧
      (s.attemptEnd q id outcome).get MAC_NOACKCNT_COUNT = satAdd 32 (s.get MAC_NOACKCNT_COUNT) 1 := by
  rw [State.attemptEnd_eq hf hp, State.failAttempt, if_pos (.inl hlast)]
  generalize hu : s.setFrame q (f.tried outcome) = u
  obtain ⟨hregs, -⟩ := u.completeTx_regs q (f.tried outcome) 1
  refine ⟨?_, ?_⟩
  · rw [← State.frameOf_id hf]
    exact State.frameOf_completeTx (f.tried outcome) 1 false
  · refine (State.get_bump_same _ (f := MAC_NOACKCNT_COUNT) (Nat.le_refl 32)).trans ?_
    rw [State.get_of_reg (State.reg_congr hregs _), ← hu]
    rfl

/-- R226: the frame waits for its next attempt. -/
theorem State.attemptEnd_again (hf : s.frameOf q id = some f) (hp : unproven f = false) (outcome : Nat)
    (hleft : ¬ f.retry < f.attempts + 1) (hstay : s.leaving = false) :
    (s.attemptEnd q id outcome).frameOf q id =
      some ((s.setFrame q (f.tried outcome)).waiting (f.tried outcome)) := by
  have htried := State.frameOf_setFrame_of hf (g := f.tried outcome) rfl
  have hleaving : (s.setFrame q (f.tried outcome)).leaving = false := hstay
  rw [State.attemptEnd_eq hf hp, State.failAttempt, if_neg (by
    rw [hleaving]
    rintro (h | h)
    · exact hleft h
    · exact Bool.false_ne_true h)]
  exact State.frameOf_setFrame_of htried rfl

end

/-! ## TRANSMIT_END -/

theorem State.leaving_congr {s t : State} (h : t.get SYS_MODESTAT_BUSY = s.get SYS_MODESTAT_BUSY)
    (k : t.get SYS_MODESTAT_TARGET = s.get SYS_MODESTAT_TARGET) : t.leaving = s.leaving := by
  simp only [State.leaving, State.busy, State.flag, h, k]

/-- The line of port `n` when the on-time of its frame is over, before the frame is looked at. -/
def State.aired (s : State) (n : Nat) (a : Air) : State := (s.reportTrunc n a).airEnd n a a.outcome a.stop

theorem AirEnded.aired (s : State) {n : Nat} (hn : n < 16) (a : Air) : AirEnded s (s.aired n a) :=
  (AirEnded.reportTrunc s hn a).trans (.airEnd _ hn a a.outcome a.stop)

theorem exec_transmitEnd {s : State} {n : Fin 16} {a : Air} (ha : (s.txPort n.val).air = some a) :
    exec (.transmitEnd n) s = .next (if a.stop ≤ s.tick then s.txEnd n.val a else s) := by
  show execTransmitEnd n s = _
  rw [execTransmitEnd, ha]

theorem Attempted.txEnd (s : State) (n : Nat) (a : Air) : Attempted (s.aired n a) (s.txEnd n a) := by
  unfold State.txEnd
  cases a.kind with
  | data q id => exact ite (sentWhole _ n q id a) (attemptEnd _ q id a.outcome)
  | _ => exact refl _

/-- R165, R168: what the end of a frame of one port does to the line. -/
theorem State.txEnd_line {s : State} {n : Nat} {a : Air} (hn : n < s.ports) (hon : s.domOn (dPair n) = true)
    (hg : a.grouped = false) :
    ((s.txEnd n a).txPort n).air = none ∧ fired s (s.txEnd n a) (esPort n 5) a.outcome ∧
      ((s.txEnd n a).txPort n).ldTail = some (s.tick + s.get (PRT_LDCTL_TAIL n) * tUs) := by
  have h16 : n < 16 := Nat.lt_of_lt_of_le hn s.ports_le
  have htrunc := Leaves.reportTrunc s h16 a
  have hended := AirEnded.reportTrunc s h16 a
  have hfreed := LineFreed.airEnd (s.reportTrunc n a) h16 a a.outcome a.stop
  have htried := Attempted.txEnd s n a
  have hfree := hfreed.trans h16 htried.lineKept
  refine ⟨hfree.air, htrunc.fired_after (hfree.event ?_ ?_) (portSource_esPort h16 (by decide)) ?_, ?_⟩
  · exact htrunc.ports.symm ▸ hn
  · exact (htrunc.domOn (by simp only [a_PWR_STAT, a_PRT_DWTRUNC]; omega) _).trans hon
  · exact fun h => absurd ((esPort_inj (by decide) (by decide)).1 h).2 (by decide)
  · have htail := hended.get (PRT_LDCTL_TAIL n) (notPending_LDCTL h16)
      (not_endField_ldctl rfl (.inl (by decide : 8 + 6 ≤ 23)))
    rw [(htried.tx n).2, State.aired, State.airEnd_ldTail _ h16 hg, htail, hended.tick]

/-- R224, R226: what becomes of a data frame. -/
theorem State.txEnd_frame {s : State} {n q id : Nat} {a : Air} {f : TxFrame} (hn : n < 16) (hk : a.kind = .data q id)
    (hf : s.frameOf q id = some f) (hp : unproven f = false) :
    (a.outcome = 0 → a.aw ≠ 0 → ((s.txEnd n a).txPort n).win = some ⟨q, id, a.stop, a.stop + a.aw⟩ ∧
      ∃ g : TxFrame, (s.txEnd n a).frameOf q id = some g ∧ g.attempts = f.attempts + 1 ∧ g.outcome = 0) ∧
    (a.outcome = 0 → a.aw = 0 → (s.txEnd n a).frameOf q id = none) ∧
    (a.outcome ≠ 0 → s.leaving = false →
      if f.retry < f.attempts + 1 then (s.txEnd n a).frameOf q id = none ∧
        (s.txEnd n a).get MAC_NOACKCNT_COUNT = satAdd 32 (s.get MAC_NOACKCNT_COUNT) 1
      else ∃ g : TxFrame, (s.txEnd n a).frameOf q id = some g ∧ g.attempts = f.attempts + 1 ∧ g.outcome = a.outcome ∧
        g.ready = false ∧ g.awaiting = false) := by
  have hended := AirEnded.aired s hn a
  have hfound : (s.aired n a).frameOf q id = some f :=
    (State.frameOf_congr (congrArg (·.frames) hended.blv) q id).trans hf
  have htx : s.txEnd n a =
      if a.outcome = 0 then (s.aired n a).sentWhole n q id a else (s.aired n a).attemptEnd q id a.outcome := by
    unfold State.txEnd
    rw [hk]
    rfl
  rw [htx]
  refine ⟨fun ho haw => ?_, fun ho haw => ?_, fun ho hstay => ?_⟩
  · obtain ⟨hwin, hframe⟩ := State.sentWhole_window hfound hp n haw
    rw [if_pos ho]
    exact ⟨hwin, f.sentOnce, hframe, rfl, rfl⟩
  · rw [if_pos ho]
    exact State.sentWhole_completes hfound hp n haw
  · rw [if_neg ho]
    split_ifs with hlast
    · obtain ⟨hgone, hcount⟩ := State.attemptEnd_last hfound hp a.outcome hlast
      exact ⟨hgone, hcount.trans (by rw [hended.get MAC_NOACKCNT_COUNT (by decide) (not_endField_of_lt (by decide))])⟩
    · have hleaving : (s.aired n a).leaving = false :=
        (State.leaving_congr (hended.get _ (by decide) (not_endField_of_lt (by decide)))
          (hended.get _ (by decide) (not_endField_of_lt (by decide)))).trans hstay
      exact ⟨_, State.attemptEnd_again hfound hp a.outcome hlast hleaving, rfl, rfl, rfl, rfl⟩

end Sys2Proof.Machine

/-! The ends of frames, the driver's faults, and the tail of LDEN (R165 to R168, R224, R226). -/

namespace Sys2Proof.Machine

/-! ## The frame of a port at fault (R167) -/

/-- The source of the end of a frame of a port. -/
abbrev SentSource (k : Nat) : Prop := ∃ m, m < 16 ∧ k = esPort m 5

/-- Source 7 of a port fires where the port is present and PD_PROT is on (R67, R167). -/
theorem State.sourceOn_fault {s : State} {n : Nat} (hn : n < s.ports) (hon : s.domOn dProt = true) :
    s.sourceOn (esPort n 7) = true := by
  have h16 : n < 16 := Nat.lt_of_lt_of_le hn s.ports_le
  have hdom : sourceDomain (esPort n 7) = dProt := by
    unfold sourceDomain esPort
    rw [if_neg (by omega), if_neg (by omega), if_neg (by omega), if_neg (by omega), if_neg (by omega), if_neg (by omega),
      if_pos (by omega), if_pos (by omega)]
  have hport : sourcePort (esPort n 7) = some n := by
    unfold sourcePort esPort
    rw [if_neg (by omega), if_neg (by omega), if_pos (by omega)]
    congr 1
    omega
  simp [State.sourceOn, hdom, hport, hon, hn]

theorem State.faultAir_none {s : State} {n : Nat} (h : s.airOf n = none) : s.faultAir n = s := by
  unfold State.faultAir
  rw [h]

section
variable {s : State} {n m : Nat} {a : Air}

theorem Attempted.faultAir (h : s.airOf n = some (m, a)) :
    Attempted (s.airEnd m a 3 (s.tick + 1)) (s.faultAir n) := by
  unfold State.faultAir
  rw [h]
  dsimp only
  cases a.kind with
  | data q id => exact attemptEnd _ q id 3
  | _ => exact refl _

theorem LineFreed.faultAir (hm : m < 16) (h : s.airOf n = some (m, a)) : LineFreed s (s.faultAir n) m 3 :=
  (LineFreed.airEnd s hm a 3 (s.tick + 1)).trans hm (Attempted.faultAir h).lineKept

end

theorem Leaves.faultAir (s : State) {n : Nat} (hn : n < 16) : Leaves LaunchReg SentSource s (s.faultAir n) := by
  cases h : s.airOf n with
  | none =>
    rw [State.faultAir_none h]
    exact refl s
  | some x =>
    obtain ⟨m, a⟩ := x
    have hm := State.airOf_lt hn h
    have hfree := LineFreed.faultAir hm h
    exact ⟨hfree.tick, hfree.otp, hfree.regs, fun k hk hf => hfree.staged k hk fun h5 => hf ⟨m, hm, h5⟩, hfree.pend⟩

theorem State.get_faultAir (s : State) {n : Nat} (hn : n < 16) {f : Field} (hp : NotPending f.addr) (hf : ¬ EndField f)
    (hmac : f.addr ≠ a_MAC_NOACKCNT ∧ f.addr ≠ a_MAC_CTCNT) : (s.faultAir n).get f = s.get f := by
  cases h : s.airOf n with
  | none => rw [State.faultAir_none h]
  | some x =>
    obtain ⟨m, a⟩ := x
    exact (State.get_of_reg ((Attempted.faultAir h).regs _ hmac.1 hmac.2)).trans
      ((AirEnded.airEnd s (State.airOf_lt hn h) a 3 (s.tick + 1)).get f hp hf)

/-! ## LINE_DRIVER_FAULT (R167) -/

/-- The state in which the fault of port `n` is shown, reported and counted. -/
def State.faultShown (s : State) (n : Nat) : State :=
  ((s.set (PRT_LDCTL_FAULT n) 1).fire (esPort n 7) 1).bump (PRT_LDFLTCNT_COUNT n)

theorem State.ldFault_eq {s : State} {n : Nat} (h : s.flag (PRT_LDCTL_FAULT n) = false) :
    s.ldFault n = ((s.faultShown n).faultAir n).refreshLd n := by
  unfold State.ldFault
  rw [h]
  rfl

theorem State.faultShown_airOf (s : State) (n m : Nat) : (s.faultShown n).airOf m = s.airOf m :=
  State.airOf_congr ((State.bump_tx _ _ _).trans (State.fire_tx _ _ _)) m

section
variable {s : State} {n : Nat} (hn : n < 16)
include hn

theorem notPending_LDFLTCNT : NotPending (a_PRT_LDFLTCNT n) :=
  (spared_port (by simp only [a_PRT_LDFLTCNT]; omega)).1

theorem Leaves.faultShown : Leaves (fun r => r = a_PRT_LDCTL n ∨ r = a_PRT_LDFLTCNT n) (fun k => k = esPort n 7) s
    (s.faultShown n) :=
  ((set s (f := PRT_LDCTL_FAULT n) (notPending_LDCTL hn) (fun _ => .inl rfl) 1).trans
    (.fire_only _ (esPort_lt hn (by decide)) 1)).trans
      (.set _ (f := PRT_LDFLTCNT_COUNT n) (notPending_LDFLTCNT hn) (fun _ => .inr rfl) _)

theorem State.faultShown_flag : (s.faultShown n).flag (PRT_LDCTL_FAULT n) = true := by
  have hne : a_PRT_LDCTL n ≠ a_PRT_LDFLTCNT n := by simp only [a_PRT_LDCTL, a_PRT_LDFLTCNT]; omega
  refine (State.flag_of_reg (f := PRT_LDCTL_FAULT n) ?_).trans
    (s.flag_set_one (f := PRT_LDCTL_FAULT n) (by decide : 24 + 1 ≤ 32) rfl)
  exact (State.reg_bump_other _ (f := PRT_LDFLTCNT_COUNT n) hne 1).trans
    (State.reg_fire_other _ (pendReg_ne (esPort_lt hn (by decide)) (notPending_LDCTL hn)) 1)

theorem State.faultShown_count :
    (s.faultShown n).get (PRT_LDFLTCNT_COUNT n) = satAdd 32 (s.get (PRT_LDFLTCNT_COUNT n)) 1 := by
  have hne : a_PRT_LDFLTCNT n ≠ a_PRT_LDCTL n := by simp only [a_PRT_LDCTL, a_PRT_LDFLTCNT]; omega
  refine (State.get_bump_same _ (f := PRT_LDFLTCNT_COUNT n) (Nat.le_refl 32)).trans ?_
  rw [State.get_fire_other _ (g := PRT_LDFLTCNT_COUNT n)
    (.inl (pendReg_ne (esPort_lt hn (by decide)) (notPending_LDFLTCNT hn))),
    s.get_set_addr (f := PRT_LDCTL_FAULT n) (g := PRT_LDFLTCNT_COUNT n) hne]
  rfl

theorem State.faultShown_fired (hp : n < s.ports) (hon : s.domOn dProt = true) :
    fired s (s.faultShown n) (esPort n 7) 1 := by
  have hset : Leaves (fun r => r = a_PRT_LDCTL n) (fun _ => False) s (s.set (PRT_LDCTL_FAULT n) 1) :=
    .set_only s (f := PRT_LDCTL_FAULT n) (notPending_LDCTL hn) 1
  refine (hset.fired_fire (portSource_esPort hn (by decide)) id ?_ (State.sourceOn_fault hp hon) 1).set
    (esPort_lt hn (by decide)) (notPending_LDFLTCNT hn) _
  simp only [a_PWR_STAT, a_PRT_LDCTL]
  omega

end

/-- R167: what the assertion of a driver's fault does. -/
theorem State.ldFault_spec {s : State} {n : Nat} (hon : s.domOn dProt = true) (hn : n < s.ports)
    (hclear : s.flag (PRT_LDCTL_FAULT n) = false) :
    (s.ldFault n).flag (PRT_LDCTL_FAULT n) = true ∧ fired s (s.ldFault n) (esPort n 7) 1 ∧
      (s.ldFault n).get (PRT_LDFLTCNT_COUNT n) = satAdd 32 (s.get (PRT_LDFLTCNT_COUNT n)) 1 ∧
      ∀ a, (s.txPort n).air = some a → s.domOn (dPair n) = true →
        ((s.ldFault n).txPort n).air = none ∧ fired s (s.ldFault n) (esPort n 5) 3 := by
  have h16 : n < 16 := Nat.lt_of_lt_of_le hn s.ports_le
  have hshown := Leaves.faultShown (s := s) h16
  have hlost := Leaves.faultAir (s.faultShown n) h16
  have hdriven : Driven (fun r => r = a_PRT_LDCTL n) (fun _ => False) ((s.faultShown n).faultAir n)
      (((s.faultShown n).faultAir n).refreshLd n) := .refreshLd _ h16 rfl
  have h75 : ¬ SentSource (esPort n 7) := fun ⟨m, _, h⟩ =>
    absurd ((esPort_inj (by decide) (by decide)).1 h).2 (by decide)
  have hcount : Spared (a_PRT_LDFLTCNT n) := spared_port (by simp only [a_PRT_LDFLTCNT]; omega)
  rw [State.ldFault_eq hclear]
  refine ⟨?_, ?_, ?_, fun a ha hpair => ?_⟩
  · have hend : ¬ EndField (PRT_LDCTL_FAULT n) := not_endField_ldctl rfl (.inr ⟨rfl, rfl⟩)
    have hmac : a_PRT_LDCTL n ≠ a_MAC_NOACKCNT ∧ a_PRT_LDCTL n ≠ a_MAC_CTCNT := by
      simp only [a_PRT_LDCTL, a_MAC_NOACKCNT, a_MAC_CTCNT]
      omega
    rw [State.flag, State.get_refreshLd _ (fun _ => .inr ⟨rfl, rfl⟩),
      State.get_faultAir _ h16 (notPending_LDCTL h16) hend hmac]
    exact State.faultShown_flag h16
  · exact hdriven.fired (hlost.fired (State.faultShown_fired h16 hn hon) (esPort_lt h16 (by decide))
      (portSource_esPort h16 (by decide)) h75) (esPort_lt h16 (by decide)) (portSource_esPort h16 (by decide)) id
  · refine (hdriven.get (f := PRT_LDFLTCNT_COUNT n) hcount ?_).trans
      ((hlost.get (f := PRT_LDFLTCNT_COUNT n) hcount fun h => ?_).trans (State.faultShown_count h16))
    · simp only [PRT_LDFLTCNT_COUNT, a_PRT_LDFLTCNT, a_PRT_LDCTL]
      omega
    · have hlt := launchReg_lt h
      simp only [PRT_LDFLTCNT_COUNT, a_PRT_LDFLTCNT] at hlt
      omega
  · have hair : (s.faultShown n).airOf n = some (n, a) := by
      rw [State.faultShown_airOf, State.airOf, ha]
    have hfree := LineFreed.faultAir h16 hair
    have hevent := hfree.event (hshown.ports.symm ▸ hn)
      ((hshown.domOn (by simp only [a_PWR_STAT, a_PRT_LDCTL, a_PRT_LDFLTCNT]; omega) _).trans hpair)
    refine ⟨(hdriven.air n).trans hfree.air, hdriven.fired (hshown.fired_after hevent (portSource_esPort h16 (by decide))
      fun h => ?_) (esPort_lt h16 (by decide)) (portSource_esPort h16 (by decide)) id⟩
    exact absurd ((esPort_inj (by decide) (by decide)).1 h).2 (by decide)

theorem exec_lineDriverFault {s : State} {n : Fin 16} (hon : s.domOn dProt = true) (hn : n.val < s.ports) :
    exec (.lineDriverFault n) s = .next (s.ldFault n.val) := by
  show execLineDriverFault n s = _
  simp [execLineDriverFault, hon, hn]

/-! ## LINE_DRIVER_FAULT_RELEASE (R167) -/

/-- The state in which the release of the fault of port `n` is shown and reported. -/
def State.faultCleared (s : State) (n : Nat) : State := (s.set (PRT_LDCTL_FAULT n) 0).fire (esPort n 7) 0

/-- The hold window of port `n` after the fault. -/
def State.faultHeld (s : State) (n e : Nat) : State := s.setTxPort n { s.txPort n with holdEnd := e }

theorem exec_lineDriverFaultRelease {s : State} {n : Fin 16} (h : s.flag (PRT_LDCTL_FAULT n.val) = true) :
    exec (.lineDriverFaultRelease n) s = .next (((s.faultCleared n.val).faultHeld n.val
      (s.tick + s.get (PRT_LDCTL_FLT_HOLD n.val) * tMs)).refreshLd n.val) := by
  show execLineDriverFaultRelease n s = _
  rw [execLineDriverFaultRelease, h]
  rfl

/-- A step that writes only registers named already. -/
theorem changes.then_regs {s t u : State} {l : List (Nat × Nat)} {regs : List Nat} (h : changes s t l regs)
    (hregs : sameRegs t u regs) (hp : ∀ a ∈ regs, NotPending a) (hl : ∀ e ∈ l, e.1 < 512) (hsq : u.sq = t.sq) :
    changes s u l regs := by
  obtain ⟨⟨hfired, hother, hsquare⟩, hsame⟩ := h
  have hpend : ∀ k, k < 512 → u.reg (pendReg k) = t.reg (pendReg k) := fun k hk =>
    hregs _ fun hin => pendReg_ne hk (hp _ hin) rfl
  refine ⟨⟨fun e he => (hfired e he).congr (hpend _ (hl e he)) (by rw [hsq]), fun k hk => ?_, ?_⟩, fun a ha => ?_⟩
  · obtain ⟨hfind, hflag⟩ := hother k hk
    exact ⟨by rw [hsq, hfind], fun h512 => (State.flag_of_reg (hpend k h512)).trans (hflag h512)⟩
  · rw [hsq, hsquare]
  · exact (hregs a fun hin => ha (List.mem_append_left _ hin)).trans (hsame a ha)

theorem State.faultCleared_changes {s : State} {n : Nat} (hon : s.domOn dProt = true) (hn : n < s.ports) :
    changesOnly s (s.faultCleared n) [(esPort n 7, 0)] [a_PRT_LDCTL n] := by
  have h16 : n < 16 := Nat.lt_of_lt_of_le hn s.ports_le
  have hset : changesOnly s (s.set (PRT_LDCTL_FAULT n) 0) [] [a_PRT_LDCTL n] :=
    ((changesOnly.refl s).mono (List.nil_subset _)).set (f := PRT_LDCTL_FAULT n) (List.mem_singleton_self _)
      (notPending_LDCTL h16) (by simp) 0
  refine hset.fire (esPort_lt h16 (by decide)) (by simp) (by simp) ?_ 0
  rw [hset.sourceOn_eq (by simp only [List.mem_singleton, a_PWR_STAT, a_PRT_LDCTL]; omega) (by simp)]
  exact State.sourceOn_fault hn hon

/-- R167: what the release of a driver's fault does. -/
theorem State.faultReleased_spec {s : State} {n : Nat} (hon : s.domOn dProt = true) (hn : n < s.ports) (e : Nat) :
    let t := ((s.faultCleared n).faultHeld n e).refreshLd n
    t.flag (PRT_LDCTL_FAULT n) = false ∧ changes s t [(esPort n 7, 0)] [a_PRT_LDCTL n] ∧ (t.txPort n).holdEnd = e ∧
      (t.txPort n).air = (s.txPort n).air ∧ t = { s with regs := t.regs, sq := t.sq, tx := t.tx } := by
  have h16 : n < 16 := Nat.lt_of_lt_of_le hn s.ports_le
  have hlt : esPort n 7 < 512 := esPort_lt h16 (by decide)
  have hcleared := State.faultCleared_changes hon hn
  have hdriven : Driven (fun r => r = a_PRT_LDCTL n) (fun _ => False) ((s.faultCleared n).faultHeld n e)
      (((s.faultCleared n).faultHeld n e).refreshLd n) := .refreshLd _ h16 rfl
  obtain ⟨x, hx⟩ := ((s.faultCleared n).faultHeld n e).refreshLd_txPort n n
  have htx : (s.faultCleared n).txPort n = s.txPort n := State.txPort_congr (State.fire_tx _ _ _) n
  have hheld : ((s.faultCleared n).faultHeld n e).txPort n = { s.txPort n with holdEnd := e } := by
    rw [State.faultHeld, State.txPort_setTxPort, htx]
  intro t
  have hsq : t.sq = (s.faultCleared n).sq := (congrArg State.sq hdriven.rest :)
  refine ⟨?_, ?_, ?_, ?_, ?_⟩
  · refine (congrArg (· == 1) (State.get_refreshLd _ (f := PRT_LDCTL_FAULT n) fun _ => .inr ⟨rfl, rfl⟩)).trans ?_
    exact (State.flag_of_reg (f := PRT_LDCTL_FAULT n) (State.reg_fire_other _ (pendReg_ne hlt (notPending_LDCTL h16)) 0)).trans
      (s.flag_set_zero (f := PRT_LDCTL_FAULT n) (by decide : 24 + 1 ≤ 32))
  · refine hcleared.1.then_regs (fun a ha => ?_) (by simpa using notPending_LDCTL h16) (by simpa using hlt) ?_
    · exact (State.refreshLd_reg_other _ n fun h => ha (List.mem_singleton.2 h)).trans (State.reg_setTxPort _ n _ a)
    · exact hsq
  · exact (congrArg TxPort.holdEnd hx).trans (congrArg TxPort.holdEnd hheld :)
  · exact (congrArg TxPort.air hx).trans (congrArg TxPort.air hheld :)
  · have hrest (c r : State) (h : onlyRegsSq s c) : { c with regs := r.regs, tx := r.tx } =
        { s with regs := r.regs, sq := c.sq, tx := r.tx } := by rw [h]
    rw [hsq]
    exact hdriven.rest.trans (hrest (s.faultCleared n) t hcleared.2)

/-! ## The end of the hold window and of the tail (R165, R167) -/

theorem exec_faultHoldEnd {s : State} {n : Fin 16} (h : (s.txPort n.val).holdEnd ≤ s.tick) :
    exec (.faultHoldEnd n) s = .next (s.faultHeld n.val 0) := by
  show execFaultHoldEnd n s = _
  rw [execFaultHoldEnd, if_pos h]
  rfl

/-- The records of port `n` once the tail of LDEN is over. -/
def State.tailOver (s : State) (n : Nat) : State :=
  s.setTxPort n { s.txPort n with
    ldTail := (match (s.txPort n).ldTail with
      | some t => if t ≤ s.tick then none else some t
      | none => none)
    ldPlan := (s.txPort n).ldPlan && (s.arcFront (2 * n + 1)).isSome }

theorem State.ldTailEnd_eq (s : State) (n : Nat) : s.ldTailEnd n = (s.tailOver n).refreshLd n := rfl

/-- R165: LDEN is wanted in TX mode for a frame, a tail or a launch to come. -/
theorem State.ldWant_idle {s : State} {n : Nat} (hair : s.airOf n = none) (htail : (s.txPort n).ldTail = none)
    (hplan : (s.txPort n).ldPlan = false) (hhold : s.burHold n = false) (hmode : s.get (PRT_LDCTL_LDMODE n) = 1) :
    s.ldWant n = false := by
  unfold State.ldWant
  simp [hair, htail, hplan, hhold, hmode]

/-- R165: what the end of the tail does to an idle port in TX mode. -/
theorem State.ldTailEnd_spec {s : State} {n u : Nat} (hn : n < 16) (ht : (s.txPort n).ldTail = some u) (hu : u ≤ s.tick)
    (hair : s.airOf n = none) (hplan : (s.txPort n).ldPlan = false) (hhold : s.burHold n = false)
    (hmode : s.get (PRT_LDCTL_LDMODE n) = 1) :
    ((s.ldTailEnd n).txPort n).ldTail = none ∧ (s.ldTailEnd n).flag (PRT_LDCTL_LDEN n) = false ∧
      sameRegs s (s.ldTailEnd n) [a_PRT_LDCTL n] ∧
      s.ldTailEnd n = { s with regs := (s.ldTailEnd n).regs, tx := (s.ldTailEnd n).tx } := by
  have hover : (s.tailOver n).txPort n = { s.txPort n with ldTail := none, ldPlan := false } := by
    rw [State.tailOver, State.txPort_setTxPort, ht, hplan]
    simp [hu]
  have hlines (m : Nat) : ((s.tailOver n).txPort m).air = (s.txPort m).air := s.air_setTxPort (by rfl) m
  have hidle : (s.tailOver n).airOf n = none := by
    rw [← hair]
    simp only [State.airOf, hlines]
  have hdriven : Driven (fun r => r = a_PRT_LDCTL n) (fun _ => False) (s.tailOver n) ((s.tailOver n).refreshLd n) :=
    .refreshLd _ hn rfl
  rw [State.ldTailEnd_eq]
  refine ⟨?_, ?_, fun a ha => ?_, hdriven.rest⟩
  · rw [State.refreshLd_ldTail, hover]
  · rw [State.flag_refreshLd_lden]
    exact State.ldWant_idle hidle (by rw [hover]) (by rw [hover]) hhold hmode
  · exact State.refreshLd_reg_other _ n fun h => ha (List.mem_singleton.2 h)

/-! ## The obligation -/

/-- Settles O29, by what each command leaves of the line, of the frame's queue and of the driver. -/
theorem framesEndWithTheirOutcome : Obligations.FramesEndWithTheirOutcome := by
  unfold Obligations.FramesEndWithTheirOutcome
  refine ⟨fun s n a ha hearly => ?_, fun s n a ha hstop hg hn hon => ?_, fun s n hon hn hclear => ?_,
    fun s n hon hn hset => ⟨?_, ?_⟩, fun s n hheld => ?_, fun s n u ht hu hair hplan hhold hmode => ?_⟩
  · rw [exec_transmitEnd ha, if_neg (by omega)]
  · obtain ⟨hfree, hevent, htail⟩ := State.txEnd_line hn hon hg
    exact ⟨_, (exec_transmitEnd ha).trans (by rw [if_pos hstop]), hfree, hevent, htail,
      fun q id f hk hf hp => State.txEnd_frame n.isLt hk hf hp⟩
  · obtain ⟨hflag, hevent, hcount, hlost⟩ := State.ldFault_spec hon hn hclear
    exact ⟨_, exec_lineDriverFault hon hn, hflag, hevent, hcount, fun a ha _ hpair => hlost a ha hpair⟩
  · rw [exec_lineDriverFault hon hn, State.ldFault, if_pos hset]
  · exact ⟨_, exec_lineDriverFaultRelease hset, State.faultReleased_spec hon hn _⟩
  · exact ⟨_, exec_faultHoldEnd hheld, congrArg TxPort.holdEnd (s.txPort_setTxPort n.val _), rfl,
      fun m hm => s.txPort_setTxPort_other hm _⟩
  · exact ⟨_, rfl, State.ldTailEnd_spec n.isLt ht hu hair hplan hhold hmode⟩

end Sys2Proof.Machine

/-! SUPPORT. Writes of dwell registers and the truncation of the frames on the lines (R162, R164, Table 07-11). -/

namespace Sys2Proof.Machine

/-! ## The truncation of a frame of one port (R162) -/

/-- The ticks and bands in which a frame of port `n` would be truncated. -/
def State.truncations (s : State) (n : Nat) (a : Air) : List (Nat × Nat) :=
  [0, 1, 2, 3, 4, 5, 6, 7].filterMap (fun k => s.truncAt n k a)

/-- A frame of port `n` that is truncated in a tick by a band, or not at all. -/
def State.cutAs (s : State) (n : Nat) (a : Air) (c : Option (Nat × Nat)) : Air :=
  match c with
  | some x => { a with trunc := some x, outcome := 1, stop := min a.full (x.1 + rampTicks (s.profile n)) }
  | none => { a with trunc := none, outcome := 0, stop := a.full }

/-- The earliest truncation of a frame, of the lowest band. -/
def State.firstCut (s : State) (n : Nat) (a : Air) : Option (Nat × Nat) :=
  leastBy (fun x => 8 * x.1 + x.2) (s.truncations n a)

/-- A frame of port `n` as the dwell table truncates it. -/
def State.truncated (s : State) (n : Nat) (a : Air) : Air := s.cutAs n a (s.firstCut n a)

/-- A frame that is truncated from now on, if at all. -/
def Air.Uncut (a : Air) (tick : Nat) : Prop := ∀ x, a.trunc = some x → tick < x.1

theorem State.retrunc_single {s : State} {n : Nat} {a : Air} (h : (s.txPort n).air = some a) (hg : a.grouped = false)
    (huncut : a.Uncut s.tick) :
    s.retrunc n = s.setTxPort n { s.txPort n with air := some (s.truncated n a) } := by
  have hports : framePorts n a.grouped = [n] := by rw [hg, framePorts_single]
  unfold State.retrunc
  rw [h]
  dsimp only
  rw [if_neg, hports, List.flatMap_singleton]
  · rfl
  · intro hpast
    cases htrunc : a.trunc with
    | none => simp [htrunc] at hpast
    | some x =>
      have hlater := huncut x htrunc
      simp only [htrunc, decide_eq_true_eq] at hpast
      omega

theorem State.mem_truncations {s : State} {n : Nat} {a : Air} {x : Nat × Nat} :
    x ∈ s.truncations n a ↔ ∃ j, j < 8 ∧ s.truncAt n j a = some x := by
  have hbands (j : Nat) : j ∈ [0, 1, 2, 3, 4, 5, 6, 7] ↔ j < 8 := by simp; omega
  simp only [State.truncations, List.mem_filterMap, hbands]

/-- R162: a truncation falls after this tick. -/
theorem State.truncAt_later {s : State} {n j : Nat} {a : Air} {x : Nat × Nat} (h : s.truncAt n j a = some x) :
    s.tick < x.1 := by
  unfold State.truncAt at h
  extract_lets lo hi max_ at h
  split at h
  · cases hrun : s.runOf n j with
    | none => simp [hrun] at h
    | some r =>
      simp only [hrun, Option.ite_none_right_eq_some, Option.some.injEq] at h
      obtain ⟨-, rfl⟩ := h
      exact Nat.lt_of_lt_of_le (Nat.lt_succ_self _) (Nat.le_max_left _ _)
  · exact nomatch h

theorem State.truncated_uncut (s : State) (n : Nat) (a : Air) : (s.truncated n a).Uncut s.tick := by
  unfold State.truncated
  cases hfirst : s.firstCut n a with
  | none => exact fun x h => nomatch h
  | some y =>
    intro x h
    obtain rfl := Option.some.inj h
    obtain ⟨j, -, hj⟩ := State.mem_truncations.1 (leastBy_spec hfirst).1
    exact State.truncAt_later hj

/-- A truncation rests on the range of the frame and its full length, which it leaves. -/
theorem State.firstCut_cutAs (s : State) (n : Nat) (a : Air) (c : Option (Nat × Nat)) :
    s.firstCut n (s.cutAs n a c) = s.firstCut n a := by
  cases c <;> rfl

theorem State.truncated_twice (s : State) (n : Nat) (a : Air) :
    s.truncated n (s.truncated n a) = s.truncated n a := by
  unfold State.truncated
  rw [s.firstCut_cutAs]
  cases s.firstCut n a <;> rfl

theorem State.truncated_grouped (s : State) (n : Nat) (a : Air) : (s.truncated n a).grouped = a.grouped := by
  unfold State.truncated
  cases s.firstCut n a <;> rfl

/-- The frame goes to its full end where no band truncates it. -/
theorem State.truncated_none {s : State} {n : Nat} {a : Air} (h : ∀ j, j < 8 → s.truncAt n j a = none) :
    s.truncated n a = { a with trunc := none, outcome := 0, stop := a.full } := by
  have hnil : s.truncations n a = [] := List.eq_nil_iff_forall_not_mem.2 fun x hx => by
    obtain ⟨j, hj, hx⟩ := State.mem_truncations.1 hx
    rw [h j hj] at hx
    exact nomatch hx
  rw [State.truncated, State.firstCut, hnil]
  rfl

/-- One that a band truncates ends with TRUNCATED, not after its full end. -/
theorem State.truncated_some {s : State} {n : Nat} {a : Air} (h : ∃ j, j < 8 ∧ s.truncAt n j a ≠ none) :
    (s.truncated n a).outcome = 1 ∧ (s.truncated n a).stop ≤ a.full ∧ (s.truncated n a).kind = a.kind := by
  obtain ⟨j, hj, hne⟩ := h
  obtain ⟨x, hx⟩ := Option.ne_none_iff_exists'.1 hne
  have hmem : x ∈ s.truncations n a := State.mem_truncations.2 ⟨j, hj, hx⟩
  unfold State.truncated
  cases hfirst : s.firstCut n a with
  | none => exact absurd hmem (leastBy_eq_none.1 hfirst ▸ List.not_mem_nil)
  | some y => exact ⟨rfl, Nat.min_le_left _ _, rfl⟩

/-! ## The truncation of all frames -/

/-- From `s` to `t` frames on the lines have been truncated anew: only transmitters have changed, and no run. -/
structure Retimed (s t : State) : Prop where
  rest : t = { s with tx := t.tx }
  runs : ∀ m, (t.txPort m).runs = (s.txPort m).runs

namespace Retimed

theorem refl (s : State) : Retimed s s := ⟨rfl, fun _ => rfl⟩

theorem trans {s t u : State} (h : Retimed s t) (k : Retimed t u) : Retimed s u :=
  ⟨by rw [k.rest, h.rest], fun m => (k.runs m).trans (h.runs m)⟩

theorem retrunc (s : State) (n : Nat) : Retimed s (s.retrunc n) := by
  cases h : (s.txPort n).air with
  | none =>
    unfold State.retrunc
    rw [h]
    exact refl s
  | some a =>
    rcases State.retrunc_cases h with hsame | ⟨b, -, hb⟩
    · rw [hsame]
      exact refl s
    · refine hb ▸ ⟨rfl, fun m => ?_⟩
      by_cases hm : m = n
      · rw [hm, s.txPort_setTxPort]
      · rw [s.txPort_setTxPort_other hm]

theorem truncAt {s t : State} (h : Retimed s t) (n k : Nat) (a : Air) : t.truncAt n k a = s.truncAt n k a := by
  have hrun : t.runOf n k = s.runOf n k := congrArg (find · k) (h.runs n)
  have hrest := h.rest
  generalize t.tx = x at hrest
  subst hrest
  unfold State.truncAt
  rw [hrun]
  rfl

theorem truncated {s t : State} (h : Retimed s t) (n : Nat) (a : Air) : t.truncated n a = s.truncated n a := by
  have hprofile : t.profile n = s.profile n := State.get_of_reg (State.reg_congr (by rw [h.rest]) _)
  simp only [State.truncated, State.firstCut, State.truncations, State.cutAs, h.truncAt, hprofile]

end Retimed

theorem State.retrunc_txPort_other (s : State) {n m : Nat} (h : m ≠ n) : (s.retrunc n).txPort m = s.txPort m := by
  cases hair : (s.txPort n).air with
  | none =>
    unfold State.retrunc
    rw [hair]
  | some a =>
    rcases State.retrunc_cases hair with hsame | ⟨b, -, hb⟩
    · rw [hsame]
    · rw [hb, s.txPort_setTxPort_other h]

/-- In `t` port `n` sends the frame `a` of `s`, as it was or as it is truncated now. -/
def State.Retiming (s t : State) (n : Nat) (a : Air) : Prop :=
  Retimed s t ∧ ((t.txPort n).air = some a ∨ (t.txPort n).air = some (s.truncated n a))

section
variable {s t : State} {n : Nat} {a : Air} (hg : a.grouped = false) (huncut : a.Uncut s.tick)
include hg huncut

/-- The pass of port `n` itself. -/
theorem State.Retiming.pass (h : s.Retiming t n a) : ((t.retrunc n).txPort n).air = some (s.truncated n a) := by
  obtain ⟨hretimed, hair⟩ := h
  have htick : t.tick = s.tick := by rw [hretimed.rest]
  rcases hair with hair | hair
  · rw [State.retrunc_single hair hg (htick ▸ huncut), State.txPort_setTxPort, hretimed.truncated]
  · rw [State.retrunc_single hair ((s.truncated_grouped n a).trans hg) (htick ▸ s.truncated_uncut n a),
      State.txPort_setTxPort, hretimed.truncated, s.truncated_twice]

theorem State.Retiming.step (h : s.Retiming t n a) (j : Nat) : s.Retiming (t.retrunc j) n a := by
  refine ⟨h.1.trans (.retrunc t j), ?_⟩
  by_cases hj : n = j
  · exact .inr (hj ▸ h.pass hg huncut)
  · rw [t.retrunc_txPort_other hj]
    exact h.2

/-- R162: every line carries its frame as it is truncated now. -/
theorem State.retruncAll_air (hn : n < 16) (ha : (s.txPort n).air = some a) :
    ((forN 16 (fun m u => u.retrunc m) s).txPort n).air = some (s.truncated n a) := by
  refine forN_reaches (Q := fun u => s.Retiming u n a) (P := fun u => (u.txPort n).air = some (s.truncated n a)) hn
    ⟨.refl s, .inl ha⟩ (fun j u h => h.step hg huncut j) (fun u h => h.pass hg huncut) fun j u h hair => ?_
  by_cases hj : n = j
  · exact hj ▸ h.pass hg huncut
  · rw [u.retrunc_txPort_other hj]
    exact hair

end

/-! ## The registers of the bands (R162, Table 07-11) -/

/-- What the dwell checks of this tick read under a key. -/
def State.dwWord (s : State) (a : Nat) : Word :=
  match find s.mac.dwell a with
  | some (t, w) => if t = s.tick then w else s.reg a
  | none => s.reg a

theorem State.dwGet_eq (s : State) (f : Field) : s.dwGet f = bits (s.dwWord f.addr) f.lo f.w := by
  unfold State.dwGet State.dwWord
  cases find s.mac.dwell f.addr with
  | none => rfl
  | some e =>
    obtain ⟨t, w⟩ := e
    dsimp only
    split <;> rfl

/-- The register under key `a` takes a value, and this tick keeps reading the former one. -/
def State.dwTaken (s : State) (a : Nat) (v : Word) : State :=
  { s with mac.dwell := put a (s.tick, s.dwWord a) s.mac.dwell }.setReg a v

theorem State.dwWrite_eq (s : State) (b k : Nat) (data : Word) :
    s.dwWrite b k data = forN 16 (fun n t => t.retrunc n) (s.dwTaken (dwKey b k) (dwStored k data)) := rfl

theorem State.dwWord_dwTaken (s : State) (a : Nat) (v : Word) (c : Nat) : (s.dwTaken a v).dwWord c = s.dwWord c := by
  have hfind : find (s.dwTaken a v).mac.dwell c = if c = a then some (s.tick, s.dwWord a) else find s.mac.dwell c :=
    find_put a c _ _
  conv_lhs => unfold State.dwWord
  rw [hfind]
  by_cases hc : c = a
  · rw [if_pos hc, hc]
    exact if_pos rfl
  · have hreg : (s.dwTaken a v).reg c = s.reg c := State.reg_setReg_other _ hc v
    rw [if_neg hc, hreg]
    rfl

section
variable {s t : State} {a : Nat} {v : Word} (h : Retimed (s.dwTaken a v) t)
include h

theorem Retimed.taken_regs : t.regs = (s.dwTaken a v).regs := by rw [h.rest]
theorem Retimed.taken_mac : t.mac = (s.dwTaken a v).mac := by rw [h.rest]
theorem Retimed.taken_tick : t.tick = s.tick := (congrArg State.tick h.rest :)

theorem Retimed.taken_reg : t.reg a = v := (State.reg_congr h.taken_regs a).trans (State.reg_setReg_same _ a v)

theorem Retimed.taken_sameRegs : sameRegs s t [a] := fun c hc =>
  (State.reg_congr h.taken_regs c).trans (State.reg_setReg_other _ (fun hca => hc (List.mem_singleton.2 hca)) v)

/-- R162: this tick reads what it read. -/
theorem Retimed.taken_dwGet (f : Field) : t.dwGet f = s.dwGet f := by
  have hword : t.dwWord f.addr = (s.dwTaken a v).dwWord f.addr := by
    unfold State.dwWord
    rw [h.taken_mac, h.taken_tick, State.reg_congr h.taken_regs]
    rfl
  rw [State.dwGet_eq, State.dwGet_eq, hword, s.dwWord_dwTaken]

/-- R162: the next tick reads the register itself. -/
theorem Retimed.taken_later {f : Field} (hf : f.addr = a) :
    ({ t with tick := s.tick + 1 } : State).dwGet f = bits v f.lo f.w := by
  have hfind : find t.mac.dwell a = some (s.tick, s.dwWord a) := by
    rw [h.taken_mac]
    exact (find_put a a _ _).trans (if_pos rfl)
  rw [State.dwGet_eq, hf]
  unfold State.dwWord
  dsimp only
  rw [hfind]
  dsimp only
  rw [if_neg (by omega)]
  exact congrArg (bits · f.lo f.w) h.taken_reg

theorem Retimed.taken_rest : t = { s with regs := t.regs, tx := t.tx, mac.dwell := t.mac.dwell } := by
  have hrest := h.rest
  generalize t.tx = x at hrest
  subst hrest
  rfl

end

theorem exec_dwellWrite {s : State} {b : Fin 8} {k : Fin 4} (h : s.reaches 0 (dwKey b.val k.val)) (data : Word) :
    exec (.dwellWrite b k data) s = .next (s.dwWrite b.val k.val data) :=
  congrArg Host.Outcome.next (s.hostWrite_reaches h _)

/-- R162, R164: what the write of a dwell register does. -/
theorem State.dwWrite_spec (s : State) (b k : Nat) (data : Word) :
    let t := s.dwWrite b k data
    t.reg (dwKey b k) = dwStored k data ∧ sameRegs s t [dwKey b k] ∧ (∀ f, t.dwGet f = s.dwGet f) ∧
      (∀ f : Field, f.addr = dwKey b k →
        ({ t with tick := s.tick + 1 } : State).dwGet f = bits (dwStored k data) f.lo f.w) ∧
      (∀ (n : Nat) (a : Air), n < 16 → (s.txPort n).air = some a → a.grouped = false → a.trunc = none →
        ((∀ j, j < 8 → t.truncAt n j a = none) →
          (t.txPort n).air = some { a with trunc := none, outcome := 0, stop := a.full }) ∧
        ((∃ j, j < 8 ∧ t.truncAt n j a ≠ none) → ∃ c, (t.txPort n).air = some c ∧ c.outcome = 1 ∧ c.stop ≤ a.full ∧
          c.kind = a.kind)) ∧
      t = { s with regs := t.regs, tx := t.tx, mac.dwell := t.mac.dwell } := by
  have h : Retimed (s.dwTaken (dwKey b k) (dwStored k data)) (s.dwWrite b k data) := by
    rw [s.dwWrite_eq]
    exact forN_induct (P := Retimed _) (.refl _) fun j _ u h => h.trans (.retrunc u j)
  refine ⟨h.taken_reg, h.taken_sameRegs, h.taken_dwGet, fun f => h.taken_later, fun n a hn ha hg hnone => ?_, h.taken_rest⟩
  have huncut : a.Uncut (s.dwTaken (dwKey b k) (dwStored k data)).tick := fun x hx => by
    rw [hnone] at hx
    exact nomatch hx
  have hair := State.retruncAll_air hg huncut hn ha
  rw [← s.dwWrite_eq, ← h.truncated] at hair
  exact ⟨fun hfull => hair.trans (congrArg some (State.truncated_none hfull)),
    fun hcut => ⟨_, hair, State.truncated_some hcut⟩⟩

end Sys2Proof.Machine

/-! Dwell registers, mask entries and deferred frames (R152 to R154, R161, R162, R164, Tables 07-6, 07-7, 07-11). -/

namespace Sys2Proof.Machine

/-! ## Fields of a word that keeps its lowest bits -/

/-- A field below bit `k` of a word of which the `k` lowest bits are kept. -/
theorem bits_and_low (v : Word) {k lo w : Nat} (h : lo + w ≤ k) (hk : k ≤ 32) :
    bits (v &&& BitVec.ofNat 32 (2 ^ k - 1)) lo w = bits v lo w := by
  apply Nat.eq_of_testBit_eq
  intro i
  rw [testBit_bits, testBit_bits, BitVec.getLsbD_and, BitVec.getLsbD_ofNat, Nat.testBit_two_pow_sub_one]
  by_cases hi : i < w
  · simp [hi, show lo + i < k by omega, show lo + i < 32 by omega]
  · simp [hi]

/-- A bit that is not kept. -/
theorem bits_and_low_cleared (v : Word) {k lo w : Nat} (h : k ≤ lo) :
    bits (v &&& BitVec.ofNat 32 (2 ^ k - 1)) lo w = 0 := by
  apply Nat.eq_of_testBit_eq
  intro i
  rw [testBit_bits, BitVec.getLsbD_and, BitVec.getLsbD_ofNat, Nat.testBit_two_pow_sub_one]
  simp [show ¬ lo + i < k by omega]

/-- A field of one bit. -/
theorem bits_one_iff (v : Word) (i : Nat) : bits v i 1 = 1 ↔ v.getLsbD i = true := by
  have h : (bits v i 1).testBit 0 = v.getLsbD i := by rw [testBit_bits]; simp
  rw [← h, Nat.testBit_zero, decide_eq_true_eq]
  have : bits v i 1 < 2 := Nat.mod_lt _ (by decide)
  omega

/-! ## Mask entries (R152 to R154) -/

/-- The filtered entries of a port but for entry `k`. -/
def State.filteredBut (s : State) (n k : Nat) : Nat :=
  (List.range 32).countP (fun j => j != k && s.flag (PRT_MASK_EN n j) && s.flag (PRT_MASK_FILT n j))

/-- R154: the entry would be a seventeenth filtered one. -/
def State.tooMany (s : State) (n k : Nat) (data : Word) : Bool :=
  data.getLsbD 22 && data.getLsbD 23 && decide (16 ≤ s.filteredBut n k)

/-- R154: what the entry stores: its 24 bits, without FILT where it would be a seventeenth. -/
def State.maskWord (s : State) (n k : Nat) (data : Word) : Word :=
  if s.tooMany n k data then data &&& BitVec.ofNat 32 (2 ^ 23 - 1) else data &&& BitVec.ofNat 32 (2 ^ 24 - 1)

/-- R154: the entry is stored, with REFUSED set where it would be a seventeenth. -/
def State.maskStored (s : State) (n k : Nat) (data : Word) : State :=
  if s.tooMany n k data then (s.setReg (a_PRT_MASK n k) (s.maskWord n k data)).raiseFlag (PRT_MASKSTAT_REFUSED n)
  else s.setReg (a_PRT_MASK n k) (s.maskWord n k data)

theorem State.maskSet_eq (s : State) (n k : Nat) (data : Word) :
    s.maskSet n k data = (s.maskStored n k data).showMask n := rfl

theorem exec_maskWrite {s : State} {n : Fin 16} {k : Fin 32} (h : s.reaches 0 (a_PRT_MASK n.val k.val)) (data : Word) :
    exec (.maskWrite n k data) s = .next ((s.maskStored n.val k.val data).showMask n.val) :=
  congrArg Host.Outcome.next ((s.hostWrite_reaches h _).trans (s.maskSet_eq n.val k.val data))

theorem State.tooMany_iff (s : State) (n k : Nat) (data : Word) :
    s.tooMany n k data = true ↔ bits data 22 1 = 1 ∧ bits data 23 1 = 1 ∧ 16 ≤ s.filteredBut n k := by
  simp only [State.tooMany, Bool.and_eq_true, decide_eq_true_eq, bits_one_iff, and_assoc]

/-- PRT_MASKSTAT stands behind the entries of its port. -/
theorem mask_ne_maskstat {n j : Nat} (m : Nat) (hj : j < 32) : a_PRT_MASK n j ≠ a_PRT_MASKSTAT m := by
  simp only [a_PRT_MASK, a_PRT_MASKSTAT]
  omega

theorem State.showMask_reg_other (s : State) {n a : Nat} (h : a ≠ a_PRT_MASKSTAT n) :
    (s.showMask n).reg a = s.reg a :=
  (State.reg_set_other _ (f := PRT_MASKSTAT_FILTN n) h _).trans (s.reg_set_other (f := PRT_MASKSTAT_COUNT n) h _)

theorem State.maskedOne_congr {s t : State} {n : Nat} (h : ∀ j, j < 32 → t.reg (a_PRT_MASK n j) = s.reg (a_PRT_MASK n j))
    (m : Nat) : t.maskedOne n m = s.maskedOne n m := by
  have hentry (j : Nat) (hj : j < 32) : t.flag (PRT_MASK_EN n j) = s.flag (PRT_MASK_EN n j) ∧
      t.get (PRT_MASK_LO n j) = s.get (PRT_MASK_LO n j) ∧ t.get (PRT_MASK_HI n j) = s.get (PRT_MASK_HI n j) :=
    ⟨State.flag_of_reg (h j hj), State.get_of_reg (h j hj), State.get_of_reg (h j hj)⟩
  unfold State.maskedOne
  rw [Bool.eq_iff_iff, List.any_eq_true, List.any_eq_true]
  refine exists_congr fun j => and_congr_right fun hj => ?_
  obtain ⟨hen, hlo, hhi⟩ := hentry j (List.mem_range.1 hj)
  rw [hen, hlo, hhi]

theorem carrierCount_lt (prof : Nat) : carrierCount prof < 2 ^ 11 := by
  unfold carrierCount
  split_ifs <;> decide

/-- Table 07-7: COUNT shows the masked usable carriers. -/
theorem State.showMask_count (s : State) (n : Nat) :
    (s.showMask n).get (PRT_MASKSTAT_COUNT n) = (List.range (carrierCount (s.profile n))).countP
      (fun i => (s.showMask n).maskedOne n (firstCarrier (s.profile n) + i)) := by
  have hsame (m : Nat) : (s.showMask n).maskedOne n m = s.maskedOne n m :=
    State.maskedOne_congr (fun j hj => s.showMask_reg_other (mask_ne_maskstat n hj)) m
  simp only [hsame]
  refine (State.get_set_bits _ (f := PRT_MASKSTAT_FILTN n) (g := PRT_MASKSTAT_COUNT n) (.inr (Nat.le_refl 11)) _).trans ?_
  refine (s.get_set_same (f := PRT_MASKSTAT_COUNT n) (by decide : 0 + 11 ≤ 32) _).trans (Nat.mod_eq_of_lt ?_)
  refine Nat.lt_of_le_of_lt (Nat.le_trans List.countP_le_length ?_) (carrierCount_lt (s.profile n))
  rw [List.length_range]

theorem State.showMask_refused (s : State) (n : Nat) :
    (s.showMask n).get (PRT_MASKSTAT_REFUSED n) = s.get (PRT_MASKSTAT_REFUSED n) :=
  (State.get_set_bits _ (f := PRT_MASKSTAT_FILTN n) (g := PRT_MASKSTAT_REFUSED n) (.inl (Nat.le_refl 16)) _).trans
    (s.get_set_bits (f := PRT_MASKSTAT_COUNT n) (g := PRT_MASKSTAT_REFUSED n) (.inl (by decide : 0 + 11 ≤ 16)) _)

/-- R154: the entry as it is stored. -/
theorem State.maskStored_get (s : State) (n : Nat) {k : Nat} (hk : k < 32) (data : Word) (f : Field)
    (hf : f.addr = a_PRT_MASK n k) :
    ((s.maskStored n k data).showMask n).get f = bits (s.maskWord n k data) f.lo f.w := by
  unfold State.get State.maskStored
  rw [hf, State.showMask_reg_other _ (mask_ne_maskstat n hk)]
  split
  · rw [State.reg_raiseFlag_other _ (f := PRT_MASKSTAT_REFUSED n) (mask_ne_maskstat n hk), State.reg_setReg_same]
  · rw [State.reg_setReg_same]

/-- R154: LO, HI and EN are stored as they are written. -/
theorem State.maskWord_low (s : State) (n k : Nat) (data : Word) {lo w : Nat} (h : lo + w ≤ 23) :
    bits (s.maskWord n k data) lo w = bits data lo w := by
  unfold State.maskWord
  split
  · exact bits_and_low data h (by decide)
  · exact bits_and_low data (Nat.le_trans h (by decide)) (by decide)

/-- R154: FILT is stored as it is written, but in a seventeenth filtered entry. -/
theorem State.maskWord_filt (s : State) (n k : Nat) (data : Word) :
    bits (s.maskWord n k data) 23 1 = if s.tooMany n k data then 0 else bits data 23 1 := by
  unfold State.maskWord
  split
  · exact bits_and_low_cleared data (Nat.le_refl 23)
  · exact bits_and_low data (Nat.le_refl 24) (by decide)

theorem State.maskStored_profile (s : State) (n k : Nat) (data : Word) :
    (s.maskStored n k data).profile n = s.profile n := by
  have hentry : a_PRT_PROFILE n ≠ a_PRT_MASK n k ∧ a_PRT_PROFILE n ≠ a_PRT_MASKSTAT n := by
    simp only [a_PRT_PROFILE, a_PRT_MASK, a_PRT_MASKSTAT]
    omega
  refine State.get_of_reg (f := PRT_PROFILE_ACT n) ?_
  unfold State.maskStored
  split
  · exact (State.reg_raiseFlag_other _ (f := PRT_MASKSTAT_REFUSED n) hentry.2).trans (s.reg_setReg_other hentry.1 _)
  · exact s.reg_setReg_other hentry.1 _

/-- R154: REFUSED is set with a seventeenth filtered entry, and left with any other. -/
theorem State.maskStored_refused (s : State) (n : Nat) {k : Nat} (hk : k < 32) (data : Word) :
    ((s.maskStored n k data).showMask n).get (PRT_MASKSTAT_REFUSED n) =
      if s.tooMany n k data then 1 else s.get (PRT_MASKSTAT_REFUSED n) := by
  rw [State.showMask_refused]
  unfold State.maskStored
  split
  · exact State.get_set_same _ (f := PRT_MASKSTAT_REFUSED n) (by decide : 16 + 1 ≤ 32) 1
  · exact s.get_setReg_other (f := PRT_MASKSTAT_REFUSED n) (mask_ne_maskstat n hk).symm _

theorem maskStored_changes (s : State) {n k : Nat} (hn : n < 16) (hk : k < 32) (data : Word) :
    changesOnly s ((s.maskStored n k data).showMask n) [] [a_PRT_MASK n k, a_PRT_MASKSTAT n] := by
  have hentry : NotPending (a_PRT_MASK n k) := (spared_port (by simp only [a_PRT_MASK]; omega)).1
  have hstat : NotPending (a_PRT_MASKSTAT n) := (spared_port (by simp only [a_PRT_MASKSTAT]; omega)).1
  have hset (v : Word) : changesOnly s (s.setReg (a_PRT_MASK n k) v) [] [a_PRT_MASK n k, a_PRT_MASKSTAT n] :=
    ((changesOnly.refl s).mono (List.nil_subset _)).write (a := a_PRT_MASK n k) (by simp) hentry (by simp)
      (fun _ hb => s.reg_setReg_other hb v) rfl rfl
  have hstored : changesOnly s (s.maskStored n k data) [] [a_PRT_MASK n k, a_PRT_MASKSTAT n] := by
    unfold State.maskStored
    split
    · exact (hset _).raiseFlag (f := PRT_MASKSTAT_REFUSED n) (by simp [PRT_MASKSTAT_REFUSED]) hstat (by simp)
    · exact hset _
  exact (hstored.set (f := PRT_MASKSTAT_COUNT n) (by simp [PRT_MASKSTAT_COUNT]) hstat (by simp) _).set
    (f := PRT_MASKSTAT_FILTN n) (by simp [PRT_MASKSTAT_FILTN]) hstat (by simp) _

/-! ## Deferred frames (R161) -/

/-- The head of a queue, where it is a frame of port `n` that is deferred and whose tick has come. -/
def State.dueHead (s : State) (n : Nat) (e : Nat × List TxFrame) : Option (Nat × Nat) :=
  match e.2 with
  | f :: _ =>
    if f.deferred && !f.ready && !f.awaiting && decide (f.notBefore ≤ s.tick) && s.queuePort e.1 == n
    then some (e.1, f.id) else none
  | [] => none

theorem State.dueHead_eq_some {s : State} {n : Nat} {e : Nat × List TxFrame} {x : Nat × Nat} :
    s.dueHead n e = some x ↔ ∃ f rest, e.2 = f :: rest ∧ x = (e.1, f.id) ∧ f.deferred = true ∧ f.ready = false ∧
      f.awaiting = false ∧ f.notBefore ≤ s.tick ∧ s.queuePort e.1 = n := by
  obtain ⟨q, l⟩ := e
  cases l with
  | nil => simp [State.dueHead]
  | cons f rest =>
    simp only [State.dueHead, Option.ite_none_right_eq_some, Option.some.injEq, Bool.and_eq_true, Bool.not_eq_true',
      decide_eq_true_eq, beq_iff_eq, List.cons.injEq]
    constructor
    · rintro ⟨⟨⟨⟨⟨hd, hr⟩, hw⟩, ht⟩, hq⟩, rfl⟩
      exact ⟨f, rest, ⟨rfl, rfl⟩, rfl, hd, hr, hw, ht, hq⟩
    · rintro ⟨_, _, ⟨rfl, rfl⟩, rfl, hd, hr, hw, ht, hq⟩
      exact ⟨⟨⟨⟨⟨hd, hr⟩, hw⟩, ht⟩, hq⟩, rfl⟩

/-- The frames of port `n` that are offered again. -/
def State.againDue (s : State) (n : Nat) : List (Nat × Nat) :=
  (s.txPort n).again ++ (s.blv.frames.filterMap (s.dueHead n)).filter (fun x => !(s.txPort n).again.contains x)

theorem State.mem_againDue {s : State} {n : Nat} {x : Nat × Nat} :
    x ∈ s.againDue n ↔ x ∈ (s.txPort n).again ∨ ∃ e ∈ s.blv.frames, s.dueHead n e = some x := by
  unfold State.againDue
  by_cases h : x ∈ (s.txPort n).again <;> simp [h]

theorem exec_dwellDeferralExpiry (s : State) (n : Fin 16) :
    exec (.dwellDeferralExpiry n) s = .next (s.setTxPort n.val { s.txPort n.val with again := s.againDue n.val }) := rfl

/-! ## The obligation -/

/-- Settles O30, by what the passes over the lines make of their frames, what a mask entry stores, and which heads of queues
are due. -/
theorem dwellAndMaskWritesApply : Obligations.DwellAndMaskWritesApply := by
  unfold Obligations.DwellAndMaskWritesApply
  refine ⟨fun s b k data h => ⟨_, exec_dwellWrite h data, s.dwWrite_spec b.val k.val data⟩, ?_, ?_⟩
  · intro s n k data h others many
    have hk := k.isLt
    have hmany : s.tooMany n.val k.val data = true ↔ many := s.tooMany_iff n.val k.val data
    have hget := s.maskStored_get n.val hk data
    have hrefused := s.maskStored_refused n.val hk data
    refine ⟨_, exec_maskWrite h data, ?_, ?_, ?_, fun hm => ⟨?_, ?_⟩, fun hm => ⟨?_, ?_⟩, ?_,
      maskStored_changes s n.isLt hk data⟩
    · exact (hget _ rfl).trans (s.maskWord_low _ _ data (by decide : 0 + 11 ≤ 23))
    · exact (hget _ rfl).trans (s.maskWord_low _ _ data (by decide : 11 + 11 ≤ 23))
    · exact (hget _ rfl).trans (s.maskWord_low _ _ data (by decide : 22 + 1 ≤ 23))
    · rw [State.flag, (hget (PRT_MASK_FILT n.val k.val) rfl).trans (s.maskWord_filt _ _ data), if_pos (hmany.2 hm)]
      rfl
    · rw [State.flag, hrefused, if_pos (hmany.2 hm)]
      rfl
    · exact (hget (PRT_MASK_FILT n.val k.val) rfl).trans ((s.maskWord_filt _ _ data).trans (if_neg (mt hmany.1 hm)))
    · rw [hrefused, if_neg (mt hmany.1 hm)]
    · rw [State.showMask_count, s.maskStored_profile]
  · intro s n
    refine ⟨_, exec_dwellDeferralExpiry s n, rfl, fun m hm => s.txPort_setTxPort_other hm _, fun x => ?_⟩
    rw [s.txPort_setTxPort]
    simp only [State.mem_againDue, State.dueHead_eq_some]

end Sys2Proof.Machine
